-- ==== Sys2Proof/Word.lean ====
section
/-! DEFINITION. The word types of the BV-2564 (R10, R11). -/

namespace Sys2Proof

/-- A byte. -/
abbrev Byte := BitVec 8

/-- A word is 64 bits unless its width is named (R11). -/
abbrev Word := BitVec 64

/-- A 40-bit physical address, or a program counter (R37, R104). -/
abbrev Addr := BitVec 40

/-- A core number as COREID gives it without the gap: tile t is t, service core SCk is 256 + k (R143). -/
abbrev CoreId := Fin 260

end Sys2Proof
end

