-- ==== Sys2Proof/Syntax.lean ====
section
/-! DEFINITION. The commands of the BV-2564, one constructor per row of spec/opcode_table.json, in the table's order. An
instruction of a core is a command that names the core and carries the fields of the word (R105). -/

namespace Sys2Proof

/-- The initiators of R22 that commands can name: a service core, a general DMA channel, the host window, the debug
port. -/
inductive Agent where
  | sc (k : Fin 4)
  | dma (g : Fin 16)
  | host
  | debug
  deriving DecidableEq, Repr


/-- What the words of a MERGE frame are (R265): a 256-byte granule of the tile SRAM windows, one of the partition's release
storage, a tile's registers from a place in g1–g31, f0–f31, FPSR, pc and active bank, map entries, LANE_CFG values, or the
waypoint number. -/
inductive MergePlace where
  | sram (g : BitVec 16)
  | release (g : Fin 128)
  | regs (t : BitVec 8) (i : Fin 66)
  | map (rel : Bool) (i : BitVec 12)
  | lane (l : Fin 4160)
  | wnum
  deriving DecidableEq, Repr

/-- The commands. -/
inductive Instr where
  /-- VCORE_LOSS (R46). VCORE falls below the power-on threshold and the device goes to OFF from any state. -/
  | vcoreLoss
  /-- RESET_N_ASSERT (R488). RESET_N held low for at least RESET_TPW registers a reset, which is held off while the device is in LAYBY. -/
  | resetNAssert
  /-- RESET_RELEASE (R490). Reset is released: straps are sampled, HW_STATE shows BOOT, and the zeroing, flash scan, CAL load and random source start. -/
  | resetRelease (hmode : Bool) (mid : BitVec 2)
  /-- ZEROING_DONE (R150). The zeroing of an array ends, and accesses that stalled on it proceed. -/
  | zeroingDone (a : Fin 20)
  /-- CAL_LOAD_DONE (R292). The coefficient load ends, CAL_STATUS.BUSY clears, and LAYER is set. -/
  | calLoadDone
  /-- FLASH_LOG_SCAN_DONE (R369). The erase-marker log scan ends, listing BEGUN entries in FLC_PEND and raising FLASH if any were found. -/
  | flashLogScanDone
  /-- BOOT_ROM_ENTRY (R490). Once both scans have ended, SC0 fetches at the boot ROM and runs the boot sequence. -/
  | bootRomEntry (k : Fin 4) (xsp : Option (List Byte))
  /-- RNG_READY (R504). 1,024 samples have passed the health tests, and SEC_RNG_STAT.READY becomes 1. -/
  | rngReady
  /-- RNG_TEST_FAIL (R504). A raw noise sample fails a health test: FAIL is set, READY clears, WARN is raised and an event is logged. -/
  | rngTestFail
  /-- RNG_READ (R504). A read of SEC_RNG_DATA pops one random word, or returns 0 and sets EMPTY. -/
  | rngRead
  /-- SC_START (R490). A write of SYS_SC_START starts SC1 to SC3 at their SYS_SC_ENTRY addresses. -/
  | scStart (v : BitVec 4)
  /-- REGISTER_WRITE (R13). A write to a register with no row of its own sets fields under its access codes, including the locked, range and ownership refusals of its block. -/
  | registerWrite (i : Agent) (a : Addr) (wide : Bool) (v : Word)
  /-- DMA_START (R25). A write of DMA_CTL.EN = 1 checks the channel configuration and starts the channel or refuses it. -/
  | dmaStart (g : Fin 16) (v : BitVec 31)
  /-- DMA_STOP (R26). A write of EN = 0 stops a general channel once its unit in progress has completed. -/
  | dmaStop (g : Fin 16)
  /-- DMA_UNIT (R26). A general channel wins arbitration under its pace and moves one unit, advancing its pointers. -/
  | dmaUnit
  /-- WAYPOINT (R29). The cycle of a partition's scheduled instant: capture, release, optional exchange and scan start. -/
  | waypoint (p : Fin 4) (vhold : Bool)
  /-- SC_KEEP_COPY_DONE (R455). The service-core keep copy ends; the halves swap and SC_VALID is set. -/
  | scKeepCopyDone
  /-- SNAPSHOT_FILL (R204). The snapshot fills four words per cycle after the waypoint, releasing tile loads that wait on those words. -/
  | snapshotFill (p : Fin 4)
  /-- GUARD_TEST (R212). At the guard cycle of a scheduled instant, the device tests whether every tile has committed WAYPT. -/
  | guardTest (p : Fin 4)
  /-- PROVISION (R219). WPT_PCMD PROVISION takes the partition to PROVISIONING and stops its tiles and timer. -/
  | provision (p : Fin 4)
  /-- READY (R210). WPT_PCMD READY checks the maps and makes the partition READY with its lanes reset. -/
  | ready (p : Fin 4)
  /-- START (R219). WPT_PCMD START makes a READY or cleanly STOPPED partition SCANNING. -/
  | start (p : Fin 4)
  /-- STOP (R219). WPT_PCMD STOP stops a scanning partition at the release cycle of its pending scan. -/
  | stop (p : Fin 4)
  /-- STOP_NOW (R219). WPT_PCMD STOP_NOW stops the partition at once without releasing the pending scan. -/
  | stopNow (p : Fin 4)
  /-- PARTITION_STOP (R219). The host command stops a partition, as STOP or as STOP_NOW. -/
  | partitionStop
  /-- PARTITION_START (R219). The host command starts a partition. -/
  | partitionStart
  /-- GO_RUN (R46). The host command moves the device to RUN through provisioning, or resumes it from HOLD. -/
  | goRun
  /-- GO_HOLD (R46). The host command holds each partition at its next waypoint. -/
  | goHold
  /-- GO_SERVICE (R46). The host command moves the device to SERVICE and stops scanning partitions at once. -/
  | goService
  /-- WPT_CONFIG_WRITE (R202). A write of a partition's period, phase, guard, policy or snapshot length is checked for state and range. -/
  | wptConfigWrite (p : Fin 4) (r : Fin 5) (v : BitVec 32)
  /-- PART_MAP_WRITE (R217). A write of WPT_PART_MAP assigns quadrants and moves the affected partitions to PROVISIONING or NONE. -/
  | partMapWrite (v : BitVec 32)
  /-- MAP_DATA_WRITE (R211). A write of WPT_MAP_DATA writes the addressed map entry, subject to the state lock, and advances INDEX. -/
  | mapDataWrite (v : BitVec 32)
  /-- MAP_DATA_READ (R211). A read of WPT_MAP_DATA returns the addressed entry and advances INDEX. -/
  | mapDataRead
  /-- STAGE_START (R225). WPT_STAGE_CTL.START begins copying 16 KB from the depot into a tile's shadow bank, or is refused. -/
  | stageStart (t : BitVec 8)
  /-- STAGE_COPY_DONE (R225). The staging copy ends, setting the tile's WPT_STAGED bit, or sets ERR on a source error. -/
  | stageCopyDone
  /-- CHANGEOVER_REQUEST (R226). WPT_CO_CTL.REQ requests a changeover at a named waypoint, which is accepted as PENDING or refused. -/
  | changeoverRequest (p : Fin 4) (v : BitVec 31)
  /-- CHANGEOVER (R226). The host command requests a changeover at the waypoint that matches HW_CMD_ARG1. -/
  | changeover
  /-- CHANGEOVER_SWITCH (R228). When the toll wait ends, the banks switch, registers clear, maps swap, and the lane list and data clear begin. -/
  | changeoverSwitch (p : Fin 4)
  /-- CHANGEOVER_DONE (R228). The lane entries and the data clear complete; the tiles start the new scan and the status becomes DONE. -/
  | changeoverDone (p : Fin 4)
  /-- TRAP_ENTRY (R138). A trap condition in the oldest instruction is taken: discard, status save, optional sealed save, and vector fetch. -/
  | trapEntry (k : CoreId) (w : BitVec 32)
  /-- INTERRUPT_ENTRY (R349). A service core takes a delivered interrupt at an instruction boundary and latches the ID. -/
  | interruptEntry (c : Fin 4)
  /-- HALT_ENTRY (R514). A registered halt request is taken at the next boundary and the core's clock stops. -/
  | haltEntry (k : CoreId)
  /-- STORE_DRAIN (R89). The oldest store-buffer entry drains to memory, the release storage or the interconnect. -/
  | storeDrain (k : CoreId)
  /-- ECC_REWRITE (R168). An array rewrites a corrected word in its next idle port cycle. -/
  | eccRewrite (arr : Fin 8) (word : Nat)
  /-- ADD (R109). gd = ga + gb. -/
  | add (k : CoreId) (d a b : BitVec 5)
  /-- SUB (R109). gd = ga − gb. -/
  | sub (k : CoreId) (d a b : BitVec 5)
  /-- AND (R109). Bitwise AND. -/
  | and (k : CoreId) (d a b : BitVec 5)
  /-- OR (R109). Bitwise OR. -/
  | or (k : CoreId) (d a b : BitVec 5)
  /-- XOR (R109). Bitwise XOR. -/
  | xor (k : CoreId) (d a b : BitVec 5)
  /-- ANDN (R109). ga AND NOT gb. -/
  | andn (k : CoreId) (d a b : BitVec 5)
  /-- SLL (R109). Logical left shift. -/
  | sll (k : CoreId) (d a b : BitVec 5)
  /-- SRL (R109). Logical right shift. -/
  | srl (k : CoreId) (d a b : BitVec 5)
  /-- SRA (R109). Arithmetic right shift. -/
  | sra (k : CoreId) (d a b : BitVec 5)
  /-- SLT (R109). Signed less-than set. -/
  | slt (k : CoreId) (d a b : BitVec 5)
  /-- SLTU (R109). Unsigned less-than set. -/
  | sltu (k : CoreId) (d a b : BitVec 5)
  /-- SEQ (R109). Equality set. -/
  | seq (k : CoreId) (d a b : BitVec 5)
  /-- ADDW (R109). 32-bit add, sign-extended. -/
  | addw (k : CoreId) (d a b : BitVec 5)
  /-- SUBW (R109). 32-bit subtract, sign-extended. -/
  | subw (k : CoreId) (d a b : BitVec 5)
  /-- SLLW (R109). 32-bit left shift, sign-extended. -/
  | sllw (k : CoreId) (d a b : BitVec 5)
  /-- SRLW (R109). 32-bit logical right shift, sign-extended. -/
  | srlw (k : CoreId) (d a b : BitVec 5)
  /-- SRAW (R109). 32-bit arithmetic right shift, sign-extended. -/
  | sraw (k : CoreId) (d a b : BitVec 5)
  /-- SEXTB (R109). Sign-extend the low byte. -/
  | sextb (k : CoreId) (d a : BitVec 5)
  /-- SEXTH (R109). Sign-extend the low halfword. -/
  | sexth (k : CoreId) (d a : BitVec 5)
  /-- SEXTW (R109). Sign-extend the low word. -/
  | sextw (k : CoreId) (d a : BitVec 5)
  /-- ZEXTW (R109). Zero-extend the low word. -/
  | zextw (k : CoreId) (d a : BitVec 5)
  /-- MIN (R109). Signed minimum. -/
  | min (k : CoreId) (d a b : BitVec 5)
  /-- MAX (R109). Signed maximum. -/
  | max (k : CoreId) (d a b : BitVec 5)
  /-- ADDI (R110). Add a sign-extended immediate. -/
  | addi (k : CoreId) (d a : BitVec 5) (imm : BitVec 16)
  /-- ANDI (R110). AND with a zero-extended immediate. -/
  | andi (k : CoreId) (d a : BitVec 5) (imm : BitVec 16)
  /-- ORI (R110). OR with a zero-extended immediate. -/
  | ori (k : CoreId) (d a : BitVec 5) (imm : BitVec 16)
  /-- XORI (R110). XOR with a zero-extended immediate. -/
  | xori (k : CoreId) (d a : BitVec 5) (imm : BitVec 16)
  /-- SLTI (R110). Signed compare with an immediate. -/
  | slti (k : CoreId) (d a : BitVec 5) (imm : BitVec 16)
  /-- SLTIU (R110). Unsigned compare with an immediate. -/
  | sltiu (k : CoreId) (d a : BitVec 5) (imm : BitVec 16)
  /-- SLLI (R110). Left shift by an immediate. -/
  | slli (k : CoreId) (d a : BitVec 5) (imm : BitVec 6)
  /-- SRLI (R110). Logical right shift by an immediate. -/
  | srli (k : CoreId) (d a : BitVec 5) (imm : BitVec 6)
  /-- SRAI (R110). Arithmetic right shift by an immediate. -/
  | srai (k : CoreId) (d a : BitVec 5) (imm : BitVec 6)
  /-- LUI (R110). Load the immediate shifted left by 16, sign-extended. -/
  | lui (k : CoreId) (d : BitVec 5) (imm : BitVec 16)
  /-- MUL (R112). Low 64 bits of the product. -/
  | mul (k : CoreId) (d a b : BitVec 5)
  /-- MULH (R112). Signed high product. -/
  | mulh (k : CoreId) (d a b : BitVec 5)
  /-- MULHU (R112). Unsigned high product. -/
  | mulhu (k : CoreId) (d a b : BitVec 5)
  /-- MULW (R112). 32-bit product, sign-extended. -/
  | mulw (k : CoreId) (d a b : BitVec 5)
  /-- DIV (R113). Signed 64-bit divide, which never traps. -/
  | div (k : CoreId) (d a b : BitVec 5)
  /-- DIVU (R113). Unsigned 64-bit divide. -/
  | divu (k : CoreId) (d a b : BitVec 5)
  /-- REM (R113). Signed 64-bit remainder. -/
  | rem (k : CoreId) (d a b : BitVec 5)
  /-- REMU (R113). Unsigned 64-bit remainder. -/
  | remu (k : CoreId) (d a b : BitVec 5)
  /-- DIVW (R113). Signed 32-bit divide. -/
  | divw (k : CoreId) (d a b : BitVec 5)
  /-- DIVUW (R113). Unsigned 32-bit divide. -/
  | divuw (k : CoreId) (d a b : BitVec 5)
  /-- REMW (R113). Signed 32-bit remainder. -/
  | remw (k : CoreId) (d a b : BitVec 5)
  /-- REMUW (R113). Unsigned 32-bit remainder. -/
  | remuw (k : CoreId) (d a b : BitVec 5)
  /-- LDB (R114). Load a byte, sign-extended. -/
  | ldb (k : CoreId) (d a : BitVec 5) (imm : BitVec 16)
  /-- LDBU (R114). Load a byte, zero-extended. -/
  | ldbu (k : CoreId) (d a : BitVec 5) (imm : BitVec 16)
  /-- LDH (R114). Load a halfword, sign-extended. -/
  | ldh (k : CoreId) (d a : BitVec 5) (imm : BitVec 16)
  /-- LDHU (R114). Load a halfword, zero-extended. -/
  | ldhu (k : CoreId) (d a : BitVec 5) (imm : BitVec 16)
  /-- LDW (R114). Load a word, sign-extended. -/
  | ldw (k : CoreId) (d a : BitVec 5) (imm : BitVec 16)
  /-- LDWU (R114). Load a word, zero-extended. -/
  | ldwu (k : CoreId) (d a : BitVec 5) (imm : BitVec 16)
  /-- LDD (R114). Load a doubleword, with store forwarding and the waits of R90. -/
  | ldd (k : CoreId) (d a : BitVec 5) (imm : BitVec 16)
  /-- STB (R114). Store a byte. -/
  | stb (k : CoreId) (d a : BitVec 5) (imm : BitVec 16)
  /-- STH (R114). Store a halfword. -/
  | sth (k : CoreId) (d a : BitVec 5) (imm : BitVec 16)
  /-- STW (R114). Store a word. -/
  | stw (k : CoreId) (d a : BitVec 5) (imm : BitVec 16)
  /-- STD (R114). Store a doubleword. -/
  | std (k : CoreId) (d a : BitVec 5) (imm : BitVec 16)
  /-- FLDS (R114). Load binary32 bits into fd. -/
  | flds (k : CoreId) (d a : BitVec 5) (imm : BitVec 16)
  /-- FLDD (R114). Load 64 bits into fd. -/
  | fldd (k : CoreId) (d a : BitVec 5) (imm : BitVec 16)
  /-- FSTS (R114). Store fs[31:0]. -/
  | fsts (k : CoreId) (d a : BitVec 5) (imm : BitVec 16)
  /-- FSTD (R114). Store fs. -/
  | fstd (k : CoreId) (d a : BitVec 5) (imm : BitVec 16)
  /-- BEQ (R117). Branch if equal. -/
  | beq (k : CoreId) (a b : BitVec 5) (annul : Bool) (disp : BitVec 15)
  /-- BNE (R117). Branch if not equal. -/
  | bne (k : CoreId) (a b : BitVec 5) (annul : Bool) (disp : BitVec 15)
  /-- BLT (R117). Branch if less, signed. -/
  | blt (k : CoreId) (a b : BitVec 5) (annul : Bool) (disp : BitVec 15)
  /-- BGE (R117). Branch if greater or equal, signed. -/
  | bge (k : CoreId) (a b : BitVec 5) (annul : Bool) (disp : BitVec 15)
  /-- BLTU (R117). Branch if less, unsigned. -/
  | bltu (k : CoreId) (a b : BitVec 5) (annul : Bool) (disp : BitVec 15)
  /-- BGEU (R117). Branch if greater or equal, unsigned. -/
  | bgeu (k : CoreId) (a b : BitVec 5) (annul : Bool) (disp : BitVec 15)
  /-- J (R118). PC-relative jump. -/
  | j (k : CoreId) (annul : Bool) (disp : BitVec 25)
  /-- JAL (R118). PC-relative jump that writes the link to g31. -/
  | jal (k : CoreId) (annul : Bool) (disp : BitVec 25)
  /-- JALR (R118). Register-indirect jump with link. -/
  | jalr (k : CoreId) (d a : BitVec 5) (annul : Bool)
  /-- FADD (R123). Floating add. -/
  | fadd (k : CoreId) (p : Bool) (rm : BitVec 3) (d a b : BitVec 5)
  /-- FSUB (R123). Floating subtract. -/
  | fsub (k : CoreId) (p : Bool) (rm : BitVec 3) (d a b : BitVec 5)
  /-- FMUL (R123). Floating multiply. -/
  | fmul (k : CoreId) (p : Bool) (rm : BitVec 3) (d a b : BitVec 5)
  /-- FDIV (R123). Floating divide. -/
  | fdiv (k : CoreId) (p : Bool) (rm : BitVec 3) (d a b : BitVec 5)
  /-- FSQRT (R123). Floating square root. -/
  | fsqrt (k : CoreId) (p : Bool) (rm : BitVec 3) (d a : BitVec 5)
  /-- FMIN (R125). Floating minimum. -/
  | fmin (k : CoreId) (p : Bool) (d a b : BitVec 5)
  /-- FMAX (R125). Floating maximum. -/
  | fmax (k : CoreId) (p : Bool) (d a b : BitVec 5)
  /-- FSGNJ (R123). Copy the sign. -/
  | fsgnj (k : CoreId) (p : Bool) (d a b : BitVec 5)
  /-- FSGNJN (R123). Copy the inverted sign. -/
  | fsgnjn (k : CoreId) (p : Bool) (d a b : BitVec 5)
  /-- FSGNJX (R123). XOR the signs. -/
  | fsgnjx (k : CoreId) (p : Bool) (d a b : BitVec 5)
  /-- FEQ (R125). Floating equality compare. -/
  | feq (k : CoreId) (p : Bool) (d a b : BitVec 5)
  /-- FLT (R125). Floating less-than compare. -/
  | flt (k : CoreId) (p : Bool) (d a b : BitVec 5)
  /-- FLE (R125). Floating less-or-equal compare. -/
  | fle (k : CoreId) (p : Bool) (d a b : BitVec 5)
  /-- FCLASS (R126). Class mask of fa. -/
  | fclass (k : CoreId) (p : Bool) (d a : BitVec 5)
  /-- FCVT_L (R126). Convert to a signed 64-bit integer. -/
  | fcvtL (k : CoreId) (p : Bool) (rm : BitVec 3) (d a : BitVec 5)
  /-- FCVT_LU (R126). Convert to an unsigned 64-bit integer. -/
  | fcvtLu (k : CoreId) (p : Bool) (rm : BitVec 3) (d a : BitVec 5)
  /-- FCVT_W (R126). Convert to a signed 32-bit integer. -/
  | fcvtW (k : CoreId) (p : Bool) (rm : BitVec 3) (d a : BitVec 5)
  /-- FCVT_WU (R126). Convert to an unsigned 32-bit integer. -/
  | fcvtWu (k : CoreId) (p : Bool) (rm : BitVec 3) (d a : BitVec 5)
  /-- FCVT_F_L (R123). Convert from a signed 64-bit integer. -/
  | fcvtFL (k : CoreId) (p : Bool) (rm : BitVec 3) (d a : BitVec 5)
  /-- FCVT_F_LU (R123). Convert from an unsigned 64-bit integer. -/
  | fcvtFLu (k : CoreId) (p : Bool) (rm : BitVec 3) (d a : BitVec 5)
  /-- FCVT_F_W (R123). Convert from a signed 32-bit integer. -/
  | fcvtFW (k : CoreId) (p : Bool) (rm : BitVec 3) (d a : BitVec 5)
  /-- FCVT_F_WU (R123). Convert from an unsigned 32-bit integer. -/
  | fcvtFWu (k : CoreId) (p : Bool) (rm : BitVec 3) (d a : BitVec 5)
  /-- FCVT_P (R123). Convert between precisions. -/
  | fcvtP (k : CoreId) (p : Bool) (rm : BitVec 3) (d a : BitVec 5)
  /-- FMV_G_F (R123). Raw move from an f register to a g register. -/
  | fmvGF (k : CoreId) (p : Bool) (d a : BitVec 5)
  /-- FMV_F_G (R123). Raw move from a g register to an f register. -/
  | fmvFG (k : CoreId) (p : Bool) (d a : BitVec 5)
  /-- FMADD (R124). Fused multiply-add. -/
  | fmadd (k : CoreId) (p : Bool) (rm : BitVec 3) (d a b c : BitVec 5)
  /-- FMSUB (R124). Fused multiply-subtract. -/
  | fmsub (k : CoreId) (p : Bool) (rm : BitVec 3) (d a b c : BitVec 5)
  /-- FNMADD (R124). Negated fused multiply-add. -/
  | fnmadd (k : CoreId) (p : Bool) (rm : BitVec 3) (d a b c : BitVec 5)
  /-- FNMSUB (R124). Negated fused multiply-subtract. -/
  | fnmsub (k : CoreId) (p : Bool) (rm : BitVec 3) (d a b c : BitVec 5)
  /-- LSEND (R96). Send ga on an output port, committing only while the port holds a toll. -/
  | lsend (k : CoreId) (port a : BitVec 5)
  /-- LSENDF (R96). Send the bits of fa on an output port. -/
  | lsendf (k : CoreId) (port a : BitVec 5)
  /-- LRECV (R95). Receive the next word of an input port, waiting for one; the toll returns at commit. -/
  | lrecv (k : CoreId) (d port : BitVec 5)
  /-- LRECVF (R95). Receive the next word of an input port into fd. -/
  | lrecvf (k : CoreId) (d port : BitVec 5)
  /-- LPROBE (R130). Return the input fill level or the output toll count of a port. -/
  | lprobe (k : CoreId) (d port : BitVec 5) (out : Bool)
  /-- WAYPT (R97). Signal the tile's arrival for the scan and wait for the next scan start. -/
  | waypt (k : CoreId)
  /-- SYNC (R133). Complete when every older store has drained and been accepted. -/
  | sync (k : CoreId)
  /-- BRKPT (R133). Halt for the debugger, or trap with BRKPT. -/
  | brkpt (k : CoreId) (code : BitVec 10)
  /-- TRAP (R133). Raise a trap with cause TRAP and a code. -/
  | trap (k : CoreId) (code : BitVec 10)
  /-- RFE (R140). Return from a handler, restoring or clearing the sealed save. -/
  | rfe (k : CoreId)
  /-- MFSR (R142). Read a system register. -/
  | mfsr (k : CoreId) (d : BitVec 5) (sr : BitVec 10)
  /-- MTSR (R142). Write a system register. -/
  | mtsr (k : CoreId) (a : BitVec 5) (sr : BitVec 10)
  /-- SEAL (R137). Set STATUS.SEALED. -/
  | seal (k : CoreId)
  /-- WFI (R135). Wait for an interrupt or halt request. -/
  | wfi (k : CoreId)
  /-- CACHE_INVAL_ILINE (R134). CACHE op 0: invalidate an instruction cache line. -/
  | cacheInvalIline (k : CoreId) (a : BitVec 5)
  /-- CACHE_WB_DLINE (R134). CACHE op 1: write back a data line if dirty. -/
  | cacheWbDline (k : CoreId) (a : BitVec 5)
  /-- CACHE_INVAL_DLINE (R134). CACHE op 2: invalidate a data line. -/
  | cacheInvalDline (k : CoreId) (a : BitVec 5)
  /-- CACHE_WB_INVAL_DLINE (R134). CACHE op 3: write back and invalidate a data line. -/
  | cacheWbInvalDline (k : CoreId) (a : BitVec 5)
  /-- CACHE_INVAL_ICACHE (R134). CACHE op 4: invalidate the whole instruction cache. -/
  | cacheInvalIcache (k : CoreId) (a : BitVec 5)
  /-- CACHE_WB_INVAL_DCACHE (R134). CACHE op 5: write back and invalidate the whole data cache. -/
  | cacheWbInvalDcache (k : CoreId) (a : BitVec 5)
  /-- LANE_ENABLE (R172). A write of LANE_CFG.EN = 1 checks the lane and enables it with fresh books, or refuses it. -/
  | laneEnable (l : Fin 4160) (v : BitVec 31)
  /-- LANE_DISABLE (R173). A write of EN = 0 requests a lane disable, which waits for the nets to drain. -/
  | laneDisable (l : Fin 4160) (v : BitVec 31)
  /-- LANE_DISABLE_DONE (R173). The lane disables in the first cycle in which DATA_NET and TOLL_NET are 0. -/
  | laneDisableDone (l : Fin 4160)
  /-- DATA_FLIT_LAUNCH (R542). The attachment takes one launch-register word per cycle, round-robin, into the mesh. -/
  | dataFlitLaunch (k : CoreId)
  /-- TOLL_LAUNCH (R542). A queued toll leaves the core's return queue onto the toll network. -/
  | tollLaunch (k : CoreId)
  /-- FLIT_HOP (R176). A junction checks, routes and forwards a data or toll flit. -/
  | flitHop (j : Fin 64) (out : Fin 4) (toll : Bool)
  /-- DATA_FLIT_LAND (R179). A data word is written to the receive ring and the books move. -/
  | dataFlitLand (k : CoreId)
  /-- TOLL_LAND (R180). A toll lands at the sending port and SEND_TOLLS rises. -/
  | tollLand (k : CoreId)
  /-- LANE_AUDIT_START (R186). A write of LANE_AUDIT_CTL.START begins a toll audit of a quiescent partition, or is refused. -/
  | laneAuditStart (p : Fin 4)
  /-- AUDIT_TOLLS (R189). The host command performs a toll audit and reports its result. -/
  | auditTolls
  /-- AUDIT_STUCK (R187). The mesh has not drained after 1,024 cycles; the audit ends STUCK with a lane fault. -/
  | auditStuck
  /-- AUDIT_DONE (R187). After the drain, the lanes are examined; the audit ends BALANCED or at the first imbalance. -/
  | auditDone
  /-- LANE_CLEAR_START (R192). A write of LANE_CLEAR.START begins a clear of a quiescent partition's lanes. -/
  | laneClearStart (p : Fin 4)
  /-- LANE_CLEAR_DONE (R192). Once the nets are 0, every enabled lane of the partition is reset in one cycle. -/
  | laneClearDone
  /-- FORM (R236). CVY_CTL.FORM requests formation, which is refused or enters FORMING. -/
  | form
  /-- FORM_LINK_TIMEOUT (R236). A link is not UP 100 ms after the formation request, and formation is refused with LINK. -/
  | formLinkTimeout
  /-- FORMATION_COMPLETE (R237). Formation completes: roles are set and time is aligned. -/
  | formationComplete (ofs : BitVec 64) (ph0 ph1 ph2 ph3 : BitVec 32)
  /-- CVY_CTL_SHOULDER (R260). A write of CVY_CTL.SHOULDER puts the member onto the shoulder with cause COMMAND. -/
  | cvyCtlShoulder
  /-- CONVOY_SHOULDER (R421). The host command puts the member onto the shoulder. -/
  | convoyShoulder
  /-- JOIN (R237). CVY_CTL.JOIN moves a provisioned member to JOINING. -/
  | join
  /-- ABORT (R237). CVY_CTL.ABORT abandons FORMING or JOINING. -/
  | abort
  /-- RETRAIN (R242). CVY_PORT_CTL.RETRAIN retrains a Wiath port. -/
  | retrain (j : Fin 3)
  /-- SEND_WAKE (R244). The port transmits the wake pattern for 200 µs. -/
  | sendWake (j : Fin 3)
  /-- SNAP (R248). A snapshot frame from a voter is received and placed by WNUM and INDEX. -/
  | snap (j : Fin 3) (h : BitVec 60) (ok : Bool) (ws : List Word)
  /-- OUT (R248). An output-vector frame is received. -/
  | out (j : Fin 3) (h : BitVec 60) (ok : Bool) (ws : List Word)
  /-- VERDICT (R249). A LATE or FAULT verdict frame is received, completing that member's exchange. -/
  | verdict (j : Fin 3) (h : BitVec 60) (ok fault : Bool)
  /-- RECEIPT (R250). A receipt frame with completeness bits, FIT and the changeover digest is received. -/
  | receipt (j : Fin 3) (h : BitVec 60) (ok : Bool) (w : Word)
  /-- SHOULDER (R261). A SHOULDER frame is received, and its sender is removed at the next decision. -/
  | shoulder (j : Fin 3) (h : BitVec 60) (ok : Bool) (cause : BitVec 4)
  /-- TIME (R245). A TIME frame is received; the follower computes the offset and trims its PLL. -/
  | time (j : Fin 3) (h : BitVec 60) (ok : Bool) (t1 t2 t3 t4 ofs : BitVec 64) (ph0 ph1 ph2 ph3 : BitVec 32)
  /-- MERGE (R265). A MERGE frame carrying granules is received and written in place. -/
  | merge (j : Fin 3) (h : BitVec 60) (ok : Bool) (pl : MergePlace) (ws : List Word)
  /-- IMAGE (R265). An IMAGE frame of a merge is received. -/
  | image (j : Fin 3) (h : BitVec 60) (ok : Bool)
  /-- NAK (R241). A NAK is received and the named frame is resent. -/
  | nak (j : Fin 3) (h : BitVec 60) (ok : Bool) (seq : BitVec 8)
  /-- TRAIN (R234). A training frame exchanges member, port and digest; the link comes UP or shows CABLE_ERR. -/
  | train (j : Fin 3) (member : Fin 4) (port : Fin 3) (digest : BitVec 256)
  /-- JOINT_START_FRAME (R258). A start or resume request reaches the leader, which names a common start instant. -/
  | jointStartFrame (p : Fin 4) (named : BitVec 64)
  /-- FRAME_RESEND_TIMEOUT (R241). A frame without an ACK after 1.5 µs is resent; after 8 resends the port goes DOWN. -/
  | frameResendTimeout (j : Fin 3)
  /-- PAIR_LOCK_LOSS (R242). A pair without block lock for 64 blocks is dropped and the port runs DEGRADED. -/
  | pairLockLoss (j : Fin 3) (pair : Bool)
  /-- SIGNAL_RETURN (R242). Signal returns on a DOWN or DEGRADED port and retraining begins. -/
  | signalReturn (j : Fin 3)
  /-- LINK_ACTIVITY_WAKE (R244). 2 µs of activity on a watched receive pair is a wake source. -/
  | linkActivityWake (j : Fin 3)
  /-- TIME_EXCHANGE (R245). Every 4,096 ticks, a follower exchanges TIME frames with the leader. -/
  | timeExchange
  /-- INPUT_CLOSE (R249). The input window closes, and receipts not yet sent go out. -/
  | inputClose (p : Fin 4)
  /-- INPUT_DECISION (R250). On full receipts, or 200 ticks after the close, the voter set is decided. -/
  | inputDecision (p : Fin 4)
  /-- CONVOY_SCAN_START (R254). The scan starts in the cycle after the last agreed word is written. -/
  | convoyScanStart (p : Fin 4)
  /-- OUTPUT_CLOSE (R249). The output window closes at W(n+1) − 300 ticks. -/
  | outputClose (p : Fin 4)
  /-- OUTPUT_DECISION (R255). On full receipts, or at PERIOD − 100, faults and lateness are decided jointly. -/
  | outputDecision (p : Fin 4)
  /-- CONVOY_MERGE (R264). The host command requests a merge of the joining member. -/
  | convoyMerge
  /-- MERGE_START (R264). CVY_MERGE_CTL.START requests a merge, which is refused or begins. -/
  | mergeStart (v : BitVec 30)
  /-- MERGE_ABORT (R266). CVY_MERGE_CTL.ABORT ends the merge REFUSED. -/
  | mergeAbort
  /-- MERGE_ARRIVAL (R265). At each donor arrival, the dirty granules are counted and the merge waypoint is chosen or the copy continues. -/
  | mergeArrival (p : Fin 4) (sent : BitVec 16)
  /-- AMAP_DATA_WRITE (R268). Writes an agreement map entry while ROLE is IDLE and advances INDEX. -/
  | amapDataWrite (v : BitVec 32)
  /-- AMAP_DATA_READ (R268). Reads an agreement map entry and advances INDEX. -/
  | amapDataRead
  /-- CONVERSION_START (R275). A slice begins acquisition at a grid tick or a trigger tick. -/
  | conversionStart (i : Fin 32)
  /-- CONVERSION_END (R272). A conversion ends 50 ticks after it starts; the result is corrected and averaged. -/
  | conversionEnd (i : Fin 32) (raw rawSp : BitVec 18)
  /-- RESULT_VISIBLE (R282). Eight cycles after the end, the result updates the latest-sample word and the ring writer. -/
  | resultVisible (i : Fin 32)
  /-- TRIGGER_TICK (R277). A trigger generator fires, starting bursts, DMA units and sequencer events. -/
  | triggerTick (i : Fin 4)
  /-- FIRE (R277). ADC_TRIGSW.FIRE triggers the generator at the next tick. -/
  | fire (i : Fin 4)
  /-- SLICE_CONFIG_WRITE (R279). A write of ADC_SCFG or ADC_SSEQ, locked while MODE is not OFF, starts or stops a slice. -/
  | sliceConfigWrite (i : Fin 32) (seq : Bool) (v : BitVec 32)
  /-- REF_WRITE (R280). A write of ADC_REF enables or changes the reference and clears READY. -/
  | refWrite (en sel : Bool)
  /-- REF_SETTLED (R297). The settling detector sets ADC_REF.READY. -/
  | refSettled
  /-- RING_ENTRY_WRITE (R285). The depot accepts a ring entry and RWPTR increments, or a depot refusal stops the writer. -/
  | ringEntryWrite (i : Fin 32)
  /-- RRPTR_WRITE (R285). A write of ADC_RRPTR consumes entries, or is refused if it would overfill. -/
  | rrptrWrite (i : Fin 32) (v : BitVec 32)
  /-- RING_ENABLE (R286). A write of ADC_RCTL.EN checks and starts the ring writer. -/
  | ringEnable (i : Fin 32) (size : BitVec 5) (thr : BitVec 21)
  /-- OVERLAP_IN_END (R289). OVERLAP_IN ends: the spare takes over, or is marked suspect. -/
  | overlapInEnd (g : Fin 4)
  /-- CALIBRATE_END (R287). The slice completes its live record and OVERLAP_OUT begins. -/
  | calibrateEnd (g : Fin 4) (m : List (BitVec 32))
  /-- OVERLAP_OUT_END (R289). OVERLAP_OUT ends: the slice returns to duty, or the spare covers it. -/
  | overlapOutEnd (g : Fin 4)
  /-- SPARE_SELF_END (R287). The spare's own calibration step ends and the rotation continues. -/
  | spareSelfEnd (g : Fin 4) (m : List (BitVec 32))
  /-- RESTORE_FACTORY (R294). CAL_CMD.RESTORE_FACTORY starts a factory-layer restore. -/
  | restoreFactory
  /-- CAL_RESTORE_FACTORY (R294). The host command starts a factory-layer restore. -/
  | calRestoreFactory
  /-- RESTORE_FACTORY_DONE (R294). At a grid tick after the steps end, every converter switches to factory coefficients. -/
  | restoreFactoryDone
  /-- COMMIT_USER (R295). CAL_CMD.COMMIT_USER folds the coefficients in use into a new user layer. -/
  | commitUser
  /-- CAL_COMMIT_USER (R295). The host command commits a user calibration layer. -/
  | calCommitUser
  /-- COMMIT_USER_DONE (R295). The commit word is programmed and LAYER becomes USER, or the command reports FLASH_ERR. -/
  | commitUserDone (ok : Bool)
  /-- CLEAR_FAILED (R290). Clears a group's failures and restarts its rotation. -/
  | clearFailed (mask : BitVec 4)
  /-- COEF_DATA_READ (R291). A read of CAL_COEF_DATA returns a coefficient and advances WORD. -/
  | coefDataRead
  /-- ENGINE_ENABLE (R305). A write of IOS_CTL.EN = 1 checks the engine and makes it WAITING. -/
  | engineEnable (e : Fin 128) (sync : BitVec 2) (start : BitVec 5)
  /-- ENGINE_DISABLE (R307). A write of EN = 0 stops the engine before its next step. -/
  | engineDisable (e : Fin 128)
  /-- IOS_GO (R305). Starts WAITING engines with SYNC = GO at the next grid tick. -/
  | iosGo (k : Fin 4) (v : BitVec 32)
  /-- NONE (R308). An engine step with no action; the control pins and flow still apply. -/
  | iosNone (e : Fin 128)
  /-- SEND (R311). The engine drives the next w bits of SND to the output group. -/
  | iosSend (e : Fin 128)
  /-- SAMPLE (R311). The engine shifts the input group into CAP. -/
  | iosSample (e : Fin 128)
  /-- XFER (R308). SEND and SAMPLE in one step. -/
  | iosXfer (e : Fin 128)
  /-- TAKE (R313). Pop the transmit FIFO into SND, or use the fill word and set UNDERRUN. -/
  | iosTake (e : Fin 128)
  /-- GIVE (R313). Push CAP to the receive FIFO, or discard it with OVERRUN. -/
  | iosGive (e : Fin 128)
  /-- LOADC (R308). CNT = ARG. -/
  | loadc (e : Fin 128)
  /-- RELOADC (R308). CNT = RELOAD. -/
  | reloadc (e : Fin 128)
  /-- ACC_INC (R308). ACC + 1. -/
  | accInc (e : Fin 128)
  /-- ACC_DEC (R308). ACC − 1. -/
  | accDec (e : Fin 128)
  /-- ACC_GIVE (R313). Push a copy of ACC to the receive FIFO. -/
  | accGive (e : Fin 128)
  /-- ACC_CLR (R308). ACC = 0. -/
  | accClr (e : Fin 128)
  /-- FLAG_SET (R315). Set a flag of the group. -/
  | flagSet (e : Fin 128)
  /-- FLAG_CLR (R315). Clear a flag of the group. -/
  | flagClr (e : Fin 128)
  /-- RAISE (R315). Set IOS_STAT.SIG. -/
  | raise (e : Fin 128)
  /-- DRIVE (R321). Make the output group drive, or return it to input. -/
  | drive (e : Fin 128)
  /-- ENGINE_HALT_RESERVED (R314). An engine reaching a reserved encoding halts with ILLEGAL. -/
  | engineHaltReserved (e : Fin 128)
  /-- TXF_PUSH (R318). A write of IOS_TXF pushes a word, subject to the owner rule. -/
  | txfPush (i : Agent) (e : Fin 128) (w : BitVec 32)
  /-- RXF_POP (R318). A read of IOS_RXF pops a word, or returns 0 with UNDERRUN. -/
  | rxfPop (i : Agent) (e : Fin 128)
  /-- TX_CLR (R302). Empties the transmit FIFO. -/
  | txClr (e : Fin 128)
  /-- RX_CLR (R302). Empties the receive FIFO. -/
  | rxClr (e : Fin 128)
  /-- IOS_FLAGSET (R315). Sets group flags from outside the engines. -/
  | iosFlagset (k : Fin 4) (v : BitVec 32)
  /-- IOS_FLAGCLR (R315). Clears group flags from outside the engines. -/
  | iosFlagclr (k : Fin 4) (v : BitVec 32)
  /-- PIN_OUT_WRITE (R330). A masked write of PIN_OUT_LO or PIN_OUT_HI updates the accepted latch bits. -/
  | pinOutWrite (i : Agent) (b : Fin 10) (hi : Bool) (v : BitVec 32)
  /-- PIN_DIR_WRITE (R330). A masked write of the direction latch. -/
  | pinDirWrite (i : Agent) (b : Fin 10) (hi : Bool) (v : BitVec 32)
  /-- PIN_CFG_WRITE (R328). A write of PIN_CFG changes the pin's owner or options, subject to ownership. -/
  | pinCfgWrite (i : Agent) (n : Fin 320) (v : BitVec 32)
  /-- PIN_EVENT (R335). A pin event line registers an edge, stamps TIME and sets PEND. -/
  | pinEvent (n : Fin 320) (outside : Fin 5)
  /-- BANK_SUPPLY_LOST (R326). A VDDIO leaves its windows: the bank goes high-impedance and the loss is reported. -/
  | bankSupplyLost (b : Fin 10)
  /-- PIN_LOCK (R505). SEC_PINLOCK freezes a pin and gives it to SEC until chip reset. -/
  | pinLock (k : Fin 4) (b : Fin 10) (v : BitVec 32)
  /-- ICU_CLAIM (R351). A read by SCk claims the latched or candidate source and puts it into service. -/
  | icuClaim (i : Agent) (k : Fin 4)
  /-- ICU_COMPLETE (R352). Ends service of an ID. -/
  | icuComplete (i : Agent) (k : Fin 4) (id : BitVec 10)
  /-- ICU_THR_SET (R347). Raises THR to the larger value. -/
  | icuThrSet (k : Fin 4) (v : BitVec 4)
  /-- ICU_THR_CLR (R347). Lowers THR to the smaller value. -/
  | icuThrClr (k : Fin 4) (v : BitVec 4)
  /-- ICU_EN_SET (R347). Sets enable bits. -/
  | icuEnSet (k : Fin 4) (w : Fin 16) (v : BitVec 32)
  /-- ICU_EN_CLR (R347). Clears enable bits. -/
  | icuEnClr (k : Fin 4) (w : Fin 16) (v : BitVec 32)
  /-- ICU_PEND_SET (R345). Sets pulse pending bits, which also raises software sources. -/
  | icuPendSet (w : Fin 16) (v : BitVec 32)
  /-- ICU_PEND_CLR (R345). Clears pulse pending bits. -/
  | icuPendClr (w : Fin 16) (v : BitVec 32)
  /-- PROG (R363). FLC PROG programs one flash word after the check of R366. -/
  | prog (key : BitVec 8)
  /-- BURST (R363). FLC BURST programs an aligned 128-byte block. -/
  | burst (key : BitVec 8)
  /-- PROG_DONE (R363). A program ends with read-back, setting DONE or FAIL. -/
  | progDone (k : Fin 9) (ok : Bool)
  /-- ERASE (R367). FLC ERASE is accepted and waits for its BEGUN marker. -/
  | erase (key : BitVec 8) (layby : Bool)
  /-- LOG_MOVE_DONE (R368). The new log page header is programmed, or the move fails and sets LOG. -/
  | logMoveDone (ok : Bool)
  /-- ERASE_MARKER_DONE (R367). The BEGUN marker is verified and the erase starts. -/
  | eraseMarkerDone (k : Fin 9)
  /-- ERASE_END (R363). The erase and its verify end, and reads of the bank resume. -/
  | eraseEnd (k : Fin 9) (ok : Bool)
  /-- ERASE_MARKER_CLEARED (R367). The marker is zeroed, DONE is set and the sector leaves FLC_PEND. -/
  | eraseMarkerCleared (k : Fin 9)
  /-- SUSPEND (R371). FLC SUSPEND requests a suspend of the erase in progress. -/
  | suspend (key : BitVec 8) (bank : BitVec 4)
  /-- RESUME (R371). FLC RESUME resumes a suspended erase. -/
  | resume (key : BitVec 8) (bank : BitVec 4)
  /-- AUTO_SUSPEND (R371). A read waiting on an erasing bank with AUTOSUS suspends the erase. -/
  | autoSuspend (k : Fin 9)
  /-- MINRUN_ELAPSED (R371). A held suspend request acts once MINRUN has passed. -/
  | minrunElapsed (k : Fin 9)
  /-- SUSPEND_DONE (R371). The engine becomes SUSPENDED and its bank reads again. -/
  | suspendDone (k : Fin 9)
  /-- AUTO_SUSPEND_END (R371). 16 µs of read idle time, or MAXSUS, ends an automatic suspend. -/
  | autoSuspendEnd (k : Fin 9)
  /-- WP_CHANGE (R373). The synchronised WP_N level changes and WP_CHG is set. -/
  | wpChange (level : Bool)
  /-- XSP_READ_FRAME (R392). A read request becomes one RD frame on its chip select. -/
  | xspReadFrame (x : Fin 2)
  /-- XSP_MEMORY_WRITE (R392). A write to a MEMORY region becomes one WR frame. -/
  | xspMemoryWrite (x : Fin 2)
  /-- FLASH_WRITE_TRANSLATE (R393). A write to a FLASH region runs the WREN, WR, gap and poll sequence. -/
  | flashWriteTranslate (x : Fin 2)
  /-- POLL_STATUS (R393). After the gap, a STAT frame reads the status, and the write completes or polls again. -/
  | pollStatus (x : Fin 2) (status : Byte)
  /-- BUSY_TIMEOUT (R393). The busy timeout expires and the translated write fails. -/
  | busyTimeout (x : Fin 2)
  /-- READY_STALL (R388). The ready line falls and the clock rests until it rises. -/
  | readyStall (x : Fin 2)
  /-- READY_TIMEOUT (R389). The ready line stays low too long; the frame ends and the access fails. -/
  | readyTimeout (x : Fin 2)
  /-- FRAME_END (R387). A frame ends: CS_N rises, the waiting access proceeds and the next request may start. -/
  | frameEnd (x : Fin 2) (d : List Byte)
  /-- MANUAL_FRAME (R395). XSP_MAN_CTL.START queues a manual frame, with optional polling. -/
  | manualFrame (x : Fin 2) (start : Bool) (v : BitVec 31)
  /-- CS_ENABLE (R397). A write of XSP_CSCFG.EN = 1 checks the formats and region. -/
  | csEnable (x : Fin 2) (c : Fin 4) (v : BitVec 31)
  /-- CS_DISABLE_DONE (R397). A chip-select disable takes effect when no request for it remains. -/
  | csDisableDone (x : Fin 2) (c : Fin 4)
  /-- PARALLEL_READ (R402). A parallel host read of a host register, replying with data and a status code. -/
  | parallelRead (a : BitVec 6) (both : Bool)
  /-- PARALLEL_WRITE (R402). A parallel host write of a host register. -/
  | parallelWrite (a : BitVec 6) (v : BitVec 32)
  /-- SERIAL_READ (R405). A serial READ frame of one or more word units. -/
  | serialRead (cmd a : Byte) (n : Nat)
  /-- SERIAL_WRITE (R405). A serial WRITE frame of one or more word units. -/
  | serialWrite (a : Byte) (ws : List (BitVec 32))
  /-- FRAME_ABORT (R408). HSS_N rises before a word completes; the word is discarded and FRAME_ABORTED is pending. -/
  | frameAbort
  /-- HOST_WAKE_ACCESS (R413). A host access in DOZE wakes the device and is not performed. -/
  | hostWakeAccess
  /-- NOP (R421). The host no-operation command. -/
  | nop
  /-- HST_DONE (R425). Firmware completes an FW command with a result. -/
  | hstDone (r : BitVec 32)
  /-- CHIP_RESET (R423). The host command resets the chip when its access ends. -/
  | chipReset
  /-- ROADBLOCK_CLEAR (R421). The authorised command leaves ROADBLOCK by a chip reset that clears the ladder. -/
  | roadblockClear
  /-- IMAGE_SELECT (R497). Appends a selection word choosing image A or B. -/
  | imageSelect
  /-- SLEEP (R439). The host command requests DOZE, NAP or HIBERNATE. -/
  | sleep
  /-- LAYBY_DISCARD (R468). The host command discards the offered layby save. -/
  | laybyDiscard
  /-- HW_ATTN_CLR (R411). Clears latched attention causes. -/
  | hwAttnClr (v : BitVec 16)
  /-- MAILBOX_PUSH (R415). A host write of HW_MBX_IN_DATA pushes a word, or is refused when full. -/
  | mailboxPush (v : BitVec 32)
  /-- MAILBOX_POP (R415). A host read of HW_MBX_OUT_DATA pops a word. -/
  | mailboxPop
  /-- HST_MBX_IN_POP (R415). Firmware pops an inbound mailbox word. -/
  | hstMbxInPop
  /-- HST_MBX_OUT_PUSH (R415). Firmware pushes an outbound word, or sets OUT_LOST when full. -/
  | hstMbxOutPush (v : BitVec 32)
  /-- EVENT_LOG_POP (R416). A read of HW_EVENT_LOG_DATA pops the oldest entry. -/
  | eventLogPop
  /-- HST_LOG (R416). Firmware appends a class-15 log entry. -/
  | hstLog (v : BitVec 32)
  /-- WINDOW_READ (R417). HW_WIN_CTL.READ starts a window read of the 40-bit map. -/
  | windowRead (v : BitVec 31)
  /-- WINDOW_READ_DONE (R417). The window read ends, filling the holding register or failing. -/
  | windowReadDone
  /-- WINDOW_DATA_READ (R417). A read of HW_WIN_DATA returns the holding register, with INC and AUTO. -/
  | windowDataRead
  /-- WINDOW_WRITE (R419). A write of HW_WIN_DATA writes the target word, with 64-bit halves held as R419 sets out. -/
  | windowWrite (v : BitVec 32)
  /-- WPT_COUNT_LO_READ (R426). A read of HW_WPT_COUNT_LO latches WNUM[63:32] into HI. -/
  | wptCountLoRead
  /-- UNLOCK_CHALLENGE (R512). A challenge write on either path draws a fresh challenge, or is refused. -/
  | unlockChallenge (host : Bool) (v : BitVec 32)
  /-- CHALLENGE_READ (R512). A read returns the next challenge word. -/
  | challengeRead (host : Bool)
  /-- UNLOCK_RESPONSE (R513). A response word is written; the eighth starts the HMAC check. -/
  | unlockResponse (host : Bool) (v : BitVec 32)
  /-- UNLOCK_CHECK_DONE (R513). The 24-cycle check ends and sets the level or refuses with AUTH. -/
  | unlockCheckDone
  /-- CLOCK_SOURCE_WRITE (R429). A write of SYS_CLK_CTL.SRC requests a CCLK source switch, or is refused while unlocked. -/
  | clockSourceWrite (src : Bool)
  /-- CLOCK_SOURCE_SWITCH (R429). The source switch takes effect at a VCO ÷ 24 boundary once its conditions are met. -/
  | clockSourceSwitch
  /-- PLL_LOCK (R428). The PLL locks and PLL_LOCK becomes 1. -/
  | pllLock
  /-- PLL_LOCK_LOSS (R431). The PLL loses lock; CCLK falls back to HFRC and TIMEBASE_LOSS may be reported. -/
  | pllLockLoss
  /-- CLOCK_MONITOR_FAULT (R431). A monitor window finds CCLK off by more than 10 %, and CCLK falls back. -/
  | clockMonitorFault
  /-- OPP_CHANGE (R433). A write of PWR_OPP_CTL.TARGET starts an operating-point change. -/
  | oppChange (t : BitVec 2)
  /-- VRDY_CONFIRM (R433). VRDY is high after the blanking time, confirming the VID change. -/
  | vrdyConfirm
  /-- DIVIDER_SWITCH (R436). The divider switches at a timebase pulse once XSP frames have ended. -/
  | dividerSwitch
  /-- VRDY_TIMEOUT (R435). VRDY has not confirmed within the timeout; the change ends with VRDY_TO. -/
  | vrdyTimeout
  /-- VID_WRITE (R434). A write of PWR_VID drives a VID directly, or is refused. -/
  | vidWrite (v : BitVec 32)
  /-- DOMAIN_CONTROL (R438). A write of PWR_DOM_CTL switches domains off or on, or is refused with IN_USE. -/
  | domainControl (v : BitVec 32)
  /-- DOMAIN_READY (R438). A domain switched on has ramped and been zeroed or reloaded. -/
  | domainReady (d : Fin 6)
  /-- SLEEP_REQUEST (R439). PWR_SLEEP_CTL.REQ requests sleep entry and starts the handshake. -/
  | sleepRequest (st : BitVec 2)
  /-- HANDSHAKE_ANSWER (R440). A block answers ACK, REFUSE or DELAY; the last ACK commits the entry. -/
  | handshakeAnswer (b : Fin 11)
  /-- HANDSHAKE_TIMEOUT (R441). A block has not answered by its deadline and refuses with TIMEOUT. -/
  | handshakeTimeout (b : Fin 11)
  /-- WAKE_SOURCE (R445). An enabled wake source registers in sleep and is recorded in HW_WAKE_CAUSE. -/
  | wakeSource (b : Fin 7) (line : BitVec 6)
  /-- WAKE_RAMP_DONE (R447). After PWR_TRAMP, state is restored and SC0 starts at the boot ROM wake entry. -/
  | wakeRampDone
  /-- NVM_WAKE_DONE (R447). After HIBERNATE, flash reads are served again. -/
  | nvmWakeDone
  /-- AON_TIMER_MATCH (R445). PWR_AON_CNT reaches PWR_AON_CMP and sets AON_CMP or wakes the device. -/
  | aonTimerMatch
  /-- TEMP_MEASURE (R451). The periodic measurement updates temperature, supplies and peaks. -/
  | tempMeasure (temp : BitVec 16) (vcore vhold : BitVec 12) (vrdy : Bool)
  /-- PEAK_CLR (R451). Returns TMP_PEAK to its reset value. -/
  | peakClr
  /-- SAG (R457). VMON or VCORE stays low for 2 µs and the device enters LAYBY. -/
  | sag
  /-- LAYBY_SAVE_COMPLETE (R460). The STATE word is zeroed; the device goes to BOOT or OFF. -/
  | laybySaveComplete (recovered : Bool)
  /-- VHOLD_FLOOR (R460). VHOLD reaches 3.0 V and the save stops incomplete. -/
  | vholdFloor
  /-- PREP_START (R464). LAY_PREP.START erases a layby slot, or is refused. -/
  | prepStart (j : BitVec 3)
  /-- PREP_DONE (R464). The slot preparation ends. -/
  | prepDone
  /-- RESTORE_START (R466). LAY_RESTORE.START checks the offered save and starts the restore, or refuses it. -/
  | restoreStart (sc : Bool) (parts : BitVec 4)
  /-- RESTORE_DONE (R467). The keep regions are written and CONSUMED is programmed. -/
  | restoreDone
  /-- DISCARD (R468). LAY_RESTORE.DISCARD consumes the offered save. -/
  | discard
  /-- INSTANCE_START (R470). The first valid write of WDG_CTL starts and locks a watchdog instance. -/
  | instanceStart (i : Agent) (w : Fin 8) (clk : Bool)
  /-- WDG_MILESTONE (R476). A check-in updates the signature and the ledger. -/
  | wdgMilestone (i : Agent) (w : Fin 8) (id : Byte)
  /-- WDG_TOKEN (R477). A service, judged at the next step for window, ledger and token. -/
  | wdgToken (i : Agent) (w : Fin 8) (v : BitVec 16)
  /-- WDG_STEP (R473). A step of the step clock advances the count. -/
  | wdgStep (i : Fin 8)
  /-- WDG_EARLY_WARNING (R473). The count reaches WDG_WARN and source 225 + i pulses. -/
  | wdgEarlyWarning (i : Fin 8)
  /-- WDG_EXPIRY (R473). The count would pass WDG_CLOSE, which is a fault EXPIRY. -/
  | wdgExpiry (i : Fin 8)
  /-- WDG_CLOCK_STOPPED (R472). The monitor declares the step clock stopped, which is a fault CLOCK. -/
  | wdgClockStopped (i : Fin 8)
  /-- TAP_RESET (R507). TRST_N low or five TMS-high clocks load IDCODE. -/
  | tapReset
  /-- EXTEST (R508). The boundary-scan register drives the pins at FULL. -/
  | extest (out oe : BitVec 320)
  /-- IDCODE (R507). Shift out the identity code. -/
  | idcode
  /-- SAMPLE_PRELOAD (R507). Sample or preload the boundary-scan register. -/
  | samplePreload (out oe : BitVec 320)
  /-- HIGHZ (R508). Float every boundary-scan output at FULL. -/
  | highz
  /-- BYPASS (R507). Select the 1-bit bypass register. -/
  | bypass
  /-- DBGACC (R507). Capture the previous result and start the shifted debug access. -/
  | dbgacc (op : BitVec 2) (off : BitVec 16) (d : BitVec 32)
  /-- DEBUG_NOP (R506). Debug NOP collects the result of a pending access. -/
  | debugNop (crc : Bool)
  /-- DEBUG_READ (R506). Debug read of a DBG register. -/
  | debugRead (crc : Bool) (off : BitVec 16)
  /-- DEBUG_WRITE (R506). Debug write of a DBG register with no row of its own. -/
  | debugWrite (crc : Bool) (off : BitVec 16) (d : BitVec 32)
  /-- DBG_HALT (R514). Sends halt requests, shouldering a convoy voter first. -/
  | dbgHalt (w : Fin 9) (v : BitVec 32)
  /-- DBG_RESUME (R516). Restarts halted cores. -/
  | dbgResume (w : Fin 9) (v : BitVec 32)
  /-- STEP (R516). Resumes the selected core for one committed instruction. -/
  | step
  /-- DEBUG_RESET (R526). DBG_CTL.RESET resets the chip when the access ends. -/
  | debugReset
  /-- DROP (R511). Returns the debug level to CLOSED and ends the actions it no longer permits. -/
  | drop
  /-- DBG_FEED (R519). Executes one instruction in a halted core's context. -/
  | dbgFeed (w : BitVec 32)
  /-- REG_DATA_READ (R518). Reads a register of a halted core. -/
  | regDataRead (hi : Bool)
  /-- REG_DATA_WRITE (R518). Writes a register of a halted core, which may void a sealed value. -/
  | regDataWrite (hi : Bool) (d : BitVec 32)
  /-- MEM_READ (R524). DBG_MEM_CTL.READ reads the 40-bit map. -/
  | memRead (v : BitVec 31)
  /-- MEM_WRITE (R524). The last data word written performs a debug memory write. -/
  | memWrite (hi : Bool) (d : BitVec 32)
  /-- MEM_ACCESS_DONE (R524). A debug memory access ends and BUSY clears. -/
  | memAccessDone
  /-- FREEZE_WRITE (R523). A write of a freeze register freezes or releases units. -/
  | freezeWrite (i : Fin 6) (v : BitVec 32)
  /-- SYS_ECC_CORR_READ (R168). A read-clear of the corrected error count. -/
  | sysEccCorrRead
  /-- LANE_FAULT_COUNT_READ (R196). A read-clear of the lane fault count. -/
  | laneFaultCountRead
  /-- LANE_ECC_READ (R198). A read-clear of the corrected flit error counts. -/
  | laneEccRead
  /-- WPT_LATE_COUNT_READ (R214). A read-clear of a partition's late waypoint count. -/
  | wptLateCountRead (p : Fin 4)
  /-- WPT_SKIPPED_READ (R213). A read-clear of a partition's skipped snapshot count. -/
  | wptSkippedRead (p : Fin 4)
  /-- HW_WPT_LATE_READ (R214). A read-clear of the host late-waypoint counts. -/
  | hwWptLateRead
  /-- CVY_SHOULDER_COUNT_READ (R262). A read-clear of the shoulder count. -/
  | cvyShoulderCountRead
  /-- CVY_PORT_ERR_READ (R241). A read-clear of a port's CRC and resend counts. -/
  | cvyPortErrRead (j : Fin 3)
  /-- CVY_PORT_DOWNS_READ (R242). A read-clear of a port's down count. -/
  | cvyPortDownsRead (j : Fin 3)
  /-- CVY_IN_DIS_READ (R252). A read-clear of the input disagreement counts, which re-arms source 268. -/
  | cvyInDisRead (p : Fin 4)
  /-- CVY_NOMAJ_READ (R252). A read-clear of the no-majority counts. -/
  | cvyNomajRead (p : Fin 4)
  /-- ADC_RDROP_READ (R285). A read-clear of a slice's lost ring entries. -/
  | adcRdropRead (i : Fin 32)
  /-- PIN_NOWN_COUNT_READ (R329). A read-clear of the non-owner write count. -/
  | pinNownCountRead
  /-- FLC_CORR_READ (R379). A read-clear of the flash correction counts. -/
  | flcCorrRead
  /-- EVENT_LOG_LEVEL_READ (R416). A read-clear of the event log DROPPED count. -/
  | eventLogLevelRead
  /-- BANK_SUPPLY_RETURN (R326). VDDIO_b returns inside a window: PIN_BANKSTAT.OK rises, the bank's class is set and its pads resume their functions. -/
  | bankSupplyReturn (b : Fin 10) (cls : Fin 3)
  /-- READY_LINE_RISE (R388). The XSP ready line rises again at its pad, and SCK runs again from cycle 3 so that the stretched frame continues. -/
  | readyLineRise (x : Fin 2)
  /-- HOST_ENDS_ACCESS (R423). The host raises HCS_N or HSS_N to end the access, which releases the host pads and lets a pending CHIP_RESET or host SLEEP handshake take effect. -/
  | hostEndsAccess
  /-- XTAL_OK (R430). The 32.768 kHz crystal starts running, XTAL_OK becomes 1, and with SRC = 0 the AON domain moves from the RC oscillator to the crystal. -/
  | xtalOk
  /-- RNG_WORD_PRODUCED (R504). Every 2 µs the random source produces a conditioned word and queues it, up to four. -/
  | rngWordProduced (w : BitVec 32)
  deriving DecidableEq, Repr

end Sys2Proof
end

