-- ==== Sys2Proof/Decode.lean ====
section
/-! DEFINITION. Decoding. The command table gives no row any bits, so `decodeTableWord` answers none. The instruction
words of a core (R104–R107) are needed where a debugger feeds one (R519) and where a trap records one (TRAP_INSTR):
`decodeWord` reads them and `encodeWord` writes them, both from the tables of 04_instruction_set.md. -/

namespace Sys2Proof

/-- The command that a word spells by the table's bits: the table gives none. -/
def decodeTableWord (_nbits _w : Nat) : Option Instr := none

/-- The R format (R105). -/
def wordR (op : Nat) (d a b c : BitVec 5) (fn : Nat) : BitVec 32 :=
  BitVec.ofNat 6 op ++ d ++ a ++ b ++ c ++ BitVec.ofNat 6 fn

/-- The I format; also B and JR, whose low half holds the annul bit (R105). -/
def wordI (op : Nat) (d a : BitVec 5) (imm : BitVec 16) : BitVec 32 := BitVec.ofNat 6 op ++ d ++ a ++ imm

/-- The J format (R105). -/
def wordJ (op : Nat) (annul : Bool) (disp : BitVec 25) : BitVec 32 := BitVec.ofNat 6 op ++ BitVec.ofBool annul ++ disp

/-- SYS with a 10-bit number in fields b and c (R132). -/
def wordSys (d a : BitVec 5) (n : BitVec 10) (fn : Nat) : BitVec 32 :=
  BitVec.ofNat 6 0x06 ++ d ++ a ++ n ++ BitVec.ofNat 6 fn

def annulBit (an : Bool) : BitVec 16 := if an then 0x8000#16 else 0#16

/-- Field c of an FP instruction: rm in c[10:8], P in c[7], c[6] 0 (R123). -/
def fpC (rm : BitVec 3) (p : Bool) : BitVec 5 := rm ++ BitVec.ofBool p ++ 0#1

/-- The word of a core instruction; none for a command that is no instruction. -/
def encodeWord : Instr → Option (BitVec 32)
  | .add _ d a b => some (wordR 0x01 d a b 0 0x0)
  | .sub _ d a b => some (wordR 0x01 d a b 0 0x1)
  | .and _ d a b => some (wordR 0x01 d a b 0 0x2)
  | .or _ d a b => some (wordR 0x01 d a b 0 0x3)
  | .xor _ d a b => some (wordR 0x01 d a b 0 0x4)
  | .andn _ d a b => some (wordR 0x01 d a b 0 0x5)
  | .sll _ d a b => some (wordR 0x01 d a b 0 0x6)
  | .srl _ d a b => some (wordR 0x01 d a b 0 0x7)
  | .sra _ d a b => some (wordR 0x01 d a b 0 0x8)
  | .slt _ d a b => some (wordR 0x01 d a b 0 0x9)
  | .sltu _ d a b => some (wordR 0x01 d a b 0 0xa)
  | .seq _ d a b => some (wordR 0x01 d a b 0 0xb)
  | .addw _ d a b => some (wordR 0x01 d a b 0 0xc)
  | .subw _ d a b => some (wordR 0x01 d a b 0 0xd)
  | .sllw _ d a b => some (wordR 0x01 d a b 0 0xe)
  | .srlw _ d a b => some (wordR 0x01 d a b 0 0xf)
  | .sraw _ d a b => some (wordR 0x01 d a b 0 0x10)
  | .sextb _ d a => some (wordR 0x01 d a 0 0 0x11)
  | .sexth _ d a => some (wordR 0x01 d a 0 0 0x12)
  | .sextw _ d a => some (wordR 0x01 d a 0 0 0x13)
  | .zextw _ d a => some (wordR 0x01 d a 0 0 0x14)
  | .min _ d a b => some (wordR 0x01 d a b 0 0x15)
  | .max _ d a b => some (wordR 0x01 d a b 0 0x16)
  | .addi _ d a imm => some (wordI 0x8 d a imm)
  | .andi _ d a imm => some (wordI 0x9 d a imm)
  | .ori _ d a imm => some (wordI 0xa d a imm)
  | .xori _ d a imm => some (wordI 0xb d a imm)
  | .slti _ d a imm => some (wordI 0xc d a imm)
  | .sltiu _ d a imm => some (wordI 0xd d a imm)
  | .slli _ d a imm => some (wordI 0x0E d a (imm.setWidth 16))
  | .srli _ d a imm => some (wordI 0x0E d a (0x40#16 ||| imm.setWidth 16))
  | .srai _ d a imm => some (wordI 0x0E d a (0x80#16 ||| imm.setWidth 16))
  | .lui _ d imm => some (wordI 0x0F d 0 imm)
  | .mul _ d a b => some (wordR 0x02 d a b 0 0x0)
  | .mulh _ d a b => some (wordR 0x02 d a b 0 0x1)
  | .mulhu _ d a b => some (wordR 0x02 d a b 0 0x2)
  | .mulw _ d a b => some (wordR 0x02 d a b 0 0x3)
  | .div _ d a b => some (wordR 0x02 d a b 0 0x4)
  | .divu _ d a b => some (wordR 0x02 d a b 0 0x5)
  | .rem _ d a b => some (wordR 0x02 d a b 0 0x6)
  | .remu _ d a b => some (wordR 0x02 d a b 0 0x7)
  | .divw _ d a b => some (wordR 0x02 d a b 0 0x8)
  | .divuw _ d a b => some (wordR 0x02 d a b 0 0x9)
  | .remw _ d a b => some (wordR 0x02 d a b 0 0xa)
  | .remuw _ d a b => some (wordR 0x02 d a b 0 0xb)
  | .ldb _ d a imm => some (wordI 0x10 d a imm)
  | .ldbu _ d a imm => some (wordI 0x11 d a imm)
  | .ldh _ d a imm => some (wordI 0x12 d a imm)
  | .ldhu _ d a imm => some (wordI 0x13 d a imm)
  | .ldw _ d a imm => some (wordI 0x14 d a imm)
  | .ldwu _ d a imm => some (wordI 0x15 d a imm)
  | .ldd _ d a imm => some (wordI 0x16 d a imm)
  | .stb _ d a imm => some (wordI 0x18 d a imm)
  | .sth _ d a imm => some (wordI 0x19 d a imm)
  | .stw _ d a imm => some (wordI 0x1a d a imm)
  | .std _ d a imm => some (wordI 0x1b d a imm)
  | .flds _ d a imm => some (wordI 0x1c d a imm)
  | .fldd _ d a imm => some (wordI 0x1d d a imm)
  | .fsts _ d a imm => some (wordI 0x1e d a imm)
  | .fstd _ d a imm => some (wordI 0x1f d a imm)
  | .beq _ a b an disp => some (wordI 0x20 a b (annulBit an ||| disp.setWidth 16))
  | .bne _ a b an disp => some (wordI 0x21 a b (annulBit an ||| disp.setWidth 16))
  | .blt _ a b an disp => some (wordI 0x22 a b (annulBit an ||| disp.setWidth 16))
  | .bge _ a b an disp => some (wordI 0x23 a b (annulBit an ||| disp.setWidth 16))
  | .bltu _ a b an disp => some (wordI 0x24 a b (annulBit an ||| disp.setWidth 16))
  | .bgeu _ a b an disp => some (wordI 0x25 a b (annulBit an ||| disp.setWidth 16))
  | .j _ an disp => some (wordJ 0x28 an disp)
  | .jal _ an disp => some (wordJ 0x29 an disp)
  | .jalr _ d a an => some (wordI 0x07 d a (annulBit an))
  | .fadd _ p rm d a b => some (wordR 0x03 d a b (fpC rm p) 0x0)
  | .fsub _ p rm d a b => some (wordR 0x03 d a b (fpC rm p) 0x1)
  | .fmul _ p rm d a b => some (wordR 0x03 d a b (fpC rm p) 0x2)
  | .fdiv _ p rm d a b => some (wordR 0x03 d a b (fpC rm p) 0x3)
  | .fsqrt _ p rm d a => some (wordR 0x03 d a 0 (fpC rm p) 0x4)
  | .fmin _ p d a b => some (wordR 0x03 d a b (fpC 0 p) 0x5)
  | .fmax _ p d a b => some (wordR 0x03 d a b (fpC 0 p) 0x6)
  | .fsgnj _ p d a b => some (wordR 0x03 d a b (fpC 0 p) 0x7)
  | .fsgnjn _ p d a b => some (wordR 0x03 d a b (fpC 0 p) 0x8)
  | .fsgnjx _ p d a b => some (wordR 0x03 d a b (fpC 0 p) 0x9)
  | .feq _ p d a b => some (wordR 0x03 d a b (fpC 0 p) 0xa)
  | .flt _ p d a b => some (wordR 0x03 d a b (fpC 0 p) 0xb)
  | .fle _ p d a b => some (wordR 0x03 d a b (fpC 0 p) 0xc)
  | .fclass _ p d a => some (wordR 0x03 d a 0 (fpC 0 p) 0xd)
  | .fcvtL _ p rm d a => some (wordR 0x03 d a 0 (fpC rm p) 0xe)
  | .fcvtLu _ p rm d a => some (wordR 0x03 d a 0 (fpC rm p) 0xf)
  | .fcvtW _ p rm d a => some (wordR 0x03 d a 0 (fpC rm p) 0x10)
  | .fcvtWu _ p rm d a => some (wordR 0x03 d a 0 (fpC rm p) 0x11)
  | .fcvtFL _ p rm d a => some (wordR 0x03 d a 0 (fpC rm p) 0x12)
  | .fcvtFLu _ p rm d a => some (wordR 0x03 d a 0 (fpC rm p) 0x13)
  | .fcvtFW _ p rm d a => some (wordR 0x03 d a 0 (fpC rm p) 0x14)
  | .fcvtFWu _ p rm d a => some (wordR 0x03 d a 0 (fpC rm p) 0x15)
  | .fcvtP _ p rm d a => some (wordR 0x03 d a 0 (fpC rm p) 0x16)
  | .fmvGF _ p d a => some (wordR 0x03 d a 0 (fpC 0 p) 0x17)
  | .fmvFG _ p d a => some (wordR 0x03 d a 0 (fpC 0 p) 0x18)
  | .fmadd _ p rm d a b c => some (wordR 0x04 d a b c (0 + (if p then 8 else 0) + rm.toNat))
  | .fmsub _ p rm d a b c => some (wordR 0x04 d a b c (16 + (if p then 8 else 0) + rm.toNat))
  | .fnmadd _ p rm d a b c => some (wordR 0x04 d a b c (32 + (if p then 8 else 0) + rm.toNat))
  | .fnmsub _ p rm d a b c => some (wordR 0x04 d a b c (48 + (if p then 8 else 0) + rm.toNat))
  | .lsend _ port a => some (wordR 0x05 0 a port 0 0)
  | .lsendf _ port a => some (wordR 0x05 0 a port 0 1)
  | .lrecv _ d port => some (wordR 0x05 d 0 port 0 2)
  | .lrecvf _ d port => some (wordR 0x05 d 0 port 0 3)
  | .lprobe _ d port out => some (wordR 0x05 d 0 port (if out then 1 else 0) 4)
  | .waypt _ => some (wordR 0x06 0 0 0 0 1)
  | .sync _ => some (wordR 0x06 0 0 0 0 2)
  | .brkpt _ n => some (wordSys 0 0 n 3)
  | .trap _ n => some (wordSys 0 0 n 4)
  | .rfe _ => some (wordR 0x06 0 0 0 0 5)
  | .mfsr _ d sr => some (wordSys d 0 sr 6)
  | .mtsr _ a sr => some (wordSys 0 a sr 7)
  | .seal _ => some (wordR 0x06 0 0 0 0 8)
  | .wfi _ => some (wordR 0x06 0 0 0 0 9)
  | .cacheInvalIline _ a => some (wordR 0x06 0 a 0 0 0x0A)
  | .cacheWbDline _ a => some (wordR 0x06 1 a 0 0 0x0A)
  | .cacheInvalDline _ a => some (wordR 0x06 2 a 0 0 0x0A)
  | .cacheWbInvalDline _ a => some (wordR 0x06 3 a 0 0 0x0A)
  | .cacheInvalIcache _ a => some (wordR 0x06 4 a 0 0 0x0A)
  | .cacheWbInvalDcache _ a => some (wordR 0x06 5 a 0 0 0x0A)
  | _ => none

/-- Major 0x01 (R109). -/
def decodeInt (k : CoreId) (d a b c : BitVec 5) (fn : Nat) : Option Instr :=
  match fn with
  | 0x0 => if c = 0#5 then some (.add k d a b) else none
  | 0x1 => if c = 0#5 then some (.sub k d a b) else none
  | 0x2 => if c = 0#5 then some (.and k d a b) else none
  | 0x3 => if c = 0#5 then some (.or k d a b) else none
  | 0x4 => if c = 0#5 then some (.xor k d a b) else none
  | 0x5 => if c = 0#5 then some (.andn k d a b) else none
  | 0x6 => if c = 0#5 then some (.sll k d a b) else none
  | 0x7 => if c = 0#5 then some (.srl k d a b) else none
  | 0x8 => if c = 0#5 then some (.sra k d a b) else none
  | 0x9 => if c = 0#5 then some (.slt k d a b) else none
  | 0xa => if c = 0#5 then some (.sltu k d a b) else none
  | 0xb => if c = 0#5 then some (.seq k d a b) else none
  | 0xc => if c = 0#5 then some (.addw k d a b) else none
  | 0xd => if c = 0#5 then some (.subw k d a b) else none
  | 0xe => if c = 0#5 then some (.sllw k d a b) else none
  | 0xf => if c = 0#5 then some (.srlw k d a b) else none
  | 0x10 => if c = 0#5 then some (.sraw k d a b) else none
  | 0x11 => if b = 0#5 ∧ c = 0#5 then some (.sextb k d a) else none
  | 0x12 => if b = 0#5 ∧ c = 0#5 then some (.sexth k d a) else none
  | 0x13 => if b = 0#5 ∧ c = 0#5 then some (.sextw k d a) else none
  | 0x14 => if b = 0#5 ∧ c = 0#5 then some (.zextw k d a) else none
  | 0x15 => if c = 0#5 then some (.min k d a b) else none
  | 0x16 => if c = 0#5 then some (.max k d a b) else none
  | _ => none

/-- Major 0x02 (R112). -/
def decodeMuldiv (k : CoreId) (d a b c : BitVec 5) (fn : Nat) : Option Instr :=
  match fn with
  | 0x0 => if c = 0#5 then some (.mul k d a b) else none
  | 0x1 => if c = 0#5 then some (.mulh k d a b) else none
  | 0x2 => if c = 0#5 then some (.mulhu k d a b) else none
  | 0x3 => if c = 0#5 then some (.mulw k d a b) else none
  | 0x4 => if c = 0#5 then some (.div k d a b) else none
  | 0x5 => if c = 0#5 then some (.divu k d a b) else none
  | 0x6 => if c = 0#5 then some (.rem k d a b) else none
  | 0x7 => if c = 0#5 then some (.remu k d a b) else none
  | 0x8 => if c = 0#5 then some (.divw k d a b) else none
  | 0x9 => if c = 0#5 then some (.divuw k d a b) else none
  | 0xa => if c = 0#5 then some (.remw k d a b) else none
  | 0xb => if c = 0#5 then some (.remuw k d a b) else none
  | _ => none

/-- Whether a rounding code is not reserved (R122). -/
def rmOkB (rm : BitVec 3) : Bool := rm != 5#3 && rm != 6#3

/-- Major 0x03 (R123). -/
def decodeFp (k : CoreId) (d a b : BitVec 5) (rm : BitVec 3) (p : Bool) (fn : Nat) : Option Instr :=
  match fn with
  | 0x0 => if rmOkB rm = true then some (.fadd k p rm d a b) else none
  | 0x1 => if rmOkB rm = true then some (.fsub k p rm d a b) else none
  | 0x2 => if rmOkB rm = true then some (.fmul k p rm d a b) else none
  | 0x3 => if rmOkB rm = true then some (.fdiv k p rm d a b) else none
  | 0x4 => if b = 0#5 ∧ rmOkB rm = true then some (.fsqrt k p rm d a) else none
  | 0x5 => if rm = 0#3 then some (.fmin k p d a b) else none
  | 0x6 => if rm = 0#3 then some (.fmax k p d a b) else none
  | 0x7 => if rm = 0#3 then some (.fsgnj k p d a b) else none
  | 0x8 => if rm = 0#3 then some (.fsgnjn k p d a b) else none
  | 0x9 => if rm = 0#3 then some (.fsgnjx k p d a b) else none
  | 0xa => if rm = 0#3 then some (.feq k p d a b) else none
  | 0xb => if rm = 0#3 then some (.flt k p d a b) else none
  | 0xc => if rm = 0#3 then some (.fle k p d a b) else none
  | 0xd => if b = 0#5 ∧ rm = 0#3 then some (.fclass k p d a) else none
  | 0xe => if b = 0#5 ∧ rmOkB rm = true then some (.fcvtL k p rm d a) else none
  | 0xf => if b = 0#5 ∧ rmOkB rm = true then some (.fcvtLu k p rm d a) else none
  | 0x10 => if b = 0#5 ∧ rmOkB rm = true then some (.fcvtW k p rm d a) else none
  | 0x11 => if b = 0#5 ∧ rmOkB rm = true then some (.fcvtWu k p rm d a) else none
  | 0x12 => if b = 0#5 ∧ rmOkB rm = true then some (.fcvtFL k p rm d a) else none
  | 0x13 => if b = 0#5 ∧ rmOkB rm = true then some (.fcvtFLu k p rm d a) else none
  | 0x14 => if b = 0#5 ∧ rmOkB rm = true then some (.fcvtFW k p rm d a) else none
  | 0x15 => if b = 0#5 ∧ rmOkB rm = true then some (.fcvtFWu k p rm d a) else none
  | 0x16 => if b = 0#5 ∧ rmOkB rm = true ∧ (p = false → rm = 0#3) then some (.fcvtP k p rm d a) else none
  | 0x17 => if b = 0#5 ∧ rm = 0#3 then some (.fmvGF k p d a) else none
  | 0x18 => if b = 0#5 ∧ rm = 0#3 then some (.fmvFG k p d a) else none
  | _ => none

/-- Major 0x04 (R124). -/
def decodeFma (k : CoreId) (d a b c : BitVec 5) (op : BitVec 2) (p : Bool) (rm : BitVec 3) : Option Instr :=
  if rmOkB rm then
    match op.toNat with
    | 0 => some (.fmadd k p rm d a b c)
    | 1 => some (.fmsub k p rm d a b c)
    | 2 => some (.fnmadd k p rm d a b c)
    | _ => some (.fnmsub k p rm d a b c)
  else none

/-- Major 0x05 (R128): only ports 0 to 15 are defined. -/
def decodeLane (k : CoreId) (d a b c : BitVec 5) (fn : Nat) : Option Instr :=
  if 16 ≤ b.toNat then none
  else
    match fn with
    | 0 => if d = 0#5 ∧ c = 0#5 then some (.lsend k b a) else none
    | 1 => if d = 0#5 ∧ c = 0#5 then some (.lsendf k b a) else none
    | 2 => if a = 0#5 ∧ c = 0#5 then some (.lrecv k d b) else none
    | 3 => if a = 0#5 ∧ c = 0#5 then some (.lrecvf k d b) else none
    | 4 => if a = 0#5 ∧ c.toNat < 2 then some (.lprobe k d b (c == 1#5)) else none
    | _ => none

/-- Major 0x06 (R132, R134). -/
def decodeSys (k : CoreId) (d a : BitVec 5) (n : BitVec 10) (fn : Nat) : Option Instr :=
  match fn with
  | 1 => if d = 0#5 ∧ a = 0#5 ∧ n = 0#10 then some (.waypt k) else none
  | 2 => if d = 0#5 ∧ a = 0#5 ∧ n = 0#10 then some (.sync k) else none
  | 3 => if d = 0#5 ∧ a = 0#5 then some (.brkpt k n) else none
  | 4 => if d = 0#5 ∧ a = 0#5 then some (.trap k n) else none
  | 5 => if d = 0#5 ∧ a = 0#5 ∧ n = 0#10 then some (.rfe k) else none
  | 6 => if a = 0#5 then some (.mfsr k d n) else none
  | 7 => if d = 0#5 then some (.mtsr k a n) else none
  | 8 => if d = 0#5 ∧ a = 0#5 ∧ n = 0#10 then some (.seal k) else none
  | 9 => if d = 0#5 ∧ a = 0#5 ∧ n = 0#10 then some (.wfi k) else none
  | 0x0A =>
    if n = 0#10 then
      match d.toNat with
      | 0 => some (.cacheInvalIline k a)
      | 1 => some (.cacheWbDline k a)
      | 2 => some (.cacheInvalDline k a)
      | 3 => some (.cacheWbInvalDline k a)
      | 4 => some (.cacheInvalIcache k a)
      | 5 => some (.cacheWbInvalDcache k a)
      | _ => none
    else none
  | _ => none

/-- SHI (R110): imm[7:6] selects the shift, imm[15:8] must be 0. -/
def decodeShi (k : CoreId) (d a : BitVec 5) (imm : BitVec 16) : Option Instr :=
  match (imm.extractLsb' 6 10).toNat with
  | 0 => some (.slli k d a (imm.extractLsb' 0 6))
  | 1 => some (.srli k d a (imm.extractLsb' 0 6))
  | 2 => some (.srai k d a (imm.extractLsb' 0 6))
  | _ => none

/-- The instruction that a word holds, on core k; none for a reserved encoding (R106). -/
def decodeWord (k : CoreId) (w : BitVec 32) : Option Instr :=
  let op := (w.extractLsb' 26 6).toNat
  let d := w.extractLsb' 21 5
  let a := w.extractLsb' 16 5
  let b := w.extractLsb' 11 5
  let c := w.extractLsb' 6 5
  let fn := (w.extractLsb' 0 6).toNat
  let imm := w.extractLsb' 0 16
  let an := w.getLsbD 15
  match op with
  | 0x01 => decodeInt k d a b c fn
  | 0x02 => decodeMuldiv k d a b c fn
  | 0x03 => if w.getLsbD 6 then none else decodeFp k d a b (w.extractLsb' 8 3) (w.getLsbD 7) fn
  | 0x04 => decodeFma k d a b c (w.extractLsb' 4 2) (w.getLsbD 3) (w.extractLsb' 0 3)
  | 0x05 => decodeLane k d a b c fn
  | 0x06 => decodeSys k d a (w.extractLsb' 6 10) fn
  | 0x07 => if w.extractLsb' 0 15 = 0#15 then some (.jalr k d a an) else none
  | 0x8 => some (.addi k d a imm)
  | 0x9 => some (.andi k d a imm)
  | 0xa => some (.ori k d a imm)
  | 0xb => some (.xori k d a imm)
  | 0xc => some (.slti k d a imm)
  | 0xd => some (.sltiu k d a imm)
  | 0x0E => decodeShi k d a imm
  | 0x0F => if a = 0#5 then some (.lui k d imm) else none
  | 0x10 => some (.ldb k d a imm)
  | 0x11 => some (.ldbu k d a imm)
  | 0x12 => some (.ldh k d a imm)
  | 0x13 => some (.ldhu k d a imm)
  | 0x14 => some (.ldw k d a imm)
  | 0x15 => some (.ldwu k d a imm)
  | 0x16 => some (.ldd k d a imm)
  | 0x18 => some (.stb k d a imm)
  | 0x19 => some (.sth k d a imm)
  | 0x1a => some (.stw k d a imm)
  | 0x1b => some (.std k d a imm)
  | 0x1c => some (.flds k d a imm)
  | 0x1d => some (.fldd k d a imm)
  | 0x1e => some (.fsts k d a imm)
  | 0x1f => some (.fstd k d a imm)
  | 0x20 => some (.beq k d a an (w.extractLsb' 0 15))
  | 0x21 => some (.bne k d a an (w.extractLsb' 0 15))
  | 0x22 => some (.blt k d a an (w.extractLsb' 0 15))
  | 0x23 => some (.bge k d a an (w.extractLsb' 0 15))
  | 0x24 => some (.bltu k d a an (w.extractLsb' 0 15))
  | 0x25 => some (.bgeu k d a an (w.extractLsb' 0 15))
  | 0x28 => some (.j k (w.getLsbD 25) (w.extractLsb' 0 25))
  | 0x29 => some (.jal k (w.getLsbD 25) (w.extractLsb' 0 25))
  | _ => none

end Sys2Proof
end

