-- ==== Sys2Proof/Machine/Crypto.lean ====
section
/-! DEFINITION. The functions of the image digest, its signature and the unlock check: SHA-256, ECDSA over P-256 and
HMAC-SHA-256 (R495, R498, R513). The spec names them and their standards; their text is PRESUMED from those standards (log 12). -/

namespace Sys2Proof.Machine

/-! ## SHA-256 -/

def shaK1 : List (BitVec 32) :=
  [0x428a2f98, 0x71374491, 0xb5c0fbcf, 0xe9b5dba5, 0x3956c25b, 0x59f111f1, 0x923f82a4, 0xab1c5ed5,
   0xd807aa98, 0x12835b01, 0x243185be, 0x550c7dc3, 0x72be5d74, 0x80deb1fe, 0x9bdc06a7, 0xc19bf174]
def shaK2 : List (BitVec 32) :=
  [0xe49b69c1, 0xefbe4786, 0x0fc19dc6, 0x240ca1cc, 0x2de92c6f, 0x4a7484aa, 0x5cb0a9dc, 0x76f988da,
   0x983e5152, 0xa831c66d, 0xb00327c8, 0xbf597fc7, 0xc6e00bf3, 0xd5a79147, 0x06ca6351, 0x14292967]
def shaK3 : List (BitVec 32) :=
  [0x27b70a85, 0x2e1b2138, 0x4d2c6dfc, 0x53380d13, 0x650a7354, 0x766a0abb, 0x81c2c92e, 0x92722c85,
   0xa2bfe8a1, 0xa81a664b, 0xc24b8b70, 0xc76c51a3, 0xd192e819, 0xd6990624, 0xf40e3585, 0x106aa070]
def shaK4 : List (BitVec 32) :=
  [0x19a4c116, 0x1e376c08, 0x2748774c, 0x34b0bcb5, 0x391c0cb3, 0x4ed8aa4a, 0x5b9cca4f, 0x682e6ff3,
   0x748f82ee, 0x78a5636f, 0x84c87814, 0x8cc70208, 0x90befffa, 0xa4506ceb, 0xbef9a3f7, 0xc67178f2]

/-- The eight words of the hash. -/
structure Sha where
  a : BitVec 32
  b : BitVec 32
  c : BitVec 32
  d : BitVec 32
  e : BitVec 32
  f : BitVec 32
  g : BitVec 32
  h : BitVec 32
  deriving DecidableEq, Repr

def shaInit : Sha :=
  ⟨0x6a09e667, 0xbb67ae85, 0x3c6ef372, 0xa54ff53a, 0x510e527f, 0x9b05688c, 0x1f83d9ab, 0x5be0cd19⟩

def shaRound (x : Sha) (kw : BitVec 32 × BitVec 32) : Sha :=
  let t1 := x.h + (x.e.rotateRight 6 ^^^ x.e.rotateRight 11 ^^^ x.e.rotateRight 25) + ((x.e &&& x.f) ^^^ (~~~x.e &&& x.g)) + kw.1 + kw.2
  let t2 := (x.a.rotateRight 2 ^^^ x.a.rotateRight 13 ^^^ x.a.rotateRight 22) + ((x.a &&& x.b) ^^^ (x.a &&& x.c) ^^^ (x.b &&& x.c))
  ⟨t1 + t2, x.a, x.b, x.c, x.d + t1, x.e, x.f, x.g⟩

/-- n more words of the message schedule, the newest first. -/
def shaExtend : Nat → List (BitVec 32) → List (BitVec 32)
  | 0, w => w
  | n + 1, w =>
    let x := w.getD 14 0
    let y := w.getD 1 0
    shaExtend n
      (((y.rotateRight 17 ^^^ y.rotateRight 19 ^^^ (y >>> 10)) + w.getD 6 0 +
        (x.rotateRight 7 ^^^ x.rotateRight 18 ^^^ (x >>> 3)) + w.getD 15 0) :: w)

/-- n bytes from an offset as a number, the first byte highest. -/
def beNum (l : List Byte) (o n : Nat) : Nat := ((l.drop o).take n).foldl (fun v b => 256 * v + b.toNat) 0

/-- A number as n bytes, the highest first. -/
def toBe (v : Nat) : Nat → List Byte
  | 0 => []
  | n + 1 => BitVec.ofNat 8 (v / 256 ^ n) :: toBe v n

def shaBlock (h : Sha) (l : List Byte) : Sha :=
  let w := (shaExtend 48 ((List.range 16).map (fun i => BitVec.ofNat 32 (beNum l (4 * i) 4))).reverse).reverse
  let x := ((shaK1 ++ shaK2 ++ shaK3 ++ shaK4).zip w).foldl shaRound h
  ⟨h.a + x.a, h.b + x.b, h.c + x.c, h.d + x.d, h.e + x.e, h.f + x.f, h.g + x.g, h.h + x.h⟩

/-- n blocks of 64 bytes in turn. -/
def shaBlocks (h : Sha) (l : List Byte) : Nat → Sha
  | 0 => h
  | n + 1 => shaBlocks (shaBlock h (l.take 64)) (l.drop 64) n

/-- The message with its padding: a 1 bit, zeros, and its length in bits in the last 8 bytes of a block. -/
def shaPad (l : List Byte) : List Byte :=
  l ++ [0x80] ++ List.replicate ((119 - l.length % 64) % 64) 0 ++ toBe (8 * l.length) 8

/-- The 32 bytes of the SHA-256 of a list of bytes. -/
def shaBytes (l : List Byte) : List Byte :=
  let p := shaPad l
  let h := shaBlocks shaInit p (p.length / 64)
  [h.a, h.b, h.c, h.d, h.e, h.f, h.g, h.h].flatMap (fun w => toBe w.toNat 4)

/-- 32 bytes as a value whose lowest byte is the first: as they lie in memory (R10). -/
def bytes256 (l : List Byte) : BitVec 256 := BitVec.ofNat 256 ((l.take 32).foldr (fun b v => b.toNat + 256 * v) 0)

/-- The SHA-256 of a list of bytes, its first byte lowest (R495). -/
def sha256 (l : List Byte) : BitVec 256 := bytes256 (shaBytes l)

/-- The HMAC-SHA-256 of a message under a key, its first byte lowest (R513). -/
def hmacSha256 (key msg : List Byte) : BitVec 256 :=
  let k := if 64 < key.length then shaBytes key else key
  let k := k ++ List.replicate (64 - k.length) 0
  bytes256 (shaBytes (k.map (· ^^^ 0x5c#8) ++ shaBytes (k.map (· ^^^ 0x36#8) ++ msg)))

/-! ## ECDSA over P-256 -/

def p256P : Nat := 2 ^ 256 - 2 ^ 224 + 2 ^ 192 + 2 ^ 96 - 1
def p256N : Nat := 0xffffffff00000000ffffffffffffffffbce6faada7179e84f3b9cac2fc632551
def p256B : Nat := 0x5ac635d8aa3a93e7b3ebbd55769886bc651d06b0cc53b0f63bce3c3e27d2604b
def p256G : Nat × Nat :=
  (0x6b17d1f2e12c4247f8bce6e563a440f277037d812deb33a0f4a13945d898c296,
   0x4fe342e2fe1a7f9b8ee7eb4a7c0f9e162bce33576b315ececbb6406837bf51f5)

/-- x to the power of the low n bits of e, modulo m. -/
def powMod (x e m : Nat) : Nat → Nat
  | 0 => 1 % m
  | n + 1 =>
    let y := powMod x (e / 2) m n
    let y := y * y % m
    if e % 2 = 1 then y * x % m else y

/-- The inverse modulo a prime of 256 bits. -/
def invMod (x m : Nat) : Nat := powMod (x % m) (m - 2) m 256

/-- The sum of two points; none is the point at infinity. -/
def p256Add : Option (Nat × Nat) → Option (Nat × Nat) → Option (Nat × Nat)
  | none, q => q
  | p, none => p
  | some (x, y), some (u, v) =>
    if x = u ∧ (y + v) % p256P = 0 then none
    else
      let l := if x = u then (3 * x * x + p256P - 3) * invMod (2 * y) p256P % p256P
        else (v + p256P - y) * invMod (u + p256P - x) p256P % p256P
      let z := (l * l + 2 * p256P - x - u) % p256P
      some (z, (l * (x + p256P - z) + p256P - y) % p256P)

/-- The low n bits of k times a point. -/
def p256Mul (k : Nat) (q : Option (Nat × Nat)) : Nat → Option (Nat × Nat)
  | 0 => none
  | n + 1 =>
    let h := p256Mul (k / 2) q n
    let h := p256Add h h
    if k % 2 = 1 then p256Add h q else h

def p256On (q : Nat × Nat) : Bool :=
  decide (q.1 < p256P ∧ q.2 < p256P) && q.2 * q.2 % p256P == (q.1 * q.1 * q.1 + (p256P - 3) * q.1 + p256B) % p256P

/-- Whether 64 bytes r and s are a signature over a digest under the public key of 64 bytes x and y, all big-endian (R495). A key
that is no point of the curve verifies nothing. -/
def ecdsaVerify (digest : List Byte) (sig key : List Byte) : Bool :=
  let r := beNum sig 0 32
  let s := beNum sig 32 32
  let q := (beNum key 0 32, beNum key 32 32)
  if r = 0 ∨ p256N ≤ r ∨ s = 0 ∨ p256N ≤ s ∨ !p256On q then false
  else
    let w := invMod s p256N
    match p256Add (p256Mul (beNum digest 0 32 * w % p256N) (some p256G) 256) (p256Mul (r * w % p256N) (some q) 256) with
    | some (x, _) => x % p256N == r
    | none => false

end Sys2Proof.Machine
end

