-- ==== Sys2Proof/Config.lean ====
section
/-! DEFINITION. What one device fixes and what the spec leaves open: opaque constants, of which no proof can know a
value (notes/assumptions). -/

namespace Sys2Proof.Config

/-- A fresh free value, applied to the counter `State.free` and to the width wanted. -/
opaque freeValue : Nat → (w : Nat) → BitVec w

/-- The byte of the boot ROM at an offset: its contents are not given by the spec. -/
opaque bootRomByte : Nat → Byte

/-- The boot ROM version of HW_REV.ROM ("per ROM"). -/
opaque romVersion : BitVec 8

/-- The device unique ID of SEC_DEVID ("per device"). -/
opaque deviceId : BitVec 64

/-- The level a pad's readers see while the device and an outside driver contend (R342: indeterminate), or while nothing drives
or pulls it, or a pull and a resistor outside pull it apart (the spec states no level). -/
opaque padContention : Nat → Nat → Bool

/-- The bytes that the formation digest hashes (R235), from the digest of the image and the values of the registers and maps, in the
rule's order: how each is laid out in bytes the spec does not give. -/
opaque formationBytes : List Nat → List Byte

/-- The changeover digest of the given contents (R267): CRC-32 over bytes whose layout the spec does not give. -/
opaque changeoverDigest : List Nat → BitVec 32

/-- The TYPE of the control frames that carry a request to the leader or donor, or the leader's named instant: R258 and R264 have
them sent, and R240 lists no TYPE for them. -/
opaque requestType : Nat

/-- A word of the layby buffer that nothing has written since power-on: indeterminate (R487). -/
opaque laybyRam : Nat → Word

/-- Whether the maps of an image pass the checks of boot step 9 (R498): the layout of its sections is not given. -/
opaque imageMapsOk : List Byte → Bool

/-- Whether an image assigns a tile to its quadrant's partition (R149, R212): the layout of the sections that say so is not given. -/
opaque imageTile : List Byte → Nat → Bool

/-- The boot ROM's wake entry (R447): its address is not given. -/
opaque wakeEntry : Addr

end Sys2Proof.Config
end

