-- ==== Sys2Proof/Machine/Map.lean ====
section
/-! DEFINITION. The register map of the peripheral blocks and of the host window: every register table of spec/ as
an address, its field positions, access codes (R13) and reset values. The addresses are those of R37 and R40; a
host window register HW_* stands at HST base + 4 × its word address (15_host_port.md). -/

namespace Sys2Proof.Machine

/-- The access codes of R13. -/
inductive Acc where
  | rw | ro | wo | w1c | w1s | rc | rwl | rov
  deriving DecidableEq, Repr

/-- A field of a register of the map: its bits, its access code and its reset value. -/
structure FieldD where
  hi : Nat
  lo : Nat
  acc : Acc
  reset : Nat
  deriving DecidableEq, Repr

/-- A bit range of the register at an address. -/
structure Loc where
  addr : Nat
  hi : Nat
  lo : Nat
  deriving DecidableEq, Repr

/-- The registers of the map by name; an array of registers is one name. -/
inductive Reg where
  | DMA_ERR | DMA_ERR_ADDR | DMA_RW_BUSY | DMA_SRC | DMA_DST | DMA_LEN
  | DMA_CTL | DMA_STAT | HW_SEAL_STATUS | SYS_CR_PAGE | SYS_CR_VIEW | SYS_CR_CTL
  | SYS_MPU_BASE | SYS_MPU_LIMIT | SYS_MPU_ATTR | SYS_SC_SEAL | SYS_ECC_CORR | SYS_MEM_ERR
  | SYS_MEM_ERR_ADDR | LANE_CFG | LANE_CNT_LO | LANE_CNT_HI | LANE_AUDIT_CTL | LANE_AUDIT_STATUS
  | LANE_AUDIT_LANE | LANE_AUDIT_VALUE | LANE_FAULT | LANE_FAULT_COUNT | LANE_ERR | LANE_CLEAR
  | LANE_ECC | WPT_PERIOD | WPT_PHASE | WPT_GUARD | WPT_POLICY | WPT_SNAP_LEN
  | WPT_PCMD | WPT_PSTATE | WPT_WNUM | WPT_NEXT | WPT_LATE_COUNT | WPT_SKIPPED
  | WPT_FAULT_REC | WPT_FAULT_PC | WPT_FAULT_ADDR | WPT_FAULT_WNUM | WPT_CO_CTL | WPT_CO_WNUM
  | WPT_CO_LANES | WPT_CO_STATUS | WPT_CO_TILES | WPT_PART_MAP | WPT_MAP_ADDR | WPT_MAP_DATA
  | WPT_STAGE_SRC | WPT_STAGE_CTL | WPT_ERR | WPT_BANK | WPT_STAGED | WPT_SVCIN
  | WPT_MIRROR | CVY_CFG | CVY_CTL | CVY_STATE | CVY_SHOULDER_REC | CVY_SHOULDER_COUNT
  | CVY_ERR | CVY_ALIGN | CVY_TRIM | CVY_TIME_OFS | CVY_PORT_CTL | CVY_PORT_STATUS
  | CVY_PORT_ERR | CVY_PORT_DOWNS | CVY_INWIN | CVY_OUTCOUNT | CVY_XSTAT | CVY_IN_DIS
  | CVY_NOMAJ | CVY_AMAP_ADDR | CVY_AMAP_DATA | CVY_MERGE_CTL | CVY_MERGE_LIMIT | CVY_MERGE_STATUS
  | CVY_MERGE_WNUM | ADC_REF | ADC_ERR | ADC_TRIGCFG | ADC_TRIGLEAD | ADC_TRIGDIV
  | ADC_TRIGSW | ADC_SCFG | ADC_SSEQ | ADC_SSTAT | ADC_SIEN | ADC_RBASE
  | ADC_RCTL | ADC_RWPTR | ADC_RRPTR | ADC_RDROP | ADC_LATEST | CAL_CTL
  | CAL_CMD | CAL_STATUS | CAL_GROUP | CAL_LIVE | CAL_LIVE_SP | CAL_COEF_ADDR
  | CAL_COEF_DATA | IOS_CTL | IOS_CLKDIV | IOS_PINA | IOS_PINB | IOS_OPT
  | IOS_OWNER | IOS_STAT | IOS_IEN | IOS_FSTAT | IOS_TXF | IOS_RXF
  | IOS_CNT | IOS_ACC | IOS_SND | IOS_CAP | IOS_PC | IOS_RELOAD
  | IOS_CMP | IOS_FILLW | IOS_BITS | IOS_PMAP | IOS_SLOT | IOS_GO
  | IOS_ERR | IOS_FLAGS | IOS_FLAGSET | IOS_FLAGCLR | PIN_CFG | PIN_OUT_LO
  | PIN_OUT_HI | PIN_DIR_LO | PIN_DIR_HI | PIN_OUTV | PIN_DIRV | PIN_IN
  | PIN_BANKSTAT | PIN_EVCFG | PIN_EVTS | PIN_STAT | PIN_ERR | PIN_NOWN_COUNT
  | ICU_PRIO | ICU_EN | ICU_EN_SET | ICU_EN_CLR | ICU_PEND | ICU_PEND_SET
  | ICU_PEND_CLR | ICU_ACTIVE | ICU_THR | ICU_THR_SET | ICU_THR_CLR | ICU_CLAIM
  | ICU_COMPLETE | ICU_LATCH | ICU_ERR | FLC_CMD | FLC_RESULT | FLC_ADDR
  | FLC_CFG | FLC_STAT | FLC_IEN | FLC_CORR | FLC_REFRESH | FLC_UNCORR
  | FLC_XO_FAULT | FLC_BSTAT | FLC_PEND | FLC_BUF | FLC_XO | XSP_CTL
  | XSP_CLKDIV | XSP_STATUS | XSP_IEN | XSP_ERR | XSP_ERR_ADDR | XSP_MAN_CTL
  | XSP_MAN_FMT | XSP_MAN_ADDR | XSP_MAN_DATA | XSP_CSCFG | XSP_CSTIME | XSP_RD_FMT
  | XSP_WR_FMT | XSP_WREN_FMT | XSP_STAT_FMT | XSP_POLL | HW_ID | HW_REV
  | HW_STATE | HW_STATUS | HW_ATTN_MASK | HW_ATTN_CLR | HW_CMD | HW_CMD_ARG0
  | HW_CMD_ARG1 | HW_CMD_RESULT | HW_ERR | HW_ERR_ADDR | HW_MBX_IN_DATA | HW_MBX_IN_LEVEL
  | HW_MBX_OUT_DATA | HW_MBX_OUT_LEVEL | HW_WIN_ADDR_LO | HW_WIN_ADDR_HI | HW_WIN_DATA | HW_WIN_CTL
  | HW_PART_STATE | HW_CONVOY | HW_WPT_COUNT_LO | HW_WPT_COUNT_HI | HW_WPT_LATE | HW_WDG_LADDER
  | HW_RESET_CAUSE | HW_LAYBY_STATUS | HW_FLASH_STATUS | HW_TEMP | HW_SUPPLY | HW_UNLOCK_CHAL
  | HW_UNLOCK_RESP | HW_SCRATCH | HW_BOOT_CFG | HW_IMAGE_INFO | HW_EVENT_LOG_DATA | HW_EVENT_LOG_LEVEL
  | HW_BURST_CTL | HW_HEARTBEAT | HW_CAL_STATUS | HW_POWER_STATE | HW_WAKE_CAUSE | HW_SIGNATURE
  | HST_MBX_IN | HST_MBX_OUT | HST_CMD | HST_DONE | HST_LOG | HST_BEAT
  | HST_IRQ | SYS_CLK_CTL | SYS_CLK_STAT | SYS_PLL_CTL | SYS_AON_CFG | PWR_OPP_CTL
  | PWR_OPP_STAT | PWR_VID_OPP | PWR_VID | PWR_VRDY_CFG | PWR_DOM_CTL | PWR_DOM_STAT
  | PWR_SLEEP_CTL | PWR_RETAIN | PWR_WAKE_EN | PWR_HS_CFG | PWR_HS_STAT | PWR_AON_CNT
  | PWR_AON_CMP | PWR_SLEEP_TIME | PWR_THERM | PWR_IRQ | PWR_ERR | TMP_TEMP
  | TMP_SUPPLY | TMP_PEAK | TMP_CTL | LAY_CTL | LAY_STAT | LAY_PREP
  | LAY_RESTORE | LAY_SLOT | LAY_IRQ | WDG_CTL | WDG_OPEN | WDG_CLOSE
  | WDG_WARN | WDG_QUESTION | WDG_MILESTONE | WDG_TOKEN | WDG_COUNT | WDG_STAT
  | WDG_FAULT | WDG_FAULT_SIG | WDG_LEDGER | WDG_LADDER | SYS_TILE_CFG | SYS_SC_START
  | SYS_SC_ENTRY | SEC_LOCK | SEC_STAT | SEC_MANIFEST | SEC_HOSTWIN | SEC_RNG_DATA
  | SEC_RNG_STAT | SEC_ERR | SEC_DEVID_LO | SEC_DEVID_HI | SEC_PINLOCK | DBG_ID
  | DBG_LEVEL | DBG_CTL | DBG_ERR | DBG_CHAL | DBG_RESP | DBG_HALT
  | DBG_RESUME | DBG_HALTED | DBG_FRZ_IOS | DBG_FRZ_ADC | DBG_FRZ_UNIT | DBG_SEL
  | DBG_CSTAT | DBG_DPC | DBG_DNPC | DBG_REG_SEL | DBG_REG_DATA | DBG_FEED
  | DBG_FEED_STAT | DBG_AC_LO | DBG_AC_HI | DBG_AC_CTL | DBG_DW_VAL | DBG_DW_MASK
  | DBG_DW_CTL | DBG_MEM_ADDR | DBG_MEM_DATA | DBG_MEM_CTL
  deriving DecidableEq, Repr

/-- One row of the map: the register, the address of its first instance, its two index ranges (count and stride,
1 and 0 where it has no such index), whether it is 64 bits wide (R12), and its fields without the reserved ones. -/
structure RegD where
  reg : Reg
  base : Nat
  n1 : Nat
  s1 : Nat
  n2 : Nat
  s2 : Nat
  wide : Bool
  fields : List FieldD
  deriving DecidableEq, Repr

/-! Addresses, one function per register; the arguments are the indices of the register's heading. -/
namespace A

/-- refusal and failure record (01_architecture.md). -/
def DMA_ERR : Nat := 0x40110000
/-- failing address, 64 bits (01_architecture.md). -/
def DMA_ERR_ADDR : Nat := 0x40110008
/-- ring writers holding entries (01_architecture.md). -/
def DMA_RW_BUSY : Nat := 0x40110010
/-- source address, 64 bits (01_architecture.md). -/
def DMA_SRC (g : Nat) : Nat := 0x40110100 + 0x40 * g
/-- destination address, 64 bits (01_architecture.md). -/
def DMA_DST (g : Nat) : Nat := 0x40110108 + 0x40 * g
/-- bytes remaining (01_architecture.md). -/
def DMA_LEN (g : Nat) : Nat := 0x40110110 + 0x40 * g
/-- channel control (01_architecture.md). -/
def DMA_CTL (g : Nat) : Nat := 0x40110114 + 0x40 * g
/-- channel status (01_architecture.md). -/
def DMA_STAT (g : Nat) : Nat := 0x40110118 + 0x40 * g
/-- seal and guarantee status (02_determinism.md). -/
def HW_SEAL_STATUS : Nat := 0x400d00b8
/-- constant region depot page (05_tile_memory.md). -/
def SYS_CR_PAGE (n : Nat) : Nat := 0x40001400 + 0x10 * n
/-- constant region tile-view page (05_tile_memory.md). -/
def SYS_CR_VIEW (n : Nat) : Nat := 0x40001404 + 0x10 * n
/-- constant region control (05_tile_memory.md). -/
def SYS_CR_CTL (n : Nat) : Nat := 0x40001408 + 0x10 * n
/-- region base (05_tile_memory.md). -/
def SYS_MPU_BASE (k : Nat) (r : Nat) : Nat := 0x40001000 + 0x100 * k + 0x10 * r
/-- region limit (05_tile_memory.md). -/
def SYS_MPU_LIMIT (k : Nat) (r : Nat) : Nat := 0x40001004 + 0x100 * k + 0x10 * r
/-- region attributes (05_tile_memory.md). -/
def SYS_MPU_ATTR (k : Nat) (r : Nat) : Nat := 0x40001008 + 0x100 * k + 0x10 * r
/-- service-core sealed context status (05_tile_memory.md). -/
def SYS_SC_SEAL (k : Nat) : Nat := 0x40001500 + 0x4 * k
/-- corrected error count (05_tile_memory.md). -/
def SYS_ECC_CORR : Nat := 0x40001510
/-- first uncorrectable error (05_tile_memory.md). -/
def SYS_MEM_ERR : Nat := 0x40001514
/-- uncorrectable error address, 64 bits (05_tile_memory.md). -/
def SYS_MEM_ERR_ADDR : Nat := 0x40001518
/-- lane configuration (06_lanes_tolls.md). -/
def LANE_CFG (L : Nat) : Nat := 0x40030000 + 0x4 * L
/-- sender-side books (06_lanes_tolls.md). -/
def LANE_CNT_LO (L : Nat) : Nat := 0x40035000 + 0x8 * L
/-- receiver-side books (06_lanes_tolls.md). -/
def LANE_CNT_HI (L : Nat) : Nat := 0x40035004 + 0x8 * L
/-- audit control (06_lanes_tolls.md). -/
def LANE_AUDIT_CTL : Nat := 0x4003e000
/-- audit status (06_lanes_tolls.md). -/
def LANE_AUDIT_STATUS : Nat := 0x4003e004
/-- first imbalanced lane (06_lanes_tolls.md). -/
def LANE_AUDIT_LANE : Nat := 0x4003e008
/-- imbalance values (06_lanes_tolls.md). -/
def LANE_AUDIT_VALUE : Nat := 0x4003e00c
/-- first lane fault (06_lanes_tolls.md). -/
def LANE_FAULT : Nat := 0x4003e010
/-- lane fault count (06_lanes_tolls.md). -/
def LANE_FAULT_COUNT : Nat := 0x4003e014
/-- configuration refusal (06_lanes_tolls.md). -/
def LANE_ERR : Nat := 0x4003e018
/-- partition lane clear (06_lanes_tolls.md). -/
def LANE_CLEAR : Nat := 0x4003e01c
/-- corrected flit errors (06_lanes_tolls.md). -/
def LANE_ECC : Nat := 0x4003e020
/-- waypoint period (07_waypoints_partitions.md). -/
def WPT_PERIOD (p : Nat) : Nat := 0x40020000 + 0x100 * p
/-- waypoint phase (07_waypoints_partitions.md). -/
def WPT_PHASE (p : Nat) : Nat := 0x40020004 + 0x100 * p
/-- release guard (07_waypoints_partitions.md). -/
def WPT_GUARD (p : Nat) : Nat := 0x40020008 + 0x100 * p
/-- late and fault policy (07_waypoints_partitions.md). -/
def WPT_POLICY (p : Nat) : Nat := 0x4002000c + 0x100 * p
/-- snapshot length (07_waypoints_partitions.md). -/
def WPT_SNAP_LEN (p : Nat) : Nat := 0x40020010 + 0x100 * p
/-- partition command (07_waypoints_partitions.md). -/
def WPT_PCMD (p : Nat) : Nat := 0x40020014 + 0x100 * p
/-- partition state (07_waypoints_partitions.md). -/
def WPT_PSTATE (p : Nat) : Nat := 0x40020018 + 0x100 * p
/-- waypoint number, 64 bits (07_waypoints_partitions.md). -/
def WPT_WNUM (p : Nat) : Nat := 0x40020020 + 0x100 * p
/-- next scheduled instant, 64 bits (07_waypoints_partitions.md). -/
def WPT_NEXT (p : Nat) : Nat := 0x40020028 + 0x100 * p
/-- late waypoints (07_waypoints_partitions.md). -/
def WPT_LATE_COUNT (p : Nat) : Nat := 0x40020030 + 0x100 * p
/-- skipped snapshots (07_waypoints_partitions.md). -/
def WPT_SKIPPED (p : Nat) : Nat := 0x40020034 + 0x100 * p
/-- partition fault record (07_waypoints_partitions.md). -/
def WPT_FAULT_REC (p : Nat) : Nat := 0x40020040 + 0x100 * p
/-- faulting tile resume address, 64 bits (07_waypoints_partitions.md). -/
def WPT_FAULT_PC (p : Nat) : Nat := 0x40020048 + 0x100 * p
/-- faulting tile address, 64 bits (07_waypoints_partitions.md). -/
def WPT_FAULT_ADDR (p : Nat) : Nat := 0x40020050 + 0x100 * p
/-- faulted scan, 64 bits (07_waypoints_partitions.md). -/
def WPT_FAULT_WNUM (p : Nat) : Nat := 0x40020058 + 0x100 * p
/-- changeover control (07_waypoints_partitions.md). -/
def WPT_CO_CTL (p : Nat) : Nat := 0x40020060 + 0x100 * p
/-- changeover waypoint, 64 bits (07_waypoints_partitions.md). -/
def WPT_CO_WNUM (p : Nat) : Nat := 0x40020068 + 0x100 * p
/-- lane list address, 64 bits (07_waypoints_partitions.md). -/
def WPT_CO_LANES (p : Nat) : Nat := 0x40020070 + 0x100 * p
/-- changeover status (07_waypoints_partitions.md). -/
def WPT_CO_STATUS (p : Nat) : Nat := 0x40020078 + 0x100 * p
/-- changeover tile set (07_waypoints_partitions.md). -/
def WPT_CO_TILES (p : Nat) (k : Nat) : Nat := 0x40020080 + 0x100 * p + 0x4 * k
/-- quadrant assignment (07_waypoints_partitions.md). -/
def WPT_PART_MAP : Nat := 0x40020800
/-- map entry address (07_waypoints_partitions.md). -/
def WPT_MAP_ADDR : Nat := 0x40020804
/-- map entry data (07_waypoints_partitions.md). -/
def WPT_MAP_DATA : Nat := 0x40020808
/-- staging source, 64 bits (07_waypoints_partitions.md). -/
def WPT_STAGE_SRC : Nat := 0x40020810
/-- staging control (07_waypoints_partitions.md). -/
def WPT_STAGE_CTL : Nat := 0x40020818
/-- configuration refusal (07_waypoints_partitions.md). -/
def WPT_ERR : Nat := 0x4002081c
/-- active code bank (07_waypoints_partitions.md). -/
def WPT_BANK (k : Nat) : Nat := 0x40020840 + 0x4 * k
/-- staged shadow banks (07_waypoints_partitions.md). -/
def WPT_STAGED (k : Nat) : Nat := 0x40020860 + 0x4 * k
/-- service input words, 64 bits (07_waypoints_partitions.md). -/
def WPT_SVCIN (p : Nat) (i : Nat) : Nat := 0x40024000 + 0x800 * p + 0x8 * i
/-- release mirror, 64 bits (07_waypoints_partitions.md). -/
def WPT_MIRROR (p : Nat) (i : Nat) : Nat := 0x40028000 + 0x2000 * p + 0x8 * i
/-- convoy configuration (08_convoy.md). -/
def CVY_CFG : Nat := 0x400c0000
/-- convoy control (08_convoy.md). -/
def CVY_CTL : Nat := 0x400c0004
/-- convoy state (08_convoy.md). -/
def CVY_STATE : Nat := 0x400c0008
/-- first shoulder record (08_convoy.md). -/
def CVY_SHOULDER_REC : Nat := 0x400c000c
/-- shoulder count (08_convoy.md). -/
def CVY_SHOULDER_COUNT : Nat := 0x400c0010
/-- convoy refusal (08_convoy.md). -/
def CVY_ERR : Nat := 0x400c0014
/-- time alignment (08_convoy.md). -/
def CVY_ALIGN : Nat := 0x400c0020
/-- PLL trim (08_convoy.md). -/
def CVY_TRIM : Nat := 0x400c0024
/-- leader time offset, 64 bits (08_convoy.md). -/
def CVY_TIME_OFS : Nat := 0x400c0028
/-- port control (08_convoy.md). -/
def CVY_PORT_CTL (j : Nat) : Nat := 0x400c0100 + 0x40 * j
/-- port status (08_convoy.md). -/
def CVY_PORT_STATUS (j : Nat) : Nat := 0x400c0104 + 0x40 * j
/-- port error counts (08_convoy.md). -/
def CVY_PORT_ERR (j : Nat) : Nat := 0x400c0108 + 0x40 * j
/-- port down count (08_convoy.md). -/
def CVY_PORT_DOWNS (j : Nat) : Nat := 0x400c010c + 0x40 * j
/-- input window (08_convoy.md). -/
def CVY_INWIN (p : Nat) : Nat := 0x400c0200 + 0x40 * p
/-- output vector length (08_convoy.md). -/
def CVY_OUTCOUNT (p : Nat) : Nat := 0x400c0204 + 0x40 * p
/-- exchange timing (08_convoy.md). -/
def CVY_XSTAT (p : Nat) : Nat := 0x400c0208 + 0x40 * p
/-- input disagreements (08_convoy.md). -/
def CVY_IN_DIS (p : Nat) : Nat := 0x400c020c + 0x40 * p
/-- no-majority counts (08_convoy.md). -/
def CVY_NOMAJ (p : Nat) : Nat := 0x400c0210 + 0x40 * p
/-- agreement map address (08_convoy.md). -/
def CVY_AMAP_ADDR : Nat := 0x400c0400
/-- agreement map entry (08_convoy.md). -/
def CVY_AMAP_DATA : Nat := 0x400c0404
/-- merge control (08_convoy.md). -/
def CVY_MERGE_CTL : Nat := 0x400c0500
/-- merge limit (08_convoy.md). -/
def CVY_MERGE_LIMIT : Nat := 0x400c0504
/-- merge status (08_convoy.md). -/
def CVY_MERGE_STATUS : Nat := 0x400c0508
/-- merge waypoint, 64 bits (08_convoy.md). -/
def CVY_MERGE_WNUM : Nat := 0x400c0510
/-- reference control (09_analog_conversion.md). -/
def ADC_REF : Nat := 0x40070000
/-- configuration refusal (09_analog_conversion.md). -/
def ADC_ERR : Nat := 0x40070004
/-- trigger source (09_analog_conversion.md). -/
def ADC_TRIGCFG (i : Nat) : Nat := 0x40070010 + 0x10 * i
/-- trigger lead (09_analog_conversion.md). -/
def ADC_TRIGLEAD (i : Nat) : Nat := 0x40070014 + 0x10 * i
/-- sub-waypoint interval (09_analog_conversion.md). -/
def ADC_TRIGDIV (i : Nat) : Nat := 0x40070018 + 0x10 * i
/-- software trigger (09_analog_conversion.md). -/
def ADC_TRIGSW (i : Nat) : Nat := 0x4007001c + 0x10 * i
/-- slice configuration (09_analog_conversion.md). -/
def ADC_SCFG (s : Nat) : Nat := 0x40071000 + 0x40 * s
/-- slice sequence (09_analog_conversion.md). -/
def ADC_SSEQ (s : Nat) : Nat := 0x40071004 + 0x40 * s
/-- slice status (09_analog_conversion.md). -/
def ADC_SSTAT (s : Nat) : Nat := 0x40071008 + 0x40 * s
/-- slice interrupt enable (09_analog_conversion.md). -/
def ADC_SIEN (s : Nat) : Nat := 0x4007100c + 0x40 * s
/-- ring base, 64 bits (09_analog_conversion.md). -/
def ADC_RBASE (s : Nat) : Nat := 0x40071010 + 0x40 * s
/-- ring control (09_analog_conversion.md). -/
def ADC_RCTL (s : Nat) : Nat := 0x40071018 + 0x40 * s
/-- ring write count (09_analog_conversion.md). -/
def ADC_RWPTR (s : Nat) : Nat := 0x4007101c + 0x40 * s
/-- ring read count (09_analog_conversion.md). -/
def ADC_RRPTR (s : Nat) : Nat := 0x40071020 + 0x40 * s
/-- lost ring entries (09_analog_conversion.md). -/
def ADC_RDROP (s : Nat) : Nat := 0x40071024 + 0x40 * s
/-- latest-sample word, 64 bits (09_analog_conversion.md). -/
def ADC_LATEST (i : Nat) : Nat := 0x40074000 + 0x8 * i
/-- rotation control (09_analog_conversion.md). -/
def CAL_CTL : Nat := 0x40120000
/-- calibration command (09_analog_conversion.md). -/
def CAL_CMD : Nat := 0x40120004
/-- calibration status (09_analog_conversion.md). -/
def CAL_STATUS : Nat := 0x40120008
/-- group rotation status (09_analog_conversion.md). -/
def CAL_GROUP (g : Nat) : Nat := 0x40120010 + 0x4 * g
/-- live record status (09_analog_conversion.md). -/
def CAL_LIVE : Nat := 0x40120020
/-- spare live record status (09_analog_conversion.md). -/
def CAL_LIVE_SP : Nat := 0x40120024
/-- coefficient window address (09_analog_conversion.md). -/
def CAL_COEF_ADDR : Nat := 0x40120028
/-- coefficient window data (09_analog_conversion.md). -/
def CAL_COEF_DATA : Nat := 0x4012002c
/-- engine control (10_io_sequencers.md). -/
def IOS_CTL (e : Nat) : Nat := 0x40080000 + 0x100 * e
/-- step divider (10_io_sequencers.md). -/
def IOS_CLKDIV (e : Nat) : Nat := 0x40080004 + 0x100 * e
/-- output and input groups (10_io_sequencers.md). -/
def IOS_PINA (e : Nat) : Nat := 0x40080008 + 0x100 * e
/-- set, strobe and condition pins (10_io_sequencers.md). -/
def IOS_PINB (e : Nat) : Nat := 0x4008000c + 0x100 * e
/-- engine options (10_io_sequencers.md). -/
def IOS_OPT (e : Nat) : Nat := 0x40080010 + 0x100 * e
/-- engine owner (10_io_sequencers.md). -/
def IOS_OWNER (e : Nat) : Nat := 0x40080014 + 0x100 * e
/-- engine status (10_io_sequencers.md). -/
def IOS_STAT (e : Nat) : Nat := 0x40080018 + 0x100 * e
/-- interrupt enable (10_io_sequencers.md). -/
def IOS_IEN (e : Nat) : Nat := 0x4008001c + 0x100 * e
/-- FIFO status (10_io_sequencers.md). -/
def IOS_FSTAT (e : Nat) : Nat := 0x40080020 + 0x100 * e
/-- transmit push (10_io_sequencers.md). -/
def IOS_TXF (e : Nat) : Nat := 0x40080024 + 0x100 * e
/-- receive pop (10_io_sequencers.md). -/
def IOS_RXF (e : Nat) : Nat := 0x40080028 + 0x100 * e
/-- loop counter and accumulator (10_io_sequencers.md). -/
def IOS_CNT (e : Nat) : Nat := 0x4008002c + 0x100 * e
/-- loop counter and accumulator (10_io_sequencers.md). -/
def IOS_ACC (e : Nat) : Nat := 0x40080030 + 0x100 * e
/-- send and capture shifters (10_io_sequencers.md). -/
def IOS_SND (e : Nat) : Nat := 0x40080034 + 0x100 * e
/-- send and capture shifters (10_io_sequencers.md). -/
def IOS_CAP (e : Nat) : Nat := 0x40080038 + 0x100 * e
/-- program position (10_io_sequencers.md). -/
def IOS_PC (e : Nat) : Nat := 0x4008003c + 0x100 * e
/-- loop reload value (10_io_sequencers.md). -/
def IOS_RELOAD (e : Nat) : Nat := 0x40080040 + 0x100 * e
/-- accumulator compare value (10_io_sequencers.md). -/
def IOS_CMP (e : Nat) : Nat := 0x40080044 + 0x100 * e
/-- fill word (10_io_sequencers.md). -/
def IOS_FILLW (e : Nat) : Nat := 0x40080048 + 0x100 * e
/-- shifter bit counts (10_io_sequencers.md). -/
def IOS_BITS (e : Nat) : Nat := 0x4008004c + 0x100 * e
/-- pin slots (10_io_sequencers.md). -/
def IOS_PMAP (e : Nat) (k : Nat) : Nat := 0x40080060 + 0x100 * e + 0x4 * k
/-- instruction slots (10_io_sequencers.md). -/
def IOS_SLOT (e : Nat) (i : Nat) : Nat := 0x40080080 + 0x100 * e + 0x4 * i
/-- group start (10_io_sequencers.md). -/
def IOS_GO (k : Nat) : Nat := 0x4008f000 + 0x4 * k
/-- refusal record (10_io_sequencers.md). -/
def IOS_ERR : Nat := 0x4008f010
/-- group flags (10_io_sequencers.md). -/
def IOS_FLAGS (k : Nat) : Nat := 0x4008f100 + 0x4 * k
/-- flag set and clear (10_io_sequencers.md). -/
def IOS_FLAGSET (k : Nat) : Nat := 0x4008f110 + 0x4 * k
/-- flag set and clear (10_io_sequencers.md). -/
def IOS_FLAGCLR (k : Nat) : Nat := 0x4008f120 + 0x4 * k
/-- pin configuration (11_pins.md). -/
def PIN_CFG (n : Nat) : Nat := 0x40090000 + 0x4 * n
/-- output latch masked write (11_pins.md). -/
def PIN_OUT_LO (b : Nat) : Nat := 0x40091000 + 0x40 * b
/-- output latch masked write (11_pins.md). -/
def PIN_OUT_HI (b : Nat) : Nat := 0x40091004 + 0x40 * b
/-- direction masked write (11_pins.md). -/
def PIN_DIR_LO (b : Nat) : Nat := 0x40091008 + 0x40 * b
/-- direction masked write (11_pins.md). -/
def PIN_DIR_HI (b : Nat) : Nat := 0x4009100c + 0x40 * b
/-- output latch (11_pins.md). -/
def PIN_OUTV (b : Nat) : Nat := 0x40091010 + 0x40 * b
/-- direction latch (11_pins.md). -/
def PIN_DIRV (b : Nat) : Nat := 0x40091014 + 0x40 * b
/-- input levels (11_pins.md). -/
def PIN_IN (b : Nat) : Nat := 0x40091018 + 0x40 * b
/-- bank supply (11_pins.md). -/
def PIN_BANKSTAT (b : Nat) : Nat := 0x4009101c + 0x40 * b
/-- pin event line (11_pins.md). -/
def PIN_EVCFG (k : Nat) : Nat := 0x40092000 + 0x10 * k
/-- event time, 64 bits (11_pins.md). -/
def PIN_EVTS (k : Nat) : Nat := 0x40092008 + 0x10 * k
/-- pin block status (11_pins.md). -/
def PIN_STAT : Nat := 0x40093000
/-- refusal record (11_pins.md). -/
def PIN_ERR : Nat := 0x40093004
/-- non-owner writes (11_pins.md). -/
def PIN_NOWN_COUNT : Nat := 0x40093008
/-- source priority (12_interrupts.md). -/
def ICU_PRIO (id : Nat) : Nat := 0x40040000 + 0x4 * id
/-- enables of SCk (12_interrupts.md). -/
def ICU_EN (k : Nat) (w : Nat) : Nat := 0x40041000 + 0x40 * k + 0x4 * w
/-- enable set and clear (12_interrupts.md). -/
def ICU_EN_SET (k : Nat) (w : Nat) : Nat := 0x40041100 + 0x40 * k + 0x4 * w
/-- enable set and clear (12_interrupts.md). -/
def ICU_EN_CLR (k : Nat) (w : Nat) : Nat := 0x40041200 + 0x40 * k + 0x4 * w
/-- pending (12_interrupts.md). -/
def ICU_PEND (w : Nat) : Nat := 0x40041300 + 0x4 * w
/-- pending set and clear (12_interrupts.md). -/
def ICU_PEND_SET (w : Nat) : Nat := 0x40041340 + 0x4 * w
/-- pending set and clear (12_interrupts.md). -/
def ICU_PEND_CLR (w : Nat) : Nat := 0x40041380 + 0x4 * w
/-- in service (12_interrupts.md). -/
def ICU_ACTIVE (w : Nat) : Nat := 0x400413c0 + 0x4 * w
/-- threshold of SCk (12_interrupts.md). -/
def ICU_THR (k : Nat) : Nat := 0x40042000 + 0x20 * k
/-- threshold raise and lower (12_interrupts.md). -/
def ICU_THR_SET (k : Nat) : Nat := 0x40042004 + 0x20 * k
/-- threshold raise and lower (12_interrupts.md). -/
def ICU_THR_CLR (k : Nat) : Nat := 0x40042008 + 0x20 * k
/-- claim for SCk (12_interrupts.md). -/
def ICU_CLAIM (k : Nat) : Nat := 0x4004200c + 0x20 * k
/-- completion for SCk (12_interrupts.md). -/
def ICU_COMPLETE (k : Nat) : Nat := 0x40042010 + 0x20 * k
/-- delivered ID of SCk (12_interrupts.md). -/
def ICU_LATCH (k : Nat) : Nat := 0x40042014 + 0x20 * k
/-- refusal record (12_interrupts.md). -/
def ICU_ERR : Nat := 0x40042100
/-- command (13_flash.md). -/
def FLC_CMD : Nat := 0x40060000
/-- last command check (13_flash.md). -/
def FLC_RESULT : Nat := 0x40060004
/-- target address, 64 bits (13_flash.md). -/
def FLC_ADDR : Nat := 0x40060008
/-- suspend configuration (13_flash.md). -/
def FLC_CFG : Nat := 0x40060010
/-- controller status (13_flash.md). -/
def FLC_STAT : Nat := 0x40060014
/-- interrupt enable (13_flash.md). -/
def FLC_IEN : Nat := 0x40060018
/-- correction counts (13_flash.md). -/
def FLC_CORR : Nat := 0x4006001c
/-- first word flagged for refresh, 64 bits (13_flash.md). -/
def FLC_REFRESH : Nat := 0x40060020
/-- first uncorrectable word, 64 bits (13_flash.md). -/
def FLC_UNCORR : Nat := 0x40060028
/-- first execute-only refusal, 64 bits (13_flash.md). -/
def FLC_XO_FAULT : Nat := 0x40060030
/-- bank engine status (13_flash.md). -/
def FLC_BSTAT (k : Nat) : Nat := 0x40060040 + 0x4 * k
/-- pending sectors (13_flash.md). -/
def FLC_PEND (i : Nat) : Nat := 0x40060080 + 0x4 * i
/-- program buffer (13_flash.md). -/
def FLC_BUF (i : Nat) : Nat := 0x40060100 + 0x4 * i
/-- execute-only region (13_flash.md). -/
def FLC_XO (r : Nat) : Nat := 0x40060200 + 0x4 * r
/-- port control (14_external_memory_ports.md). -/
def XSP_CTL (x : Nat) : Nat := 0x400a0000 + 0x10000 * x
/-- clock dividers (14_external_memory_ports.md). -/
def XSP_CLKDIV (x : Nat) : Nat := 0x400a0004 + 0x10000 * x
/-- port status (14_external_memory_ports.md). -/
def XSP_STATUS (x : Nat) : Nat := 0x400a0008 + 0x10000 * x
/-- interrupt enable (14_external_memory_ports.md). -/
def XSP_IEN (x : Nat) : Nat := 0x400a000c + 0x10000 * x
/-- first error (14_external_memory_ports.md). -/
def XSP_ERR (x : Nat) : Nat := 0x400a0010 + 0x10000 * x
/-- failed address, 64 bits (14_external_memory_ports.md). -/
def XSP_ERR_ADDR (x : Nat) : Nat := 0x400a0018 + 0x10000 * x
/-- manual frame control (14_external_memory_ports.md). -/
def XSP_MAN_CTL (x : Nat) : Nat := 0x400a0020 + 0x10000 * x
/-- manual frame format (14_external_memory_ports.md). -/
def XSP_MAN_FMT (x : Nat) : Nat := 0x400a0024 + 0x10000 * x
/-- manual address phase (14_external_memory_ports.md). -/
def XSP_MAN_ADDR (x : Nat) : Nat := 0x400a0028 + 0x10000 * x
/-- manual data (14_external_memory_ports.md). -/
def XSP_MAN_DATA (x : Nat) (i : Nat) : Nat := 0x400a0040 + 0x10000 * x + 0x4 * i
/-- chip-select configuration (14_external_memory_ports.md). -/
def XSP_CSCFG (x : Nat) (c : Nat) : Nat := 0x400a0100 + 0x10000 * x + 0x40 * c
/-- chip-select timing (14_external_memory_ports.md). -/
def XSP_CSTIME (x : Nat) (c : Nat) : Nat := 0x400a0104 + 0x10000 * x + 0x40 * c
/-- frame formats (14_external_memory_ports.md). -/
def XSP_RD_FMT (x : Nat) (c : Nat) : Nat := 0x400a0108 + 0x10000 * x + 0x40 * c
/-- frame formats (14_external_memory_ports.md). -/
def XSP_WR_FMT (x : Nat) (c : Nat) : Nat := 0x400a010c + 0x10000 * x + 0x40 * c
/-- frame formats (14_external_memory_ports.md). -/
def XSP_WREN_FMT (x : Nat) (c : Nat) : Nat := 0x400a0110 + 0x10000 * x + 0x40 * c
/-- frame formats (14_external_memory_ports.md). -/
def XSP_STAT_FMT (x : Nat) (c : Nat) : Nat := 0x400a0114 + 0x10000 * x + 0x40 * c
/-- status polling (14_external_memory_ports.md). -/
def XSP_POLL (x : Nat) (c : Nat) : Nat := 0x400a0118 + 0x10000 * x + 0x40 * c
/-- device identity (15_host_port.md). -/
def HW_ID : Nat := 0x400d0000
/-- revision (15_host_port.md). -/
def HW_REV : Nat := 0x400d0004
/-- device state (15_host_port.md). -/
def HW_STATE : Nat := 0x400d0008
/-- attention status (15_host_port.md). -/
def HW_STATUS : Nat := 0x400d000c
/-- attention mask (15_host_port.md). -/
def HW_ATTN_MASK : Nat := 0x400d0010
/-- attention clear (15_host_port.md). -/
def HW_ATTN_CLR : Nat := 0x400d0014
/-- command (15_host_port.md). -/
def HW_CMD : Nat := 0x400d0018
/-- command arguments (15_host_port.md). -/
def HW_CMD_ARG0 : Nat := 0x400d001c
/-- command arguments (15_host_port.md). -/
def HW_CMD_ARG1 : Nat := 0x400d0020
/-- command result (15_host_port.md). -/
def HW_CMD_RESULT : Nat := 0x400d0024
/-- last host error (15_host_port.md). -/
def HW_ERR : Nat := 0x400d0028
/-- window error address (15_host_port.md). -/
def HW_ERR_ADDR : Nat := 0x400d002c
/-- inbound mailbox (15_host_port.md). -/
def HW_MBX_IN_DATA : Nat := 0x400d0030
/-- inbound level (15_host_port.md). -/
def HW_MBX_IN_LEVEL : Nat := 0x400d0034
/-- outbound mailbox (15_host_port.md). -/
def HW_MBX_OUT_DATA : Nat := 0x400d0038
/-- outbound level (15_host_port.md). -/
def HW_MBX_OUT_LEVEL : Nat := 0x400d003c
/-- window address (15_host_port.md). -/
def HW_WIN_ADDR_LO : Nat := 0x400d0040
/-- window address (15_host_port.md). -/
def HW_WIN_ADDR_HI : Nat := 0x400d0044
/-- window data (15_host_port.md). -/
def HW_WIN_DATA : Nat := 0x400d0048
/-- window control (15_host_port.md). -/
def HW_WIN_CTL : Nat := 0x400d004c
/-- partitions (15_host_port.md). -/
def HW_PART_STATE : Nat := 0x400d0050
/-- convoy (15_host_port.md). -/
def HW_CONVOY : Nat := 0x400d0054
/-- waypoint number (15_host_port.md). -/
def HW_WPT_COUNT_LO : Nat := 0x400d0058
/-- waypoint number (15_host_port.md). -/
def HW_WPT_COUNT_HI : Nat := 0x400d005c
/-- late waypoints (15_host_port.md). -/
def HW_WPT_LATE : Nat := 0x400d0060
/-- watchdog ladder (15_host_port.md). -/
def HW_WDG_LADDER : Nat := 0x400d0064
/-- last reset (15_host_port.md). -/
def HW_RESET_CAUSE : Nat := 0x400d0068
/-- layby (15_host_port.md). -/
def HW_LAYBY_STATUS : Nat := 0x400d006c
/-- flash summary (15_host_port.md). -/
def HW_FLASH_STATUS : Nat := 0x400d0070
/-- junction temperature (15_host_port.md). -/
def HW_TEMP : Nat := 0x400d0074
/-- supplies (15_host_port.md). -/
def HW_SUPPLY : Nat := 0x400d0078
/-- unlock challenge (15_host_port.md). -/
def HW_UNLOCK_CHAL : Nat := 0x400d007c
/-- unlock response (15_host_port.md). -/
def HW_UNLOCK_RESP : Nat := 0x400d0080
/-- scratch (15_host_port.md). -/
def HW_SCRATCH (k : Nat) : Nat := 0x400d0084 + 0x4 * k
/-- boot options (15_host_port.md). -/
def HW_BOOT_CFG : Nat := 0x400d0094
/-- running image (15_host_port.md). -/
def HW_IMAGE_INFO : Nat := 0x400d0098
/-- event log (15_host_port.md). -/
def HW_EVENT_LOG_DATA : Nat := 0x400d009c
/-- event log level (15_host_port.md). -/
def HW_EVENT_LOG_LEVEL : Nat := 0x400d00a0
/-- serial burst (15_host_port.md). -/
def HW_BURST_CTL : Nat := 0x400d00a4
/-- heartbeat (15_host_port.md). -/
def HW_HEARTBEAT : Nat := 0x400d00a8
/-- calibration (15_host_port.md). -/
def HW_CAL_STATUS : Nat := 0x400d00ac
/-- power (15_host_port.md). -/
def HW_POWER_STATE : Nat := 0x400d00b0
/-- last wake (15_host_port.md). -/
def HW_WAKE_CAUSE : Nat := 0x400d00b4
/-- image signature (15_host_port.md). -/
def HW_SIGNATURE : Nat := 0x400d00bc
/-- inbound pop (15_host_port.md). -/
def HST_MBX_IN : Nat := 0x400d0100
/-- outbound push (15_host_port.md). -/
def HST_MBX_OUT : Nat := 0x400d0104
/-- firmware command (15_host_port.md). -/
def HST_CMD : Nat := 0x400d0108
/-- firmware completion (15_host_port.md). -/
def HST_DONE : Nat := 0x400d010c
/-- firmware log entry (15_host_port.md). -/
def HST_LOG : Nat := 0x400d0110
/-- firmware heartbeat (15_host_port.md). -/
def HST_BEAT : Nat := 0x400d0114
/-- firmware interrupts (15_host_port.md). -/
def HST_IRQ : Nat := 0x400d0118
/-- CCLK source (16_power_clocks.md). -/
def SYS_CLK_CTL : Nat := 0x40000000
/-- clock status (16_power_clocks.md). -/
def SYS_CLK_STAT : Nat := 0x40000004
/-- PLL control (16_power_clocks.md). -/
def SYS_PLL_CTL : Nat := 0x40000008
/-- AON clock (16_power_clocks.md). -/
def SYS_AON_CFG : Nat := 0x4000000c
/-- operating point request (16_power_clocks.md). -/
def PWR_OPP_CTL : Nat := 0x40010000
/-- operating point status (16_power_clocks.md). -/
def PWR_OPP_STAT : Nat := 0x40010004
/-- VID per point (16_power_clocks.md). -/
def PWR_VID_OPP (k : Nat) : Nat := 0x40010010 + 0x4 * k
/-- direct VID (16_power_clocks.md). -/
def PWR_VID : Nat := 0x40010020
/-- VRDY timeout (16_power_clocks.md). -/
def PWR_VRDY_CFG : Nat := 0x40010024
/-- domain control (16_power_clocks.md). -/
def PWR_DOM_CTL : Nat := 0x40010030
/-- domain status (16_power_clocks.md). -/
def PWR_DOM_STAT : Nat := 0x40010034
/-- sleep request (16_power_clocks.md). -/
def PWR_SLEEP_CTL : Nat := 0x40010040
/-- retained depot banks (16_power_clocks.md). -/
def PWR_RETAIN : Nat := 0x40010044
/-- wake sources (16_power_clocks.md). -/
def PWR_WAKE_EN : Nat := 0x40010048
/-- handshake limits (16_power_clocks.md). -/
def PWR_HS_CFG : Nat := 0x4001004c
/-- handshake status (16_power_clocks.md). -/
def PWR_HS_STAT : Nat := 0x40010050
/-- AON timer (16_power_clocks.md). -/
def PWR_AON_CNT : Nat := 0x40010060
/-- AON timer (16_power_clocks.md). -/
def PWR_AON_CMP : Nat := 0x40010064
/-- last sleep length (16_power_clocks.md). -/
def PWR_SLEEP_TIME : Nat := 0x40010068
/-- thermal warning (16_power_clocks.md). -/
def PWR_THERM : Nat := 0x40010070
/-- interrupts (16_power_clocks.md). -/
def PWR_IRQ : Nat := 0x40010080
/-- refusal record (16_power_clocks.md). -/
def PWR_ERR : Nat := 0x40010084
/-- junction temperature (16_power_clocks.md). -/
def TMP_TEMP : Nat := 0x40130000
/-- supply measurement (16_power_clocks.md). -/
def TMP_SUPPLY : Nat := 0x40130004
/-- temperature extremes (16_power_clocks.md). -/
def TMP_PEAK : Nat := 0x40130008
/-- monitor control (16_power_clocks.md). -/
def TMP_CTL : Nat := 0x4013000c
/-- layby control (17_layby.md). -/
def LAY_CTL : Nat := 0x400f0000
/-- layby status (17_layby.md). -/
def LAY_STAT : Nat := 0x400f0004
/-- slot preparation (17_layby.md). -/
def LAY_PREP : Nat := 0x400f0008
/-- restore control (17_layby.md). -/
def LAY_RESTORE : Nat := 0x400f000c
/-- slot state (17_layby.md). -/
def LAY_SLOT (j : Nat) : Nat := 0x400f0020 + 0x4 * j
/-- interrupts (17_layby.md). -/
def LAY_IRQ : Nat := 0x400f0040
/-- instance control (18_watchdogs.md). -/
def WDG_CTL (i : Nat) : Nat := 0x40050000 + 0x100 * i
/-- window open (18_watchdogs.md). -/
def WDG_OPEN (i : Nat) : Nat := 0x40050004 + 0x100 * i
/-- window close (18_watchdogs.md). -/
def WDG_CLOSE (i : Nat) : Nat := 0x40050008 + 0x100 * i
/-- early warning (18_watchdogs.md). -/
def WDG_WARN (i : Nat) : Nat := 0x4005000c + 0x100 * i
/-- question (18_watchdogs.md). -/
def WDG_QUESTION (i : Nat) : Nat := 0x40050010 + 0x100 * i
/-- milestone check-in (18_watchdogs.md). -/
def WDG_MILESTONE (i : Nat) : Nat := 0x40050014 + 0x100 * i
/-- service (18_watchdogs.md). -/
def WDG_TOKEN (i : Nat) : Nat := 0x40050018 + 0x100 * i
/-- window count (18_watchdogs.md). -/
def WDG_COUNT (i : Nat) : Nat := 0x4005001c + 0x100 * i
/-- instance status (18_watchdogs.md). -/
def WDG_STAT (i : Nat) : Nat := 0x40050020 + 0x100 * i
/-- first fault record (18_watchdogs.md). -/
def WDG_FAULT (i : Nat) : Nat := 0x40050024 + 0x100 * i
/-- token at the recorded fault (18_watchdogs.md). -/
def WDG_FAULT_SIG (i : Nat) : Nat := 0x40050028 + 0x100 * i
/-- ledger entry (18_watchdogs.md). -/
def WDG_LEDGER (i : Nat) (n : Nat) : Nat := 0x40050040 + 0x100 * i + 0x4 * n
/-- escalation ladder (18_watchdogs.md). -/
def WDG_LADDER : Nat := 0x40050f00
/-- tile context (19_reset_boot_security.md). -/
def SYS_TILE_CFG (t : Nat) : Nat := 0x40002000 + 0x4 * t
/-- service-core start (19_reset_boot_security.md). -/
def SYS_SC_START : Nat := 0x40000020
/-- service-core entry, 64 bits (19_reset_boot_security.md). -/
def SYS_SC_ENTRY (k : Nat) : Nat := 0x40000040 + 0x8 * k
/-- locks (19_reset_boot_security.md). -/
def SEC_LOCK : Nat := 0x40100000
/-- security status (19_reset_boot_security.md). -/
def SEC_STAT : Nat := 0x40100004
/-- verified manifest (19_reset_boot_security.md). -/
def SEC_MANIFEST : Nat := 0x40100008
/-- host window classes (19_reset_boot_security.md). -/
def SEC_HOSTWIN : Nat := 0x4010000c
/-- random word (19_reset_boot_security.md). -/
def SEC_RNG_DATA : Nat := 0x40100010
/-- random source status (19_reset_boot_security.md). -/
def SEC_RNG_STAT : Nat := 0x40100014
/-- refusal record (19_reset_boot_security.md). -/
def SEC_ERR : Nat := 0x40100018
/-- device unique ID (19_reset_boot_security.md). -/
def SEC_DEVID_LO : Nat := 0x40100020
/-- device unique ID (19_reset_boot_security.md). -/
def SEC_DEVID_HI : Nat := 0x40100024
/-- pin lock (19_reset_boot_security.md). -/
def SEC_PINLOCK (b : Nat) : Nat := 0x40100100 + 0x4 * b
/-- identity (20_debug.md). -/
def DBG_ID : Nat := 0x400e0000
/-- level (20_debug.md). -/
def DBG_LEVEL : Nat := 0x400e0004
/-- debug control (20_debug.md). -/
def DBG_CTL : Nat := 0x400e0008
/-- refusal record (20_debug.md). -/
def DBG_ERR : Nat := 0x400e000c
/-- unlock (20_debug.md). -/
def DBG_CHAL : Nat := 0x400e0010
/-- unlock (20_debug.md). -/
def DBG_RESP : Nat := 0x400e0014
/-- halt and resume (20_debug.md). -/
def DBG_HALT (w : Nat) : Nat := 0x400e0040 + 0x4 * w
/-- halt and resume (20_debug.md). -/
def DBG_RESUME (w : Nat) : Nat := 0x400e0080 + 0x4 * w
/-- halted cores (20_debug.md). -/
def DBG_HALTED (w : Nat) : Nat := 0x400e00c0 + 0x4 * w
/-- freeze engines and slices (20_debug.md). -/
def DBG_FRZ_IOS (k : Nat) : Nat := 0x400e0100 + 0x4 * k
/-- freeze engines and slices (20_debug.md). -/
def DBG_FRZ_ADC : Nat := 0x400e0110
/-- freeze units (20_debug.md). -/
def DBG_FRZ_UNIT : Nat := 0x400e0114
/-- selected core (20_debug.md). -/
def DBG_SEL : Nat := 0x400e0200
/-- core run state (20_debug.md). -/
def DBG_CSTAT : Nat := 0x400e0204
/-- halt addresses, 64 bits (20_debug.md). -/
def DBG_DPC : Nat := 0x400e0208
/-- halt addresses, 64 bits (20_debug.md). -/
def DBG_DNPC : Nat := 0x400e0210
/-- register select (20_debug.md). -/
def DBG_REG_SEL : Nat := 0x400e0218
/-- register data, 64 bits (20_debug.md). -/
def DBG_REG_DATA : Nat := 0x400e0220
/-- instruction feed (20_debug.md). -/
def DBG_FEED : Nat := 0x400e0228
/-- feed status (20_debug.md). -/
def DBG_FEED_STAT : Nat := 0x400e022c
/-- address range, 64 bits (20_debug.md). -/
def DBG_AC_LO (k : Nat) : Nat := 0x400e0240 + 0x20 * k
/-- address range, 64 bits (20_debug.md). -/
def DBG_AC_HI (k : Nat) : Nat := 0x400e0248 + 0x20 * k
/-- address comparator control (20_debug.md). -/
def DBG_AC_CTL (k : Nat) : Nat := 0x400e0250 + 0x20 * k
/-- data value and mask, 64 bits (20_debug.md). -/
def DBG_DW_VAL (k : Nat) : Nat := 0x400e02c0 + 0x20 * k
/-- data value and mask, 64 bits (20_debug.md). -/
def DBG_DW_MASK (k : Nat) : Nat := 0x400e02c8 + 0x20 * k
/-- data comparator control (20_debug.md). -/
def DBG_DW_CTL (k : Nat) : Nat := 0x400e02d0 + 0x20 * k
/-- memory address, 64 bits (20_debug.md). -/
def DBG_MEM_ADDR : Nat := 0x400e0400
/-- memory data, 64 bits (20_debug.md). -/
def DBG_MEM_DATA : Nat := 0x400e0408
/-- memory access control (20_debug.md). -/
def DBG_MEM_CTL : Nat := 0x400e0410
end A

/-! Fields, one function per named field. -/
namespace F

def DMA_ERR_VALID : Loc := ⟨A.DMA_ERR, 31, 31⟩
def DMA_ERR_CAUSE : Loc := ⟨A.DMA_ERR, 27, 24⟩
def DMA_ERR_CHANNEL : Loc := ⟨A.DMA_ERR, 21, 16⟩
def DMA_ERR_OFFSET : Loc := ⟨A.DMA_ERR, 11, 0⟩
def DMA_ERR_ADDR_ADDR : Loc := ⟨A.DMA_ERR_ADDR, 39, 0⟩
def DMA_RW_BUSY_BUSY : Loc := ⟨A.DMA_RW_BUSY, 31, 0⟩
def DMA_SRC_ADDR (g : Nat) : Loc := ⟨A.DMA_SRC g, 39, 2⟩
def DMA_DST_ADDR (g : Nat) : Loc := ⟨A.DMA_DST g, 39, 2⟩
def DMA_LEN_LEN (g : Nat) : Loc := ⟨A.DMA_LEN g, 23, 0⟩
def DMA_CTL_EN (g : Nat) : Loc := ⟨A.DMA_CTL g, 31, 31⟩
def DMA_CTL_PACE (g : Nat) : Loc := ⟨A.DMA_CTL g, 27, 26⟩
def DMA_CTL_SEL (g : Nat) : Loc := ⟨A.DMA_CTL g, 22, 16⟩
def DMA_CTL_IEN_ERR (g : Nat) : Loc := ⟨A.DMA_CTL g, 9, 9⟩
def DMA_CTL_IEN_DONE (g : Nat) : Loc := ⟨A.DMA_CTL g, 8, 8⟩
def DMA_CTL_SRC_INC (g : Nat) : Loc := ⟨A.DMA_CTL g, 2, 2⟩
def DMA_CTL_DST_INC (g : Nat) : Loc := ⟨A.DMA_CTL g, 1, 1⟩
def DMA_CTL_SIZE (g : Nat) : Loc := ⟨A.DMA_CTL g, 0, 0⟩
def DMA_STAT_BUSY (g : Nat) : Loc := ⟨A.DMA_STAT g, 31, 31⟩
def DMA_STAT_MISS (g : Nat) : Loc := ⟨A.DMA_STAT g, 2, 2⟩
def DMA_STAT_ERR (g : Nat) : Loc := ⟨A.DMA_STAT g, 1, 1⟩
def DMA_STAT_DONE (g : Nat) : Loc := ⟨A.DMA_STAT g, 0, 0⟩
def HW_SEAL_STATUS_VOID_COUNT : Loc := ⟨A.HW_SEAL_STATUS, 31, 26⟩
def HW_SEAL_STATUS_FIRST_PART : Loc := ⟨A.HW_SEAL_STATUS, 25, 24⟩
def HW_SEAL_STATUS_FIRST_CAUSE : Loc := ⟨A.HW_SEAL_STATUS, 23, 16⟩
def HW_SEAL_STATUS_LAYBY_VOID : Loc := ⟨A.HW_SEAL_STATUS, 14, 14⟩
def HW_SEAL_STATUS_LAYBY_ARMED : Loc := ⟨A.HW_SEAL_STATUS, 13, 13⟩
def HW_SEAL_STATUS_AGREE_VOID : Loc := ⟨A.HW_SEAL_STATUS, 12, 12⟩
def HW_SEAL_STATUS_TIMING_VOID : Loc := ⟨A.HW_SEAL_STATUS, 11, 8⟩
def HW_SEAL_STATUS_VALUE_VOID : Loc := ⟨A.HW_SEAL_STATUS, 7, 4⟩
def HW_SEAL_STATUS_SEALED : Loc := ⟨A.HW_SEAL_STATUS, 3, 0⟩
def SYS_CR_PAGE_PAGE (n : Nat) : Loc := ⟨A.SYS_CR_PAGE n, 11, 0⟩
def SYS_CR_VIEW_VIEW (n : Nat) : Loc := ⟨A.SYS_CR_VIEW n, 11, 0⟩
def SYS_CR_CTL_EN (n : Nat) : Loc := ⟨A.SYS_CR_CTL n, 31, 31⟩
def SYS_CR_CTL_LOCKED (n : Nat) : Loc := ⟨A.SYS_CR_CTL n, 30, 30⟩
def SYS_CR_CTL_PART (n : Nat) : Loc := ⟨A.SYS_CR_CTL n, 19, 16⟩
def SYS_CR_CTL_PAGES_M1 (n : Nat) : Loc := ⟨A.SYS_CR_CTL n, 11, 0⟩
def SYS_MPU_BASE_BASE (k : Nat) (r : Nat) : Loc := ⟨A.SYS_MPU_BASE k r, 27, 0⟩
def SYS_MPU_LIMIT_LIMIT (k : Nat) (r : Nat) : Loc := ⟨A.SYS_MPU_LIMIT k r, 27, 0⟩
def SYS_MPU_ATTR_CTXID (k : Nat) (r : Nat) : Loc := ⟨A.SYS_MPU_ATTR k r, 31, 16⟩
def SYS_MPU_ATTR_EN (k : Nat) (r : Nat) : Loc := ⟨A.SYS_MPU_ATTR k r, 11, 11⟩
def SYS_MPU_ATTR_CTX_EN (k : Nat) (r : Nat) : Loc := ⟨A.SYS_MPU_ATTR k r, 10, 10⟩
def SYS_MPU_ATTR_SEALED (k : Nat) (r : Nat) : Loc := ⟨A.SYS_MPU_ATTR k r, 9, 9⟩
def SYS_MPU_ATTR_ORDERED (k : Nat) (r : Nat) : Loc := ⟨A.SYS_MPU_ATTR k r, 8, 8⟩
def SYS_MPU_ATTR_CACHE (k : Nat) (r : Nat) : Loc := ⟨A.SYS_MPU_ATTR k r, 7, 7⟩
def SYS_MPU_ATTR_PX (k : Nat) (r : Nat) : Loc := ⟨A.SYS_MPU_ATTR k r, 5, 5⟩
def SYS_MPU_ATTR_PW (k : Nat) (r : Nat) : Loc := ⟨A.SYS_MPU_ATTR k r, 4, 4⟩
def SYS_MPU_ATTR_PR (k : Nat) (r : Nat) : Loc := ⟨A.SYS_MPU_ATTR k r, 3, 3⟩
def SYS_MPU_ATTR_UX (k : Nat) (r : Nat) : Loc := ⟨A.SYS_MPU_ATTR k r, 2, 2⟩
def SYS_MPU_ATTR_UW (k : Nat) (r : Nat) : Loc := ⟨A.SYS_MPU_ATTR k r, 1, 1⟩
def SYS_MPU_ATTR_UR (k : Nat) (r : Nat) : Loc := ⟨A.SYS_MPU_ATTR k r, 0, 0⟩
def SYS_SC_SEAL_CTXID (k : Nat) : Loc := ⟨A.SYS_SC_SEAL k, 31, 16⟩
def SYS_SC_SEAL_CAUSE (k : Nat) : Loc := ⟨A.SYS_SC_SEAL k, 15, 8⟩
def SYS_SC_SEAL_VOID (k : Nat) : Loc := ⟨A.SYS_SC_SEAL k, 2, 2⟩
def SYS_SC_SEAL_SAVED (k : Nat) : Loc := ⟨A.SYS_SC_SEAL k, 1, 1⟩
def SYS_SC_SEAL_SEALED (k : Nat) : Loc := ⟨A.SYS_SC_SEAL k, 0, 0⟩
def SYS_ECC_CORR_COUNT : Loc := ⟨A.SYS_ECC_CORR, 31, 0⟩
def SYS_MEM_ERR_VALID : Loc := ⟨A.SYS_MEM_ERR, 31, 31⟩
def SYS_MEM_ERR_MEM : Loc := ⟨A.SYS_MEM_ERR, 19, 16⟩
def SYS_MEM_ERR_INIT : Loc := ⟨A.SYS_MEM_ERR, 11, 9⟩
def SYS_MEM_ERR_CORE : Loc := ⟨A.SYS_MEM_ERR, 8, 0⟩
def SYS_MEM_ERR_ADDR_ADDR : Loc := ⟨A.SYS_MEM_ERR_ADDR, 39, 3⟩
def LANE_CFG_EN (L : Nat) : Loc := ⟨A.LANE_CFG L, 31, 31⟩
def LANE_CFG_DST (L : Nat) : Loc := ⟨A.LANE_CFG L, 30, 22⟩
def LANE_CFG_DPORT (L : Nat) : Loc := ⟨A.LANE_CFG L, 21, 18⟩
def LANE_CFG_BASE (L : Nat) : Loc := ⟨A.LANE_CFG L, 17, 9⟩
def LANE_CFG_DEPTH (L : Nat) : Loc := ⟨A.LANE_CFG L, 8, 0⟩
def LANE_CNT_LO_DATA_NET (L : Nat) : Loc := ⟨A.LANE_CNT_LO L, 24, 16⟩
def LANE_CNT_LO_SEND_TOLLS (L : Nat) : Loc := ⟨A.LANE_CNT_LO L, 8, 0⟩
def LANE_CNT_HI_OPEN (L : Nat) : Loc := ⟨A.LANE_CNT_HI L, 31, 31⟩
def LANE_CNT_HI_FAULTED (L : Nat) : Loc := ⟨A.LANE_CNT_HI L, 30, 30⟩
def LANE_CNT_HI_TOLL_NET (L : Nat) : Loc := ⟨A.LANE_CNT_HI L, 24, 16⟩
def LANE_CNT_HI_RECV_HELD (L : Nat) : Loc := ⟨A.LANE_CNT_HI L, 8, 0⟩
def LANE_AUDIT_CTL_START : Loc := ⟨A.LANE_AUDIT_CTL, 31, 31⟩
def LANE_AUDIT_CTL_PART : Loc := ⟨A.LANE_AUDIT_CTL, 1, 0⟩
def LANE_AUDIT_STATUS_BUSY : Loc := ⟨A.LANE_AUDIT_STATUS, 31, 31⟩
def LANE_AUDIT_STATUS_DONE : Loc := ⟨A.LANE_AUDIT_STATUS, 30, 30⟩
def LANE_AUDIT_STATUS_RESULT : Loc := ⟨A.LANE_AUDIT_STATUS, 27, 24⟩
def LANE_AUDIT_STATUS_PART : Loc := ⟨A.LANE_AUDIT_STATUS, 23, 22⟩
def LANE_AUDIT_STATUS_CHECKED : Loc := ⟨A.LANE_AUDIT_STATUS, 12, 0⟩
def LANE_AUDIT_LANE_LANE : Loc := ⟨A.LANE_AUDIT_LANE, 12, 0⟩
def LANE_AUDIT_VALUE_PORT : Loc := ⟨A.LANE_AUDIT_VALUE, 24, 16⟩
def LANE_AUDIT_VALUE_BOOK : Loc := ⟨A.LANE_AUDIT_VALUE, 8, 0⟩
def LANE_FAULT_VALID : Loc := ⟨A.LANE_FAULT, 31, 31⟩
def LANE_FAULT_CODE : Loc := ⟨A.LANE_FAULT, 27, 24⟩
def LANE_FAULT_PART : Loc := ⟨A.LANE_FAULT, 23, 22⟩
def LANE_FAULT_JX : Loc := ⟨A.LANE_FAULT, 21, 19⟩
def LANE_FAULT_JY : Loc := ⟨A.LANE_FAULT, 18, 16⟩
def LANE_FAULT_LANE : Loc := ⟨A.LANE_FAULT, 12, 0⟩
def LANE_FAULT_COUNT_COUNT : Loc := ⟨A.LANE_FAULT_COUNT, 31, 0⟩
def LANE_ERR_VALID : Loc := ⟨A.LANE_ERR, 31, 31⟩
def LANE_ERR_CAUSE : Loc := ⟨A.LANE_ERR, 27, 24⟩
def LANE_ERR_LANE : Loc := ⟨A.LANE_ERR, 12, 0⟩
def LANE_CLEAR_START : Loc := ⟨A.LANE_CLEAR, 31, 31⟩
def LANE_CLEAR_BUSY : Loc := ⟨A.LANE_CLEAR, 30, 30⟩
def LANE_CLEAR_PART : Loc := ⟨A.LANE_CLEAR, 1, 0⟩
def LANE_ECC_HDR_CORR : Loc := ⟨A.LANE_ECC, 31, 16⟩
def LANE_ECC_DATA_CORR : Loc := ⟨A.LANE_ECC, 15, 0⟩
def WPT_PERIOD_PERIOD (p : Nat) : Loc := ⟨A.WPT_PERIOD p, 31, 0⟩
def WPT_PHASE_PHASE (p : Nat) : Loc := ⟨A.WPT_PHASE p, 31, 0⟩
def WPT_GUARD_GUARD (p : Nat) : Loc := ⟨A.WPT_GUARD p, 15, 0⟩
def WPT_POLICY_FAULT_PINS (p : Nat) : Loc := ⟨A.WPT_POLICY p, 9, 9⟩
def WPT_POLICY_FAULT_ON_LATE (p : Nat) : Loc := ⟨A.WPT_POLICY p, 8, 8⟩
def WPT_POLICY_K (p : Nat) : Loc := ⟨A.WPT_POLICY p, 7, 0⟩
def WPT_SNAP_LEN_LEN (p : Nat) : Loc := ⟨A.WPT_SNAP_LEN p, 12, 0⟩
def WPT_PCMD_CMD (p : Nat) : Loc := ⟨A.WPT_PCMD p, 3, 0⟩
def WPT_PSTATE_LATE_RUN (p : Nat) : Loc := ⟨A.WPT_PSTATE p, 31, 24⟩
def WPT_PSTATE_WAITING (p : Nat) : Loc := ⟨A.WPT_PSTATE p, 23, 15⟩
def WPT_PSTATE_CLEAN (p : Nat) : Loc := ⟨A.WPT_PSTATE p, 12, 12⟩
def WPT_PSTATE_CO_PENDING (p : Nat) : Loc := ⟨A.WPT_PSTATE p, 11, 11⟩
def WPT_PSTATE_HOLD_PENDING (p : Nat) : Loc := ⟨A.WPT_PSTATE p, 10, 10⟩
def WPT_PSTATE_STOP_PENDING (p : Nat) : Loc := ⟨A.WPT_PSTATE p, 9, 9⟩
def WPT_PSTATE_STATE (p : Nat) : Loc := ⟨A.WPT_PSTATE p, 2, 0⟩
def WPT_WNUM_WNUM (p : Nat) : Loc := ⟨A.WPT_WNUM p, 63, 0⟩
def WPT_NEXT_TICK (p : Nat) : Loc := ⟨A.WPT_NEXT p, 63, 0⟩
def WPT_LATE_COUNT_COUNT (p : Nat) : Loc := ⟨A.WPT_LATE_COUNT p, 31, 0⟩
def WPT_SKIPPED_COUNT (p : Nat) : Loc := ⟨A.WPT_SKIPPED p, 31, 0⟩
def WPT_FAULT_REC_VALID (p : Nat) : Loc := ⟨A.WPT_FAULT_REC p, 31, 31⟩
def WPT_FAULT_REC_CAUSE (p : Nat) : Loc := ⟨A.WPT_FAULT_REC p, 27, 24⟩
def WPT_FAULT_REC_TRAP (p : Nat) : Loc := ⟨A.WPT_FAULT_REC p, 23, 16⟩
def WPT_FAULT_REC_SLOT (p : Nat) : Loc := ⟨A.WPT_FAULT_REC p, 9, 9⟩
def WPT_FAULT_REC_TILE_VALID (p : Nat) : Loc := ⟨A.WPT_FAULT_REC p, 8, 8⟩
def WPT_FAULT_REC_TILE (p : Nat) : Loc := ⟨A.WPT_FAULT_REC p, 7, 0⟩
def WPT_FAULT_PC_PC (p : Nat) : Loc := ⟨A.WPT_FAULT_PC p, 39, 2⟩
def WPT_FAULT_ADDR_ADDR (p : Nat) : Loc := ⟨A.WPT_FAULT_ADDR p, 39, 0⟩
def WPT_FAULT_WNUM_SCAN (p : Nat) : Loc := ⟨A.WPT_FAULT_WNUM p, 63, 0⟩
def WPT_CO_CTL_REQ (p : Nat) : Loc := ⟨A.WPT_CO_CTL p, 31, 31⟩
def WPT_CO_CTL_MAPS (p : Nat) : Loc := ⟨A.WPT_CO_CTL p, 30, 30⟩
def WPT_CO_CTL_DATA (p : Nat) : Loc := ⟨A.WPT_CO_CTL p, 29, 28⟩
def WPT_CO_CTL_NLANES (p : Nat) : Loc := ⟨A.WPT_CO_CTL p, 9, 0⟩
def WPT_CO_WNUM_W (p : Nat) : Loc := ⟨A.WPT_CO_WNUM p, 63, 0⟩
def WPT_CO_LANES_ADDR (p : Nat) : Loc := ⟨A.WPT_CO_LANES p, 39, 3⟩
def WPT_CO_STATUS_STATUS (p : Nat) : Loc := ⟨A.WPT_CO_STATUS p, 31, 28⟩
def WPT_CO_STATUS_CAUSE (p : Nat) : Loc := ⟨A.WPT_CO_STATUS p, 27, 24⟩
def WPT_CO_STATUS_WNUM (p : Nat) : Loc := ⟨A.WPT_CO_STATUS p, 23, 0⟩
def WPT_CO_TILES_TILES (p : Nat) (k : Nat) : Loc := ⟨A.WPT_CO_TILES p k, 31, 0⟩
def WPT_PART_MAP_EN : Loc := ⟨A.WPT_PART_MAP, 11, 8⟩
def WPT_PART_MAP_Q3 : Loc := ⟨A.WPT_PART_MAP, 7, 6⟩
def WPT_PART_MAP_Q2 : Loc := ⟨A.WPT_PART_MAP, 5, 4⟩
def WPT_PART_MAP_Q1 : Loc := ⟨A.WPT_PART_MAP, 3, 2⟩
def WPT_PART_MAP_Q0 : Loc := ⟨A.WPT_PART_MAP, 1, 0⟩
def WPT_MAP_ADDR_STAGED : Loc := ⟨A.WPT_MAP_ADDR, 15, 15⟩
def WPT_MAP_ADDR_REL : Loc := ⟨A.WPT_MAP_ADDR, 14, 14⟩
def WPT_MAP_ADDR_PART : Loc := ⟨A.WPT_MAP_ADDR, 13, 12⟩
def WPT_MAP_ADDR_INDEX : Loc := ⟨A.WPT_MAP_ADDR, 11, 0⟩
def WPT_MAP_DATA_ENTRY : Loc := ⟨A.WPT_MAP_DATA, 31, 0⟩
def WPT_STAGE_SRC_PAGE : Loc := ⟨A.WPT_STAGE_SRC, 39, 12⟩
def WPT_STAGE_CTL_START : Loc := ⟨A.WPT_STAGE_CTL, 31, 31⟩
def WPT_STAGE_CTL_BUSY : Loc := ⟨A.WPT_STAGE_CTL, 30, 30⟩
def WPT_STAGE_CTL_DONE : Loc := ⟨A.WPT_STAGE_CTL, 29, 29⟩
def WPT_STAGE_CTL_ERR : Loc := ⟨A.WPT_STAGE_CTL, 28, 28⟩
def WPT_STAGE_CTL_TILE : Loc := ⟨A.WPT_STAGE_CTL, 7, 0⟩
def WPT_ERR_VALID : Loc := ⟨A.WPT_ERR, 31, 31⟩
def WPT_ERR_CAUSE : Loc := ⟨A.WPT_ERR, 27, 24⟩
def WPT_ERR_PART : Loc := ⟨A.WPT_ERR, 23, 22⟩
def WPT_ERR_REL : Loc := ⟨A.WPT_ERR, 21, 21⟩
def WPT_ERR_INDEX : Loc := ⟨A.WPT_ERR, 11, 0⟩
def WPT_BANK_BANK_B (k : Nat) : Loc := ⟨A.WPT_BANK k, 31, 0⟩
def WPT_STAGED_STAGED (k : Nat) : Loc := ⟨A.WPT_STAGED k, 31, 0⟩
def WPT_SVCIN_DATA (p : Nat) (i : Nat) : Loc := ⟨A.WPT_SVCIN p i, 63, 0⟩
def WPT_MIRROR_DATA (p : Nat) (i : Nat) : Loc := ⟨A.WPT_MIRROR p i, 63, 0⟩
def CVY_CFG_MEMBERS : Loc := ⟨A.CVY_CFG, 15, 12⟩
def CVY_CFG_STANDBY : Loc := ⟨A.CVY_CFG, 9, 8⟩
def CVY_CFG_MEMBER : Loc := ⟨A.CVY_CFG, 5, 4⟩
def CVY_CFG_MODE : Loc := ⟨A.CVY_CFG, 2, 0⟩
def CVY_CTL_FORM : Loc := ⟨A.CVY_CTL, 31, 31⟩
def CVY_CTL_SHOULDER : Loc := ⟨A.CVY_CTL, 30, 30⟩
def CVY_CTL_JOIN : Loc := ⟨A.CVY_CTL, 29, 29⟩
def CVY_CTL_ABORT : Loc := ⟨A.CVY_CTL, 28, 28⟩
def CVY_STATE_ROLE : Loc := ⟨A.CVY_STATE, 31, 28⟩
def CVY_STATE_VOTERS : Loc := ⟨A.CVY_STATE, 27, 24⟩
def CVY_STATE_LEADER : Loc := ⟨A.CVY_STATE, 23, 22⟩
def CVY_STATE_STANDBY_FIT : Loc := ⟨A.CVY_STATE, 21, 21⟩
def CVY_STATE_DEGRADED : Loc := ⟨A.CVY_STATE, 20, 20⟩
def CVY_STATE_ALONE : Loc := ⟨A.CVY_STATE, 19, 19⟩
def CVY_SHOULDER_REC_VALID : Loc := ⟨A.CVY_SHOULDER_REC, 31, 31⟩
def CVY_SHOULDER_REC_CAUSE : Loc := ⟨A.CVY_SHOULDER_REC, 27, 24⟩
def CVY_SHOULDER_REC_MEMBER : Loc := ⟨A.CVY_SHOULDER_REC, 21, 20⟩
def CVY_SHOULDER_REC_PART : Loc := ⟨A.CVY_SHOULDER_REC, 17, 16⟩
def CVY_SHOULDER_REC_WNUM : Loc := ⟨A.CVY_SHOULDER_REC, 15, 0⟩
def CVY_SHOULDER_COUNT_COUNT : Loc := ⟨A.CVY_SHOULDER_COUNT, 31, 0⟩
def CVY_ERR_VALID : Loc := ⟨A.CVY_ERR, 31, 31⟩
def CVY_ERR_CAUSE : Loc := ⟨A.CVY_ERR, 27, 24⟩
def CVY_ERR_OP : Loc := ⟨A.CVY_ERR, 23, 20⟩
def CVY_ERR_PART : Loc := ⟨A.CVY_ERR, 17, 16⟩
def CVY_ERR_PEER : Loc := ⟨A.CVY_ERR, 13, 12⟩
def CVY_ALIGN_OFFSET : Loc := ⟨A.CVY_ALIGN, 31, 16⟩
def CVY_ALIGN_HOLDOVER : Loc := ⟨A.CVY_ALIGN, 2, 2⟩
def CVY_ALIGN_FAULT : Loc := ⟨A.CVY_ALIGN, 1, 1⟩
def CVY_ALIGN_LOCKED : Loc := ⟨A.CVY_ALIGN, 0, 0⟩
def CVY_TRIM_TRIM : Loc := ⟨A.CVY_TRIM, 15, 0⟩
def CVY_TIME_OFS_OFS : Loc := ⟨A.CVY_TIME_OFS, 63, 0⟩
def CVY_PORT_CTL_RETRAIN (j : Nat) : Loc := ⟨A.CVY_PORT_CTL j, 31, 31⟩
def CVY_PORT_CTL_SEND_WAKE (j : Nat) : Loc := ⟨A.CVY_PORT_CTL j, 30, 30⟩
def CVY_PORT_CTL_WAKE_EN (j : Nat) : Loc := ⟨A.CVY_PORT_CTL j, 1, 1⟩
def CVY_PORT_CTL_EN (j : Nat) : Loc := ⟨A.CVY_PORT_CTL j, 0, 0⟩
def CVY_PORT_STATUS_STATE (j : Nat) : Loc := ⟨A.CVY_PORT_STATUS j, 31, 28⟩
def CVY_PORT_STATUS_PAIR1_OK (j : Nat) : Loc := ⟨A.CVY_PORT_STATUS j, 27, 27⟩
def CVY_PORT_STATUS_PAIR0_OK (j : Nat) : Loc := ⟨A.CVY_PORT_STATUS j, 26, 26⟩
def CVY_PORT_STATUS_PEER (j : Nat) : Loc := ⟨A.CVY_PORT_STATUS j, 25, 24⟩
def CVY_PORT_STATUS_PEER_PORT (j : Nat) : Loc := ⟨A.CVY_PORT_STATUS j, 23, 22⟩
def CVY_PORT_ERR_CRC_ERR (j : Nat) : Loc := ⟨A.CVY_PORT_ERR j, 31, 16⟩
def CVY_PORT_ERR_RESENDS (j : Nat) : Loc := ⟨A.CVY_PORT_ERR j, 15, 0⟩
def CVY_PORT_DOWNS_DOWNS (j : Nat) : Loc := ⟨A.CVY_PORT_DOWNS j, 15, 0⟩
def CVY_INWIN_INWIN (p : Nat) : Loc := ⟨A.CVY_INWIN p, 14, 0⟩
def CVY_OUTCOUNT_COUNT (p : Nat) : Loc := ⟨A.CVY_OUTCOUNT p, 12, 0⟩
def CVY_XSTAT_IN_DONE (p : Nat) : Loc := ⟨A.CVY_XSTAT p, 31, 16⟩
def CVY_XSTAT_OUT_SLACK (p : Nat) : Loc := ⟨A.CVY_XSTAT p, 15, 0⟩
def CVY_IN_DIS_M3 (p : Nat) : Loc := ⟨A.CVY_IN_DIS p, 31, 24⟩
def CVY_IN_DIS_M2 (p : Nat) : Loc := ⟨A.CVY_IN_DIS p, 23, 16⟩
def CVY_IN_DIS_M1 (p : Nat) : Loc := ⟨A.CVY_IN_DIS p, 15, 8⟩
def CVY_IN_DIS_M0 (p : Nat) : Loc := ⟨A.CVY_IN_DIS p, 7, 0⟩
def CVY_NOMAJ_OUT (p : Nat) : Loc := ⟨A.CVY_NOMAJ p, 31, 16⟩
def CVY_NOMAJ_IN (p : Nat) : Loc := ⟨A.CVY_NOMAJ p, 15, 0⟩
def CVY_AMAP_ADDR_PART : Loc := ⟨A.CVY_AMAP_ADDR, 13, 12⟩
def CVY_AMAP_ADDR_INDEX : Loc := ⟨A.CVY_AMAP_ADDR, 11, 0⟩
def CVY_AMAP_DATA_TIE : Loc := ⟨A.CVY_AMAP_DATA, 6, 6⟩
def CVY_AMAP_DATA_KEY : Loc := ⟨A.CVY_AMAP_DATA, 5, 4⟩
def CVY_AMAP_DATA_RULE : Loc := ⟨A.CVY_AMAP_DATA, 3, 0⟩
def CVY_MERGE_CTL_START : Loc := ⟨A.CVY_MERGE_CTL, 31, 31⟩
def CVY_MERGE_CTL_ABORT : Loc := ⟨A.CVY_MERGE_CTL, 30, 30⟩
def CVY_MERGE_CTL_JOINER : Loc := ⟨A.CVY_MERGE_CTL, 29, 28⟩
def CVY_MERGE_CTL_MINWPT : Loc := ⟨A.CVY_MERGE_CTL, 15, 0⟩
def CVY_MERGE_LIMIT_MAXWPT : Loc := ⟨A.CVY_MERGE_LIMIT, 31, 0⟩
def CVY_MERGE_STATUS_STATE : Loc := ⟨A.CVY_MERGE_STATUS, 31, 28⟩
def CVY_MERGE_STATUS_CAUSE : Loc := ⟨A.CVY_MERGE_STATUS, 27, 24⟩
def CVY_MERGE_STATUS_MERGED : Loc := ⟨A.CVY_MERGE_STATUS, 23, 20⟩
def CVY_MERGE_STATUS_DIRTY : Loc := ⟨A.CVY_MERGE_STATUS, 15, 0⟩
def CVY_MERGE_WNUM_W : Loc := ⟨A.CVY_MERGE_WNUM, 63, 0⟩
def ADC_REF_READY : Loc := ⟨A.ADC_REF, 2, 2⟩
def ADC_REF_SEL : Loc := ⟨A.ADC_REF, 1, 1⟩
def ADC_REF_EN : Loc := ⟨A.ADC_REF, 0, 0⟩
def ADC_ERR_VALID : Loc := ⟨A.ADC_ERR, 31, 31⟩
def ADC_ERR_CAUSE : Loc := ⟨A.ADC_ERR, 27, 24⟩
def ADC_ERR_OFFSET : Loc := ⟨A.ADC_ERR, 12, 0⟩
def ADC_TRIGCFG_EN (i : Nat) : Loc := ⟨A.ADC_TRIGCFG i, 31, 31⟩
def ADC_TRIGCFG_SRC (i : Nat) : Loc := ⟨A.ADC_TRIGCFG i, 29, 28⟩
def ADC_TRIGCFG_PART (i : Nat) : Loc := ⟨A.ADC_TRIGCFG i, 25, 24⟩
def ADC_TRIGCFG_LINE (i : Nat) : Loc := ⟨A.ADC_TRIGCFG i, 21, 16⟩
def ADC_TRIGLEAD_LEAD (i : Nat) : Loc := ⟨A.ADC_TRIGLEAD i, 15, 0⟩
def ADC_TRIGDIV_DIV (i : Nat) : Loc := ⟨A.ADC_TRIGDIV i, 23, 0⟩
def ADC_TRIGSW_FIRE (i : Nat) : Loc := ⟨A.ADC_TRIGSW i, 0, 0⟩
def ADC_SCFG_DIFF (s : Nat) : Loc := ⟨A.ADC_SCFG s, 15, 12⟩
def ADC_SCFG_AVG (s : Nat) : Loc := ⟨A.ADC_SCFG s, 11, 8⟩
def ADC_SCFG_TRIG (s : Nat) : Loc := ⟨A.ADC_SCFG s, 5, 4⟩
def ADC_SCFG_MODE (s : Nat) : Loc := ⟨A.ADC_SCFG s, 1, 0⟩
def ADC_SSEQ_LEN (s : Nat) : Loc := ⟨A.ADC_SSEQ s, 27, 24⟩
def ADC_SSEQ_ENTRY (s : Nat) : Loc := ⟨A.ADC_SSEQ s, 23, 0⟩
def ADC_SSTAT_ON_SPARE (s : Nat) : Loc := ⟨A.ADC_SSTAT s, 31, 31⟩
def ADC_SSTAT_BUSY (s : Nat) : Loc := ⟨A.ADC_SSTAT s, 30, 30⟩
def ADC_SSTAT_SPARE_FAIL (s : Nat) : Loc := ⟨A.ADC_SSTAT s, 6, 6⟩
def ADC_SSTAT_CAL_FAIL (s : Nat) : Loc := ⟨A.ADC_SSTAT s, 5, 5⟩
def ADC_SSTAT_RING_ERR (s : Nat) : Loc := ⟨A.ADC_SSTAT s, 4, 4⟩
def ADC_SSTAT_CLIP (s : Nat) : Loc := ⟨A.ADC_SSTAT s, 3, 3⟩
def ADC_SSTAT_TRIG_MISS (s : Nat) : Loc := ⟨A.ADC_SSTAT s, 2, 2⟩
def ADC_SSTAT_OVR (s : Nat) : Loc := ⟨A.ADC_SSTAT s, 1, 1⟩
def ADC_SSTAT_RING_THR (s : Nat) : Loc := ⟨A.ADC_SSTAT s, 0, 0⟩
def ADC_SIEN_IEN (s : Nat) : Loc := ⟨A.ADC_SIEN s, 6, 0⟩
def ADC_RBASE_ADDR (s : Nat) : Loc := ⟨A.ADC_RBASE s, 39, 2⟩
def ADC_RCTL_EN (s : Nat) : Loc := ⟨A.ADC_RCTL s, 31, 31⟩
def ADC_RCTL_SIZE (s : Nat) : Loc := ⟨A.ADC_RCTL s, 25, 21⟩
def ADC_RCTL_THR (s : Nat) : Loc := ⟨A.ADC_RCTL s, 20, 0⟩
def ADC_RWPTR_WPTR (s : Nat) : Loc := ⟨A.ADC_RWPTR s, 31, 0⟩
def ADC_RRPTR_RPTR (s : Nat) : Loc := ⟨A.ADC_RRPTR s, 31, 0⟩
def ADC_RDROP_COUNT (s : Nat) : Loc := ⟨A.ADC_RDROP s, 31, 0⟩
def ADC_LATEST_SPARE (i : Nat) : Loc := ⟨A.ADC_LATEST i, 50, 50⟩
def ADC_LATEST_CLIP (i : Nat) : Loc := ⟨A.ADC_LATEST i, 49, 49⟩
def ADC_LATEST_VALID (i : Nat) : Loc := ⟨A.ADC_LATEST i, 48, 48⟩
def ADC_LATEST_SEQ (i : Nat) : Loc := ⟨A.ADC_LATEST i, 47, 32⟩
def ADC_LATEST_RESULT (i : Nat) : Loc := ⟨A.ADC_LATEST i, 31, 0⟩
def CAL_CTL_MISMATCH_LIM : Loc := ⟨A.CAL_CTL, 15, 8⟩
def CAL_CTL_ROT_EN : Loc := ⟨A.CAL_CTL, 3, 0⟩
def CAL_CMD_RESTORE_FACTORY : Loc := ⟨A.CAL_CMD, 31, 31⟩
def CAL_CMD_COMMIT_USER : Loc := ⟨A.CAL_CMD, 30, 30⟩
def CAL_CMD_CLEAR_FAILED : Loc := ⟨A.CAL_CMD, 3, 0⟩
def CAL_STATUS_BUSY : Loc := ⟨A.CAL_STATUS, 31, 31⟩
def CAL_STATUS_RESULT : Loc := ⟨A.CAL_STATUS, 27, 24⟩
def CAL_STATUS_CMD : Loc := ⟨A.CAL_STATUS, 23, 20⟩
def CAL_STATUS_USER_VALID : Loc := ⟨A.CAL_STATUS, 5, 5⟩
def CAL_STATUS_FACTORY_VALID : Loc := ⟨A.CAL_STATUS, 4, 4⟩
def CAL_STATUS_LAYER : Loc := ⟨A.CAL_STATUS, 1, 0⟩
def CAL_GROUP_COVER (g : Nat) : Loc := ⟨A.CAL_GROUP g, 31, 31⟩
def CAL_GROUP_SPARE_FAILED (g : Nat) : Loc := ⟨A.CAL_GROUP g, 30, 30⟩
def CAL_GROUP_FAILED (g : Nat) : Loc := ⟨A.CAL_GROUP g, 23, 16⟩
def CAL_GROUP_PHASE (g : Nat) : Loc := ⟨A.CAL_GROUP g, 11, 8⟩
def CAL_GROUP_SLICE (g : Nat) : Loc := ⟨A.CAL_GROUP g, 7, 4⟩
def CAL_LIVE_LIVE_VALID : Loc := ⟨A.CAL_LIVE, 31, 0⟩
def CAL_LIVE_SP_LIVE_VALID : Loc := ⟨A.CAL_LIVE_SP, 3, 0⟩
def CAL_COEF_ADDR_LIVE : Loc := ⟨A.CAL_COEF_ADDR, 31, 31⟩
def CAL_COEF_ADDR_CONV : Loc := ⟨A.CAL_COEF_ADDR, 13, 8⟩
def CAL_COEF_ADDR_WORD : Loc := ⟨A.CAL_COEF_ADDR, 5, 0⟩
def CAL_COEF_DATA_DATA : Loc := ⟨A.CAL_COEF_DATA, 31, 0⟩
def IOS_CTL_EN (e : Nat) : Loc := ⟨A.IOS_CTL e, 31, 31⟩
def IOS_CTL_SYNC (e : Nat) : Loc := ⟨A.IOS_CTL e, 29, 28⟩
def IOS_CTL_START (e : Nat) : Loc := ⟨A.IOS_CTL e, 4, 0⟩
def IOS_CLKDIV_NM1 (e : Nat) : Loc := ⟨A.IOS_CLKDIV e, 15, 0⟩
def IOS_PINA_IN (e : Nat) : Loc := ⟨A.IOS_PINA e, 23, 16⟩
def IOS_PINA_OUT (e : Nat) : Loc := ⟨A.IOS_PINA e, 7, 0⟩
def IOS_PINB_WATCH_EN (e : Nat) : Loc := ⟨A.IOS_PINB e, 11, 11⟩
def IOS_PINB_WATCH (e : Nat) : Loc := ⟨A.IOS_PINB e, 10, 8⟩
def IOS_PINB_CTRL (e : Nat) : Loc := ⟨A.IOS_PINB e, 7, 0⟩
def IOS_OPT_SNDLEN (e : Nat) : Loc := ⟨A.IOS_OPT e, 29, 24⟩
def IOS_OPT_CAPLEN (e : Nat) : Loc := ⟨A.IOS_OPT e, 21, 16⟩
def IOS_OPT_CTRL_INIT (e : Nat) : Loc := ⟨A.IOS_OPT e, 7, 4⟩
def IOS_OPT_DRIVE_INIT (e : Nat) : Loc := ⟨A.IOS_OPT e, 3, 3⟩
def IOS_OPT_SND_LSB (e : Nat) : Loc := ⟨A.IOS_OPT e, 1, 1⟩
def IOS_OPT_CAP_LSB (e : Nat) : Loc := ⟨A.IOS_OPT e, 0, 0⟩
def IOS_OWNER_OWNER (e : Nat) : Loc := ⟨A.IOS_OWNER e, 3, 0⟩
def IOS_STAT_STATE (e : Nat) : Loc := ⟨A.IOS_STAT e, 31, 29⟩
def IOS_STAT_ILLEGAL (e : Nat) : Loc := ⟨A.IOS_STAT e, 6, 6⟩
def IOS_STAT_EVT_MISS (e : Nat) : Loc := ⟨A.IOS_STAT e, 5, 5⟩
def IOS_STAT_OVERRUN (e : Nat) : Loc := ⟨A.IOS_STAT e, 4, 4⟩
def IOS_STAT_UNDERRUN (e : Nat) : Loc := ⟨A.IOS_STAT e, 3, 3⟩
def IOS_STAT_SIG (e : Nat) : Loc := ⟨A.IOS_STAT e, 2, 2⟩
def IOS_STAT_TX_SPACE (e : Nat) : Loc := ⟨A.IOS_STAT e, 1, 1⟩
def IOS_STAT_RX_AVAIL (e : Nat) : Loc := ⟨A.IOS_STAT e, 0, 0⟩
def IOS_IEN_IEN (e : Nat) : Loc := ⟨A.IOS_IEN e, 6, 0⟩
def IOS_FSTAT_TX_CLR (e : Nat) : Loc := ⟨A.IOS_FSTAT e, 31, 31⟩
def IOS_FSTAT_RX_CLR (e : Nat) : Loc := ⟨A.IOS_FSTAT e, 30, 30⟩
def IOS_FSTAT_TX_LEVEL (e : Nat) : Loc := ⟨A.IOS_FSTAT e, 10, 8⟩
def IOS_FSTAT_RX_LEVEL (e : Nat) : Loc := ⟨A.IOS_FSTAT e, 2, 0⟩
def IOS_TXF_DATA (e : Nat) : Loc := ⟨A.IOS_TXF e, 31, 0⟩
def IOS_RXF_DATA (e : Nat) : Loc := ⟨A.IOS_RXF e, 31, 0⟩
def IOS_CNT_VALUE (e : Nat) : Loc := ⟨A.IOS_CNT e, 31, 0⟩
def IOS_ACC_VALUE (e : Nat) : Loc := ⟨A.IOS_ACC e, 31, 0⟩
def IOS_SND_VALUE (e : Nat) : Loc := ⟨A.IOS_SND e, 31, 0⟩
def IOS_CAP_VALUE (e : Nat) : Loc := ⟨A.IOS_CAP e, 31, 0⟩
def IOS_PC_FALL (e : Nat) : Loc := ⟨A.IOS_PC e, 13, 13⟩
def IOS_PC_RISE (e : Nat) : Loc := ⟨A.IOS_PC e, 12, 12⟩
def IOS_PC_EVT (e : Nat) : Loc := ⟨A.IOS_PC e, 11, 8⟩
def IOS_PC_PC (e : Nat) : Loc := ⟨A.IOS_PC e, 4, 0⟩
def IOS_RELOAD_VALUE (e : Nat) : Loc := ⟨A.IOS_RELOAD e, 31, 0⟩
def IOS_CMP_VALUE (e : Nat) : Loc := ⟨A.IOS_CMP e, 31, 0⟩
def IOS_FILLW_VALUE (e : Nat) : Loc := ⟨A.IOS_FILLW e, 31, 0⟩
def IOS_BITS_CAP (e : Nat) : Loc := ⟨A.IOS_BITS e, 21, 16⟩
def IOS_BITS_SND (e : Nat) : Loc := ⟨A.IOS_BITS e, 5, 0⟩
def IOS_PMAP_PIN (e : Nat) (k : Nat) : Loc := ⟨A.IOS_PMAP e k, 8, 0⟩
def IOS_SLOT_FLOW (e : Nat) (i : Nat) : Loc := ⟨A.IOS_SLOT e i, 31, 29⟩
def IOS_SLOT_COND (e : Nat) (i : Nat) : Loc := ⟨A.IOS_SLOT e i, 28, 25⟩
def IOS_SLOT_TARGET (e : Nat) (i : Nat) : Loc := ⟨A.IOS_SLOT e i, 24, 20⟩
def IOS_SLOT_ACT (e : Nat) (i : Nat) : Loc := ⟨A.IOS_SLOT e i, 19, 16⟩
def IOS_SLOT_ARG (e : Nat) (i : Nat) : Loc := ⟨A.IOS_SLOT e i, 15, 8⟩
def IOS_SLOT_CMASK (e : Nat) (i : Nat) : Loc := ⟨A.IOS_SLOT e i, 7, 4⟩
def IOS_SLOT_CVAL (e : Nat) (i : Nat) : Loc := ⟨A.IOS_SLOT e i, 3, 0⟩
def IOS_GO_GO (k : Nat) : Loc := ⟨A.IOS_GO k, 31, 0⟩
def IOS_ERR_VALID : Loc := ⟨A.IOS_ERR, 31, 31⟩
def IOS_ERR_CAUSE : Loc := ⟨A.IOS_ERR, 27, 24⟩
def IOS_ERR_ENGINE : Loc := ⟨A.IOS_ERR, 22, 16⟩
def IOS_ERR_OFFSET : Loc := ⟨A.IOS_ERR, 7, 0⟩
def IOS_FLAGS_FLAGS (k : Nat) : Loc := ⟨A.IOS_FLAGS k, 31, 0⟩
def IOS_FLAGSET_FLAGS (k : Nat) : Loc := ⟨A.IOS_FLAGSET k, 31, 0⟩
def IOS_FLAGCLR_FLAGS (k : Nat) : Loc := ⟨A.IOS_FLAGCLR k, 31, 0⟩
def PIN_CFG_OWNER (n : Nat) : Loc := ⟨A.PIN_CFG n, 31, 28⟩
def PIN_CFG_FUNC (n : Nat) : Loc := ⟨A.PIN_CFG n, 27, 24⟩
def PIN_CFG_ENGINE (n : Nat) : Loc := ⟨A.PIN_CFG n, 22, 16⟩
def PIN_CFG_EVEN (n : Nat) : Loc := ⟨A.PIN_CFG n, 15, 15⟩
def PIN_CFG_EVLINE (n : Nat) : Loc := ⟨A.PIN_CFG n, 14, 9⟩
def PIN_CFG_WAKE (n : Nat) : Loc := ⟨A.PIN_CFG n, 8, 8⟩
def PIN_CFG_PULL (n : Nat) : Loc := ⟨A.PIN_CFG n, 5, 4⟩
def PIN_CFG_DRIVE (n : Nat) : Loc := ⟨A.PIN_CFG n, 3, 2⟩
def PIN_CFG_OD (n : Nat) : Loc := ⟨A.PIN_CFG n, 1, 1⟩
def PIN_OUT_LO_MASK (b : Nat) : Loc := ⟨A.PIN_OUT_LO b, 31, 16⟩
def PIN_OUT_LO_VALUE (b : Nat) : Loc := ⟨A.PIN_OUT_LO b, 15, 0⟩
def PIN_OUT_HI_MASK (b : Nat) : Loc := ⟨A.PIN_OUT_HI b, 31, 16⟩
def PIN_OUT_HI_VALUE (b : Nat) : Loc := ⟨A.PIN_OUT_HI b, 15, 0⟩
def PIN_DIR_LO_MASK (b : Nat) : Loc := ⟨A.PIN_DIR_LO b, 31, 16⟩
def PIN_DIR_LO_VALUE (b : Nat) : Loc := ⟨A.PIN_DIR_LO b, 15, 0⟩
def PIN_DIR_HI_MASK (b : Nat) : Loc := ⟨A.PIN_DIR_HI b, 31, 16⟩
def PIN_DIR_HI_VALUE (b : Nat) : Loc := ⟨A.PIN_DIR_HI b, 15, 0⟩
def PIN_OUTV_LATCH (b : Nat) : Loc := ⟨A.PIN_OUTV b, 31, 0⟩
def PIN_DIRV_DIR (b : Nat) : Loc := ⟨A.PIN_DIRV b, 31, 0⟩
def PIN_IN_LEVEL (b : Nat) : Loc := ⟨A.PIN_IN b, 31, 0⟩
def PIN_BANKSTAT_OK (b : Nat) : Loc := ⟨A.PIN_BANKSTAT b, 31, 31⟩
def PIN_BANKSTAT_LOST (b : Nat) : Loc := ⟨A.PIN_BANKSTAT b, 30, 30⟩
def PIN_BANKSTAT_LEVEL (b : Nat) : Loc := ⟨A.PIN_BANKSTAT b, 1, 0⟩
def PIN_EVCFG_EN (k : Nat) : Loc := ⟨A.PIN_EVCFG k, 31, 31⟩
def PIN_EVCFG_IEN (k : Nat) : Loc := ⟨A.PIN_EVCFG k, 30, 30⟩
def PIN_EVCFG_EDGE (k : Nat) : Loc := ⟨A.PIN_EVCFG k, 29, 28⟩
def PIN_EVCFG_CONFLICT (k : Nat) : Loc := ⟨A.PIN_EVCFG k, 27, 27⟩
def PIN_EVCFG_PIN (k : Nat) : Loc := ⟨A.PIN_EVCFG k, 17, 9⟩
def PIN_EVCFG_OVF (k : Nat) : Loc := ⟨A.PIN_EVCFG k, 1, 1⟩
def PIN_EVCFG_PEND (k : Nat) : Loc := ⟨A.PIN_EVCFG k, 0, 0⟩
def PIN_EVTS_TIME (k : Nat) : Loc := ⟨A.PIN_EVTS k, 63, 0⟩
def PIN_STAT_CONFLICT : Loc := ⟨A.PIN_STAT, 31, 31⟩
def PIN_STAT_ACTIVE : Loc := ⟨A.PIN_STAT, 30, 30⟩
def PIN_STAT_BANK_FAULT : Loc := ⟨A.PIN_STAT, 29, 29⟩
def PIN_STAT_LINE : Loc := ⟨A.PIN_STAT, 5, 0⟩
def PIN_ERR_VALID : Loc := ⟨A.PIN_ERR, 31, 31⟩
def PIN_ERR_CAUSE : Loc := ⟨A.PIN_ERR, 27, 24⟩
def PIN_ERR_SRC : Loc := ⟨A.PIN_ERR, 22, 20⟩
def PIN_ERR_ID : Loc := ⟨A.PIN_ERR, 19, 13⟩
def PIN_ERR_PIN : Loc := ⟨A.PIN_ERR, 8, 0⟩
def PIN_NOWN_COUNT_COUNT : Loc := ⟨A.PIN_NOWN_COUNT, 31, 0⟩
def ICU_PRIO_LEVEL (id : Nat) : Loc := ⟨A.ICU_PRIO id, 8, 8⟩
def ICU_PRIO_PRIO (id : Nat) : Loc := ⟨A.ICU_PRIO id, 3, 0⟩
def ICU_EN_EN (k : Nat) (w : Nat) : Loc := ⟨A.ICU_EN k w, 31, 0⟩
def ICU_EN_SET_EN (k : Nat) (w : Nat) : Loc := ⟨A.ICU_EN_SET k w, 31, 0⟩
def ICU_EN_CLR_EN (k : Nat) (w : Nat) : Loc := ⟨A.ICU_EN_CLR k w, 31, 0⟩
def ICU_PEND_PEND (w : Nat) : Loc := ⟨A.ICU_PEND w, 31, 0⟩
def ICU_PEND_SET_PEND (w : Nat) : Loc := ⟨A.ICU_PEND_SET w, 31, 0⟩
def ICU_PEND_CLR_PEND (w : Nat) : Loc := ⟨A.ICU_PEND_CLR w, 31, 0⟩
def ICU_ACTIVE_ACTIVE (w : Nat) : Loc := ⟨A.ICU_ACTIVE w, 31, 0⟩
def ICU_THR_THR (k : Nat) : Loc := ⟨A.ICU_THR k, 3, 0⟩
def ICU_THR_SET_V (k : Nat) : Loc := ⟨A.ICU_THR_SET k, 3, 0⟩
def ICU_THR_CLR_V (k : Nat) : Loc := ⟨A.ICU_THR_CLR k, 3, 0⟩
def ICU_CLAIM_ID (k : Nat) : Loc := ⟨A.ICU_CLAIM k, 9, 0⟩
def ICU_COMPLETE_ID (k : Nat) : Loc := ⟨A.ICU_COMPLETE k, 9, 0⟩
def ICU_LATCH_VALID (k : Nat) : Loc := ⟨A.ICU_LATCH k, 31, 31⟩
def ICU_LATCH_ID (k : Nat) : Loc := ⟨A.ICU_LATCH k, 9, 0⟩
def ICU_ERR_VALID : Loc := ⟨A.ICU_ERR, 31, 31⟩
def ICU_ERR_CAUSE : Loc := ⟨A.ICU_ERR, 27, 24⟩
def ICU_ERR_CORE : Loc := ⟨A.ICU_ERR, 17, 16⟩
def ICU_ERR_ID : Loc := ⟨A.ICU_ERR, 9, 0⟩
def FLC_CMD_KEY : Loc := ⟨A.FLC_CMD, 31, 24⟩
def FLC_CMD_LAYBY : Loc := ⟨A.FLC_CMD, 12, 12⟩
def FLC_CMD_BANK : Loc := ⟨A.FLC_CMD, 11, 8⟩
def FLC_CMD_CMD : Loc := ⟨A.FLC_CMD, 3, 0⟩
def FLC_RESULT_CAUSE : Loc := ⟨A.FLC_RESULT, 27, 24⟩
def FLC_RESULT_BANK : Loc := ⟨A.FLC_RESULT, 23, 20⟩
def FLC_RESULT_CMD : Loc := ⟨A.FLC_RESULT, 3, 0⟩
def FLC_ADDR_ADDR : Loc := ⟨A.FLC_ADDR, 39, 4⟩
def FLC_CFG_MINRUN : Loc := ⟨A.FLC_CFG, 31, 24⟩
def FLC_CFG_MAXSUS : Loc := ⟨A.FLC_CFG, 23, 16⟩
def FLC_CFG_AUTOSUS : Loc := ⟨A.FLC_CFG, 8, 0⟩
def FLC_STAT_WP_N : Loc := ⟨A.FLC_STAT, 31, 31⟩
def FLC_STAT_LOG_BUSY : Loc := ⟨A.FLC_STAT, 30, 30⟩
def FLC_STAT_SCAN_DONE : Loc := ⟨A.FLC_STAT, 29, 29⟩
def FLC_STAT_PEND_COUNT : Loc := ⟨A.FLC_STAT, 28, 24⟩
def FLC_STAT_LOG : Loc := ⟨A.FLC_STAT, 7, 7⟩
def FLC_STAT_WP_CHG : Loc := ⟨A.FLC_STAT, 6, 6⟩
def FLC_STAT_XO_VIOL : Loc := ⟨A.FLC_STAT, 5, 5⟩
def FLC_STAT_PEND_FOUND : Loc := ⟨A.FLC_STAT, 4, 4⟩
def FLC_STAT_UNCORR : Loc := ⟨A.FLC_STAT, 3, 3⟩
def FLC_STAT_REFRESH : Loc := ⟨A.FLC_STAT, 2, 2⟩
def FLC_STAT_FAIL : Loc := ⟨A.FLC_STAT, 1, 1⟩
def FLC_STAT_DONE : Loc := ⟨A.FLC_STAT, 0, 0⟩
def FLC_IEN_IEN : Loc := ⟨A.FLC_IEN, 7, 0⟩
def FLC_CORR_RESCUED : Loc := ⟨A.FLC_CORR, 31, 16⟩
def FLC_CORR_CORRECTED : Loc := ⟨A.FLC_CORR, 15, 0⟩
def FLC_REFRESH_VALID : Loc := ⟨A.FLC_REFRESH, 63, 63⟩
def FLC_REFRESH_COUNT : Loc := ⟨A.FLC_REFRESH, 55, 40⟩
def FLC_REFRESH_ADDR : Loc := ⟨A.FLC_REFRESH, 39, 4⟩
def FLC_UNCORR_VALID : Loc := ⟨A.FLC_UNCORR, 63, 63⟩
def FLC_UNCORR_INIT : Loc := ⟨A.FLC_UNCORR, 42, 40⟩
def FLC_UNCORR_ADDR : Loc := ⟨A.FLC_UNCORR, 39, 4⟩
def FLC_XO_FAULT_VALID : Loc := ⟨A.FLC_XO_FAULT, 63, 63⟩
def FLC_XO_FAULT_INIT : Loc := ⟨A.FLC_XO_FAULT, 42, 40⟩
def FLC_XO_FAULT_ADDR : Loc := ⟨A.FLC_XO_FAULT, 39, 4⟩
def FLC_BSTAT_STATE (k : Nat) : Loc := ⟨A.FLC_BSTAT k, 31, 29⟩
def FLC_BSTAT_DONE (k : Nat) : Loc := ⟨A.FLC_BSTAT k, 28, 28⟩
def FLC_BSTAT_FAIL (k : Nat) : Loc := ⟨A.FLC_BSTAT k, 27, 27⟩
def FLC_BSTAT_CAUSE (k : Nat) : Loc := ⟨A.FLC_BSTAT k, 23, 20⟩
def FLC_BSTAT_LAST (k : Nat) : Loc := ⟨A.FLC_BSTAT k, 17, 16⟩
def FLC_BSTAT_SECTOR (k : Nat) : Loc := ⟨A.FLC_BSTAT k, 6, 0⟩
def FLC_PEND_VALID (i : Nat) : Loc := ⟨A.FLC_PEND i, 31, 31⟩
def FLC_PEND_BANK (i : Nat) : Loc := ⟨A.FLC_PEND i, 11, 8⟩
def FLC_PEND_SECTOR (i : Nat) : Loc := ⟨A.FLC_PEND i, 6, 0⟩
def FLC_BUF_DATA (i : Nat) : Loc := ⟨A.FLC_BUF i, 31, 0⟩
def FLC_XO_EN (r : Nat) : Loc := ⟨A.FLC_XO r, 31, 31⟩
def FLC_XO_LAST (r : Nat) : Loc := ⟨A.FLC_XO r, 25, 16⟩
def FLC_XO_FIRST (r : Nat) : Loc := ⟨A.FLC_XO r, 9, 0⟩
def XSP_CTL_EN (x : Nat) : Loc := ⟨A.XSP_CTL x, 31, 31⟩
def XSP_CTL_BUSY (x : Nat) : Loc := ⟨A.XSP_CTL x, 30, 30⟩
def XSP_CTL_CSPINS (x : Nat) : Loc := ⟨A.XSP_CTL x, 23, 20⟩
def XSP_CLKDIV_FH (x : Nat) : Loc := ⟨A.XSP_CLKDIV x, 19, 16⟩
def XSP_CLKDIV_F3 (x : Nat) : Loc := ⟨A.XSP_CLKDIV x, 15, 12⟩
def XSP_CLKDIV_F2 (x : Nat) : Loc := ⟨A.XSP_CLKDIV x, 11, 8⟩
def XSP_CLKDIV_F1 (x : Nat) : Loc := ⟨A.XSP_CLKDIV x, 7, 4⟩
def XSP_CLKDIV_F0 (x : Nat) : Loc := ⟨A.XSP_CLKDIV x, 3, 0⟩
def XSP_STATUS_FRAME (x : Nat) : Loc := ⟨A.XSP_STATUS x, 31, 31⟩
def XSP_STATUS_WAIT (x : Nat) : Loc := ⟨A.XSP_STATUS x, 30, 30⟩
def XSP_STATUS_POLL (x : Nat) : Loc := ⟨A.XSP_STATUS x, 29, 29⟩
def XSP_STATUS_BUSY_TO (x : Nat) : Loc := ⟨A.XSP_STATUS x, 3, 3⟩
def XSP_STATUS_RDY_TO (x : Nat) : Loc := ⟨A.XSP_STATUS x, 2, 2⟩
def XSP_STATUS_ERR (x : Nat) : Loc := ⟨A.XSP_STATUS x, 1, 1⟩
def XSP_STATUS_MAN_DONE (x : Nat) : Loc := ⟨A.XSP_STATUS x, 0, 0⟩
def XSP_IEN_IEN (x : Nat) : Loc := ⟨A.XSP_IEN x, 3, 0⟩
def XSP_ERR_VALID (x : Nat) : Loc := ⟨A.XSP_ERR x, 31, 31⟩
def XSP_ERR_CAUSE (x : Nat) : Loc := ⟨A.XSP_ERR x, 27, 24⟩
def XSP_ERR_CS (x : Nat) : Loc := ⟨A.XSP_ERR x, 23, 22⟩
def XSP_ERR_INIT (x : Nat) : Loc := ⟨A.XSP_ERR x, 21, 19⟩
def XSP_ERR_OFFSET (x : Nat) : Loc := ⟨A.XSP_ERR x, 11, 0⟩
def XSP_ERR_ADDR_ADDR (x : Nat) : Loc := ⟨A.XSP_ERR_ADDR x, 39, 0⟩
def XSP_MAN_CTL_START (x : Nat) : Loc := ⟨A.XSP_MAN_CTL x, 31, 31⟩
def XSP_MAN_CTL_BUSY (x : Nat) : Loc := ⟨A.XSP_MAN_CTL x, 30, 30⟩
def XSP_MAN_CTL_WRITE (x : Nat) : Loc := ⟨A.XSP_MAN_CTL x, 29, 29⟩
def XSP_MAN_CTL_POLL (x : Nat) : Loc := ⟨A.XSP_MAN_CTL x, 28, 28⟩
def XSP_MAN_CTL_CS (x : Nat) : Loc := ⟨A.XSP_MAN_CTL x, 27, 26⟩
def XSP_MAN_CTL_LEN (x : Nat) : Loc := ⟨A.XSP_MAN_CTL x, 6, 0⟩
def XSP_MAN_FMT_FMT (x : Nat) : Loc := ⟨A.XSP_MAN_FMT x, 31, 0⟩
def XSP_MAN_ADDR_ADDR (x : Nat) : Loc := ⟨A.XSP_MAN_ADDR x, 31, 0⟩
def XSP_MAN_DATA_DATA (x : Nat) (i : Nat) : Loc := ⟨A.XSP_MAN_DATA x i, 31, 0⟩
def XSP_CSCFG_EN (x : Nat) (c : Nat) : Loc := ⟨A.XSP_CSCFG x c, 31, 31⟩
def XSP_CSCFG_TYPE (x : Nat) (c : Nat) : Loc := ⟨A.XSP_CSCFG x c, 30, 29⟩
def XSP_CSCFG_RDS (x : Nat) (c : Nat) : Loc := ⟨A.XSP_CSCFG x c, 28, 27⟩
def XSP_CSCFG_PAGE (x : Nat) (c : Nat) : Loc := ⟨A.XSP_CSCFG x c, 23, 21⟩
def XSP_CSCFG_SIZE (x : Nat) (c : Nat) : Loc := ⟨A.XSP_CSCFG x c, 20, 16⟩
def XSP_CSCFG_BASE (x : Nat) (c : Nat) : Loc := ⟨A.XSP_CSCFG x c, 15, 0⟩
def XSP_CSTIME_SETUP (x : Nat) (c : Nat) : Loc := ⟨A.XSP_CSTIME x c, 31, 28⟩
def XSP_CSTIME_HOLD (x : Nat) (c : Nat) : Loc := ⟨A.XSP_CSTIME x c, 27, 24⟩
def XSP_CSTIME_SAMPLE (x : Nat) (c : Nat) : Loc := ⟨A.XSP_CSTIME x c, 23, 22⟩
def XSP_CSTIME_IDLE (x : Nat) (c : Nat) : Loc := ⟨A.XSP_CSTIME x c, 21, 16⟩
def XSP_CSTIME_RDY_TO (x : Nat) (c : Nat) : Loc := ⟨A.XSP_CSTIME x c, 15, 0⟩
def XSP_RD_FMT_FMT (x : Nat) (c : Nat) : Loc := ⟨A.XSP_RD_FMT x c, 31, 0⟩
def XSP_WR_FMT_FMT (x : Nat) (c : Nat) : Loc := ⟨A.XSP_WR_FMT x c, 31, 0⟩
def XSP_WREN_FMT_FMT (x : Nat) (c : Nat) : Loc := ⟨A.XSP_WREN_FMT x c, 31, 0⟩
def XSP_STAT_FMT_FMT (x : Nat) (c : Nat) : Loc := ⟨A.XSP_STAT_FMT x c, 31, 0⟩
def XSP_POLL_BUSY_POL (x : Nat) (c : Nat) : Loc := ⟨A.XSP_POLL x c, 31, 31⟩
def XSP_POLL_BUSY_BIT (x : Nat) (c : Nat) : Loc := ⟨A.XSP_POLL x c, 30, 28⟩
def XSP_POLL_GAP (x : Nat) (c : Nat) : Loc := ⟨A.XSP_POLL x c, 27, 16⟩
def XSP_POLL_TIMEOUT (x : Nat) (c : Nat) : Loc := ⟨A.XSP_POLL x c, 15, 0⟩
def HW_ID_FAMILY : Loc := ⟨A.HW_ID, 31, 16⟩
def HW_ID_PART : Loc := ⟨A.HW_ID, 15, 0⟩
def HW_REV_HMODE : Loc := ⟨A.HW_REV, 18, 18⟩
def HW_REV_MEMBER : Loc := ⟨A.HW_REV, 17, 16⟩
def HW_REV_ROM : Loc := ⟨A.HW_REV, 15, 8⟩
def HW_REV_SILICON : Loc := ⟨A.HW_REV, 7, 0⟩
def HW_STATE_DEBUG_LEVEL : Loc := ⟨A.HW_STATE, 21, 20⟩
def HW_STATE_HOST_WAIT : Loc := ⟨A.HW_STATE, 17, 17⟩
def HW_STATE_STATE : Loc := ⟨A.HW_STATE, 3, 0⟩
def HW_STATUS_CODE : Loc := ⟨A.HW_STATUS, 31, 28⟩
def HW_STATUS_PEND : Loc := ⟨A.HW_STATUS, 15, 0⟩
def HW_ATTN_MASK_MASK : Loc := ⟨A.HW_ATTN_MASK, 15, 0⟩
def HW_ATTN_CLR_CLR : Loc := ⟨A.HW_ATTN_CLR, 15, 0⟩
def HW_CMD_BUSY : Loc := ⟨A.HW_CMD, 31, 31⟩
def HW_CMD_FW : Loc := ⟨A.HW_CMD, 30, 30⟩
def HW_CMD_CODE : Loc := ⟨A.HW_CMD, 7, 0⟩
def HW_CMD_ARG0_ARG : Loc := ⟨A.HW_CMD_ARG0, 31, 0⟩
def HW_CMD_ARG1_ARG : Loc := ⟨A.HW_CMD_ARG1, 31, 0⟩
def HW_CMD_RESULT_RESULT : Loc := ⟨A.HW_CMD_RESULT, 31, 0⟩
def HW_ERR_VALID : Loc := ⟨A.HW_ERR, 31, 31⟩
def HW_ERR_CAUSE : Loc := ⟨A.HW_ERR, 27, 24⟩
def HW_ERR_STATE : Loc := ⟨A.HW_ERR, 23, 20⟩
def HW_ERR_CMD : Loc := ⟨A.HW_ERR, 19, 12⟩
def HW_ERR_SUB : Loc := ⟨A.HW_ERR, 7, 0⟩
def HW_ERR_ADDR_ADDR : Loc := ⟨A.HW_ERR_ADDR, 31, 0⟩
def HW_MBX_IN_DATA_DATA : Loc := ⟨A.HW_MBX_IN_DATA, 31, 0⟩
def HW_MBX_IN_LEVEL_LEVEL : Loc := ⟨A.HW_MBX_IN_LEVEL, 4, 0⟩
def HW_MBX_OUT_DATA_DATA : Loc := ⟨A.HW_MBX_OUT_DATA, 31, 0⟩
def HW_MBX_OUT_LEVEL_LEVEL : Loc := ⟨A.HW_MBX_OUT_LEVEL, 4, 0⟩
def HW_WIN_ADDR_LO_ADDR : Loc := ⟨A.HW_WIN_ADDR_LO, 31, 2⟩
def HW_WIN_ADDR_HI_ADDR : Loc := ⟨A.HW_WIN_ADDR_HI, 7, 0⟩
def HW_WIN_DATA_DATA : Loc := ⟨A.HW_WIN_DATA, 31, 0⟩
def HW_WIN_CTL_READ : Loc := ⟨A.HW_WIN_CTL, 31, 31⟩
def HW_WIN_CTL_BUSY : Loc := ⟨A.HW_WIN_CTL, 30, 30⟩
def HW_WIN_CTL_ERR : Loc := ⟨A.HW_WIN_CTL, 29, 29⟩
def HW_WIN_CTL_INC : Loc := ⟨A.HW_WIN_CTL, 28, 28⟩
def HW_WIN_CTL_AUTO : Loc := ⟨A.HW_WIN_CTL, 27, 27⟩
def HW_PART_STATE_SEL : Loc := ⟨A.HW_PART_STATE, 31, 30⟩
def HW_PART_STATE_SEALED : Loc := ⟨A.HW_PART_STATE, 19, 16⟩
def HW_PART_STATE_STATE : Loc := ⟨A.HW_PART_STATE, 15, 0⟩
def HW_CONVOY_ROLE : Loc := ⟨A.HW_CONVOY, 31, 28⟩
def HW_CONVOY_VOTERS : Loc := ⟨A.HW_CONVOY, 27, 24⟩
def HW_CONVOY_LEADER : Loc := ⟨A.HW_CONVOY, 23, 22⟩
def HW_CONVOY_STANDBY_FIT : Loc := ⟨A.HW_CONVOY, 21, 21⟩
def HW_CONVOY_DEGRADED : Loc := ⟨A.HW_CONVOY, 20, 20⟩
def HW_CONVOY_ALONE : Loc := ⟨A.HW_CONVOY, 19, 19⟩
def HW_CONVOY_MODE : Loc := ⟨A.HW_CONVOY, 10, 8⟩
def HW_CONVOY_MEMBER : Loc := ⟨A.HW_CONVOY, 5, 4⟩
def HW_CONVOY_MERGE : Loc := ⟨A.HW_CONVOY, 3, 0⟩
def HW_WPT_COUNT_LO_WNUM : Loc := ⟨A.HW_WPT_COUNT_LO, 31, 0⟩
def HW_WPT_COUNT_HI_WNUM : Loc := ⟨A.HW_WPT_COUNT_HI, 31, 0⟩
def HW_WPT_LATE_LATE : Loc := ⟨A.HW_WPT_LATE, 31, 0⟩
def HW_WDG_LADDER_LAST2 : Loc := ⟨A.HW_WDG_LADDER, 23, 16⟩
def HW_WDG_LADDER_STAGE1 : Loc := ⟨A.HW_WDG_LADDER, 15, 8⟩
def HW_WDG_LADDER_LIMIT : Loc := ⟨A.HW_WDG_LADDER, 6, 4⟩
def HW_WDG_LADDER_COUNT : Loc := ⟨A.HW_WDG_LADDER, 2, 0⟩
def HW_RESET_CAUSE_HELD : Loc := ⟨A.HW_RESET_CAUSE, 31, 31⟩
def HW_RESET_CAUSE_WAKE : Loc := ⟨A.HW_RESET_CAUSE, 8, 8⟩
def HW_RESET_CAUSE_CAUSE : Loc := ⟨A.HW_RESET_CAUSE, 6, 0⟩
def HW_LAYBY_STATUS_OFFERED : Loc := ⟨A.HW_LAYBY_STATUS, 31, 31⟩
def HW_LAYBY_STATUS_ARMED : Loc := ⟨A.HW_LAYBY_STATUS, 30, 30⟩
def HW_LAYBY_STATUS_RESTORED : Loc := ⟨A.HW_LAYBY_STATUS, 29, 29⟩
def HW_LAYBY_STATUS_DISCARDED : Loc := ⟨A.HW_LAYBY_STATUS, 28, 28⟩
def HW_LAYBY_STATUS_SLOT : Loc := ⟨A.HW_LAYBY_STATUS, 26, 24⟩
def HW_LAYBY_STATUS_FREE : Loc := ⟨A.HW_LAYBY_STATUS, 23, 16⟩
def HW_LAYBY_STATUS_SEQ : Loc := ⟨A.HW_LAYBY_STATUS, 15, 0⟩
def HW_FLASH_STATUS_WP_N : Loc := ⟨A.HW_FLASH_STATUS, 31, 31⟩
def HW_FLASH_STATUS_LOG_BUSY : Loc := ⟨A.HW_FLASH_STATUS, 30, 30⟩
def HW_FLASH_STATUS_PEND_COUNT : Loc := ⟨A.HW_FLASH_STATUS, 28, 24⟩
def HW_FLASH_STATUS_BUSY : Loc := ⟨A.HW_FLASH_STATUS, 16, 8⟩
def HW_FLASH_STATUS_LOG : Loc := ⟨A.HW_FLASH_STATUS, 7, 7⟩
def HW_FLASH_STATUS_PEND_FOUND : Loc := ⟨A.HW_FLASH_STATUS, 4, 4⟩
def HW_FLASH_STATUS_UNCORR : Loc := ⟨A.HW_FLASH_STATUS, 3, 3⟩
def HW_FLASH_STATUS_REFRESH : Loc := ⟨A.HW_FLASH_STATUS, 2, 2⟩
def HW_TEMP_VALID : Loc := ⟨A.HW_TEMP, 31, 31⟩
def HW_TEMP_HOT : Loc := ⟨A.HW_TEMP, 30, 30⟩
def HW_TEMP_TEMP : Loc := ⟨A.HW_TEMP, 15, 0⟩
def HW_SUPPLY_VRDY : Loc := ⟨A.HW_SUPPLY, 31, 31⟩
def HW_SUPPLY_VID : Loc := ⟨A.HW_SUPPLY, 29, 24⟩
def HW_SUPPLY_VHOLD : Loc := ⟨A.HW_SUPPLY, 23, 12⟩
def HW_SUPPLY_VCORE : Loc := ⟨A.HW_SUPPLY, 11, 0⟩
def HW_UNLOCK_CHAL_DATA : Loc := ⟨A.HW_UNLOCK_CHAL, 31, 0⟩
def HW_UNLOCK_RESP_DATA : Loc := ⟨A.HW_UNLOCK_RESP, 31, 0⟩
def HW_SCRATCH_DATA (k : Nat) : Loc := ⟨A.HW_SCRATCH k, 31, 0⟩
def HW_BOOT_CFG_IMAGE : Loc := ⟨A.HW_BOOT_CFG, 2, 1⟩
def HW_BOOT_CFG_WAIT : Loc := ⟨A.HW_BOOT_CFG, 0, 0⟩
def HW_IMAGE_INFO_VERSION : Loc := ⟨A.HW_IMAGE_INFO, 31, 16⟩
def HW_IMAGE_INFO_NEXT : Loc := ⟨A.HW_IMAGE_INFO, 3, 3⟩
def HW_IMAGE_INFO_OTHER_OK : Loc := ⟨A.HW_IMAGE_INFO, 2, 2⟩
def HW_IMAGE_INFO_FALLBACK : Loc := ⟨A.HW_IMAGE_INFO, 1, 1⟩
def HW_IMAGE_INFO_SLOT : Loc := ⟨A.HW_IMAGE_INFO, 0, 0⟩
def HW_EVENT_LOG_DATA_ENTRY : Loc := ⟨A.HW_EVENT_LOG_DATA, 31, 0⟩
def HW_EVENT_LOG_LEVEL_DROPPED : Loc := ⟨A.HW_EVENT_LOG_LEVEL, 31, 16⟩
def HW_EVENT_LOG_LEVEL_LEVEL : Loc := ⟨A.HW_EVENT_LOG_LEVEL, 6, 0⟩
def HW_BURST_CTL_EN : Loc := ⟨A.HW_BURST_CTL, 1, 1⟩
def HW_BURST_CTL_INC : Loc := ⟨A.HW_BURST_CTL, 0, 0⟩
def HW_HEARTBEAT_FW : Loc := ⟨A.HW_HEARTBEAT, 31, 16⟩
def HW_HEARTBEAT_HW : Loc := ⟨A.HW_HEARTBEAT, 15, 0⟩
def HW_CAL_STATUS_BUSY : Loc := ⟨A.HW_CAL_STATUS, 31, 31⟩
def HW_CAL_STATUS_RESULT : Loc := ⟨A.HW_CAL_STATUS, 27, 24⟩
def HW_CAL_STATUS_COVER : Loc := ⟨A.HW_CAL_STATUS, 23, 20⟩
def HW_CAL_STATUS_FAILED : Loc := ⟨A.HW_CAL_STATUS, 19, 16⟩
def HW_CAL_STATUS_USER_VALID : Loc := ⟨A.HW_CAL_STATUS, 5, 5⟩
def HW_CAL_STATUS_FACTORY_VALID : Loc := ⟨A.HW_CAL_STATUS, 4, 4⟩
def HW_CAL_STATUS_LAYER : Loc := ⟨A.HW_CAL_STATUS, 1, 0⟩
def HW_POWER_STATE_REFUSE : Loc := ⟨A.HW_POWER_STATE, 31, 24⟩
def HW_POWER_STATE_LAST : Loc := ⟨A.HW_POWER_STATE, 9, 8⟩
def HW_POWER_STATE_HFRC : Loc := ⟨A.HW_POWER_STATE, 4, 4⟩
def HW_POWER_STATE_OPP : Loc := ⟨A.HW_POWER_STATE, 1, 0⟩
def HW_WAKE_CAUSE_LINE : Loc := ⟨A.HW_WAKE_CAUSE, 13, 8⟩
def HW_WAKE_CAUSE_CAUSE : Loc := ⟨A.HW_WAKE_CAUSE, 6, 0⟩
def HW_SIGNATURE_DIGEST : Loc := ⟨A.HW_SIGNATURE, 31, 0⟩
def HST_MBX_IN_DATA : Loc := ⟨A.HST_MBX_IN, 31, 0⟩
def HST_MBX_OUT_DATA : Loc := ⟨A.HST_MBX_OUT, 31, 0⟩
def HST_CMD_PENDING : Loc := ⟨A.HST_CMD, 31, 31⟩
def HST_CMD_CODE : Loc := ⟨A.HST_CMD, 7, 0⟩
def HST_DONE_RESULT : Loc := ⟨A.HST_DONE, 31, 0⟩
def HST_LOG_CODE : Loc := ⟨A.HST_LOG, 27, 20⟩
def HST_LOG_PART : Loc := ⟨A.HST_LOG, 19, 18⟩
def HST_BEAT_FW : Loc := ⟨A.HST_BEAT, 15, 0⟩
def HST_IRQ_IEN : Loc := ⟨A.HST_IRQ, 19, 16⟩
def HST_IRQ_OUT_LOST : Loc := ⟨A.HST_IRQ, 4, 4⟩
def HST_IRQ_UNLOCK : Loc := ⟨A.HST_IRQ, 3, 3⟩
def HST_IRQ_OUT_SPACE : Loc := ⟨A.HST_IRQ, 2, 2⟩
def HST_IRQ_IN_AVAIL : Loc := ⟨A.HST_IRQ, 1, 1⟩
def HST_IRQ_CMD : Loc := ⟨A.HST_IRQ, 0, 0⟩
def SYS_CLK_CTL_SRC : Loc := ⟨A.SYS_CLK_CTL, 0, 0⟩
def SYS_CLK_STAT_SWITCHING : Loc := ⟨A.SYS_CLK_STAT, 31, 31⟩
def SYS_CLK_STAT_PLL_LOCK : Loc := ⟨A.SYS_CLK_STAT, 30, 30⟩
def SYS_CLK_STAT_MON_FAULT : Loc := ⟨A.SYS_CLK_STAT, 2, 2⟩
def SYS_CLK_STAT_LOCK_LOST : Loc := ⟨A.SYS_CLK_STAT, 1, 1⟩
def SYS_CLK_STAT_SRC : Loc := ⟨A.SYS_CLK_STAT, 0, 0⟩
def SYS_PLL_CTL_EN : Loc := ⟨A.SYS_PLL_CTL, 31, 31⟩
def SYS_PLL_CTL_FBDIV : Loc := ⟨A.SYS_PLL_CTL, 6, 0⟩
def SYS_AON_CFG_XTAL_OK : Loc := ⟨A.SYS_AON_CFG, 31, 31⟩
def SYS_AON_CFG_SRC : Loc := ⟨A.SYS_AON_CFG, 0, 0⟩
def PWR_OPP_CTL_TARGET : Loc := ⟨A.PWR_OPP_CTL, 1, 0⟩
def PWR_OPP_STAT_BUSY : Loc := ⟨A.PWR_OPP_STAT, 31, 31⟩
def PWR_OPP_STAT_PHASE : Loc := ⟨A.PWR_OPP_STAT, 30, 28⟩
def PWR_OPP_STAT_CUR : Loc := ⟨A.PWR_OPP_STAT, 9, 8⟩
def PWR_OPP_STAT_VID : Loc := ⟨A.PWR_OPP_STAT, 5, 0⟩
def PWR_VID_OPP_VID (k : Nat) : Loc := ⟨A.PWR_VID_OPP k, 5, 0⟩
def PWR_VID_VID : Loc := ⟨A.PWR_VID, 5, 0⟩
def PWR_VRDY_CFG_TIMEOUT : Loc := ⟨A.PWR_VRDY_CFG, 11, 0⟩
def PWR_DOM_CTL_LINK_OFF : Loc := ⟨A.PWR_DOM_CTL, 6, 6⟩
def PWR_DOM_CTL_ANA_OFF : Loc := ⟨A.PWR_DOM_CTL, 5, 5⟩
def PWR_DOM_CTL_FAB_OFF : Loc := ⟨A.PWR_DOM_CTL, 3, 0⟩
def PWR_DOM_STAT_LINK : Loc := ⟨A.PWR_DOM_STAT, 6, 6⟩
def PWR_DOM_STAT_ANA : Loc := ⟨A.PWR_DOM_STAT, 5, 5⟩
def PWR_DOM_STAT_FAB : Loc := ⟨A.PWR_DOM_STAT, 3, 0⟩
def PWR_SLEEP_CTL_REQ : Loc := ⟨A.PWR_SLEEP_CTL, 31, 31⟩
def PWR_SLEEP_CTL_STATE : Loc := ⟨A.PWR_SLEEP_CTL, 1, 0⟩
def PWR_RETAIN_BANKS : Loc := ⟨A.PWR_RETAIN, 15, 0⟩
def PWR_WAKE_EN_EN : Loc := ⟨A.PWR_WAKE_EN, 6, 0⟩
def PWR_HS_CFG_DELAY_MAX : Loc := ⟨A.PWR_HS_CFG, 31, 16⟩
def PWR_HS_CFG_TIMEOUT : Loc := ⟨A.PWR_HS_CFG, 15, 0⟩
def PWR_HS_STAT_BUSY : Loc := ⟨A.PWR_HS_STAT, 31, 31⟩
def PWR_HS_STAT_BLOCK : Loc := ⟨A.PWR_HS_STAT, 19, 16⟩
def PWR_HS_STAT_CODE : Loc := ⟨A.PWR_HS_STAT, 7, 0⟩
def PWR_AON_CNT_VALUE : Loc := ⟨A.PWR_AON_CNT, 31, 0⟩
def PWR_AON_CMP_VALUE : Loc := ⟨A.PWR_AON_CMP, 31, 0⟩
def PWR_SLEEP_TIME_COUNT : Loc := ⟨A.PWR_SLEEP_TIME, 31, 0⟩
def PWR_THERM_WARN : Loc := ⟨A.PWR_THERM, 15, 0⟩
def PWR_IRQ_IEN : Loc := ⟨A.PWR_IRQ, 23, 16⟩
def PWR_IRQ_WOKE : Loc := ⟨A.PWR_IRQ, 7, 7⟩
def PWR_IRQ_AON_CMP : Loc := ⟨A.PWR_IRQ, 6, 6⟩
def PWR_IRQ_THERM : Loc := ⟨A.PWR_IRQ, 5, 5⟩
def PWR_IRQ_CLK_MON : Loc := ⟨A.PWR_IRQ, 4, 4⟩
def PWR_IRQ_LOCK_LOST : Loc := ⟨A.PWR_IRQ, 3, 3⟩
def PWR_IRQ_VRDY_TO : Loc := ⟨A.PWR_IRQ, 2, 2⟩
def PWR_IRQ_OPP_DONE : Loc := ⟨A.PWR_IRQ, 1, 1⟩
def PWR_IRQ_HS_REFUSED : Loc := ⟨A.PWR_IRQ, 0, 0⟩
def PWR_ERR_VALID : Loc := ⟨A.PWR_ERR, 31, 31⟩
def PWR_ERR_OFFSET : Loc := ⟨A.PWR_ERR, 19, 8⟩
def PWR_ERR_CODE : Loc := ⟨A.PWR_ERR, 7, 0⟩
def TMP_TEMP_VALID : Loc := ⟨A.TMP_TEMP, 31, 31⟩
def TMP_TEMP_HOT : Loc := ⟨A.TMP_TEMP, 30, 30⟩
def TMP_TEMP_TEMP : Loc := ⟨A.TMP_TEMP, 15, 0⟩
def TMP_SUPPLY_VRDY : Loc := ⟨A.TMP_SUPPLY, 31, 31⟩
def TMP_SUPPLY_VID : Loc := ⟨A.TMP_SUPPLY, 29, 24⟩
def TMP_SUPPLY_VHOLD : Loc := ⟨A.TMP_SUPPLY, 23, 12⟩
def TMP_SUPPLY_VCORE : Loc := ⟨A.TMP_SUPPLY, 11, 0⟩
def TMP_PEAK_MAX : Loc := ⟨A.TMP_PEAK, 31, 16⟩
def TMP_PEAK_MIN : Loc := ⟨A.TMP_PEAK, 15, 0⟩
def TMP_CTL_PEAK_CLR : Loc := ⟨A.TMP_CTL, 0, 0⟩
def LAY_CTL_EN : Loc := ⟨A.LAY_CTL, 31, 31⟩
def LAY_CTL_SC_EN : Loc := ⟨A.LAY_CTL, 8, 8⟩
def LAY_CTL_SC_PART : Loc := ⟨A.LAY_CTL, 1, 0⟩
def LAY_STAT_STATE : Loc := ⟨A.LAY_STAT, 31, 29⟩
def LAY_STAT_ARMED : Loc := ⟨A.LAY_STAT, 28, 28⟩
def LAY_STAT_INCOMPLETE : Loc := ⟨A.LAY_STAT, 27, 27⟩
def LAY_STAT_POISON_OVF : Loc := ⟨A.LAY_STAT, 26, 26⟩
def LAY_STAT_SC_VALID : Loc := ⟨A.LAY_STAT, 25, 25⟩
def LAY_STAT_FREE : Loc := ⟨A.LAY_STAT, 23, 16⟩
def LAY_STAT_BUF_VALID : Loc := ⟨A.LAY_STAT, 7, 4⟩
def LAY_STAT_SC_WNUM : Loc := ⟨A.LAY_STAT, 3, 0⟩
def LAY_PREP_START : Loc := ⟨A.LAY_PREP, 31, 31⟩
def LAY_PREP_BUSY : Loc := ⟨A.LAY_PREP, 30, 30⟩
def LAY_PREP_FAIL : Loc := ⟨A.LAY_PREP, 29, 29⟩
def LAY_PREP_SLOT : Loc := ⟨A.LAY_PREP, 2, 0⟩
def LAY_RESTORE_START : Loc := ⟨A.LAY_RESTORE, 31, 31⟩
def LAY_RESTORE_DISCARD : Loc := ⟨A.LAY_RESTORE, 30, 30⟩
def LAY_RESTORE_BUSY : Loc := ⟨A.LAY_RESTORE, 29, 29⟩
def LAY_RESTORE_RESULT : Loc := ⟨A.LAY_RESTORE, 11, 8⟩
def LAY_RESTORE_SC : Loc := ⟨A.LAY_RESTORE, 4, 4⟩
def LAY_RESTORE_PARTS : Loc := ⟨A.LAY_RESTORE, 3, 0⟩
def LAY_SLOT_STATE (j : Nat) : Loc := ⟨A.LAY_SLOT j, 31, 29⟩
def LAY_SLOT_SEQ (j : Nat) : Loc := ⟨A.LAY_SLOT j, 15, 0⟩
def LAY_IRQ_IEN : Loc := ⟨A.LAY_IRQ, 19, 16⟩
def LAY_IRQ_OFFERED : Loc := ⟨A.LAY_IRQ, 3, 3⟩
def LAY_IRQ_RESTORE_DONE : Loc := ⟨A.LAY_IRQ, 2, 2⟩
def LAY_IRQ_PREP_DONE : Loc := ⟨A.LAY_IRQ, 1, 1⟩
def LAY_IRQ_NOT_ARMED : Loc := ⟨A.LAY_IRQ, 0, 0⟩
def WDG_CTL_ON (i : Nat) : Loc := ⟨A.WDG_CTL i, 31, 31⟩
def WDG_CTL_CLKSEL (i : Nat) : Loc := ⟨A.WDG_CTL i, 8, 8⟩
def WDG_OPEN_OPEN (i : Nat) : Loc := ⟨A.WDG_OPEN i, 23, 0⟩
def WDG_CLOSE_CLOSE (i : Nat) : Loc := ⟨A.WDG_CLOSE i, 23, 0⟩
def WDG_WARN_WARN (i : Nat) : Loc := ⟨A.WDG_WARN i, 23, 0⟩
def WDG_QUESTION_QUESTION (i : Nat) : Loc := ⟨A.WDG_QUESTION i, 15, 0⟩
def WDG_MILESTONE_ID (i : Nat) : Loc := ⟨A.WDG_MILESTONE i, 7, 0⟩
def WDG_TOKEN_TOKEN (i : Nat) : Loc := ⟨A.WDG_TOKEN i, 15, 0⟩
def WDG_COUNT_COUNT (i : Nat) : Loc := ⟨A.WDG_COUNT i, 23, 0⟩
def WDG_STAT_ON (i : Nat) : Loc := ⟨A.WDG_STAT i, 31, 31⟩
def WDG_STAT_PAUSED (i : Nat) : Loc := ⟨A.WDG_STAT i, 30, 30⟩
def WDG_STAT_UNLISTED (i : Nat) : Loc := ⟨A.WDG_STAT i, 29, 29⟩
def WDG_STAT_FOREIGN (i : Nat) : Loc := ⟨A.WDG_STAT i, 4, 4⟩
def WDG_STAT_CFG_ERR (i : Nat) : Loc := ⟨A.WDG_STAT i, 3, 3⟩
def WDG_STAT_STAGE1 (i : Nat) : Loc := ⟨A.WDG_STAT i, 2, 2⟩
def WDG_STAT_WARN (i : Nat) : Loc := ⟨A.WDG_STAT i, 1, 1⟩
def WDG_STAT_FAULTED (i : Nat) : Loc := ⟨A.WDG_STAT i, 0, 0⟩
def WDG_FAULT_VALID (i : Nat) : Loc := ⟨A.WDG_FAULT i, 31, 31⟩
def WDG_FAULT_CAUSE (i : Nat) : Loc := ⟨A.WDG_FAULT i, 30, 28⟩
def WDG_FAULT_STAGE (i : Nat) : Loc := ⟨A.WDG_FAULT i, 27, 26⟩
def WDG_FAULT_UNLISTED (i : Nat) : Loc := ⟨A.WDG_FAULT i, 25, 25⟩
def WDG_FAULT_ENTRY (i : Nat) : Loc := ⟨A.WDG_FAULT i, 23, 20⟩
def WDG_FAULT_EXPECT (i : Nat) : Loc := ⟨A.WDG_FAULT i, 19, 16⟩
def WDG_FAULT_ACTUAL (i : Nat) : Loc := ⟨A.WDG_FAULT i, 15, 12⟩
def WDG_FAULT_ID (i : Nat) : Loc := ⟨A.WDG_FAULT i, 7, 0⟩
def WDG_FAULT_SIG_EXPECTED (i : Nat) : Loc := ⟨A.WDG_FAULT_SIG i, 31, 16⟩
def WDG_FAULT_SIG_WRITTEN (i : Nat) : Loc := ⟨A.WDG_FAULT_SIG i, 15, 0⟩
def WDG_LEDGER_EN (i : Nat) (n : Nat) : Loc := ⟨A.WDG_LEDGER i n, 31, 31⟩
def WDG_LEDGER_EXPECT (i : Nat) (n : Nat) : Loc := ⟨A.WDG_LEDGER i n, 19, 16⟩
def WDG_LEDGER_ACTUAL (i : Nat) (n : Nat) : Loc := ⟨A.WDG_LEDGER i n, 15, 12⟩
def WDG_LEDGER_ID (i : Nat) (n : Nat) : Loc := ⟨A.WDG_LEDGER i n, 7, 0⟩
def WDG_LADDER_LAST2 : Loc := ⟨A.WDG_LADDER, 23, 16⟩
def WDG_LADDER_STAGE1 : Loc := ⟨A.WDG_LADDER, 15, 8⟩
def WDG_LADDER_LIMIT : Loc := ⟨A.WDG_LADDER, 6, 4⟩
def WDG_LADDER_COUNT : Loc := ⟨A.WDG_LADDER, 2, 0⟩
def SYS_TILE_CFG_CTXID (t : Nat) : Loc := ⟨A.SYS_TILE_CFG t, 31, 16⟩
def SYS_TILE_CFG_RM (t : Nat) : Loc := ⟨A.SYS_TILE_CFG t, 10, 8⟩
def SYS_TILE_CFG_KEEP (t : Nat) : Loc := ⟨A.SYS_TILE_CFG t, 3, 0⟩
def SYS_SC_START_RUN : Loc := ⟨A.SYS_SC_START, 19, 16⟩
def SYS_SC_START_START : Loc := ⟨A.SYS_SC_START, 3, 0⟩
def SYS_SC_ENTRY_ADDR (k : Nat) : Loc := ⟨A.SYS_SC_ENTRY k, 39, 2⟩
def SEC_LOCK_HOSTWIN : Loc := ⟨A.SEC_LOCK, 2, 2⟩
def SEC_LOCK_KEYS : Loc := ⟨A.SEC_LOCK, 1, 1⟩
def SEC_LOCK_DBGKEY : Loc := ⟨A.SEC_LOCK, 0, 0⟩
def SEC_STAT_BOOTED : Loc := ⟨A.SEC_STAT, 31, 31⟩
def SEC_STAT_BLANK : Loc := ⟨A.SEC_STAT, 30, 30⟩
def SEC_STAT_DEBUG_MAX : Loc := ⟨A.SEC_STAT, 29, 28⟩
def SEC_STAT_REVOKED : Loc := ⟨A.SEC_STAT, 7, 4⟩
def SEC_STAT_ACTIVE : Loc := ⟨A.SEC_STAT, 3, 0⟩
def SEC_MANIFEST_SEALED : Loc := ⟨A.SEC_MANIFEST, 11, 8⟩
def SEC_MANIFEST_MODE : Loc := ⟨A.SEC_MANIFEST, 2, 0⟩
def SEC_HOSTWIN_XSP : Loc := ⟨A.SEC_HOSTWIN, 5, 5⟩
def SEC_HOSTWIN_PERIPH : Loc := ⟨A.SEC_HOSTWIN, 4, 4⟩
def SEC_HOSTWIN_TILE : Loc := ⟨A.SEC_HOSTWIN, 3, 3⟩
def SEC_HOSTWIN_DEPOT : Loc := ⟨A.SEC_HOSTWIN, 2, 2⟩
def SEC_HOSTWIN_INFO : Loc := ⟨A.SEC_HOSTWIN, 1, 1⟩
def SEC_HOSTWIN_FLASH : Loc := ⟨A.SEC_HOSTWIN, 0, 0⟩
def SEC_RNG_DATA_DATA : Loc := ⟨A.SEC_RNG_DATA, 31, 0⟩
def SEC_RNG_STAT_READY : Loc := ⟨A.SEC_RNG_STAT, 31, 31⟩
def SEC_RNG_STAT_FAIL : Loc := ⟨A.SEC_RNG_STAT, 30, 30⟩
def SEC_RNG_STAT_EMPTY : Loc := ⟨A.SEC_RNG_STAT, 29, 29⟩
def SEC_RNG_STAT_LEVEL : Loc := ⟨A.SEC_RNG_STAT, 2, 0⟩
def SEC_ERR_VALID : Loc := ⟨A.SEC_ERR, 31, 31⟩
def SEC_ERR_CAUSE : Loc := ⟨A.SEC_ERR, 27, 24⟩
def SEC_ERR_INDEX : Loc := ⟨A.SEC_ERR, 8, 0⟩
def SEC_DEVID_LO_ID : Loc := ⟨A.SEC_DEVID_LO, 31, 0⟩
def SEC_DEVID_HI_ID : Loc := ⟨A.SEC_DEVID_HI, 31, 0⟩
def SEC_PINLOCK_LOCK (b : Nat) : Loc := ⟨A.SEC_PINLOCK b, 31, 0⟩
def DBG_ID_IDCODE : Loc := ⟨A.DBG_ID, 31, 0⟩
def DBG_LEVEL_BLANK : Loc := ⟨A.DBG_LEVEL, 8, 8⟩
def DBG_LEVEL_LEVEL : Loc := ⟨A.DBG_LEVEL, 5, 4⟩
def DBG_LEVEL_MAX : Loc := ⟨A.DBG_LEVEL, 1, 0⟩
def DBG_CTL_RESET : Loc := ⟨A.DBG_CTL, 31, 31⟩
def DBG_CTL_DROP : Loc := ⟨A.DBG_CTL, 30, 30⟩
def DBG_CTL_SWBRK : Loc := ⟨A.DBG_CTL, 3, 3⟩
def DBG_CTL_SHOULDER_OK : Loc := ⟨A.DBG_CTL, 2, 2⟩
def DBG_CTL_FRZ_MODE : Loc := ⟨A.DBG_CTL, 1, 1⟩
def DBG_ERR_VALID : Loc := ⟨A.DBG_ERR, 31, 31⟩
def DBG_ERR_CAUSE : Loc := ⟨A.DBG_ERR, 27, 24⟩
def DBG_ERR_PATH : Loc := ⟨A.DBG_ERR, 16, 16⟩
def DBG_ERR_OFFSET : Loc := ⟨A.DBG_ERR, 15, 0⟩
def DBG_CHAL_DATA : Loc := ⟨A.DBG_CHAL, 31, 0⟩
def DBG_RESP_DATA : Loc := ⟨A.DBG_RESP, 31, 0⟩
def DBG_HALT_CORES (w : Nat) : Loc := ⟨A.DBG_HALT w, 31, 0⟩
def DBG_RESUME_CORES (w : Nat) : Loc := ⟨A.DBG_RESUME w, 31, 0⟩
def DBG_HALTED_CORES (w : Nat) : Loc := ⟨A.DBG_HALTED w, 31, 0⟩
def DBG_FRZ_IOS_FRZ (k : Nat) : Loc := ⟨A.DBG_FRZ_IOS k, 31, 0⟩
def DBG_FRZ_ADC_FRZ : Loc := ⟨A.DBG_FRZ_ADC, 31, 0⟩
def DBG_FRZ_UNIT_WDG : Loc := ⟨A.DBG_FRZ_UNIT, 15, 8⟩
def DBG_FRZ_UNIT_SPARE : Loc := ⟨A.DBG_FRZ_UNIT, 7, 4⟩
def DBG_FRZ_UNIT_DMA : Loc := ⟨A.DBG_FRZ_UNIT, 3, 3⟩
def DBG_FRZ_UNIT_XSP1 : Loc := ⟨A.DBG_FRZ_UNIT, 2, 2⟩
def DBG_FRZ_UNIT_XSP0 : Loc := ⟨A.DBG_FRZ_UNIT, 1, 1⟩
def DBG_FRZ_UNIT_WPT : Loc := ⟨A.DBG_FRZ_UNIT, 0, 0⟩
def DBG_SEL_CORE : Loc := ⟨A.DBG_SEL, 8, 0⟩
def DBG_CSTAT_STATE : Loc := ⟨A.DBG_CSTAT, 31, 29⟩
def DBG_CSTAT_STEP : Loc := ⟨A.DBG_CSTAT, 28, 28⟩
def DBG_CSTAT_SEALED : Loc := ⟨A.DBG_CSTAT, 27, 27⟩
def DBG_CSTAT_SLOT : Loc := ⟨A.DBG_CSTAT, 26, 26⟩
def DBG_CSTAT_REASON : Loc := ⟨A.DBG_CSTAT, 23, 20⟩
def DBG_CSTAT_MATCH : Loc := ⟨A.DBG_CSTAT, 19, 14⟩
def DBG_DPC_PC : Loc := ⟨A.DBG_DPC, 39, 2⟩
def DBG_DNPC_PC : Loc := ⟨A.DBG_DNPC, 39, 2⟩
def DBG_REG_SEL_CLASS : Loc := ⟨A.DBG_REG_SEL, 17, 16⟩
def DBG_REG_SEL_NUM : Loc := ⟨A.DBG_REG_SEL, 9, 0⟩
def DBG_REG_DATA_DATA : Loc := ⟨A.DBG_REG_DATA, 63, 0⟩
def DBG_FEED_INSTR : Loc := ⟨A.DBG_FEED, 31, 0⟩
def DBG_FEED_STAT_BUSY : Loc := ⟨A.DBG_FEED_STAT, 31, 31⟩
def DBG_FEED_STAT_DONE : Loc := ⟨A.DBG_FEED_STAT, 30, 30⟩
def DBG_FEED_STAT_TRAPPED : Loc := ⟨A.DBG_FEED_STAT, 29, 29⟩
def DBG_FEED_STAT_CAUSE : Loc := ⟨A.DBG_FEED_STAT, 7, 0⟩
def DBG_AC_LO_ADDR (k : Nat) : Loc := ⟨A.DBG_AC_LO k, 39, 0⟩
def DBG_AC_HI_ADDR (k : Nat) : Loc := ⟨A.DBG_AC_HI k, 39, 0⟩
def DBG_AC_CTL_EN (k : Nat) : Loc := ⟨A.DBG_AC_CTL k, 31, 31⟩
def DBG_AC_CTL_ACTION (k : Nat) : Loc := ⟨A.DBG_AC_CTL k, 30, 29⟩
def DBG_AC_CTL_TYPE (k : Nat) : Loc := ⟨A.DBG_AC_CTL k, 28, 27⟩
def DBG_AC_CTL_CTX_EN (k : Nat) : Loc := ⟨A.DBG_AC_CTL k, 26, 26⟩
def DBG_AC_CTL_LINK (k : Nat) : Loc := ⟨A.DBG_AC_CTL k, 25, 25⟩
def DBG_AC_CTL_LDW (k : Nat) : Loc := ⟨A.DBG_AC_CTL k, 24, 24⟩
def DBG_AC_CTL_CTXID (k : Nat) : Loc := ⟨A.DBG_AC_CTL k, 15, 0⟩
def DBG_DW_VAL_DATA (k : Nat) : Loc := ⟨A.DBG_DW_VAL k, 63, 0⟩
def DBG_DW_MASK_DATA (k : Nat) : Loc := ⟨A.DBG_DW_MASK k, 63, 0⟩
def DBG_DW_CTL_EN (k : Nat) : Loc := ⟨A.DBG_DW_CTL k, 31, 31⟩
def DBG_DW_CTL_ACTION (k : Nat) : Loc := ⟨A.DBG_DW_CTL k, 30, 29⟩
def DBG_DW_CTL_CTX_EN (k : Nat) : Loc := ⟨A.DBG_DW_CTL k, 26, 26⟩
def DBG_DW_CTL_CTXID (k : Nat) : Loc := ⟨A.DBG_DW_CTL k, 15, 0⟩
def DBG_MEM_ADDR_ADDR : Loc := ⟨A.DBG_MEM_ADDR, 39, 2⟩
def DBG_MEM_DATA_DATA : Loc := ⟨A.DBG_MEM_DATA, 63, 0⟩
def DBG_MEM_CTL_READ : Loc := ⟨A.DBG_MEM_CTL, 31, 31⟩
def DBG_MEM_CTL_BUSY : Loc := ⟨A.DBG_MEM_CTL, 30, 30⟩
def DBG_MEM_CTL_ERR : Loc := ⟨A.DBG_MEM_CTL, 29, 29⟩
def DBG_MEM_CTL_INC : Loc := ⟨A.DBG_MEM_CTL, 28, 28⟩
def DBG_MEM_CTL_OVERRIDE : Loc := ⟨A.DBG_MEM_CTL, 27, 27⟩
def DBG_MEM_CTL_SIZE : Loc := ⟨A.DBG_MEM_CTL, 26, 26⟩
end F

/-- The rows of the peripheral block at 0x40110000. -/
def rows4011 : List RegD := [
  ⟨.DMA_ERR, 0x40110000, 1, 0x0, 1, 0x0, false, [⟨31, 31, .w1c, 0x0⟩, ⟨27, 24, .rov, 0x0⟩, ⟨21, 16, .rov, 0x0⟩, ⟨11, 0, .rov, 0x0⟩]⟩,
  ⟨.DMA_ERR_ADDR, 0x40110008, 1, 0x0, 1, 0x0, true, [⟨39, 0, .rov, 0x0⟩]⟩,
  ⟨.DMA_RW_BUSY, 0x40110010, 1, 0x0, 1, 0x0, false, [⟨31, 0, .rov, 0x0⟩]⟩,
  ⟨.DMA_SRC, 0x40110100, 16, 0x40, 1, 0x0, true, [⟨39, 2, .rw, 0x0⟩]⟩,
  ⟨.DMA_DST, 0x40110108, 16, 0x40, 1, 0x0, true, [⟨39, 2, .rw, 0x0⟩]⟩,
  ⟨.DMA_LEN, 0x40110110, 16, 0x40, 1, 0x0, false, [⟨23, 0, .rw, 0x0⟩]⟩,
  ⟨.DMA_CTL, 0x40110114, 16, 0x40, 1, 0x0, false, [⟨31, 31, .rw, 0x0⟩, ⟨27, 26, .rw, 0x0⟩, ⟨22, 16, .rw, 0x0⟩, ⟨9, 9, .rw, 0x0⟩, ⟨8, 8, .rw, 0x0⟩, ⟨2, 2, .rw, 0x0⟩, ⟨1, 1, .rw, 0x0⟩, ⟨0, 0, .rw, 0x0⟩]⟩,
  ⟨.DMA_STAT, 0x40110118, 16, 0x40, 1, 0x0, false, [⟨31, 31, .rov, 0x0⟩, ⟨2, 2, .w1c, 0x0⟩, ⟨1, 1, .w1c, 0x0⟩, ⟨0, 0, .w1c, 0x0⟩]⟩]

/-- The rows of the peripheral block at 0x400d0000. -/
def rows400d : List RegD := [
  ⟨.HW_SEAL_STATUS, 0x400d00b8, 1, 0x0, 1, 0x0, false, [⟨31, 26, .rov, 0x0⟩, ⟨25, 24, .rov, 0x0⟩, ⟨23, 16, .rov, 0x0⟩, ⟨14, 14, .rov, 0x0⟩, ⟨13, 13, .rov, 0x0⟩, ⟨12, 12, .rov, 0x0⟩, ⟨11, 8, .rov, 0x0⟩, ⟨7, 4, .rov, 0x0⟩, ⟨3, 0, .rov, 0x0⟩]⟩,
  ⟨.HW_ID, 0x400d0000, 1, 0x0, 1, 0x0, false, [⟨31, 16, .ro, 0x4256⟩, ⟨15, 0, .ro, 0x2564⟩]⟩,
  ⟨.HW_REV, 0x400d0004, 1, 0x0, 1, 0x0, false, [⟨18, 18, .ro, 0x0⟩, ⟨17, 16, .ro, 0x0⟩, ⟨15, 8, .ro, 0x0⟩, ⟨7, 0, .ro, 0xb0⟩]⟩,
  ⟨.HW_STATE, 0x400d0008, 1, 0x0, 1, 0x0, false, [⟨21, 20, .rov, 0x0⟩, ⟨17, 17, .rov, 0x0⟩, ⟨3, 0, .rov, 0x1⟩]⟩,
  ⟨.HW_STATUS, 0x400d000c, 1, 0x0, 1, 0x0, false, [⟨31, 28, .rov, 0x0⟩, ⟨15, 0, .rov, 0x0⟩]⟩,
  ⟨.HW_ATTN_MASK, 0x400d0010, 1, 0x0, 1, 0x0, false, [⟨15, 0, .rw, 0x0⟩]⟩,
  ⟨.HW_ATTN_CLR, 0x400d0014, 1, 0x0, 1, 0x0, false, [⟨15, 0, .wo, 0x0⟩]⟩,
  ⟨.HW_CMD, 0x400d0018, 1, 0x0, 1, 0x0, false, [⟨31, 31, .rov, 0x0⟩, ⟨30, 30, .rov, 0x0⟩, ⟨7, 0, .rw, 0x0⟩]⟩,
  ⟨.HW_CMD_ARG0, 0x400d001c, 1, 0x0, 1, 0x0, false, [⟨31, 0, .rw, 0x0⟩]⟩,
  ⟨.HW_CMD_ARG1, 0x400d0020, 1, 0x0, 1, 0x0, false, [⟨31, 0, .rw, 0x0⟩]⟩,
  ⟨.HW_CMD_RESULT, 0x400d0024, 1, 0x0, 1, 0x0, false, [⟨31, 0, .rov, 0x0⟩]⟩,
  ⟨.HW_ERR, 0x400d0028, 1, 0x0, 1, 0x0, false, [⟨31, 31, .w1c, 0x0⟩, ⟨27, 24, .rov, 0x0⟩, ⟨23, 20, .rov, 0x0⟩, ⟨19, 12, .rov, 0x0⟩, ⟨7, 0, .rov, 0x0⟩]⟩,
  ⟨.HW_ERR_ADDR, 0x400d002c, 1, 0x0, 1, 0x0, false, [⟨31, 0, .rov, 0x0⟩]⟩,
  ⟨.HW_MBX_IN_DATA, 0x400d0030, 1, 0x0, 1, 0x0, false, [⟨31, 0, .wo, 0x0⟩]⟩,
  ⟨.HW_MBX_IN_LEVEL, 0x400d0034, 1, 0x0, 1, 0x0, false, [⟨4, 0, .rov, 0x0⟩]⟩,
  ⟨.HW_MBX_OUT_DATA, 0x400d0038, 1, 0x0, 1, 0x0, false, [⟨31, 0, .rov, 0x0⟩]⟩,
  ⟨.HW_MBX_OUT_LEVEL, 0x400d003c, 1, 0x0, 1, 0x0, false, [⟨4, 0, .rov, 0x0⟩]⟩,
  ⟨.HW_WIN_ADDR_LO, 0x400d0040, 1, 0x0, 1, 0x0, false, [⟨31, 2, .rw, 0x0⟩]⟩,
  ⟨.HW_WIN_ADDR_HI, 0x400d0044, 1, 0x0, 1, 0x0, false, [⟨7, 0, .rw, 0x0⟩]⟩,
  ⟨.HW_WIN_DATA, 0x400d0048, 1, 0x0, 1, 0x0, false, [⟨31, 0, .rw, 0x0⟩]⟩,
  ⟨.HW_WIN_CTL, 0x400d004c, 1, 0x0, 1, 0x0, false, [⟨31, 31, .wo, 0x0⟩, ⟨30, 30, .rov, 0x0⟩, ⟨29, 29, .w1c, 0x0⟩, ⟨28, 28, .rw, 0x0⟩, ⟨27, 27, .rw, 0x0⟩]⟩,
  ⟨.HW_PART_STATE, 0x400d0050, 1, 0x0, 1, 0x0, false, [⟨31, 30, .rw, 0x0⟩, ⟨19, 16, .rov, 0x0⟩, ⟨15, 0, .rov, 0x0⟩]⟩,
  ⟨.HW_CONVOY, 0x400d0054, 1, 0x0, 1, 0x0, false, [⟨31, 28, .rov, 0x0⟩, ⟨27, 24, .rov, 0x0⟩, ⟨23, 22, .rov, 0x0⟩, ⟨21, 21, .rov, 0x0⟩, ⟨20, 20, .rov, 0x0⟩, ⟨19, 19, .rov, 0x0⟩, ⟨10, 8, .rov, 0x0⟩, ⟨5, 4, .ro, 0x0⟩, ⟨3, 0, .rov, 0x0⟩]⟩,
  ⟨.HW_WPT_COUNT_LO, 0x400d0058, 1, 0x0, 1, 0x0, false, [⟨31, 0, .rov, 0x0⟩]⟩,
  ⟨.HW_WPT_COUNT_HI, 0x400d005c, 1, 0x0, 1, 0x0, false, [⟨31, 0, .rov, 0x0⟩]⟩,
  ⟨.HW_WPT_LATE, 0x400d0060, 1, 0x0, 1, 0x0, false, [⟨31, 0, .rc, 0x0⟩]⟩,
  ⟨.HW_WDG_LADDER, 0x400d0064, 1, 0x0, 1, 0x0, false, [⟨23, 16, .rov, 0x0⟩, ⟨15, 8, .w1c, 0x0⟩, ⟨6, 4, .rov, 0x3⟩, ⟨2, 0, .rov, 0x0⟩]⟩,
  ⟨.HW_RESET_CAUSE, 0x400d0068, 1, 0x0, 1, 0x0, false, [⟨31, 31, .rov, 0x0⟩, ⟨8, 8, .rov, 0x0⟩, ⟨6, 0, .rov, 0x0⟩]⟩,
  ⟨.HW_LAYBY_STATUS, 0x400d006c, 1, 0x0, 1, 0x0, false, [⟨31, 31, .rov, 0x0⟩, ⟨30, 30, .rov, 0x0⟩, ⟨29, 29, .rov, 0x0⟩, ⟨28, 28, .rov, 0x0⟩, ⟨26, 24, .rov, 0x0⟩, ⟨23, 16, .rov, 0x0⟩, ⟨15, 0, .rov, 0x0⟩]⟩,
  ⟨.HW_FLASH_STATUS, 0x400d0070, 1, 0x0, 1, 0x0, false, [⟨31, 31, .rov, 0x0⟩, ⟨30, 30, .rov, 0x0⟩, ⟨28, 24, .rov, 0x0⟩, ⟨16, 8, .rov, 0x0⟩, ⟨7, 7, .rov, 0x0⟩, ⟨4, 4, .rov, 0x0⟩, ⟨3, 3, .rov, 0x0⟩, ⟨2, 2, .rov, 0x0⟩]⟩,
  ⟨.HW_TEMP, 0x400d0074, 1, 0x0, 1, 0x0, false, [⟨31, 31, .rov, 0x0⟩, ⟨30, 30, .rov, 0x0⟩, ⟨15, 0, .rov, 0x0⟩]⟩,
  ⟨.HW_SUPPLY, 0x400d0078, 1, 0x0, 1, 0x0, false, [⟨31, 31, .rov, 0x0⟩, ⟨29, 24, .rov, 0x0⟩, ⟨23, 12, .rov, 0x0⟩, ⟨11, 0, .rov, 0x0⟩]⟩,
  ⟨.HW_UNLOCK_CHAL, 0x400d007c, 1, 0x0, 1, 0x0, false, [⟨31, 0, .rw, 0x0⟩]⟩,
  ⟨.HW_UNLOCK_RESP, 0x400d0080, 1, 0x0, 1, 0x0, false, [⟨31, 0, .wo, 0x0⟩]⟩,
  ⟨.HW_SCRATCH, 0x400d0084, 4, 0x4, 1, 0x0, false, [⟨31, 0, .rw, 0x0⟩]⟩,
  ⟨.HW_BOOT_CFG, 0x400d0094, 1, 0x0, 1, 0x0, false, [⟨2, 1, .rw, 0x0⟩, ⟨0, 0, .rw, 0x0⟩]⟩,
  ⟨.HW_IMAGE_INFO, 0x400d0098, 1, 0x0, 1, 0x0, false, [⟨31, 16, .rov, 0x0⟩, ⟨3, 3, .rov, 0x0⟩, ⟨2, 2, .rov, 0x0⟩, ⟨1, 1, .rov, 0x0⟩, ⟨0, 0, .rov, 0x0⟩]⟩,
  ⟨.HW_EVENT_LOG_DATA, 0x400d009c, 1, 0x0, 1, 0x0, false, [⟨31, 0, .rov, 0x0⟩]⟩,
  ⟨.HW_EVENT_LOG_LEVEL, 0x400d00a0, 1, 0x0, 1, 0x0, false, [⟨31, 16, .rc, 0x0⟩, ⟨6, 0, .rov, 0x0⟩]⟩,
  ⟨.HW_BURST_CTL, 0x400d00a4, 1, 0x0, 1, 0x0, false, [⟨1, 1, .rw, 0x0⟩, ⟨0, 0, .rw, 0x0⟩]⟩,
  ⟨.HW_HEARTBEAT, 0x400d00a8, 1, 0x0, 1, 0x0, false, [⟨31, 16, .rov, 0x0⟩, ⟨15, 0, .rov, 0x0⟩]⟩,
  ⟨.HW_CAL_STATUS, 0x400d00ac, 1, 0x0, 1, 0x0, false, [⟨31, 31, .rov, 0x1⟩, ⟨27, 24, .rov, 0x0⟩, ⟨23, 20, .rov, 0x0⟩, ⟨19, 16, .rov, 0x0⟩, ⟨5, 5, .rov, 0x0⟩, ⟨4, 4, .rov, 0x0⟩, ⟨1, 0, .rov, 0x0⟩]⟩,
  ⟨.HW_POWER_STATE, 0x400d00b0, 1, 0x0, 1, 0x0, false, [⟨31, 24, .rov, 0x0⟩, ⟨9, 8, .rov, 0x0⟩, ⟨4, 4, .rov, 0x1⟩, ⟨1, 0, .rov, 0x0⟩]⟩,
  ⟨.HW_WAKE_CAUSE, 0x400d00b4, 1, 0x0, 1, 0x0, false, [⟨13, 8, .rov, 0x0⟩, ⟨6, 0, .rov, 0x0⟩]⟩,
  ⟨.HW_SIGNATURE, 0x400d00bc, 1, 0x0, 1, 0x0, false, [⟨31, 0, .rov, 0x0⟩]⟩,
  ⟨.HST_MBX_IN, 0x400d0100, 1, 0x0, 1, 0x0, false, [⟨31, 0, .rov, 0x0⟩]⟩,
  ⟨.HST_MBX_OUT, 0x400d0104, 1, 0x0, 1, 0x0, false, [⟨31, 0, .wo, 0x0⟩]⟩,
  ⟨.HST_CMD, 0x400d0108, 1, 0x0, 1, 0x0, false, [⟨31, 31, .rov, 0x0⟩, ⟨7, 0, .rov, 0x0⟩]⟩,
  ⟨.HST_DONE, 0x400d010c, 1, 0x0, 1, 0x0, false, [⟨31, 0, .wo, 0x0⟩]⟩,
  ⟨.HST_LOG, 0x400d0110, 1, 0x0, 1, 0x0, false, [⟨27, 20, .wo, 0x0⟩, ⟨19, 18, .wo, 0x0⟩]⟩,
  ⟨.HST_BEAT, 0x400d0114, 1, 0x0, 1, 0x0, false, [⟨15, 0, .rw, 0x0⟩]⟩,
  ⟨.HST_IRQ, 0x400d0118, 1, 0x0, 1, 0x0, false, [⟨19, 16, .rw, 0x0⟩, ⟨4, 4, .w1c, 0x0⟩, ⟨3, 3, .w1c, 0x0⟩, ⟨2, 2, .rov, 0x1⟩, ⟨1, 1, .rov, 0x0⟩, ⟨0, 0, .rov, 0x0⟩]⟩]

/-- The rows of the peripheral block at 0x40000000. -/
def rows4000 : List RegD := [
  ⟨.SYS_CR_PAGE, 0x40001400, 8, 0x10, 1, 0x0, false, [⟨11, 0, .rw, 0x0⟩]⟩,
  ⟨.SYS_CR_VIEW, 0x40001404, 8, 0x10, 1, 0x0, false, [⟨11, 0, .rw, 0x0⟩]⟩,
  ⟨.SYS_CR_CTL, 0x40001408, 8, 0x10, 1, 0x0, false, [⟨31, 31, .rw, 0x0⟩, ⟨30, 30, .rov, 0x0⟩, ⟨19, 16, .rw, 0x0⟩, ⟨11, 0, .rw, 0x0⟩]⟩,
  ⟨.SYS_MPU_BASE, 0x40001000, 4, 0x100, 16, 0x10, false, [⟨27, 0, .rw, 0x0⟩]⟩,
  ⟨.SYS_MPU_LIMIT, 0x40001004, 4, 0x100, 16, 0x10, false, [⟨27, 0, .rw, 0x0⟩]⟩,
  ⟨.SYS_MPU_ATTR, 0x40001008, 4, 0x100, 16, 0x10, false, [⟨31, 16, .rw, 0x0⟩, ⟨11, 11, .rw, 0x0⟩, ⟨10, 10, .rw, 0x0⟩, ⟨9, 9, .rw, 0x0⟩, ⟨8, 8, .rw, 0x0⟩, ⟨7, 7, .rw, 0x0⟩, ⟨5, 5, .rw, 0x0⟩, ⟨4, 4, .rw, 0x0⟩, ⟨3, 3, .rw, 0x0⟩, ⟨2, 2, .rw, 0x0⟩, ⟨1, 1, .rw, 0x0⟩, ⟨0, 0, .rw, 0x0⟩]⟩,
  ⟨.SYS_SC_SEAL, 0x40001500, 4, 0x4, 1, 0x0, false, [⟨31, 16, .rov, 0x0⟩, ⟨15, 8, .rov, 0x0⟩, ⟨2, 2, .rov, 0x0⟩, ⟨1, 1, .rov, 0x0⟩, ⟨0, 0, .rov, 0x0⟩]⟩,
  ⟨.SYS_ECC_CORR, 0x40001510, 1, 0x0, 1, 0x0, false, [⟨31, 0, .rc, 0x0⟩]⟩,
  ⟨.SYS_MEM_ERR, 0x40001514, 1, 0x0, 1, 0x0, false, [⟨31, 31, .w1c, 0x0⟩, ⟨19, 16, .rov, 0x0⟩, ⟨11, 9, .rov, 0x0⟩, ⟨8, 0, .rov, 0x0⟩]⟩,
  ⟨.SYS_MEM_ERR_ADDR, 0x40001518, 1, 0x0, 1, 0x0, true, [⟨39, 3, .rov, 0x0⟩]⟩,
  ⟨.SYS_CLK_CTL, 0x40000000, 1, 0x0, 1, 0x0, false, [⟨0, 0, .rw, 0x0⟩]⟩,
  ⟨.SYS_CLK_STAT, 0x40000004, 1, 0x0, 1, 0x0, false, [⟨31, 31, .rov, 0x0⟩, ⟨30, 30, .rov, 0x0⟩, ⟨2, 2, .w1c, 0x0⟩, ⟨1, 1, .w1c, 0x0⟩, ⟨0, 0, .rov, 0x0⟩]⟩,
  ⟨.SYS_PLL_CTL, 0x40000008, 1, 0x0, 1, 0x0, false, [⟨31, 31, .rw, 0x1⟩, ⟨6, 0, .ro, 0x60⟩]⟩,
  ⟨.SYS_AON_CFG, 0x4000000c, 1, 0x0, 1, 0x0, false, [⟨31, 31, .rov, 0x0⟩, ⟨0, 0, .rwl, 0x1⟩]⟩,
  ⟨.SYS_TILE_CFG, 0x40002000, 256, 0x4, 1, 0x0, false, [⟨31, 16, .rw, 0x0⟩, ⟨10, 8, .rw, 0x0⟩, ⟨3, 0, .rw, 0x0⟩]⟩,
  ⟨.SYS_SC_START, 0x40000020, 1, 0x0, 1, 0x0, false, [⟨19, 16, .rov, 0x0⟩, ⟨3, 0, .wo, 0x0⟩]⟩,
  ⟨.SYS_SC_ENTRY, 0x40000040, 4, 0x8, 1, 0x0, true, [⟨39, 2, .rw, 0x0⟩]⟩]

/-- The rows of the peripheral block at 0x40030000. -/
def rows4003 : List RegD := [
  ⟨.LANE_CFG, 0x40030000, 4160, 0x4, 1, 0x0, false, [⟨31, 31, .rw, 0x0⟩, ⟨30, 22, .rw, 0x0⟩, ⟨21, 18, .rw, 0x0⟩, ⟨17, 9, .rw, 0x0⟩, ⟨8, 0, .rw, 0x0⟩]⟩,
  ⟨.LANE_CNT_LO, 0x40035000, 4160, 0x8, 1, 0x0, false, [⟨24, 16, .rov, 0x0⟩, ⟨8, 0, .rov, 0x0⟩]⟩,
  ⟨.LANE_CNT_HI, 0x40035004, 4160, 0x8, 1, 0x0, false, [⟨31, 31, .w1c, 0x0⟩, ⟨30, 30, .rov, 0x0⟩, ⟨24, 16, .rov, 0x0⟩, ⟨8, 0, .rov, 0x0⟩]⟩,
  ⟨.LANE_AUDIT_CTL, 0x4003e000, 1, 0x0, 1, 0x0, false, [⟨31, 31, .wo, 0x0⟩, ⟨1, 0, .rw, 0x0⟩]⟩,
  ⟨.LANE_AUDIT_STATUS, 0x4003e004, 1, 0x0, 1, 0x0, false, [⟨31, 31, .rov, 0x0⟩, ⟨30, 30, .w1c, 0x0⟩, ⟨27, 24, .rov, 0x0⟩, ⟨23, 22, .rov, 0x0⟩, ⟨12, 0, .rov, 0x0⟩]⟩,
  ⟨.LANE_AUDIT_LANE, 0x4003e008, 1, 0x0, 1, 0x0, false, [⟨12, 0, .rov, 0x0⟩]⟩,
  ⟨.LANE_AUDIT_VALUE, 0x4003e00c, 1, 0x0, 1, 0x0, false, [⟨24, 16, .rov, 0x0⟩, ⟨8, 0, .rov, 0x0⟩]⟩,
  ⟨.LANE_FAULT, 0x4003e010, 1, 0x0, 1, 0x0, false, [⟨31, 31, .w1c, 0x0⟩, ⟨27, 24, .rov, 0x0⟩, ⟨23, 22, .rov, 0x0⟩, ⟨21, 19, .rov, 0x0⟩, ⟨18, 16, .rov, 0x0⟩, ⟨12, 0, .rov, 0x0⟩]⟩,
  ⟨.LANE_FAULT_COUNT, 0x4003e014, 1, 0x0, 1, 0x0, false, [⟨31, 0, .rc, 0x0⟩]⟩,
  ⟨.LANE_ERR, 0x4003e018, 1, 0x0, 1, 0x0, false, [⟨31, 31, .w1c, 0x0⟩, ⟨27, 24, .rov, 0x0⟩, ⟨12, 0, .rov, 0x0⟩]⟩,
  ⟨.LANE_CLEAR, 0x4003e01c, 1, 0x0, 1, 0x0, false, [⟨31, 31, .wo, 0x0⟩, ⟨30, 30, .rov, 0x0⟩, ⟨1, 0, .rw, 0x0⟩]⟩,
  ⟨.LANE_ECC, 0x4003e020, 1, 0x0, 1, 0x0, false, [⟨31, 16, .rc, 0x0⟩, ⟨15, 0, .rc, 0x0⟩]⟩]

/-- The rows of the peripheral block at 0x40020000. -/
def rows4002 : List RegD := [
  ⟨.WPT_PERIOD, 0x40020000, 4, 0x100, 1, 0x0, false, [⟨31, 0, .rw, 0x7d0⟩]⟩,
  ⟨.WPT_PHASE, 0x40020004, 4, 0x100, 1, 0x0, false, [⟨31, 0, .rw, 0x0⟩]⟩,
  ⟨.WPT_GUARD, 0x40020008, 4, 0x100, 1, 0x0, false, [⟨15, 0, .rw, 0x40⟩]⟩,
  ⟨.WPT_POLICY, 0x4002000c, 4, 0x100, 1, 0x0, false, [⟨9, 9, .rw, 0x0⟩, ⟨8, 8, .rw, 0x0⟩, ⟨7, 0, .rw, 0x1⟩]⟩,
  ⟨.WPT_SNAP_LEN, 0x40020010, 4, 0x100, 1, 0x0, false, [⟨12, 0, .rw, 0x0⟩]⟩,
  ⟨.WPT_PCMD, 0x40020014, 4, 0x100, 1, 0x0, false, [⟨3, 0, .wo, 0x0⟩]⟩,
  ⟨.WPT_PSTATE, 0x40020018, 4, 0x100, 1, 0x0, false, [⟨31, 24, .rov, 0x0⟩, ⟨23, 15, .rov, 0x0⟩, ⟨12, 12, .rov, 0x0⟩, ⟨11, 11, .rov, 0x0⟩, ⟨10, 10, .rov, 0x0⟩, ⟨9, 9, .rov, 0x0⟩, ⟨2, 0, .rov, 0x0⟩]⟩,
  ⟨.WPT_WNUM, 0x40020020, 4, 0x100, 1, 0x0, true, [⟨63, 0, .rov, 0x0⟩]⟩,
  ⟨.WPT_NEXT, 0x40020028, 4, 0x100, 1, 0x0, true, [⟨63, 0, .rov, 0x0⟩]⟩,
  ⟨.WPT_LATE_COUNT, 0x40020030, 4, 0x100, 1, 0x0, false, [⟨31, 0, .rc, 0x0⟩]⟩,
  ⟨.WPT_SKIPPED, 0x40020034, 4, 0x100, 1, 0x0, false, [⟨31, 0, .rc, 0x0⟩]⟩,
  ⟨.WPT_FAULT_REC, 0x40020040, 4, 0x100, 1, 0x0, false, [⟨31, 31, .rov, 0x0⟩, ⟨27, 24, .rov, 0x0⟩, ⟨23, 16, .rov, 0x0⟩, ⟨9, 9, .rov, 0x0⟩, ⟨8, 8, .rov, 0x0⟩, ⟨7, 0, .rov, 0x0⟩]⟩,
  ⟨.WPT_FAULT_PC, 0x40020048, 4, 0x100, 1, 0x0, true, [⟨39, 2, .rov, 0x0⟩]⟩,
  ⟨.WPT_FAULT_ADDR, 0x40020050, 4, 0x100, 1, 0x0, true, [⟨39, 0, .rov, 0x0⟩]⟩,
  ⟨.WPT_FAULT_WNUM, 0x40020058, 4, 0x100, 1, 0x0, true, [⟨63, 0, .rov, 0x0⟩]⟩,
  ⟨.WPT_CO_CTL, 0x40020060, 4, 0x100, 1, 0x0, false, [⟨31, 31, .wo, 0x0⟩, ⟨30, 30, .rw, 0x0⟩, ⟨29, 28, .rw, 0x0⟩, ⟨9, 0, .rw, 0x0⟩]⟩,
  ⟨.WPT_CO_WNUM, 0x40020068, 4, 0x100, 1, 0x0, true, [⟨63, 0, .rw, 0x0⟩]⟩,
  ⟨.WPT_CO_LANES, 0x40020070, 4, 0x100, 1, 0x0, true, [⟨39, 3, .rw, 0x0⟩]⟩,
  ⟨.WPT_CO_STATUS, 0x40020078, 4, 0x100, 1, 0x0, false, [⟨31, 28, .rov, 0x0⟩, ⟨27, 24, .rov, 0x0⟩, ⟨23, 0, .rov, 0x0⟩]⟩,
  ⟨.WPT_CO_TILES, 0x40020080, 4, 0x100, 8, 0x4, false, [⟨31, 0, .rw, 0x0⟩]⟩,
  ⟨.WPT_PART_MAP, 0x40020800, 1, 0x0, 1, 0x0, false, [⟨11, 8, .rw, 0x0⟩, ⟨7, 6, .rw, 0x0⟩, ⟨5, 4, .rw, 0x0⟩, ⟨3, 2, .rw, 0x0⟩, ⟨1, 0, .rw, 0x0⟩]⟩,
  ⟨.WPT_MAP_ADDR, 0x40020804, 1, 0x0, 1, 0x0, false, [⟨15, 15, .rw, 0x0⟩, ⟨14, 14, .rw, 0x0⟩, ⟨13, 12, .rw, 0x0⟩, ⟨11, 0, .rw, 0x0⟩]⟩,
  ⟨.WPT_MAP_DATA, 0x40020808, 1, 0x0, 1, 0x0, false, [⟨31, 0, .rw, 0x0⟩]⟩,
  ⟨.WPT_STAGE_SRC, 0x40020810, 1, 0x0, 1, 0x0, true, [⟨39, 12, .rw, 0x0⟩]⟩,
  ⟨.WPT_STAGE_CTL, 0x40020818, 1, 0x0, 1, 0x0, false, [⟨31, 31, .wo, 0x0⟩, ⟨30, 30, .rov, 0x0⟩, ⟨29, 29, .w1c, 0x0⟩, ⟨28, 28, .w1c, 0x0⟩, ⟨7, 0, .rw, 0x0⟩]⟩,
  ⟨.WPT_ERR, 0x4002081c, 1, 0x0, 1, 0x0, false, [⟨31, 31, .w1c, 0x0⟩, ⟨27, 24, .rov, 0x0⟩, ⟨23, 22, .rov, 0x0⟩, ⟨21, 21, .rov, 0x0⟩, ⟨11, 0, .rov, 0x0⟩]⟩,
  ⟨.WPT_BANK, 0x40020840, 8, 0x4, 1, 0x0, false, [⟨31, 0, .rov, 0x0⟩]⟩,
  ⟨.WPT_STAGED, 0x40020860, 8, 0x4, 1, 0x0, false, [⟨31, 0, .rov, 0x0⟩]⟩,
  ⟨.WPT_SVCIN, 0x40024000, 4, 0x800, 256, 0x8, true, [⟨63, 0, .rw, 0x0⟩]⟩,
  ⟨.WPT_MIRROR, 0x40028000, 4, 0x2000, 1024, 0x8, true, [⟨63, 0, .rov, 0x0⟩]⟩]

/-- The rows of the peripheral block at 0x400c0000. -/
def rows400c : List RegD := [
  ⟨.CVY_CFG, 0x400c0000, 1, 0x0, 1, 0x0, false, [⟨15, 12, .rw, 0x0⟩, ⟨9, 8, .rw, 0x0⟩, ⟨5, 4, .ro, 0x0⟩, ⟨2, 0, .rw, 0x0⟩]⟩,
  ⟨.CVY_CTL, 0x400c0004, 1, 0x0, 1, 0x0, false, [⟨31, 31, .wo, 0x0⟩, ⟨30, 30, .wo, 0x0⟩, ⟨29, 29, .wo, 0x0⟩, ⟨28, 28, .wo, 0x0⟩]⟩,
  ⟨.CVY_STATE, 0x400c0008, 1, 0x0, 1, 0x0, false, [⟨31, 28, .rov, 0x0⟩, ⟨27, 24, .rov, 0x0⟩, ⟨23, 22, .rov, 0x0⟩, ⟨21, 21, .rov, 0x0⟩, ⟨20, 20, .rov, 0x0⟩, ⟨19, 19, .rov, 0x0⟩]⟩,
  ⟨.CVY_SHOULDER_REC, 0x400c000c, 1, 0x0, 1, 0x0, false, [⟨31, 31, .w1c, 0x0⟩, ⟨27, 24, .rov, 0x0⟩, ⟨21, 20, .rov, 0x0⟩, ⟨17, 16, .rov, 0x0⟩, ⟨15, 0, .rov, 0x0⟩]⟩,
  ⟨.CVY_SHOULDER_COUNT, 0x400c0010, 1, 0x0, 1, 0x0, false, [⟨31, 0, .rc, 0x0⟩]⟩,
  ⟨.CVY_ERR, 0x400c0014, 1, 0x0, 1, 0x0, false, [⟨31, 31, .w1c, 0x0⟩, ⟨27, 24, .rov, 0x0⟩, ⟨23, 20, .rov, 0x0⟩, ⟨17, 16, .rov, 0x0⟩, ⟨13, 12, .rov, 0x0⟩]⟩,
  ⟨.CVY_ALIGN, 0x400c0020, 1, 0x0, 1, 0x0, false, [⟨31, 16, .rov, 0x0⟩, ⟨2, 2, .rov, 0x0⟩, ⟨1, 1, .w1c, 0x0⟩, ⟨0, 0, .rov, 0x0⟩]⟩,
  ⟨.CVY_TRIM, 0x400c0024, 1, 0x0, 1, 0x0, false, [⟨15, 0, .rov, 0x0⟩]⟩,
  ⟨.CVY_TIME_OFS, 0x400c0028, 1, 0x0, 1, 0x0, true, [⟨63, 0, .rov, 0x0⟩]⟩,
  ⟨.CVY_PORT_CTL, 0x400c0100, 3, 0x40, 1, 0x0, false, [⟨31, 31, .wo, 0x0⟩, ⟨30, 30, .wo, 0x0⟩, ⟨1, 1, .rw, 0x0⟩, ⟨0, 0, .rw, 0x0⟩]⟩,
  ⟨.CVY_PORT_STATUS, 0x400c0104, 3, 0x40, 1, 0x0, false, [⟨31, 28, .rov, 0x0⟩, ⟨27, 27, .rov, 0x0⟩, ⟨26, 26, .rov, 0x0⟩, ⟨25, 24, .rov, 0x0⟩, ⟨23, 22, .rov, 0x0⟩]⟩,
  ⟨.CVY_PORT_ERR, 0x400c0108, 3, 0x40, 1, 0x0, false, [⟨31, 16, .rc, 0x0⟩, ⟨15, 0, .rc, 0x0⟩]⟩,
  ⟨.CVY_PORT_DOWNS, 0x400c010c, 3, 0x40, 1, 0x0, false, [⟨15, 0, .rc, 0x0⟩]⟩,
  ⟨.CVY_INWIN, 0x400c0200, 4, 0x40, 1, 0x0, false, [⟨14, 0, .rw, 0x190⟩]⟩,
  ⟨.CVY_OUTCOUNT, 0x400c0204, 4, 0x40, 1, 0x0, false, [⟨12, 0, .rov, 0x0⟩]⟩,
  ⟨.CVY_XSTAT, 0x400c0208, 4, 0x40, 1, 0x0, false, [⟨31, 16, .rov, 0x0⟩, ⟨15, 0, .rov, 0x0⟩]⟩,
  ⟨.CVY_IN_DIS, 0x400c020c, 4, 0x40, 1, 0x0, false, [⟨31, 24, .rc, 0x0⟩, ⟨23, 16, .rc, 0x0⟩, ⟨15, 8, .rc, 0x0⟩, ⟨7, 0, .rc, 0x0⟩]⟩,
  ⟨.CVY_NOMAJ, 0x400c0210, 4, 0x40, 1, 0x0, false, [⟨31, 16, .rc, 0x0⟩, ⟨15, 0, .rc, 0x0⟩]⟩,
  ⟨.CVY_AMAP_ADDR, 0x400c0400, 1, 0x0, 1, 0x0, false, [⟨13, 12, .rw, 0x0⟩, ⟨11, 0, .rw, 0x0⟩]⟩,
  ⟨.CVY_AMAP_DATA, 0x400c0404, 1, 0x0, 1, 0x0, false, [⟨6, 6, .rw, 0x0⟩, ⟨5, 4, .rw, 0x0⟩, ⟨3, 0, .rw, 0x0⟩]⟩,
  ⟨.CVY_MERGE_CTL, 0x400c0500, 1, 0x0, 1, 0x0, false, [⟨31, 31, .wo, 0x0⟩, ⟨30, 30, .wo, 0x0⟩, ⟨29, 28, .rw, 0x0⟩, ⟨15, 0, .rw, 0x40⟩]⟩,
  ⟨.CVY_MERGE_LIMIT, 0x400c0504, 1, 0x0, 1, 0x0, false, [⟨31, 0, .rw, 0x10000⟩]⟩,
  ⟨.CVY_MERGE_STATUS, 0x400c0508, 1, 0x0, 1, 0x0, false, [⟨31, 28, .rov, 0x0⟩, ⟨27, 24, .rov, 0x0⟩, ⟨23, 20, .rov, 0x0⟩, ⟨15, 0, .rov, 0x0⟩]⟩,
  ⟨.CVY_MERGE_WNUM, 0x400c0510, 1, 0x0, 1, 0x0, true, [⟨63, 0, .rov, 0x0⟩]⟩]

/-- The rows of the peripheral block at 0x40070000. -/
def rows4007 : List RegD := [
  ⟨.ADC_REF, 0x40070000, 1, 0x0, 1, 0x0, false, [⟨2, 2, .rov, 0x0⟩, ⟨1, 1, .rw, 0x0⟩, ⟨0, 0, .rw, 0x0⟩]⟩,
  ⟨.ADC_ERR, 0x40070004, 1, 0x0, 1, 0x0, false, [⟨31, 31, .w1c, 0x0⟩, ⟨27, 24, .rov, 0x0⟩, ⟨12, 0, .rov, 0x0⟩]⟩,
  ⟨.ADC_TRIGCFG, 0x40070010, 4, 0x10, 1, 0x0, false, [⟨31, 31, .rw, 0x0⟩, ⟨29, 28, .rw, 0x0⟩, ⟨25, 24, .rw, 0x0⟩, ⟨21, 16, .rw, 0x0⟩]⟩,
  ⟨.ADC_TRIGLEAD, 0x40070014, 4, 0x10, 1, 0x0, false, [⟨15, 0, .rw, 0x0⟩]⟩,
  ⟨.ADC_TRIGDIV, 0x40070018, 4, 0x10, 1, 0x0, false, [⟨23, 0, .rw, 0x0⟩]⟩,
  ⟨.ADC_TRIGSW, 0x4007001c, 4, 0x10, 1, 0x0, false, [⟨0, 0, .wo, 0x0⟩]⟩,
  ⟨.ADC_SCFG, 0x40071000, 32, 0x40, 1, 0x0, false, [⟨15, 12, .rw, 0x0⟩, ⟨11, 8, .rw, 0x0⟩, ⟨5, 4, .rw, 0x0⟩, ⟨1, 0, .rw, 0x0⟩]⟩,
  ⟨.ADC_SSEQ, 0x40071004, 32, 0x40, 1, 0x0, false, [⟨27, 24, .rw, 0x1⟩, ⟨23, 0, .rw, 0x0⟩]⟩,
  ⟨.ADC_SSTAT, 0x40071008, 32, 0x40, 1, 0x0, false, [⟨31, 31, .rov, 0x0⟩, ⟨30, 30, .rov, 0x0⟩, ⟨6, 6, .w1c, 0x0⟩, ⟨5, 5, .w1c, 0x0⟩, ⟨4, 4, .w1c, 0x0⟩, ⟨3, 3, .w1c, 0x0⟩, ⟨2, 2, .w1c, 0x0⟩, ⟨1, 1, .w1c, 0x0⟩, ⟨0, 0, .rov, 0x0⟩]⟩,
  ⟨.ADC_SIEN, 0x4007100c, 32, 0x40, 1, 0x0, false, [⟨6, 0, .rw, 0x0⟩]⟩,
  ⟨.ADC_RBASE, 0x40071010, 32, 0x40, 1, 0x0, true, [⟨39, 2, .rw, 0x0⟩]⟩,
  ⟨.ADC_RCTL, 0x40071018, 32, 0x40, 1, 0x0, false, [⟨31, 31, .rw, 0x0⟩, ⟨25, 21, .rw, 0x6⟩, ⟨20, 0, .rw, 0x0⟩]⟩,
  ⟨.ADC_RWPTR, 0x4007101c, 32, 0x40, 1, 0x0, false, [⟨31, 0, .rov, 0x0⟩]⟩,
  ⟨.ADC_RRPTR, 0x40071020, 32, 0x40, 1, 0x0, false, [⟨31, 0, .rw, 0x0⟩]⟩,
  ⟨.ADC_RDROP, 0x40071024, 32, 0x40, 1, 0x0, false, [⟨31, 0, .rc, 0x0⟩]⟩,
  ⟨.ADC_LATEST, 0x40074000, 256, 0x8, 1, 0x0, true, [⟨50, 50, .rov, 0x0⟩, ⟨49, 49, .rov, 0x0⟩, ⟨48, 48, .rov, 0x0⟩, ⟨47, 32, .rov, 0x0⟩, ⟨31, 0, .rov, 0x0⟩]⟩]

/-- The rows of the peripheral block at 0x40120000. -/
def rows4012 : List RegD := [
  ⟨.CAL_CTL, 0x40120000, 1, 0x0, 1, 0x0, false, [⟨15, 8, .rw, 0x10⟩, ⟨3, 0, .rw, 0x0⟩]⟩,
  ⟨.CAL_CMD, 0x40120004, 1, 0x0, 1, 0x0, false, [⟨31, 31, .wo, 0x0⟩, ⟨30, 30, .wo, 0x0⟩, ⟨3, 0, .wo, 0x0⟩]⟩,
  ⟨.CAL_STATUS, 0x40120008, 1, 0x0, 1, 0x0, false, [⟨31, 31, .rov, 0x1⟩, ⟨27, 24, .rov, 0x0⟩, ⟨23, 20, .rov, 0x0⟩, ⟨5, 5, .rov, 0x0⟩, ⟨4, 4, .rov, 0x0⟩, ⟨1, 0, .rov, 0x0⟩]⟩,
  ⟨.CAL_GROUP, 0x40120010, 4, 0x4, 1, 0x0, false, [⟨31, 31, .rov, 0x0⟩, ⟨30, 30, .rov, 0x0⟩, ⟨23, 16, .rov, 0x0⟩, ⟨11, 8, .rov, 0x0⟩, ⟨7, 4, .rov, 0x0⟩]⟩,
  ⟨.CAL_LIVE, 0x40120020, 1, 0x0, 1, 0x0, false, [⟨31, 0, .rov, 0x0⟩]⟩,
  ⟨.CAL_LIVE_SP, 0x40120024, 1, 0x0, 1, 0x0, false, [⟨3, 0, .rov, 0x0⟩]⟩,
  ⟨.CAL_COEF_ADDR, 0x40120028, 1, 0x0, 1, 0x0, false, [⟨31, 31, .rw, 0x0⟩, ⟨13, 8, .rw, 0x0⟩, ⟨5, 0, .rw, 0x0⟩]⟩,
  ⟨.CAL_COEF_DATA, 0x4012002c, 1, 0x0, 1, 0x0, false, [⟨31, 0, .rov, 0x0⟩]⟩]

/-- The rows of the peripheral block at 0x40080000. -/
def rows4008 : List RegD := [
  ⟨.IOS_CTL, 0x40080000, 128, 0x100, 1, 0x0, false, [⟨31, 31, .rw, 0x0⟩, ⟨29, 28, .rw, 0x0⟩, ⟨4, 0, .rw, 0x0⟩]⟩,
  ⟨.IOS_CLKDIV, 0x40080004, 128, 0x100, 1, 0x0, false, [⟨15, 0, .rw, 0x0⟩]⟩,
  ⟨.IOS_PINA, 0x40080008, 128, 0x100, 1, 0x0, false, [⟨23, 16, .rw, 0x0⟩, ⟨7, 0, .rw, 0x0⟩]⟩,
  ⟨.IOS_PINB, 0x4008000c, 128, 0x100, 1, 0x0, false, [⟨11, 11, .rw, 0x0⟩, ⟨10, 8, .rw, 0x0⟩, ⟨7, 0, .rw, 0x0⟩]⟩,
  ⟨.IOS_OPT, 0x40080010, 128, 0x100, 1, 0x0, false, [⟨29, 24, .rw, 0x20⟩, ⟨21, 16, .rw, 0x20⟩, ⟨7, 4, .rw, 0x0⟩, ⟨3, 3, .rw, 0x0⟩, ⟨1, 1, .rw, 0x0⟩, ⟨0, 0, .rw, 0x0⟩]⟩,
  ⟨.IOS_OWNER, 0x40080014, 128, 0x100, 1, 0x0, false, [⟨3, 0, .rw, 0x0⟩]⟩,
  ⟨.IOS_STAT, 0x40080018, 128, 0x100, 1, 0x0, false, [⟨31, 29, .rov, 0x0⟩, ⟨6, 6, .w1c, 0x0⟩, ⟨5, 5, .w1c, 0x0⟩, ⟨4, 4, .w1c, 0x0⟩, ⟨3, 3, .w1c, 0x0⟩, ⟨2, 2, .w1c, 0x0⟩, ⟨1, 1, .rov, 0x1⟩, ⟨0, 0, .rov, 0x0⟩]⟩,
  ⟨.IOS_IEN, 0x4008001c, 128, 0x100, 1, 0x0, false, [⟨6, 0, .rw, 0x0⟩]⟩,
  ⟨.IOS_FSTAT, 0x40080020, 128, 0x100, 1, 0x0, false, [⟨31, 31, .wo, 0x0⟩, ⟨30, 30, .wo, 0x0⟩, ⟨10, 8, .rov, 0x0⟩, ⟨2, 0, .rov, 0x0⟩]⟩,
  ⟨.IOS_TXF, 0x40080024, 128, 0x100, 1, 0x0, false, [⟨31, 0, .wo, 0x0⟩]⟩,
  ⟨.IOS_RXF, 0x40080028, 128, 0x100, 1, 0x0, false, [⟨31, 0, .rov, 0x0⟩]⟩,
  ⟨.IOS_CNT, 0x4008002c, 128, 0x100, 1, 0x0, false, [⟨31, 0, .rw, 0x0⟩]⟩,
  ⟨.IOS_ACC, 0x40080030, 128, 0x100, 1, 0x0, false, [⟨31, 0, .rw, 0x0⟩]⟩,
  ⟨.IOS_SND, 0x40080034, 128, 0x100, 1, 0x0, false, [⟨31, 0, .rov, 0x0⟩]⟩,
  ⟨.IOS_CAP, 0x40080038, 128, 0x100, 1, 0x0, false, [⟨31, 0, .rov, 0x0⟩]⟩,
  ⟨.IOS_PC, 0x4008003c, 128, 0x100, 1, 0x0, false, [⟨13, 13, .rov, 0x0⟩, ⟨12, 12, .rov, 0x0⟩, ⟨11, 8, .rov, 0x0⟩, ⟨4, 0, .rov, 0x0⟩]⟩,
  ⟨.IOS_RELOAD, 0x40080040, 128, 0x100, 1, 0x0, false, [⟨31, 0, .rw, 0x0⟩]⟩,
  ⟨.IOS_CMP, 0x40080044, 128, 0x100, 1, 0x0, false, [⟨31, 0, .rw, 0x0⟩]⟩,
  ⟨.IOS_FILLW, 0x40080048, 128, 0x100, 1, 0x0, false, [⟨31, 0, .rw, 0x0⟩]⟩,
  ⟨.IOS_BITS, 0x4008004c, 128, 0x100, 1, 0x0, false, [⟨21, 16, .rov, 0x0⟩, ⟨5, 0, .rov, 0x0⟩]⟩,
  ⟨.IOS_PMAP, 0x40080060, 128, 0x100, 8, 0x4, false, [⟨8, 0, .rw, 0x0⟩]⟩,
  ⟨.IOS_SLOT, 0x40080080, 128, 0x100, 32, 0x4, false, [⟨31, 29, .rw, 0x0⟩, ⟨28, 25, .rw, 0x0⟩, ⟨24, 20, .rw, 0x0⟩, ⟨19, 16, .rw, 0x0⟩, ⟨15, 8, .rw, 0x0⟩, ⟨7, 4, .rw, 0x0⟩, ⟨3, 0, .rw, 0x0⟩]⟩,
  ⟨.IOS_GO, 0x4008f000, 4, 0x4, 1, 0x0, false, [⟨31, 0, .wo, 0x0⟩]⟩,
  ⟨.IOS_ERR, 0x4008f010, 1, 0x0, 1, 0x0, false, [⟨31, 31, .w1c, 0x0⟩, ⟨27, 24, .rov, 0x0⟩, ⟨22, 16, .rov, 0x0⟩, ⟨7, 0, .rov, 0x0⟩]⟩,
  ⟨.IOS_FLAGS, 0x4008f100, 4, 0x4, 1, 0x0, false, [⟨31, 0, .rov, 0x0⟩]⟩,
  ⟨.IOS_FLAGSET, 0x4008f110, 4, 0x4, 1, 0x0, false, [⟨31, 0, .wo, 0x0⟩]⟩,
  ⟨.IOS_FLAGCLR, 0x4008f120, 4, 0x4, 1, 0x0, false, [⟨31, 0, .wo, 0x0⟩]⟩]

/-- The rows of the peripheral block at 0x40090000. -/
def rows4009 : List RegD := [
  ⟨.PIN_CFG, 0x40090000, 320, 0x4, 1, 0x0, false, [⟨31, 28, .rw, 0x0⟩, ⟨27, 24, .rov, 0x0⟩, ⟨22, 16, .rov, 0x0⟩, ⟨15, 15, .rw, 0x0⟩, ⟨14, 9, .rw, 0x0⟩, ⟨8, 8, .rw, 0x0⟩, ⟨5, 4, .rw, 0x0⟩, ⟨3, 2, .rw, 0x0⟩, ⟨1, 1, .rw, 0x0⟩]⟩,
  ⟨.PIN_OUT_LO, 0x40091000, 10, 0x40, 1, 0x0, false, [⟨31, 16, .wo, 0x0⟩, ⟨15, 0, .wo, 0x0⟩]⟩,
  ⟨.PIN_OUT_HI, 0x40091004, 10, 0x40, 1, 0x0, false, [⟨31, 16, .wo, 0x0⟩, ⟨15, 0, .wo, 0x0⟩]⟩,
  ⟨.PIN_DIR_LO, 0x40091008, 10, 0x40, 1, 0x0, false, [⟨31, 16, .wo, 0x0⟩, ⟨15, 0, .wo, 0x0⟩]⟩,
  ⟨.PIN_DIR_HI, 0x4009100c, 10, 0x40, 1, 0x0, false, [⟨31, 16, .wo, 0x0⟩, ⟨15, 0, .wo, 0x0⟩]⟩,
  ⟨.PIN_OUTV, 0x40091010, 10, 0x40, 1, 0x0, false, [⟨31, 0, .rov, 0x0⟩]⟩,
  ⟨.PIN_DIRV, 0x40091014, 10, 0x40, 1, 0x0, false, [⟨31, 0, .rov, 0x0⟩]⟩,
  ⟨.PIN_IN, 0x40091018, 10, 0x40, 1, 0x0, false, [⟨31, 0, .rov, 0x0⟩]⟩,
  ⟨.PIN_BANKSTAT, 0x4009101c, 10, 0x40, 1, 0x0, false, [⟨31, 31, .rov, 0x0⟩, ⟨30, 30, .w1c, 0x0⟩, ⟨1, 0, .rov, 0x0⟩]⟩,
  ⟨.PIN_EVCFG, 0x40092000, 64, 0x10, 1, 0x0, false, [⟨31, 31, .rw, 0x0⟩, ⟨30, 30, .rw, 0x0⟩, ⟨29, 28, .rw, 0x0⟩, ⟨27, 27, .rov, 0x0⟩, ⟨17, 9, .rov, 0x1ff⟩, ⟨1, 1, .w1c, 0x0⟩, ⟨0, 0, .w1c, 0x0⟩]⟩,
  ⟨.PIN_EVTS, 0x40092008, 64, 0x10, 1, 0x0, true, [⟨63, 0, .rov, 0x0⟩]⟩,
  ⟨.PIN_STAT, 0x40093000, 1, 0x0, 1, 0x0, false, [⟨31, 31, .w1c, 0x0⟩, ⟨30, 30, .rov, 0x0⟩, ⟨29, 29, .w1c, 0x0⟩, ⟨5, 0, .rov, 0x0⟩]⟩,
  ⟨.PIN_ERR, 0x40093004, 1, 0x0, 1, 0x0, false, [⟨31, 31, .w1c, 0x0⟩, ⟨27, 24, .rov, 0x0⟩, ⟨22, 20, .rov, 0x0⟩, ⟨19, 13, .rov, 0x0⟩, ⟨8, 0, .rov, 0x0⟩]⟩,
  ⟨.PIN_NOWN_COUNT, 0x40093008, 1, 0x0, 1, 0x0, false, [⟨31, 0, .rc, 0x0⟩]⟩]

/-- The rows of the peripheral block at 0x40040000. -/
def rows4004 : List RegD := [
  ⟨.ICU_PRIO, 0x40040000, 512, 0x4, 1, 0x0, false, [⟨8, 8, .ro, 0x0⟩, ⟨3, 0, .rw, 0x0⟩]⟩,
  ⟨.ICU_EN, 0x40041000, 4, 0x40, 16, 0x4, false, [⟨31, 0, .rov, 0x0⟩]⟩,
  ⟨.ICU_EN_SET, 0x40041100, 4, 0x40, 16, 0x4, false, [⟨31, 0, .wo, 0x0⟩]⟩,
  ⟨.ICU_EN_CLR, 0x40041200, 4, 0x40, 16, 0x4, false, [⟨31, 0, .wo, 0x0⟩]⟩,
  ⟨.ICU_PEND, 0x40041300, 16, 0x4, 1, 0x0, false, [⟨31, 0, .rov, 0x0⟩]⟩,
  ⟨.ICU_PEND_SET, 0x40041340, 16, 0x4, 1, 0x0, false, [⟨31, 0, .wo, 0x0⟩]⟩,
  ⟨.ICU_PEND_CLR, 0x40041380, 16, 0x4, 1, 0x0, false, [⟨31, 0, .wo, 0x0⟩]⟩,
  ⟨.ICU_ACTIVE, 0x400413c0, 16, 0x4, 1, 0x0, false, [⟨31, 0, .rov, 0x0⟩]⟩,
  ⟨.ICU_THR, 0x40042000, 4, 0x20, 1, 0x0, false, [⟨3, 0, .rov, 0x0⟩]⟩,
  ⟨.ICU_THR_SET, 0x40042004, 4, 0x20, 1, 0x0, false, [⟨3, 0, .wo, 0x0⟩]⟩,
  ⟨.ICU_THR_CLR, 0x40042008, 4, 0x20, 1, 0x0, false, [⟨3, 0, .wo, 0x0⟩]⟩,
  ⟨.ICU_CLAIM, 0x4004200c, 4, 0x20, 1, 0x0, false, [⟨9, 0, .rov, 0x0⟩]⟩,
  ⟨.ICU_COMPLETE, 0x40042010, 4, 0x20, 1, 0x0, false, [⟨9, 0, .wo, 0x0⟩]⟩,
  ⟨.ICU_LATCH, 0x40042014, 4, 0x20, 1, 0x0, false, [⟨31, 31, .rov, 0x0⟩, ⟨9, 0, .rov, 0x0⟩]⟩,
  ⟨.ICU_ERR, 0x40042100, 1, 0x0, 1, 0x0, false, [⟨31, 31, .w1c, 0x0⟩, ⟨27, 24, .rov, 0x0⟩, ⟨17, 16, .rov, 0x0⟩, ⟨9, 0, .rov, 0x0⟩]⟩]

/-- The rows of the peripheral block at 0x40060000. -/
def rows4006 : List RegD := [
  ⟨.FLC_CMD, 0x40060000, 1, 0x0, 1, 0x0, false, [⟨31, 24, .wo, 0x0⟩, ⟨12, 12, .wo, 0x0⟩, ⟨11, 8, .wo, 0x0⟩, ⟨3, 0, .wo, 0x0⟩]⟩,
  ⟨.FLC_RESULT, 0x40060004, 1, 0x0, 1, 0x0, false, [⟨27, 24, .rov, 0x0⟩, ⟨23, 20, .rov, 0x0⟩, ⟨3, 0, .rov, 0x0⟩]⟩,
  ⟨.FLC_ADDR, 0x40060008, 1, 0x0, 1, 0x0, true, [⟨39, 4, .rw, 0x0⟩]⟩,
  ⟨.FLC_CFG, 0x40060010, 1, 0x0, 1, 0x0, false, [⟨31, 24, .rw, 0x0⟩, ⟨23, 16, .rw, 0x0⟩, ⟨8, 0, .rw, 0x0⟩]⟩,
  ⟨.FLC_STAT, 0x40060014, 1, 0x0, 1, 0x0, false, [⟨31, 31, .rov, 0x0⟩, ⟨30, 30, .rov, 0x0⟩, ⟨29, 29, .rov, 0x0⟩, ⟨28, 24, .rov, 0x0⟩, ⟨7, 7, .w1c, 0x0⟩, ⟨6, 6, .w1c, 0x0⟩, ⟨5, 5, .rov, 0x0⟩, ⟨4, 4, .w1c, 0x0⟩, ⟨3, 3, .rov, 0x0⟩, ⟨2, 2, .rov, 0x0⟩, ⟨1, 1, .rov, 0x0⟩, ⟨0, 0, .rov, 0x0⟩]⟩,
  ⟨.FLC_IEN, 0x40060018, 1, 0x0, 1, 0x0, false, [⟨7, 0, .rw, 0x0⟩]⟩,
  ⟨.FLC_CORR, 0x4006001c, 1, 0x0, 1, 0x0, false, [⟨31, 16, .rc, 0x0⟩, ⟨15, 0, .rc, 0x0⟩]⟩,
  ⟨.FLC_REFRESH, 0x40060020, 1, 0x0, 1, 0x0, true, [⟨63, 63, .w1c, 0x0⟩, ⟨55, 40, .rov, 0x0⟩, ⟨39, 4, .rov, 0x0⟩]⟩,
  ⟨.FLC_UNCORR, 0x40060028, 1, 0x0, 1, 0x0, true, [⟨63, 63, .w1c, 0x0⟩, ⟨42, 40, .rov, 0x0⟩, ⟨39, 4, .rov, 0x0⟩]⟩,
  ⟨.FLC_XO_FAULT, 0x40060030, 1, 0x0, 1, 0x0, true, [⟨63, 63, .w1c, 0x0⟩, ⟨42, 40, .rov, 0x0⟩, ⟨39, 4, .rov, 0x0⟩]⟩,
  ⟨.FLC_BSTAT, 0x40060040, 9, 0x4, 1, 0x0, false, [⟨31, 29, .rov, 0x0⟩, ⟨28, 28, .w1c, 0x0⟩, ⟨27, 27, .w1c, 0x0⟩, ⟨23, 20, .rov, 0x0⟩, ⟨17, 16, .rov, 0x0⟩, ⟨6, 0, .rov, 0x0⟩]⟩,
  ⟨.FLC_PEND, 0x40060080, 16, 0x4, 1, 0x0, false, [⟨31, 31, .rov, 0x0⟩, ⟨11, 8, .rov, 0x0⟩, ⟨6, 0, .rov, 0x0⟩]⟩,
  ⟨.FLC_BUF, 0x40060100, 32, 0x4, 1, 0x0, false, [⟨31, 0, .wo, 0x0⟩]⟩,
  ⟨.FLC_XO, 0x40060200, 16, 0x4, 1, 0x0, false, [⟨31, 31, .rwl, 0x0⟩, ⟨25, 16, .rwl, 0x0⟩, ⟨9, 0, .rwl, 0x0⟩]⟩]

/-- The rows of the peripheral block at 0x400a0000. -/
def rows400a : List RegD := [
  ⟨.XSP_CTL, 0x400a0000, 2, 0x10000, 1, 0x0, false, [⟨31, 31, .rw, 0x0⟩, ⟨30, 30, .rov, 0x0⟩, ⟨23, 20, .rw, 0x0⟩]⟩,
  ⟨.XSP_CLKDIV, 0x400a0004, 2, 0x10000, 1, 0x0, false, [⟨19, 16, .rw, 0x0⟩, ⟨15, 12, .rw, 0x3⟩, ⟨11, 8, .rw, 0x2⟩, ⟨7, 4, .rw, 0x1⟩, ⟨3, 0, .rw, 0x0⟩]⟩,
  ⟨.XSP_STATUS, 0x400a0008, 2, 0x10000, 1, 0x0, false, [⟨31, 31, .rov, 0x0⟩, ⟨30, 30, .rov, 0x0⟩, ⟨29, 29, .rov, 0x0⟩, ⟨3, 3, .w1c, 0x0⟩, ⟨2, 2, .w1c, 0x0⟩, ⟨1, 1, .rov, 0x0⟩, ⟨0, 0, .w1c, 0x0⟩]⟩,
  ⟨.XSP_IEN, 0x400a000c, 2, 0x10000, 1, 0x0, false, [⟨3, 0, .rw, 0x0⟩]⟩,
  ⟨.XSP_ERR, 0x400a0010, 2, 0x10000, 1, 0x0, false, [⟨31, 31, .w1c, 0x0⟩, ⟨27, 24, .rov, 0x0⟩, ⟨23, 22, .rov, 0x0⟩, ⟨21, 19, .rov, 0x0⟩, ⟨11, 0, .rov, 0x0⟩]⟩,
  ⟨.XSP_ERR_ADDR, 0x400a0018, 2, 0x10000, 1, 0x0, true, [⟨39, 0, .rov, 0x0⟩]⟩,
  ⟨.XSP_MAN_CTL, 0x400a0020, 2, 0x10000, 1, 0x0, false, [⟨31, 31, .wo, 0x0⟩, ⟨30, 30, .rov, 0x0⟩, ⟨29, 29, .rw, 0x0⟩, ⟨28, 28, .rw, 0x0⟩, ⟨27, 26, .rw, 0x0⟩, ⟨6, 0, .rw, 0x0⟩]⟩,
  ⟨.XSP_MAN_FMT, 0x400a0024, 2, 0x10000, 1, 0x0, false, [⟨31, 0, .rw, 0x0⟩]⟩,
  ⟨.XSP_MAN_ADDR, 0x400a0028, 2, 0x10000, 1, 0x0, false, [⟨31, 0, .rw, 0x0⟩]⟩,
  ⟨.XSP_MAN_DATA, 0x400a0040, 2, 0x10000, 16, 0x4, false, [⟨31, 0, .rw, 0x0⟩]⟩,
  ⟨.XSP_CSCFG, 0x400a0100, 2, 0x10000, 4, 0x40, false, [⟨31, 31, .rw, 0x0⟩, ⟨30, 29, .rw, 0x0⟩, ⟨28, 27, .rw, 0x0⟩, ⟨23, 21, .rw, 0x2⟩, ⟨20, 16, .rw, 0x0⟩, ⟨15, 0, .rw, 0x0⟩]⟩,
  ⟨.XSP_CSTIME, 0x400a0104, 2, 0x10000, 4, 0x40, false, [⟨31, 28, .rw, 0x4⟩, ⟨27, 24, .rw, 0x4⟩, ⟨23, 22, .rw, 0x0⟩, ⟨21, 16, .rw, 0x8⟩, ⟨15, 0, .rw, 0x100⟩]⟩,
  ⟨.XSP_RD_FMT, 0x400a0108, 2, 0x10000, 4, 0x40, false, [⟨31, 0, .rw, 0x801003⟩]⟩,
  ⟨.XSP_WR_FMT, 0x400a010c, 2, 0x10000, 4, 0x40, false, [⟨31, 0, .rw, 0x801002⟩]⟩,
  ⟨.XSP_WREN_FMT, 0x400a0110, 2, 0x10000, 4, 0x40, false, [⟨31, 0, .rw, 0x6⟩]⟩,
  ⟨.XSP_STAT_FMT, 0x400a0114, 2, 0x10000, 4, 0x40, false, [⟨31, 0, .rw, 0x1005⟩]⟩,
  ⟨.XSP_POLL, 0x400a0118, 2, 0x10000, 4, 0x40, false, [⟨31, 31, .rw, 0x1⟩, ⟨30, 28, .rw, 0x0⟩, ⟨27, 16, .rw, 0x10⟩, ⟨15, 0, .rw, 0x1000⟩]⟩]

/-- The rows of the peripheral block at 0x40010000. -/
def rows4001 : List RegD := [
  ⟨.PWR_OPP_CTL, 0x40010000, 1, 0x0, 1, 0x0, false, [⟨1, 0, .rw, 0x0⟩]⟩,
  ⟨.PWR_OPP_STAT, 0x40010004, 1, 0x0, 1, 0x0, false, [⟨31, 31, .rov, 0x0⟩, ⟨30, 28, .rov, 0x0⟩, ⟨9, 8, .rov, 0x0⟩, ⟨5, 0, .rov, 0xf⟩]⟩,
  ⟨.PWR_VID_OPP, 0x40010010, 4, 0x4, 1, 0x0, false, [⟨5, 0, .rw, 0xf⟩]⟩,
  ⟨.PWR_VID, 0x40010020, 1, 0x0, 1, 0x0, false, [⟨5, 0, .rw, 0xf⟩]⟩,
  ⟨.PWR_VRDY_CFG, 0x40010024, 1, 0x0, 1, 0x0, false, [⟨11, 0, .rw, 0x64⟩]⟩,
  ⟨.PWR_DOM_CTL, 0x40010030, 1, 0x0, 1, 0x0, false, [⟨6, 6, .rw, 0x0⟩, ⟨5, 5, .rw, 0x0⟩, ⟨3, 0, .rw, 0x0⟩]⟩,
  ⟨.PWR_DOM_STAT, 0x40010034, 1, 0x0, 1, 0x0, false, [⟨6, 6, .rov, 0x1⟩, ⟨5, 5, .rov, 0x1⟩, ⟨3, 0, .rov, 0xf⟩]⟩,
  ⟨.PWR_SLEEP_CTL, 0x40010040, 1, 0x0, 1, 0x0, false, [⟨31, 31, .wo, 0x0⟩, ⟨1, 0, .rw, 0x1⟩]⟩,
  ⟨.PWR_RETAIN, 0x40010044, 1, 0x0, 1, 0x0, false, [⟨15, 0, .rw, 0x0⟩]⟩,
  ⟨.PWR_WAKE_EN, 0x40010048, 1, 0x0, 1, 0x0, false, [⟨6, 0, .rw, 0x20⟩]⟩,
  ⟨.PWR_HS_CFG, 0x4001004c, 1, 0x0, 1, 0x0, false, [⟨31, 16, .rw, 0x100⟩, ⟨15, 0, .rw, 0x40⟩]⟩,
  ⟨.PWR_HS_STAT, 0x40010050, 1, 0x0, 1, 0x0, false, [⟨31, 31, .rov, 0x0⟩, ⟨19, 16, .rov, 0x0⟩, ⟨7, 0, .rov, 0x0⟩]⟩,
  ⟨.PWR_AON_CNT, 0x40010060, 1, 0x0, 1, 0x0, false, [⟨31, 0, .rov, 0x0⟩]⟩,
  ⟨.PWR_AON_CMP, 0x40010064, 1, 0x0, 1, 0x0, false, [⟨31, 0, .rw, 0x0⟩]⟩,
  ⟨.PWR_SLEEP_TIME, 0x40010068, 1, 0x0, 1, 0x0, false, [⟨31, 0, .rov, 0x0⟩]⟩,
  ⟨.PWR_THERM, 0x40010070, 1, 0x0, 1, 0x0, false, [⟨15, 0, .rw, 0x730⟩]⟩,
  ⟨.PWR_IRQ, 0x40010080, 1, 0x0, 1, 0x0, false, [⟨23, 16, .rw, 0x0⟩, ⟨7, 7, .w1c, 0x0⟩, ⟨6, 6, .w1c, 0x0⟩, ⟨5, 5, .w1c, 0x0⟩, ⟨4, 4, .w1c, 0x0⟩, ⟨3, 3, .w1c, 0x0⟩, ⟨2, 2, .w1c, 0x0⟩, ⟨1, 1, .w1c, 0x0⟩, ⟨0, 0, .w1c, 0x0⟩]⟩,
  ⟨.PWR_ERR, 0x40010084, 1, 0x0, 1, 0x0, false, [⟨31, 31, .w1c, 0x0⟩, ⟨19, 8, .rov, 0x0⟩, ⟨7, 0, .rov, 0x0⟩]⟩]

/-- The rows of the peripheral block at 0x40130000. -/
def rows4013 : List RegD := [
  ⟨.TMP_TEMP, 0x40130000, 1, 0x0, 1, 0x0, false, [⟨31, 31, .rov, 0x0⟩, ⟨30, 30, .rov, 0x0⟩, ⟨15, 0, .rov, 0x0⟩]⟩,
  ⟨.TMP_SUPPLY, 0x40130004, 1, 0x0, 1, 0x0, false, [⟨31, 31, .rov, 0x0⟩, ⟨29, 24, .rov, 0x0⟩, ⟨23, 12, .rov, 0x0⟩, ⟨11, 0, .rov, 0x0⟩]⟩,
  ⟨.TMP_PEAK, 0x40130008, 1, 0x0, 1, 0x0, false, [⟨31, 16, .rov, 0x8000⟩, ⟨15, 0, .rov, 0x7fff⟩]⟩,
  ⟨.TMP_CTL, 0x4013000c, 1, 0x0, 1, 0x0, false, [⟨0, 0, .wo, 0x0⟩]⟩]

/-- The rows of the peripheral block at 0x400f0000. -/
def rows400f : List RegD := [
  ⟨.LAY_CTL, 0x400f0000, 1, 0x0, 1, 0x0, false, [⟨31, 31, .rw, 0x0⟩, ⟨8, 8, .rw, 0x0⟩, ⟨1, 0, .rw, 0x0⟩]⟩,
  ⟨.LAY_STAT, 0x400f0004, 1, 0x0, 1, 0x0, false, [⟨31, 29, .rov, 0x0⟩, ⟨28, 28, .rov, 0x0⟩, ⟨27, 27, .w1c, 0x0⟩, ⟨26, 26, .rov, 0x0⟩, ⟨25, 25, .rov, 0x0⟩, ⟨23, 16, .rov, 0x0⟩, ⟨7, 4, .rov, 0x0⟩, ⟨3, 0, .rov, 0x0⟩]⟩,
  ⟨.LAY_PREP, 0x400f0008, 1, 0x0, 1, 0x0, false, [⟨31, 31, .wo, 0x0⟩, ⟨30, 30, .rov, 0x0⟩, ⟨29, 29, .w1c, 0x0⟩, ⟨2, 0, .rw, 0x0⟩]⟩,
  ⟨.LAY_RESTORE, 0x400f000c, 1, 0x0, 1, 0x0, false, [⟨31, 31, .wo, 0x0⟩, ⟨30, 30, .wo, 0x0⟩, ⟨29, 29, .rov, 0x0⟩, ⟨11, 8, .rov, 0x0⟩, ⟨4, 4, .rw, 0x0⟩, ⟨3, 0, .rw, 0x0⟩]⟩,
  ⟨.LAY_SLOT, 0x400f0020, 8, 0x4, 1, 0x0, false, [⟨31, 29, .rov, 0x0⟩, ⟨15, 0, .rov, 0x0⟩]⟩,
  ⟨.LAY_IRQ, 0x400f0040, 1, 0x0, 1, 0x0, false, [⟨19, 16, .rw, 0x0⟩, ⟨3, 3, .w1c, 0x0⟩, ⟨2, 2, .w1c, 0x0⟩, ⟨1, 1, .w1c, 0x0⟩, ⟨0, 0, .w1c, 0x0⟩]⟩]

/-- The rows of the peripheral block at 0x40050000. -/
def rows4005 : List RegD := [
  ⟨.WDG_CTL, 0x40050000, 8, 0x100, 1, 0x0, false, [⟨31, 31, .rov, 0x0⟩, ⟨8, 8, .rwl, 0x0⟩]⟩,
  ⟨.WDG_OPEN, 0x40050004, 8, 0x100, 1, 0x0, false, [⟨23, 0, .rw, 0x1⟩]⟩,
  ⟨.WDG_CLOSE, 0x40050008, 8, 0x100, 1, 0x0, false, [⟨23, 0, .rw, 0xffffff⟩]⟩,
  ⟨.WDG_WARN, 0x4005000c, 8, 0x100, 1, 0x0, false, [⟨23, 0, .rw, 0x0⟩]⟩,
  ⟨.WDG_QUESTION, 0x40050010, 8, 0x100, 1, 0x0, false, [⟨15, 0, .rov, 0x0⟩]⟩,
  ⟨.WDG_MILESTONE, 0x40050014, 8, 0x100, 1, 0x0, false, [⟨7, 0, .wo, 0x0⟩]⟩,
  ⟨.WDG_TOKEN, 0x40050018, 8, 0x100, 1, 0x0, false, [⟨15, 0, .wo, 0x0⟩]⟩,
  ⟨.WDG_COUNT, 0x4005001c, 8, 0x100, 1, 0x0, false, [⟨23, 0, .rov, 0x0⟩]⟩,
  ⟨.WDG_STAT, 0x40050020, 8, 0x100, 1, 0x0, false, [⟨31, 31, .rov, 0x0⟩, ⟨30, 30, .rov, 0x0⟩, ⟨29, 29, .rov, 0x0⟩, ⟨4, 4, .w1c, 0x0⟩, ⟨3, 3, .w1c, 0x0⟩, ⟨2, 2, .w1c, 0x0⟩, ⟨1, 1, .w1c, 0x0⟩, ⟨0, 0, .rov, 0x0⟩]⟩,
  ⟨.WDG_FAULT, 0x40050024, 8, 0x100, 1, 0x0, false, [⟨31, 31, .w1c, 0x0⟩, ⟨30, 28, .rov, 0x0⟩, ⟨27, 26, .rov, 0x0⟩, ⟨25, 25, .rov, 0x0⟩, ⟨23, 20, .rov, 0x0⟩, ⟨19, 16, .rov, 0x0⟩, ⟨15, 12, .rov, 0x0⟩, ⟨7, 0, .rov, 0x0⟩]⟩,
  ⟨.WDG_FAULT_SIG, 0x40050028, 8, 0x100, 1, 0x0, false, [⟨31, 16, .rov, 0x0⟩, ⟨15, 0, .rov, 0x0⟩]⟩,
  ⟨.WDG_LEDGER, 0x40050040, 8, 0x100, 16, 0x4, false, [⟨31, 31, .rw, 0x0⟩, ⟨19, 16, .rw, 0x0⟩, ⟨15, 12, .rov, 0x0⟩, ⟨7, 0, .rw, 0x0⟩]⟩,
  ⟨.WDG_LADDER, 0x40050f00, 1, 0x0, 1, 0x0, false, [⟨23, 16, .rov, 0x0⟩, ⟨15, 8, .w1c, 0x0⟩, ⟨6, 4, .rw, 0x3⟩, ⟨2, 0, .rov, 0x0⟩]⟩]

/-- The rows of the peripheral block at 0x40100000. -/
def rows4010 : List RegD := [
  ⟨.SEC_LOCK, 0x40100000, 1, 0x0, 1, 0x0, false, [⟨2, 2, .w1s, 0x0⟩, ⟨1, 1, .w1s, 0x0⟩, ⟨0, 0, .w1s, 0x0⟩]⟩,
  ⟨.SEC_STAT, 0x40100004, 1, 0x0, 1, 0x0, false, [⟨31, 31, .rov, 0x0⟩, ⟨30, 30, .rov, 0x0⟩, ⟨29, 28, .rov, 0x0⟩, ⟨7, 4, .rov, 0x0⟩, ⟨3, 0, .rov, 0x0⟩]⟩,
  ⟨.SEC_MANIFEST, 0x40100008, 1, 0x0, 1, 0x0, false, [⟨11, 8, .rwl, 0x0⟩, ⟨2, 0, .rwl, 0x0⟩]⟩,
  ⟨.SEC_HOSTWIN, 0x4010000c, 1, 0x0, 1, 0x0, false, [⟨5, 5, .rw, 0x0⟩, ⟨4, 4, .rw, 0x0⟩, ⟨3, 3, .rw, 0x0⟩, ⟨2, 2, .rw, 0x0⟩, ⟨1, 1, .rw, 0x0⟩, ⟨0, 0, .rw, 0x0⟩]⟩,
  ⟨.SEC_RNG_DATA, 0x40100010, 1, 0x0, 1, 0x0, false, [⟨31, 0, .rov, 0x0⟩]⟩,
  ⟨.SEC_RNG_STAT, 0x40100014, 1, 0x0, 1, 0x0, false, [⟨31, 31, .rov, 0x0⟩, ⟨30, 30, .rov, 0x0⟩, ⟨29, 29, .w1c, 0x0⟩, ⟨2, 0, .rov, 0x0⟩]⟩,
  ⟨.SEC_ERR, 0x40100018, 1, 0x0, 1, 0x0, false, [⟨31, 31, .w1c, 0x0⟩, ⟨27, 24, .rov, 0x0⟩, ⟨8, 0, .rov, 0x0⟩]⟩,
  ⟨.SEC_DEVID_LO, 0x40100020, 1, 0x0, 1, 0x0, false, [⟨31, 0, .ro, 0x0⟩]⟩,
  ⟨.SEC_DEVID_HI, 0x40100024, 1, 0x0, 1, 0x0, false, [⟨31, 0, .ro, 0x0⟩]⟩,
  ⟨.SEC_PINLOCK, 0x40100100, 10, 0x4, 1, 0x0, false, [⟨31, 0, .w1s, 0x0⟩]⟩]

/-- The rows of the peripheral block at 0x400e0000. -/
def rows400e : List RegD := [
  ⟨.DBG_ID, 0x400e0000, 1, 0x0, 1, 0x0, false, [⟨31, 0, .ro, 0x12564a7b⟩]⟩,
  ⟨.DBG_LEVEL, 0x400e0004, 1, 0x0, 1, 0x0, false, [⟨8, 8, .rov, 0x0⟩, ⟨5, 4, .rov, 0x0⟩, ⟨1, 0, .rov, 0x0⟩]⟩,
  ⟨.DBG_CTL, 0x400e0008, 1, 0x0, 1, 0x0, false, [⟨31, 31, .wo, 0x0⟩, ⟨30, 30, .wo, 0x0⟩, ⟨3, 3, .rw, 0x0⟩, ⟨2, 2, .rw, 0x0⟩, ⟨1, 1, .rw, 0x0⟩]⟩,
  ⟨.DBG_ERR, 0x400e000c, 1, 0x0, 1, 0x0, false, [⟨31, 31, .w1c, 0x0⟩, ⟨27, 24, .rov, 0x0⟩, ⟨16, 16, .rov, 0x0⟩, ⟨15, 0, .rov, 0x0⟩]⟩,
  ⟨.DBG_CHAL, 0x400e0010, 1, 0x0, 1, 0x0, false, [⟨31, 0, .rw, 0x0⟩]⟩,
  ⟨.DBG_RESP, 0x400e0014, 1, 0x0, 1, 0x0, false, [⟨31, 0, .wo, 0x0⟩]⟩,
  ⟨.DBG_HALT, 0x400e0040, 9, 0x4, 1, 0x0, false, [⟨31, 0, .w1s, 0x0⟩]⟩,
  ⟨.DBG_RESUME, 0x400e0080, 9, 0x4, 1, 0x0, false, [⟨31, 0, .w1s, 0x0⟩]⟩,
  ⟨.DBG_HALTED, 0x400e00c0, 9, 0x4, 1, 0x0, false, [⟨31, 0, .rov, 0x0⟩]⟩,
  ⟨.DBG_FRZ_IOS, 0x400e0100, 4, 0x4, 1, 0x0, false, [⟨31, 0, .rw, 0x0⟩]⟩,
  ⟨.DBG_FRZ_ADC, 0x400e0110, 1, 0x0, 1, 0x0, false, [⟨31, 0, .rw, 0x0⟩]⟩,
  ⟨.DBG_FRZ_UNIT, 0x400e0114, 1, 0x0, 1, 0x0, false, [⟨15, 8, .rw, 0x0⟩, ⟨7, 4, .rw, 0x0⟩, ⟨3, 3, .rw, 0x0⟩, ⟨2, 2, .rw, 0x0⟩, ⟨1, 1, .rw, 0x0⟩, ⟨0, 0, .rw, 0x0⟩]⟩,
  ⟨.DBG_SEL, 0x400e0200, 1, 0x0, 1, 0x0, false, [⟨8, 0, .rw, 0x0⟩]⟩,
  ⟨.DBG_CSTAT, 0x400e0204, 1, 0x0, 1, 0x0, false, [⟨31, 29, .rov, 0x0⟩, ⟨28, 28, .wo, 0x0⟩, ⟨27, 27, .rov, 0x0⟩, ⟨26, 26, .rov, 0x0⟩, ⟨23, 20, .rov, 0x0⟩, ⟨19, 14, .w1c, 0x0⟩]⟩,
  ⟨.DBG_DPC, 0x400e0208, 1, 0x0, 1, 0x0, true, [⟨39, 2, .rw, 0x0⟩]⟩,
  ⟨.DBG_DNPC, 0x400e0210, 1, 0x0, 1, 0x0, true, [⟨39, 2, .rw, 0x0⟩]⟩,
  ⟨.DBG_REG_SEL, 0x400e0218, 1, 0x0, 1, 0x0, false, [⟨17, 16, .rw, 0x0⟩, ⟨9, 0, .rw, 0x0⟩]⟩,
  ⟨.DBG_REG_DATA, 0x400e0220, 1, 0x0, 1, 0x0, true, [⟨63, 0, .rw, 0x0⟩]⟩,
  ⟨.DBG_FEED, 0x400e0228, 1, 0x0, 1, 0x0, false, [⟨31, 0, .wo, 0x0⟩]⟩,
  ⟨.DBG_FEED_STAT, 0x400e022c, 1, 0x0, 1, 0x0, false, [⟨31, 31, .rov, 0x0⟩, ⟨30, 30, .w1c, 0x0⟩, ⟨29, 29, .w1c, 0x0⟩, ⟨7, 0, .rov, 0x0⟩]⟩,
  ⟨.DBG_AC_LO, 0x400e0240, 4, 0x20, 1, 0x0, true, [⟨39, 0, .rw, 0x0⟩]⟩,
  ⟨.DBG_AC_HI, 0x400e0248, 4, 0x20, 1, 0x0, true, [⟨39, 0, .rw, 0x0⟩]⟩,
  ⟨.DBG_AC_CTL, 0x400e0250, 4, 0x20, 1, 0x0, false, [⟨31, 31, .rw, 0x0⟩, ⟨30, 29, .rw, 0x0⟩, ⟨28, 27, .rw, 0x0⟩, ⟨26, 26, .rw, 0x0⟩, ⟨25, 25, .rw, 0x0⟩, ⟨24, 24, .rw, 0x0⟩, ⟨15, 0, .rw, 0x0⟩]⟩,
  ⟨.DBG_DW_VAL, 0x400e02c0, 2, 0x20, 1, 0x0, true, [⟨63, 0, .rw, 0x0⟩]⟩,
  ⟨.DBG_DW_MASK, 0x400e02c8, 2, 0x20, 1, 0x0, true, [⟨63, 0, .rw, 0x0⟩]⟩,
  ⟨.DBG_DW_CTL, 0x400e02d0, 2, 0x20, 1, 0x0, false, [⟨31, 31, .rw, 0x0⟩, ⟨30, 29, .rw, 0x0⟩, ⟨26, 26, .rw, 0x0⟩, ⟨15, 0, .rw, 0x0⟩]⟩,
  ⟨.DBG_MEM_ADDR, 0x400e0400, 1, 0x0, 1, 0x0, true, [⟨39, 2, .rw, 0x0⟩]⟩,
  ⟨.DBG_MEM_DATA, 0x400e0408, 1, 0x0, 1, 0x0, true, [⟨63, 0, .rw, 0x0⟩]⟩,
  ⟨.DBG_MEM_CTL, 0x400e0410, 1, 0x0, 1, 0x0, false, [⟨31, 31, .wo, 0x0⟩, ⟨30, 30, .rov, 0x0⟩, ⟨29, 29, .w1c, 0x0⟩, ⟨28, 28, .rw, 0x0⟩, ⟨27, 27, .rw, 0x0⟩, ⟨26, 26, .rw, 0x0⟩]⟩]

/-- The rows of the block that holds an address (R40); none outside the peripheral range. -/
def blockRows (a : Nat) : List RegD :=
  match a / 0x10000 with
  | 0x4011 => rows4011
  | 0x400d => rows400d
  | 0x4000 => rows4000
  | 0x4003 => rows4003
  | 0x4002 => rows4002
  | 0x400c => rows400c
  | 0x4007 => rows4007
  | 0x4012 => rows4012
  | 0x4008 => rows4008
  | 0x4009 => rows4009
  | 0x4004 => rows4004
  | 0x4006 => rows4006
  | 0x400a => rows400a
  | 0x400b => rows400a
  | 0x4001 => rows4001
  | 0x4013 => rows4013
  | 0x400f => rows400f
  | 0x4005 => rows4005
  | 0x4010 => rows4010
  | 0x400e => rows400e
  | _ => []

/-- The instance of a row that stands at an address, as its two indices. -/
def RegD.at (d : RegD) (a : Nat) : Option (Nat × Nat) :=
  if a < d.base then none
  else
    let off := a - d.base
    let i := if d.s1 = 0 then 0 else off / d.s1
    let r := if d.s1 = 0 then off else off % d.s1
    let j := if d.s2 = 0 then 0 else r / d.s2
    let r2 := if d.s2 = 0 then r else r % d.s2
    if r2 = 0 ∧ i < d.n1 ∧ j < d.n2 then some (i, j) else none

/-- The first row of a list that has an instance at an address. -/
def findRow (a : Nat) : List RegD → Option (RegD × Nat × Nat)
  | [] => none
  | d :: ds =>
    match d.at a with
    | some (i, j) => some (d, i, j)
    | none => findRow a ds

/-- The register at an address, with its indices; none where no register is defined (R42). -/
def regAt (a : Nat) : Option (RegD × Nat × Nat) := findRow a (blockRows a)

/-- The reset value of a list of fields. -/
def fieldsReset : List FieldD → Nat
  | [] => 0
  | f :: fs => f.reset * 2 ^ f.lo + fieldsReset fs

/-- What a register reads before anything has written it: its Reset column. PWR_VID_OPP0–3 reset to 15, 22, 30 and 40
(16_power_clocks.md). -/
def regReset (a : Nat) : BitVec 64 :=
  match regAt a with
  | some (d, i, _) =>
    if d.reg = .PWR_VID_OPP then BitVec.ofNat 64 (match i with | 0 => 15 | 1 => 22 | 2 => 30 | _ => 40)
    else BitVec.ofNat 64 (fieldsReset d.fields)
  | none => 0

end Sys2Proof.Machine
end

