-- ==== Sys2Proof/Machine/Tab.lean ====
section
/-! DEFINITION. Sparse tables: the one shape in which State holds memories, register files and arrays. A table lists
(key, value) pairs, keys strictly rising, no value equal to what an unlisted key reads as; so equal contents are equal
data. -/

namespace Sys2Proof.Machine

/-- A sparse table keyed by a natural number. -/
abbrev Tab (α : Type) := List (Nat × α)

/-- What a key reads as: its listed value, else the default for that key. -/
def Tab.read {α : Type} (d : Nat → α) : Tab α → Nat → α
  | [], k => d k
  | (k', v) :: t, k => if k = k' then v else Tab.read d t k

/-- Remove every entry of a key. -/
def Tab.drop {α : Type} : Tab α → Nat → Tab α
  | [], _ => []
  | (k', v') :: t, k => if k = k' then Tab.drop t k else (k', v') :: Tab.drop t k

/-- Insert a value at a key, in order, in place of any value there. -/
def Tab.put {α : Type} : Tab α → Nat → α → Tab α
  | [], k, v => [(k, v)]
  | (k', v') :: t, k, v =>
    if k < k' then (k, v) :: (k', v') :: t
    else if k = k' then (k, v) :: t
    else (k', v') :: Tab.put t k v

/-- Write a key; writing what an unlisted key reads as removes the entry. -/
def Tab.write {α : Type} [DecidableEq α] (d : Nat → α) (t : Tab α) (k : Nat) (v : α) : Tab α :=
  if v = d k then t.drop k else t.put k v

/-- Every key of the table is above a bound, the keys rise strictly, and no entry equals its default. -/
def Tab.wfFrom {α : Type} [DecidableEq α] (d : Nat → α) : Nat → Tab α → Bool
  | _, [] => true
  | b, (k, v) :: t => decide (b ≤ k) && decide (v ≠ d k) && Tab.wfFrom d (k + 1) t

/-- The canonical form of a table. -/
def Tab.wf {α : Type} [DecidableEq α] (d : Nat → α) (t : Tab α) : Bool := Tab.wfFrom d 0 t

end Sys2Proof.Machine
end

