-- ==== Sys2Proof/Machine/State.lean ====
section
/-! DEFINITION. The state of the BV-2564 as plain data: the register file of the map, memories, cores, and the state of
each block that no register shows. -/

namespace Sys2Proof.Machine

/-- Why a step stops with a fault. -/
inductive Fault where
  /-- Raised by nothing in this model: every stop the spec describes is a next state. Safe. -/
  | unused
  deriving DecidableEq, Repr

/-- Why a command has no meaning here. -/
inductive Refusal where
  /-- Raised by an arm of `exec` whose command has no meaning yet. Safe. -/
  | notModelled (mnemonic : String)
  deriving DecidableEq, Repr

/-- Where a core stands (R45, R59, R97, R135, R219, R490). -/
inductive RunState where
  | reset    -- held in reset, or never started: among these are parked tiles
  | active   -- executing
  | waypt    -- WAYPT committed; waiting for the scan start
  | stopped  -- a tile stopped by its partition
  deriving DecidableEq, Repr

/-- An entry of the store buffer (R89): address, size, data, whether the store was privileged, and whether it goes to the data
cache. -/
structure SbEntry where
  addr : Nat
  size : Nat
  data : Word
  priv : Bool
  cached : Bool
  deriving DecidableEq, Repr

/-- A line of a service core's data cache: the line's number (address / 64), dirty bit and 64 bytes (R160). -/
structure DLine where
  line : Nat
  dirty : Bool
  data : BitVec 512
  deriving DecidableEq, Repr

/-- A core: tile or service core (R71). System registers are keyed by their number (R143), and the debug registers of
R526's per-core copies by their DBG offset. -/
structure Core where
  run : RunState
  pc : Addr
  npc : Addr
  slot : Bool
  slotPc : Option Addr   -- the TRAP_PC that a trap in an executed slot left (R141)
  wait : Nat             -- the event of R102 that the cycles of the wait at hand count; 0 none
  g : Tab Word
  f : Tab Word
  sr : Tab Word
  sb : List SbEntry
  save : Tab Word
  itag : Tab (Option Nat)
  iway : Tab Nat
  dline : Tab (Option DLine)
  dway : Tab Nat
  halted : Bool
  haltReq : Nat
  stepping : Bool
  dbg : Tab Word
  deriving DecidableEq, Repr

/-- A flit in the mesh: its lane number, the word of a data flit (0 of a toll), and the error each check code shows:
0 none, 1 a correctable one, 2 an uncorrectable one (R175, R198). -/
structure Flit where
  lane : Nat
  data : Word
  hdrErr : Nat
  dataErr : Nat
  deriving DecidableEq, Repr

/-- The lane network (06_lanes_tolls.md). The books are registers; here stand the ports' own counts, the rings and
what is in flight. Lanes are keyed by lane number, input ports by 16 × core + port, ring words by 512 × core + word,
junction buffers by (junction × 9 + input) × 2 + network. -/
structure Mesh where
  tolls : Tab Nat
  rp : Tab Nat
  occ : Tab Nat
  store : Tab Word
  launch : Tab (Option Flit)
  launchLast : Tab Nat
  retq : Tab (List Flit)
  jbuf : Tab (List Flit)
  jlast : Tab Nat
  disable : Tab Bool
  poison : Tab Bool          -- ring words whose error a junction or port has reported (R198)
  auditHost : Bool
  auditPart : Nat            -- the partition of the audit in progress (R186)
  clearPart : Nat            -- the partition of the lane clear in progress (R192)
  readySet : List Nat        -- partitions in READY whose lanes wait for their nets to empty before they are set (R192)
  startHeld : Tab Nat        -- a start that waits for an audit: 1, or 2 + the tick that a convoy's leader named (R186)
  deriving DecidableEq, Repr

/-- What a partition holds besides its registers (07_waypoints_partitions.md). -/
structure Part where
  vis : Bool              -- which of the two snapshot buffers the tiles see (R30)
  fill : Tab Nat          -- words filled of each buffer (R204)
  scanPending : Bool      -- a scan has started and is not yet released
  live : Bool             -- its tiles have started; false while an audit, a changeover or agreement holds them
  scan : Nat              -- its number
  guardLate : Option Bool -- the result of the guard test of the next waypoint (R212)
  lastStart : Option Nat  -- WNUM at the last scan start since READY (R207, PERIODS)
  mapB : Bool             -- which physical copy of the maps is active (R228)
  coPhase : Nat           -- 0 no changeover running, 1 waiting for tolls, 2 switched (R228)
  coHost : Bool           -- the pending changeover is the host command's (R229)
  coScan : Bool           -- a scan starts when the changeover ends
  coGap : Bool            -- a changeover waypoint has passed and no scan has started since (R185)
  held : Bool             -- released and held; W(m) takes place at GO_RUN (R221)
  goRun : Bool            -- GO_RUN has registered; W(m) is the next tick's
  started : Bool          -- W(0) has passed since READY
  frzReported : Bool      -- WPT_FREEZE reported for the freeze in force (R541)
  timerAt : Option Nat    -- the tick in which the timer's first instant became scheduled (R200, R277)
  heldInst : List Nat     -- the scheduled instants a freeze holds back: the last two (R541)
  deriving DecidableEq, Repr

/-- The WPT block's storage: partitions, maps keyed by ((copy × 2 + release) × 4 + p) × 4096 + i, snapshot buffers by
(2p + buffer) × 4096 + i, release storage and released words by 4096p + i; a GO_HOLD that waits for the partitions to
hold; and the running staging copy: its tile and source address, the words it has read, and whether one of them was
uncorrectable (R225). -/
structure Wpt where
  part : Tab Part
  maps : Tab (BitVec 32)
  snap : Tab Word
  rel : Tab Word
  relOut : Tab Word
  holdReq : Bool
  stage : Nat × Nat
  stagePos : Nat
  stageBad : Bool
  deriving DecidableEq, Repr

/-- The host window and the host port's own state (15_host_port.md): the holding register and upper holding word
(R417, R419), a held low half of a 64-bit write, and what one access leaves for the next. -/
structure HostPort where
  hold : BitVec 32
  upper : Option (Nat × BitVec 32)
  low : Option (Nat × BitVec 32)
  reading : Option Nat        -- the address of a window read in progress
  writing : Option (Nat × Word × Nat)  -- a window write in progress: address, data, size
  isOpen : Bool               -- an access is in progress: the host holds HCS_N or HSS_N low (R402, R405)
  reads : Bool                -- it is a parallel read (R402)
  frameAborted : Bool         -- the next reply carries FRAME_ABORTED (R408)
  winFailed : Bool            -- the next reply carries ACCESS_ERR (R418)
  chipReset : Bool            -- CHIP_RESET waits for the host to end its access (R423)
  sleep : Option Nat          -- a SLEEP to this state waits for the host to end its access (R439)
  lastStatus : BitVec 4       -- the status code of the last reply (R410)
  lastState : BitVec 4        -- the device state in the last reply's status byte (R406)
  lastData : BitVec 32        -- its data
  deriving DecidableEq, Repr

/-- A frame of the Wiath link as a port holds it (R240–R243): TYPE, PART, SRC, SEQ, ACK, WNUM, INDEX, FLAGS and the payload words;
for a MERGE frame, what its words are; the tick at which it was queued, the tick at which it last went out, how often it was resent,
and whether it was acknowledged. -/
structure LinkFrame where
  ty : Nat
  part : Nat
  src : Nat
  seq : Nat
  ack : Nat
  wnum : Nat
  index : Nat
  flags : Nat
  words : List Word
  place : Option MergePlace
  queued : Nat
  sentAt : Nat
  tries : Nat
  acked : Bool
  deriving DecidableEq, Repr

/-- A Wiath port (R234, R235, R241–R244): the last 16 frames sent, the frames that wait in the order in which they go out, the tick
until which a frame occupies the transmitter, the words of the training frames last sent, the next sequence numbers, the peer's
formation digest, and the tick at which the wake pattern ends. -/
structure Link where
  window : List LinkFrame
  queue : List LinkFrame
  busy : Nat
  training : List Word
  txSeq : Nat
  rxSeq : Nat
  digest : BitVec 256
  waking : Nat
  deriving DecidableEq, Repr

/-- An exchange of a partition (R248–R250): its waypoint, its voters (bit k = Mk), the words by 4096 × member + index, the
frames received by 128 × member + index, each member's verdict (1 LATE, 2 FAULT), its OUT flags, receipts by member, and how
far it has come. -/
structure Xchg where
  isOpen : Bool
  wnum : Nat
  voters : Nat
  words : Tab Word
  got : Tab Bool
  verdict : Tab Nat
  flags : Tab Nat
  rcpt : Tab (Option Nat)
  digest : Tab (BitVec 32)
  rcptSent : Bool
  closed : Bool
  decided : Bool
  deriving DecidableEq, Repr

/-- A partition's convoy state: its input exchange, its output exchange, the outcome of the last output decision (0 none,
1 a voted vector, 2 late, 3 nothing to release), the voted vector by release word, the members whose shoulder takes effect
at the next release with their causes, whether this member has sent its vector, whether the last output decision saw a HOLD or
a MERGE_AT flag, whether its pins float until it next releases as a voter (R263, R266), and whether the input decision let the
pending changeover stand (R267). -/
structure CvyPart where
  inp : Xchg
  out : Xchg
  outcome : Nat
  voted : Tab Word
  leaving : List (Nat × Nat)
  sent : Bool
  hold : Bool
  merge : Bool
  float : Bool
  coOk : Bool
  deriving DecidableEq, Repr

/-- The CVY block beyond its registers (08_convoy.md): links, partitions, agreement maps by 4096p + i, the members whose
SHOULDER frame has come, a formation in progress, the time exchange's run of good measurements, and a merge: the partition
being merged, the waypoint it began at, the granules sent and not changed since (by address / 256), whether the host asked,
and the waypoint at which each partition merges; the frames of exchanges that have not begun here (R241), and the member that holds the
standby place (R263). -/
structure Cvy where
  link : Tab Link
  part : Tab CvyPart
  amap : Tab (BitVec 32)
  gone : List (Nat × Nat)
  aligned : Bool
  lockRun : Nat
  timeDue : Bool
  measured : Bool
  mergePart : Option Nat
  mergeFrom : Nat
  clean : Tab Bool
  mergeHost : Bool
  mergeAt : Tab (Option Nat)
  joinWnum : Tab Word
  early : List LinkFrame
  standby : Option Nat
  deriving DecidableEq, Repr

/-- What an I/O sequencer holds besides its registers (10_io_sequencers.md): its FIFOs, the levels it drives, the watch
slot's previous sample, the first tick at which it may step, and the tick of its last step. -/
structure Engine where
  tx : List (BitVec 32)
  rx : List (BitVec 32)
  ctrl : BitVec 4
  outv : BitVec 8
  drive : Bool
  prev : Option Bool
  startAt : Option Nat
  lastStep : Option Nat
  deriving DecidableEq, Repr

/-- The flags of one cycle (R315): the cycle (TIME + 1), the flags at its start, and those set in it. -/
structure FlagCycle where
  cycle : Nat
  start : BitVec 128
  sets : BitVec 128
  deriving DecidableEq, Repr

/-- The pads' outside world and the pin block's hidden state (11_pins.md): what the outside does to each pad (0 nothing, 1
and 2 low and high through a resistor, 3 and 4 low and high by a driver), each event line's previous sample, the levels that
the pads changed in a tick had before it with that tick + 1 (R205, R306), each pad's last switch instant (the tick + 1, and the
level its readers keep meanwhile, R337), the straps' levels and the WP_N ball. -/
structure Pads where
  ext : Tab Nat
  evPrev : Tab Bool
  was : Tab (Option Bool)
  wasAt : Nat
  sw : Tab (Option (Nat × Bool))
  hmode : Bool
  mid : BitVec 2
  wpN : Bool
  fiveWire : Bool
  deriving DecidableEq, Repr

/-- An erase in progress (R367, R371): its sector, its phase (0 waits for its BEGUN entry, 1 runs, 2 suspending,
3 suspended, 4 waits for its entry's zeroing), the address of its entry, TIME at its start or last resume, a suspend
request held by MINRUN (0 none, 1 command, 2 automatic), whether the present suspend is automatic, whether the sector was
pending before, and whether COMMIT_USER started it (R295). -/
structure Erase where
  sector : Nat
  phase : Nat
  entry : Nat
  since : Nat
  held : Nat
  auto : Bool
  wasPending : Bool
  cal : Bool
  deriving DecidableEq, Repr

/-- A program in progress: its first word's address and the words' new contents (R363). -/
structure Prog where
  addr : Nat
  data : List (BitVec 128)
  deriving DecidableEq, Repr

/-- A bank engine. -/
structure FlashEng where
  erase : Option Erase
  prog : Option Prog
  deriving DecidableEq, Repr

/-- The flash controller and its cells beyond the data bytes (13_flash.md): check bits and read margins by word number
(address / 16), the program buffer, the pending list, the sectors whose contents are indeterminate, and the log page that
a log move fills. A margin m of 1–6 is a word that only the m-th retry of R359 reads, 7 one that no retry reads. -/
structure Flash where
  eng : Tab FlashEng
  check : Tab (BitVec 9)
  margin : Tab Nat
  buf : Tab (BitVec 32)
  pend : List (Nat × Nat)
  indet : List (Nat × Nat)
  move : Option Nat
  deriving DecidableEq, Repr

/-- A request to an octal memory port (R391, R392): the initiator's code of XSP_ERR.INIT and its number, the 40-bit
address, the length, the bytes of a write, the chip select, whether an answer is awaited, and a manual frame's format word
and polling. -/
structure XReq where
  init : Nat
  who : Nat
  addr : Nat
  len : Nat
  data : List Byte
  write : Bool
  cs : Nat
  reply : Bool
  fmt : BitVec 32
  poll : Bool
  deriving DecidableEq, Repr

/-- A frame (R382): its chip select, format word, address phase value, the bytes sent and the bytes to receive. -/
structure XFrame where
  cs : Nat
  fmt : BitVec 32
  addr : Nat
  out : List Byte
  inLen : Nat
  deriving DecidableEq, Repr

/-- A port: waiting requests in order, the one being served, the frame on the bus, the last frame that began, what is left
of a translated write (its pieces and the step of R393: 1 WREN, 2 WR, 3 polling), the answers not yet taken, and the chip
selects whose disable waits (R397). -/
structure Xport where
  queue : List XReq
  req : Option XReq
  frame : Option XFrame
  last : Option XFrame
  pieces : List (Nat × List Byte)
  step : Nat
  answers : List (XReq × Option (List Byte))
  csOff : List Nat
  deriving DecidableEq, Repr

/-- A power handshake in progress (R440): the state asked for, the blocks that have answered ACK, those that have answered
DELAY, and whether the host asked. -/
structure Handshake where
  target : Nat
  acked : List Nat
  delayed : List Nat
  host : Bool
  deriving DecidableEq, Repr

/-- The power controller beyond its registers (16_power_clocks.md): the handshake, the device state before SLEEP, the sleep
state (0 none, 1 DOZE, 2 NAP, 3 HIBERNATE), a wake whose ramp runs, NVM not yet ready, PWR_AON_CNT at the commit, the
retention registers by address, and the retained TIME. -/
structure Pwr where
  hs : Option Handshake
  before : Nat
  mode : Nat
  waking : Bool
  nvmOff : Bool
  aonAt : BitVec 32
  keep : Tab Word
  keepTime : BitVec 64
  deriving DecidableEq, Repr

/-- The layby engine beyond its registers (17_layby.md): the buffer's two halves by 32768 × half + word, the words marked
poisoned, the completed half of each tile (256: the service-core area), the halves (2 × tile + half) that hold a poisoned
word beyond the marks, the waypoint of each partition's completed half (4: the service-core copy), the service-core copy in
progress, a reported run of unarmed waypoints, the newest slot, the next SEQ, the slot being prepared, the
partitions and service-core area of a restore in progress, the slot a save is writing, and a reset that LAYBY holds off. -/
structure Lay where
  buf : Tab Word
  poison : Tab Bool
  top : Tab Nat
  overMarks : List Nat
  wnum : Tab Nat
  scBusy : Bool
  scWnum : Nat
  unarmedRun : Bool
  newest : Option Nat
  seq : Nat
  prepSlot : Option Nat
  restore : Option (Nat × Bool)
  save : Option Nat
  heldReset : Option Nat
  deriving DecidableEq, Repr

/-- A watchdog instance beyond its registers (18_watchdogs.md): the signature (R476), whether no milestone has
been checked in since the start, the last accepted service or the last fault, the services not yet judged (R473), and the counts
before the last two steps (R474). -/
structure Wdog where
  sig : BitVec 16
  fresh : Bool
  tokens : List (BitVec 16)
  recent : List Nat
  deriving DecidableEq, Repr

/-- What the boot and the security block hold beyond their registers (19_reset_boot_security.md): the digest of the verified
image, its bytes, which a donor sends (R265), and the tiles that it assigns (R149); a reset not yet released, by its HW_RESET_CAUSE
bit, and whether LAYBY held it; the arrays still being zeroed (0–3 the tile SRAM and receive stores of a quadrant, 4 + b depot bank
b, R150); the flash and layby scans ended (R490); a verified image that waits for GO_RUN (R500); the random words queued (R504); an
escalation that LAYBY held, 2 or 3 (R482, R483); the watchdog instances whose stage-2 fault the cycle of a reset can also
hold (R484), and whether a reset has registered since the last tick, so that a preferred cause still takes its place (R489). -/
structure Boot where
  digest : BitVec 256
  image : List Byte
  tiles : Tab Bool
  inReset : Option Nat
  held : Bool
  zeroing : List Nat
  scanned : Bool
  verified : Bool
  rng : List (BitVec 32)
  stage : Nat
  wdgDue : List Nat
  newReset : Bool
  deriving DecidableEq, Repr

/-- A conversion in progress (R272, R293): its start tick, sequence entry, the converter values and input trims it uses,
whether the spare's result counts, whether both converters work (an overlap), and the hand-over offset. -/
structure Conv where
  start : Nat
  entry : Nat
  slice : List (BitVec 32)
  spare : List (BitVec 32)
  trims : BitVec 32 × BitVec 32
  onSpare : Bool
  both : Bool
  ho : BitVec 32
  deriving DecidableEq, Repr

/-- A result between its end and its visible cycle (R282). -/
structure AdcResult where
  input : Nat
  value : BitVec 32
  clip : Bool
  spare : Bool
  deriving DecidableEq, Repr

/-- A slice (09_analog_conversion.md): the conversion, the sequence position, what is left of a burst and when it goes on,
the accumulators by entry, results not yet visible, the ring writer's entries, and the base and size of their ring (R286). -/
structure Slice where
  conv : Option Conv
  pos : Nat
  burst : Nat
  nextStart : Nat
  offPending : Bool
  accSum : Tab Int
  accN : Tab Nat
  accClip : Tab Bool
  results : List AdcResult
  ringq : List (BitVec 32)
  ringBase : Nat
  ringSize : Nat
  deriving DecidableEq, Repr

/-- A converter group's rotation: the overlap's sum of differences and count, and the hand-over offset (R288, R289). -/
structure CalGroup where
  cmpSum : Int
  cmpN : Nat
  ho : BitVec 32
  deriving DecidableEq, Repr

/-- The converters: slices, groups, generators with a trigger that waits for its tick (tick + 1, 0 for none) and the tick of
their last trigger (tick + 1), the loaded layer, live records and a commit's fold by 40 × converter + word, and
the page of the user rows that a commit erases next or now (R295: 4 to 7; 8 with all erased; 0 for none). -/
structure Adc where
  slices : Tab Slice
  groups : Tab CalGroup
  trgPend : Tab Nat
  trgLast : Tab Nat
  layer : Tab (BitVec 32)
  live : Tab (BitVec 32)
  fold : Tab (BitVec 32)
  refTrim : BitVec 16
  calHost : Bool
  calHold : Bool
  commit : Nat
  deriving DecidableEq, Repr

/-- The DMA block's own state (R26): triggers not yet served, the last channel chosen, each channel's unit in progress (none;
reading; or writing the data read), and the channels that stop when their unit completes. -/
structure Dma where
  trig : Tab Bool
  last : Nat
  unit : Tab (Option (Option Word))
  stopping : Tab Bool
  deriving DecidableEq, Repr

/-- The unlock engine (R512, R513): the challenge outstanding, the path it belongs to (true: the host's), the level asked for,
the words read and the response words given, a check in progress, and TIME at the last failed response. -/
structure Unlock where
  chal : Option (BitVec 256)
  host : Bool
  level : Nat
  read : Nat
  resp : List (BitVec 32)
  checking : Bool
  failed : Option Nat
  deriving DecidableEq, Repr

/-- The debug port (20_debug.md): the TAP's instruction register, the boundary-scan cells (outputs, enables, sampled inputs),
the boundary scan in force (0 none, 1 EXTEST, 2 HIGHZ), the status and data of the previous access, a debug memory access in
progress (address, and the data of a write), the unlock engine, a fed instruction in execution with the trap condition it met
(R519), an access that the memory access holds off (write, offset, data), and a fed word that waits, with its core. -/
structure Dbg where
  ir : BitVec 5
  bsOut : BitVec 320
  bsEn : BitVec 320
  bsIn : BitVec 324
  scan : Nat
  status : BitVec 2
  data : BitVec 32
  mem : Option (Nat × Option Word)
  unlock : Unlock
  feed : Option (Option Nat)
  held : Option (Bool × Nat × BitVec 32)
  word : Option (Nat × BitVec 32)
  deriving DecidableEq, Repr

/-- The machine. -/
structure State where
  regs : Tab Word              -- the register file of the map; unlisted: the Reset column
  rwl : Tab Bool               -- RWL fields already written, by address × 64 + low bit (R13)
  mem : List Host.Cell         -- flash, depot, tile SRAM, info rows, boot ROM
  ecc : Tab (BitVec 2)         -- per array and word: 0 good, 1 correctable, 2 uncorrectable (R168)
  cores : Tab Core
  time : BitVec 64             -- TIME (R100)
  mesh : Mesh
  wpt : Wpt
  host : HostPort
  latchTime : Tab Nat          -- CYCLES at the delivery commit of each service core's latch (R350)
  withdrawn : Tab Bool         -- the latch of a service core was dropped since its entry (R353)
  service : Tab Nat            -- 1 + the service core that has a source in service, by ID (R352)
  rdata : Word                 -- the data that the last register or memory read returned to its initiator
  cvy : Cvy
  eng : Tab Engine
  flagCyc : FlagCycle
  pads : Pads
  flash : Flash
  xsp : Tab Xport
  pwr : Pwr
  lay : Lay
  wdg : Tab Wdog
  boot : Boot
  adc : Adc
  dma : Dma
  dbgp : Dbg
  evlog : List (BitVec 32)     -- the event log (R416)
  mbxIn : List (BitVec 32)     -- the inbound mailbox (R415)
  mbxOut : List (BitVec 32)
  free : Nat                   -- the model's own counter of free values
  pending : List Instr         -- the commands that wait, first in first out
  deriving DecidableEq, Repr

/-- What a byte of the map reads before anything has written it: flash and info rows are erased (DESIGN CHOICE, log 3)
but for the device unique ID (R493), the boot ROM holds what the device fixes, tile SRAM and the depot are zero (R150). -/
def memReset (a : Nat) : Byte :=
  if a < 0x2000000 then 0xFF
  else if 0x8004820 ≤ a ∧ a < 0x8004830 then
    (if a < 0x8004828 then (Config.deviceId >>> (8 * (a - 0x8004820))).setWidth 8 else 0)
  else if 0x8000000 ≤ a ∧ a < 0x8008000 then 0xFF
  else if 0xF0000000 ≤ a ∧ a < 0xF0040000 then Config.bootRomByte (a - 0xF0000000)
  else 0

/-- The reset value of system register n of core k (R143): service cores leave reset privileged (R136). -/
def srReset (k n : Nat) : Word :=
  if n = 0 then (if 256 ≤ k then 2 else 0)
  else if n = 7 then 0xF0000000
  else if n = 0xB then BitVec.ofNat 64 k
  else 0

/-- The reset value of a per-core debug register, by its DBG offset (R526). -/
def dbgReset (_ : Nat) : Word := 0

/-- Core k at reset: no core runs (R45, R490). -/
def coreReset (_ : Nat) : Core where
  run := .reset
  pc := 0
  npc := 4
  slot := false
  slotPc := none
  wait := 0
  g := []
  f := []
  sr := []
  sb := []
  save := []
  itag := []
  iway := []
  dline := []
  dway := []
  halted := false
  haltReq := 0
  stepping := false
  dbg := []

/-- A partition at reset. -/
def partReset (_ : Nat) : Part where
  vis := false
  fill := []
  scanPending := false
  live := false
  scan := 0
  guardLate := none
  lastStart := none
  mapB := false
  coPhase := 0
  coHost := false
  coScan := false
  coGap := false
  held := false
  goRun := false
  started := false
  frzReported := false
  timerAt := none
  heldInst := []

/-- The pins that fixed functions claim after a release with HMODE low and an erased device configuration word (R333, R334):
the host port's 46 pins and the debug port's five. -/
def pinsReset : Tab Word :=
  (List.range 46).map (fun i => (A.PIN_CFG (256 + i), BitVec.ofNat 64 (5 * 2 ^ 24))) ++
  (List.range 5).map (fun i => (A.PIN_CFG (315 + i), BitVec.ofNat 64 (6 * 2 ^ 24)))

/-- The machine right after the release of a power-on reset with every strap low: every register at its Reset column, the
zeroing, the scans and the coefficient load in progress, no command waiting. -/
def State.reset : State where
  regs := pinsReset ++ [(A.HW_RESET_CAUSE, 1)]
  rwl := []
  mem := []
  ecc := []
  cores := []
  time := 0
  mesh := { tolls := [], rp := [], occ := [], store := [], launch := [], launchLast := [], retq := [], jbuf := [],
            jlast := [], disable := [], poison := [], auditHost := false, auditPart := 0,
            clearPart := 0, readySet := [], startHeld := [] }
  wpt := { part := [], maps := [], snap := [], rel := [], relOut := [], holdReq := false,
           stage := (0, 0), stagePos := 0, stageBad := false }
  host := { hold := 0, upper := none, low := none, reading := none, writing := none, isOpen := false, reads := false, frameAborted := false, winFailed := false,
            chipReset := false, sleep := none, lastStatus := 0, lastState := 0, lastData := 0 }
  latchTime := []
  withdrawn := []
  service := []
  rdata := 0
  cvy := { link := [], part := [], amap := [], gone := [], aligned := false, lockRun := 0, timeDue := false,
           measured := false, mergePart := none, mergeFrom := 0, clean := [], mergeHost := false, mergeAt := [],
           joinWnum := [], early := [], standby := none }
  eng := []
  flagCyc := { cycle := 0, start := 0, sets := 0 }
  pads := { ext := [], evPrev := [], was := [], wasAt := 0, sw := [], hmode := false, mid := 0, wpN := false, fiveWire := true }
  flash := { eng := [], check := [], margin := [], buf := [], pend := [], indet := [], move := none }
  xsp := []
  pwr := { hs := none, before := 0, mode := 0, waking := false, nvmOff := false, aonAt := 0, keep := [], keepTime := 0 }
  lay := { buf := [], poison := [], top := [], overMarks := [], wnum := [], scBusy := false, scWnum := 0, unarmedRun := false,
           newest := none, seq := 1, prepSlot := none, restore := none, save := none, heldReset := none }
  wdg := []
  boot := { digest := 0, image := [], tiles := [], inReset := none, held := false, zeroing := List.range 20, scanned := false, verified := false,
            rng := [], stage := 0, wdgDue := [], newReset := false }
  adc := { slices := [], groups := [], trgPend := [], trgLast := [], layer := [], live := [], fold := [], refTrim := 0,
           calHost := false, calHold := false, commit := 0 }
  dma := { trig := [], last := 15, unit := [], stopping := [] }
  dbgp := { ir := 1, bsOut := 0, bsEn := 0, bsIn := 0, scan := 0, status := 0, data := 0, mem := none,
            unlock := { chal := none, host := false, level := 0, read := 0, resp := [], checking := false, failed := none },
            feed := none, held := none, word := none }
  evlog := []
  mbxIn := []
  mbxOut := []
  free := 0
  pending := []

end Sys2Proof.Machine
end

