-- ==== Sys2Proof/Machine/Ops.lean ====
section
/-! DEFINITION. The named operations over registers, memories, cores and the shared records: the register primitives of
R13, the event log (R416), attentions (R410), interrupt pulses (R345), voiding reports (R65–R68) and the byte-order
helpers of R10. -/

namespace Sys2Proof.Machine

/-! ## Registers -/

/-- The stored value of the register at an address. -/
def State.reg (s : State) (a : Nat) : Word := s.regs.read regReset a

def State.setReg (s : State) (a : Nat) (v : Word) : State := { s with regs := s.regs.write regReset a v }

/-- Bits hi..lo of a word. -/
def bitsOf (v : Word) (hi lo : Nat) : Nat := v.toNat / 2 ^ lo % 2 ^ (hi + 1 - lo)

/-- A word with bits hi..lo replaced. -/
def withBits (v : Word) (hi lo : Nat) (x : Nat) : Word :=
  BitVec.ofNat 64 (v.toNat - bitsOf v hi lo * 2 ^ lo + x % 2 ^ (hi + 1 - lo) * 2 ^ lo)

/-- A field's stored value. -/
def State.get (s : State) (l : Loc) : Nat := bitsOf (s.reg l.addr) l.hi l.lo

def State.put (s : State) (l : Loc) (x : Nat) : State := s.setReg l.addr (withBits (s.reg l.addr) l.hi l.lo x)

/-- A one-bit field as a truth value. -/
def State.flag (s : State) (l : Loc) : Bool := s.get l == 1

def State.putFlag (s : State) (l : Loc) (b : Bool) : State := s.put l (if b then 1 else 0)

/-- Bit i of a field. -/
def State.bitAt (s : State) (l : Loc) (i : Nat) : Bool := s.get l / 2 ^ i % 2 == 1

def State.putBit (s : State) (l : Loc) (i : Nat) (b : Bool) : State :=
  s.put { l with hi := l.lo + i, lo := l.lo + i } (if b then 1 else 0)

/-- Add to a counter field that saturates at its greatest value. -/
def State.addSat (s : State) (l : Loc) (n : Nat) : State := s.put l (min (s.get l + n) (2 ^ (l.hi + 1 - l.lo) - 1))

/-- Write one field of a register under its access code (R13, R15). RW sets, W1C clears where 1, W1S sets where 1, RWL
sets once; RO, RO/V and RC ignore, and WO stores nothing. -/
def writeField (s : State) (a : Nat) (v : Word) (f : FieldD) : State :=
  let l : Loc := ⟨a, f.hi, f.lo⟩
  let x := bitsOf v f.hi f.lo
  match f.acc with
  | .rw => s.put l x
  | .w1c => s.put l (s.get l &&& (s.get l ^^^ x))
  | .w1s => s.put l (s.get l ||| x)
  | .rwl =>
    let key := a * 64 + f.lo
    if s.rwl.read (fun _ => false) key then s
    else { s.put l x with rwl := s.rwl.write (fun _ => false) key true }
  | _ => s

def writeFields (s : State) (a : Nat) (v : Word) : List FieldD → State
  | [] => s
  | f :: fs => writeFields (writeField s a v f) a v fs

/-- The write of a register by its access codes alone. -/
def genericWrite (s : State) (a : Nat) (v : Word) : State :=
  match regAt a with
  | some (d, _, _) => writeFields s a v d.fields
  | none => s

/-- Clear the read-clear fields of a register after a read (R13). -/
def clearRc (s : State) (a : Nat) : List FieldD → State
  | [] => s
  | f :: fs => clearRc (if f.acc = .rc then s.put ⟨a, f.hi, f.lo⟩ 0 else s) a fs

/-- The data of a read goes to its initiator. -/
def readOut {w : Nat} (r : BitVec w × State) : State := { r.2 with rdata := r.1.setWidth 64 }

/-- Return every register whose address satisfies p to its Reset column. -/
def State.resetRegs (s : State) (p : Nat → Bool) : State := { s with regs := s.regs.filter (fun e => !p e.1) }

/-! ## Free values -/

/-- Draw a free value: nothing constrains it (log 1). -/
def State.draw (s : State) (w : Nat) : BitVec w × State := (Config.freeValue s.free w, { s with free := s.free + 1 })

/-! ## Memory bytes (R10) -/

def State.byte (s : State) (a : Nat) : Byte := Tab.read memReset s.mem a

/-- Write a byte of a memory. A granule of a merge that was sent is dirty again once a byte of it is written (R265). -/
def State.setByte (s : State) (a : Nat) (b : Byte) : State :=
  { s with mem := Tab.write memReset s.mem a b, cvy := { s.cvy with clean := s.cvy.clean.drop (a / 256) } }

/-- Every byte of n from an address returns to what an unlisted byte reads. -/
def State.eraseBytes (s : State) (a n : Nat) : State :=
  { s with mem := s.mem.filter (fun e => !(decide (a ≤ e.1 ∧ e.1 < a + n))),
           cvy := { s.cvy with clean := s.cvy.clean.filter (fun e => !(decide (a / 256 ≤ e.1 ∧ e.1 < (a + n + 255) / 256))) } }

/-- Copy n bytes from one address to another whose unlisted bytes read alike: zero. -/
def State.copyBytes (s : State) (src dst n : Nat) : State :=
  (s.mem.filter (fun e => decide (src ≤ e.1 ∧ e.1 < src + n))).foldl
    (fun t e => t.setByte (dst + (e.1 - src)) e.2) (s.eraseBytes dst n)

/-- n bytes from an address, little-endian, as a number. -/
def State.bytes (s : State) (a : Nat) : Nat → Nat
  | 0 => 0
  | n + 1 => (s.byte a).toNat + 256 * s.bytes (a + 1) n

/-- Write n bytes of a number at an address, little-endian. -/
def State.setBytes (s : State) (a : Nat) : Nat → Nat → State
  | 0, _ => s
  | n + 1, v => (s.setByte a (BitVec.ofNat 8 v)).setBytes (a + 1) n (v / 256)

/-! ## Error marks of arrays (R168): key = array × 2^40 + word -/

def eccKey (arr word : Nat) : Nat := arr * 2 ^ 40 + word
def State.eccOf (s : State) (arr word : Nat) : Nat := (s.ecc.read (fun _ => 0) (eccKey arr word)).toNat
def State.setEcc (s : State) (arr word : Nat) (m : Nat) : State :=
  { s with ecc := s.ecc.write (fun _ => 0) (eccKey arr word) (BitVec.ofNat 2 m) }

/-- The array codes of SYS_MEM_ERR.MEM (R168). -/
def memTile : Nat := 0
def memStore : Nat := 1
def memSnap : Nat := 2
def memRel : Nat := 3
def memDepot : Nat := 4
def memICache : Nat := 5
def memDCache : Nat := 6
def memSave : Nat := 7

/-- The marks of n words of an array are dropped: fresh check bits. -/
def State.clearEcc (s : State) (arr word n : Nat) : State :=
  { s with ecc := s.ecc.filter (fun e => !(decide (eccKey arr word ≤ e.1 ∧ e.1 < eccKey arr word + n))) }

/-- How many words among n of an array hold a correctable error. -/
def State.countMarks (s : State) (arr word n : Nat) : Nat :=
  s.ecc.countP (fun e => decide (eccKey arr word ≤ e.1 ∧ e.1 < eccKey arr word + n) && e.2.toNat % 2 == 1)

/-- Whether a word among n of an array holds an uncorrectable error. -/
def State.anyUncorr (s : State) (arr word n : Nat) : Bool :=
  s.ecc.any (fun e => decide (eccKey arr word ≤ e.1 ∧ e.1 < eccKey arr word + n) && e.2 == 2)

/-! ## Cores -/

def State.core (s : State) (k : Nat) : Core := s.cores.read coreReset k
def State.setCore (s : State) (k : Nat) (c : Core) : State := { s with cores := s.cores.write coreReset k c }
def State.onCore (s : State) (k : Nat) (f : Core → Core) : State := s.setCore k (f (s.core k))

def isSc (k : Nat) : Bool := decide (256 ≤ k)

def zero64 (_ : Nat) : Word := 0

/-- General register n; g0 reads 0 (R103). -/
def Core.greg (c : Core) (n : Nat) : Word := if n = 0 then 0 else c.g.read zero64 n
/-- A write to g0 is discarded (R103). -/
def Core.setG (c : Core) (n : Nat) (v : Word) : Core := if n = 0 then c else { c with g := c.g.write zero64 n v }
def Core.freg (c : Core) (n : Nat) : Word := c.f.read zero64 n
def Core.setF (c : Core) (n : Nat) (v : Word) : Core := { c with f := c.f.write zero64 n v }

/-- The stored value of a system register of core k. -/
def Core.sreg (c : Core) (k n : Nat) : Word := c.sr.read (srReset k) n
def Core.setSr (c : Core) (k n : Nat) (v : Word) : Core := { c with sr := c.sr.write (srReset k) n v }

/-- A per-core debug register, by its DBG offset (R526). -/
def Core.dreg (c : Core) (off : Nat) : Word := c.dbg.read dbgReset off
def Core.setD (c : Core) (off : Nat) (v : Word) : Core := { c with dbg := c.dbg.write dbgReset off v }

/-! System register numbers (R143). -/
def srStatus : Nat := 0x000
def srTstatus : Nat := 0x001
def srTrapPc : Nat := 0x002
def srTrapNpc : Nat := 0x003
def srTrapCause : Nat := 0x004
def srTrapAddr : Nat := 0x005
def srTrapInstr : Nat := 0x006
def srTvec : Nat := 0x007
def srCtxid : Nat := 0x00A
def srCoreid : Nat := 0x00B
def srFpsr : Nat := 0x010
def srFpmode : Nat := 0x011
def srCycles : Nat := 0x020
def srTime : Nat := 0x021
def srPmcCtl : Nat := 0x022
def srPmcSel (j : Nat) : Nat := 0x028 + j
def srPmc (j : Nat) : Nat := 0x030 + j

/-! ## Partitions -/

def State.part (s : State) (p : Nat) : Part := s.wpt.part.read partReset p
def State.setPart (s : State) (p : Nat) (q : Part) : State :=
  { s with wpt := { s.wpt with part := s.wpt.part.write partReset p q } }
def State.onPart (s : State) (p : Nat) (f : Part → Part) : State := s.setPart p (f (s.part p))

/-- The partition that WPT_PART_MAP assigns a quadrant to (R217). -/
def State.quadPart (s : State) (q : Nat) : Option Nat :=
  if s.bitAt F.WPT_PART_MAP_EN q then some (bitsOf (s.reg A.WPT_PART_MAP) (2 * q + 1) (2 * q)) else none

/-- The partition of a tile that the image assigns: that of its quadrant (R6, R217). Every other tile is parked and belongs to
none (R149; DEDUCED, log 17). -/
def State.tilePart (s : State) (t : Nat) : Option Nat :=
  if s.boot.tiles.read (fun _ => false) t then s.quadPart (t / 64) else none

/-- The tiles of a partition, in rising order. -/
def State.partTiles (s : State) (p : Nat) : List Nat := (List.range 256).filter (fun t => s.tilePart t == some p)

/-- Partition states (R218). -/
def psNone : Nat := 0
def psProvisioning : Nat := 1
def psReady : Nat := 2
def psScanning : Nat := 3
def psHeld : Nat := 4
def psStopped : Nat := 5
def psFaulted : Nat := 6

def State.pstate (s : State) (p : Nat) : Nat := s.get (F.WPT_PSTATE_STATE p)

/-- A partition is provisioned while READY, SCANNING, HELD, STOPPED or FAULTED (R540). -/
def State.provisioned (s : State) (p : Nat) : Bool := decide (psReady ≤ s.pstate p)

/-- The manifest declares the partition sealed (R48, R502). -/
def State.sealDecl (s : State) (p : Nat) : Bool := s.bitAt F.SEC_MANIFEST_SEALED p

def State.sealedPart (s : State) (p : Nat) : Bool := s.provisioned p && s.sealDecl p

/-- Whether a tile's context is sealed: its partition's declaration (R48, R137). -/
def State.tileSealed (s : State) (t : Nat) : Bool :=
  match s.tilePart t with
  | some p => s.sealDecl p
  | none => false

/-- STATUS as it reads: SEALED of a tile follows its partition (R137). -/
def State.statusOf (s : State) (k : Nat) : Word :=
  let v := (s.core k).sreg k srStatus
  if isSc k then v else if s.tileSealed k then 4 else 0

def State.isSealed (s : State) (k : Nat) : Bool := bitsOf (s.statusOf k) 2 2 == 1
def State.isPriv (s : State) (k : Nat) : Bool := bitsOf (s.statusOf k) 1 1 == 1
def State.intEnabled (s : State) (k : Nat) : Bool := bitsOf (s.statusOf k) 0 0 == 1

/-- CTXID of a core; a tile's is set by the image (R143, R502). -/
def State.ctxid (s : State) (k : Nat) : Nat :=
  if isSc k then bitsOf ((s.core k).sreg k srCtxid) 15 0 else s.get (F.SYS_TILE_CFG_CTXID k)

/-- FPMODE.RM of a core; a tile's is set by the image (R143, R502). -/
def State.fpmode (s : State) (k : Nat) : Nat :=
  if isSc k then bitsOf ((s.core k).sreg k srFpmode) 2 0 else s.get (F.SYS_TILE_CFG_RM k)

/-! ## Performance counters (R101, R102) -/

def pmcOne (s : State) (k ev n : Nat) (c : Core) (j : Nat) : Core :=
  let sel := c.sreg k (srPmcSel j)
  let ctl := c.sreg k srPmcCtl
  if bitsOf ctl j j = 1 ∧ bitsOf sel 7 0 = ev ∧ (bitsOf sel 8 8 = 0 ∨ bitsOf sel 31 16 = s.ctxid k) then
    let v := c.sreg k (srPmc j)
    let c := c.setSr k (srPmc j) (v + BitVec.ofNat 64 n)
    if v.toNat + n < 2 ^ 64 then c else c.setSr k srPmcCtl (withBits ctl (16 + j) (16 + j) 1)
  else c

/-- A core whose CYCLES counts: clocked and not halted (R99); its performance counters count with it (R101). -/
def Core.counts (c : Core) : Bool := (c.run == .active || c.run == .waypt) && !c.halted

/-- Count n occurrences of an event on core k. -/
def State.pmc (s : State) (k ev n : Nat) : State :=
  if bitsOf ((s.core k).sreg k srPmcCtl) 7 0 = 0 ∨ !(s.core k).counts then s
  else s.setCore k ((List.range 8).foldl (pmcOne s k ev n) (s.core k))

def evCommit : Nat := 0x01
def evAnnulled : Nat := 0x02
def evForwarded : Nat := 0x08
def evOverlap : Nat := 0x09
def evSbFull : Nat := 0x0A
def evRecvWait : Nat := 0x0C
def evSendWait : Nat := 0x0D
def evWayptWait : Nat := 0x0E
def evDepotWait : Nat := 0x0F
def evEccCorrected : Nat := 0x10
def evIMiss : Nat := 0x11
def evDMiss : Nat := 0x12
def evFp : Nat := 0x13
/-- A wait for an access that the core has placed on the interconnect (R87): no event of R102 counts its cycles. -/
def waitPlaced : Nat := 0x100
def evTraps : Nat := 0x15

/-! ## Device states -/

/-- Device states (R45). -/
def dsOff : Nat := 0
def dsBoot : Nat := 1
def dsProvision : Nat := 2
def dsRun : Nat := 3
def dsHold : Nat := 4
def dsService : Nat := 5
def dsLayby : Nat := 6
def dsSleep : Nat := 7
def dsRoadblock : Nat := 8

def State.dev (s : State) : Nat := s.get F.HW_STATE_STATE

/-- Cores execute in BOOT, PROVISION, RUN, HOLD and SERVICE (R45). -/
def coresClocked (s : State) : Bool :=
  s.dev != dsOff && s.dev != dsLayby && s.dev != dsSleep && s.dev != dsRoadblock

/-! ## Time (R33, R99, R100) -/

/-- The cycles of one tick at the operating point in use (R432). -/
def cyclesPerTick (s : State) : Nat :=
  match s.get F.PWR_OPP_STAT_CUR with
  | 0 => 2
  | 1 => 4
  | 2 => 6
  | _ => 8

/-- CYCLES of core k counts n cycles if the core is clocked and not halted (R99). -/
def addCycles (n k : Nat) (c : Core) : Core :=
  if c.counts then c.setSr k srCycles (c.sreg k srCycles + BitVec.ofNat 64 n) else c

/-- The cycles of the wait at hand count its event (R90, R91, R95–R97, R102). -/
def waitCycles (s : State) (n k : Nat) (c : Core) : Core :=
  if c.counts && c.wait != 0 then (List.range 8).foldl (pmcOne s k c.wait n) c else c

/-- The events that count cycles of the pipeline's own stalls (R102): FETCH_STALL_BRANCH, FETCH_STALL_INDIRECT, TARGET_BUBBLES,
DISPATCH_STALL_ROB, DISPATCH_STALL_RS, DIVIDES_ABANDONED, DEPOT_WAIT_CYCLES, DUAL_COMMIT. -/
def stallEvents : List Nat := [0x03, 0x04, 0x05, 0x06, 0x07, 0x0B, evDepotWait, 0x14]

/-- The event counter j of core k selects, if it counts the pipeline's stalls other than the wait at hand. -/
def stallOf (k : Nat) (c : Core) (j : Nat) : Option Nat :=
  let ev := bitsOf (c.sreg k (srPmcSel j)) 7 0
  if c.counts && stallEvents.contains ev && ev != c.wait then some ev else none

/-- How often such an event occurs in n cycles depends on the pipeline (R71–R98), which is no state of the model: a free number of
at most n (log 1, log 9). -/
def stallCycles (s : State) (n k : Nat) (c : Core) : Core :=
  (List.range 8).foldl (fun c j => match stallOf k c j with
    | some ev => pmcOne s k ev ((Config.freeValue (s.free + 8 * k + j) 64).toNat % (n + 1)) c j
    | none => c) c

/-- n cycles pass for every core that is clocked. -/
def passCycles (s : State) (n : Nat) : State :=
  { s with cores := s.cores.map (fun e => (e.1, stallCycles s n e.1 (waitCycles s n e.1 (addCycles n e.1 e.2)))),
           free := if s.cores.any (fun e => (List.range 8).any (fun j => (stallOf e.1 e.2 j).isSome)) then s.free + 2080
                   else s.free }

/-- Core k waits, for the reason that an event of R102 counts. -/
def State.waitFor (s : State) (k ev : Nat) : State :=
  if (s.core k).wait = ev then s else s.onCore k (fun c => { c with wait := ev })

/-- n ticks pass: TIME advances, and the CYCLES counters while the cores are clocked (R99, R443). -/
def passTicks (s : State) (n : Nat) : State :=
  let t := { s with time := s.time + BitVec.ofNat 64 n }
  if coresClocked s then passCycles t (n * cyclesPerTick s) else t

/-! ## Convoy roles (CVY_STATE.ROLE), the clock and the debug freeze -/

def roleIdle : Nat := 0
def roleForming : Nat := 1
def roleVoter : Nat := 2
def roleStandby : Nat := 3
def roleShoulder : Nat := 4
def roleJoining : Nat := 5

def State.role (s : State) : Nat := s.get F.CVY_STATE_ROLE

/-- CCLK is sourced from the PLL; while it is not, the timebase produces no pulses (R34). -/
def State.pllClock (s : State) : Bool := s.flag F.SYS_CLK_STAT_SRC

/-- The adjustment A of a grid of N ticks: CVY_TIME_OFS mod N while ROLE is not IDLE, else 0 (R275, R304). -/
def State.gridAdj (s : State) (n : Nat) : Nat :=
  if s.role = roleIdle then 0 else ((s.reg A.CVY_TIME_OFS).toInt.emod n).toNat

/-- Whether the present tick is a grid tick of N (R275, R304). -/
def State.onGrid (s : State) (n : Nat) : Bool := (s.time.toNat + s.gridAdj n) % n == 0

/-- Whether a freeze bit that is 1 freezes its unit (R523): an action that the level CLOSED does not permit (R511). A tile
stopped by its partition counts as halted (R515). -/
def State.freezeInForce (s : State) : Bool :=
  s.get F.DBG_LEVEL_LEVEL != 0 && (!s.flag F.DBG_CTL_FRZ_MODE || s.cores.any (fun e => e.2.halted || e.2.run == .stopped))

/-! ## The shared records -/

/-- Append an event log entry, or count it as dropped when the log is full (R416). -/
def logEvent (s : State) (cls code part : Nat) : State :=
  if 64 ≤ s.evlog.length then s.addSat F.HW_EVENT_LOG_LEVEL_DROPPED 1
  else
    { s with evlog := s.evlog ++
        [BitVec.ofNat 32 (cls % 16 * 2 ^ 28 + code % 256 * 2 ^ 20 + part % 4 * 2 ^ 18 + s.time.toNat / 2 ^ 14 % 2 ^ 18)] }

/-- Set the latched attention cause c (R410). -/
def attention (s : State) (c : Nat) : State := s.putBit F.HW_STATUS_PEND c true

def attnCmdDone : Nat := 3
def attnWptLate : Nat := 4
def attnConvoy : Nat := 5
def attnFlash : Nat := 6
def attnCal : Nat := 7
def attnWarn : Nat := 8
def attnWdg : Nat := 9
def attnLayby : Nat := 13

/-- A pulse of an interrupt source sets its pending bit (R345). -/
def pulse (s : State) (id : Nat) : State := s.putBit (F.ICU_PEND_PEND (id / 32)) (id % 32) true

/-- Record a refusal in a block's record if none is held: the fields with their values (the record is frozen while
VALID is 1). -/
def recordErr (s : State) (valid : Loc) (fields : List (Loc × Nat)) : State :=
  if s.flag valid then s
  else fields.foldl (fun s f => s.put f.1 f.2) ((s.setReg valid.addr 0).put valid 1)

/-- Record a host error; each overwrites the previous record (HW_ERR, 15_host_port.md). -/
def hostErr (s : State) (cause cmd sub : Nat) : State :=
  s.setReg A.HW_ERR (BitVec.ofNat 64
    (2 ^ 31 + cause % 16 * 2 ^ 24 + s.dev % 16 * 2 ^ 20 + cmd % 256 * 2 ^ 12 + sub % 256))

/-- The scope of a voiding cause (R65). -/
inductive VoidScope where
  | part (p : Nat)
  | device
  | convoy
  | sc (k : Nat)
  deriving DecidableEq, Repr

/-- Which guarantees a cause code voids (R65). -/
def voidsValue (code : Nat) : Bool := decide (0x01 ≤ code ∧ code ≤ 0x0A)
def voidsTiming (code : Nat) : Bool := decide (code = 0x0A ∨ (0x10 ≤ code ∧ code ≤ 0x12))

/-- The report of a voiding event (R66, R68): HW_SEAL_STATUS, the event log, and CONVOY or WARN. A cause of device scope
sets the bit of every partition (DEDUCED, log 10). -/
def voidReport (s : State) (code : Nat) (scope : VoidScope) : State :=
  let fp := match scope with
    | .part p => p
    | _ => 0
  let s :=
    if s.get F.HW_SEAL_STATUS_FIRST_CAUSE = 0 then
      (s.put F.HW_SEAL_STATUS_FIRST_CAUSE code).put F.HW_SEAL_STATUS_FIRST_PART fp
    else s
  let s := s.addSat F.HW_SEAL_STATUS_VOID_COUNT 1
  let bits := match scope with
    | .part p => 2 ^ p
    | .device => 15
    | _ => 0
  let s := if voidsValue code then s.put F.HW_SEAL_STATUS_VALUE_VOID (s.get F.HW_SEAL_STATUS_VALUE_VOID ||| bits) else s
  let s := if voidsTiming code then s.put F.HW_SEAL_STATUS_TIMING_VOID (s.get F.HW_SEAL_STATUS_TIMING_VOID ||| bits) else s
  let s := if code = 0x20 ∨ code = 0x21 then s.put F.HW_SEAL_STATUS_AGREE_VOID 1 else s
  let s := if code = 0x30 ∨ code = 0x31 then s.put F.HW_SEAL_STATUS_LAYBY_VOID 1 else s
  let s := logEvent s 1 code fp
  let s := attention s (if code = 0x20 ∨ code = 0x21 then attnConvoy else attnWarn)
  match scope with
  | .sc k =>
    let s := s.put (F.SYS_SC_SEAL_VOID k) 1
    if s.get (F.SYS_SC_SEAL_CAUSE k) = 0 then s.put (F.SYS_SC_SEAL_CAUSE k) code else s
  | _ => s

/-- A cause that voids only the value guarantee is reported only for a sealed partition (R65). -/
def voidIfSealed (s : State) (code p : Nat) : State := if s.sealedPart p then voidReport s code (.part p) else s

/-- An uncorrectable error: recorded if no record is held, logged, and WARN raised (R168). -/
def memError (s : State) (arr init core addr : Nat) : State :=
  let s :=
    if s.flag F.SYS_MEM_ERR_VALID then s
    else
      let s := (((s.put F.SYS_MEM_ERR_VALID 1).put F.SYS_MEM_ERR_MEM arr).put F.SYS_MEM_ERR_INIT init).put
        F.SYS_MEM_ERR_CORE core
      s.put F.SYS_MEM_ERR_ADDR_ADDR (addr / 8)
  attention (logEvent s 2 arr 0) attnWarn

/-- A corrected error is counted (R168); the array rewrites the word later (ECC_REWRITE). -/
def countCorrected (s : State) : State := s.addSat F.SYS_ECC_CORR_COUNT 1

end Sys2Proof.Machine
end

