-- ==== Sys2Proof/Machine/Links.lean ====
section
/-! DEFINITION. The Wiath link's ports and frames (R238–R243), the partitions' maps (R207, R208), and the exchanges of a
waypoint as records (R248–R250). -/

namespace Sys2Proof.Machine

/-! ## Maps -/

def noW32 (_ : Nat) : BitVec 32 := 0

/-- Where a map entry is held: the active or the staged copy, the snapshot or the release map (R211, R228). -/
def mapKey (s : State) (p : Nat) (staged rel : Bool) (i : Nat) : Nat :=
  (((if staged != (s.part p).mapB then 1 else 0) * 2 + (if rel then 1 else 0)) * 4 + p) * 4096 + i

def mapEntry (s : State) (p : Nat) (staged rel : Bool) (i : Nat) : Nat :=
  (s.wpt.maps.read noW32 (mapKey s p staged rel i)).toNat

def setMapEntry (s : State) (p : Nat) (staged rel : Bool) (i : Nat) (v : BitVec 32) : State :=
  { s with wpt := { s.wpt with maps := s.wpt.maps.write noW32 (mapKey s p staged rel i) v } }

def snapLen (s : State) (p : Nat) : Nat := s.get (F.WPT_SNAP_LEN_LEN p)

/-- The listed entries of a map copy, as (index, entry). -/
def listedEntries (s : State) (p : Nat) (staged rel : Bool) : List (Nat × Nat) :=
  let b := mapKey s p staged rel 0
  (s.wpt.maps.filter (fun e => decide (b ≤ e.1 ∧ e.1 < b + 4096))).map (fun e => (e.1 - b, e.2.toNat))

/-- The release words whose active entry has DST other than NONE, in ascending order (R248). -/
def outWords (s : State) (p : Nat) : List Nat :=
  ((listedEntries s p false true).filter (fun e => decide (e.2 / 2 ^ 28 ≠ 0))).map Prod.fst

/-- Release word i of partition p as it would be released (R56). -/
def relWord (s : State) (p i : Nat) : Word := s.wpt.rel.read zero64 (4096 * p + i)

/-! ## Members and ports -/

/-- This member's number (R232). -/
def me (s : State) : Nat := s.get F.CVY_CFG_MEMBER

/-- The member that port j must be cabled to (R234). -/
def portPeer (s : State) (j : Nat) : Nat := (me s + j + 1) % 4

/-- Whether this member votes or stands by. -/
def inConvoy (s : State) : Bool := s.role == roleVoter || s.role == roleStandby

def voterMask (s : State) : Nat := s.get F.CVY_STATE_VOTERS
def membersOf (m : Nat) : List Nat := (List.range 4).filter (fun k => m / 2 ^ k % 2 == 1)
def inMask (m k : Nat) : Bool := m / 2 ^ k % 2 == 1
def dropMember (m k : Nat) : Nat := if inMask m k then m - 2 ^ k else m

/-- The port that leads to a member. -/
def portTo (s : State) (k : Nat) : Option Nat := [0, 1, 2].find? (fun j => portPeer s j == k)

def linkReset (_ : Nat) : Link where
  window := []
  queue := []
  busy := 0
  training := []
  txSeq := 0
  rxSeq := 0
  digest := 0
  waking := 0

def State.link (s : State) (j : Nat) : Link := s.cvy.link.read linkReset j
def State.setLink (s : State) (j : Nat) (l : Link) : State :=
  { s with cvy := { s.cvy with link := s.cvy.link.write linkReset j l } }

/-- The codes of CVY_PORT_STATUS.STATE. -/
def lsDown : Nat := 0
def lsDetect : Nat := 1
def lsTrain : Nat := 2
def lsUp : Nat := 3
def lsDegraded : Nat := 4
def lsCableErr : Nat := 5

def portState (s : State) (j : Nat) : Nat := s.get (F.CVY_PORT_STATUS_STATE j)
def portLive (s : State) (j : Nat) : Bool := portState s j == lsUp || portState s j == lsDegraded

/-- A change of a port's state raises its source (R269); to DOWN or DEGRADED it is counted. -/
def setPort (s : State) (j st : Nat) : State :=
  if portState s j = st then s
  else
    let s := pulse (s.put (F.CVY_PORT_STATUS_STATE j) st) (257 + j)
    if st = lsDown ∨ st = lsDegraded then s.addSat (F.CVY_PORT_DOWNS_DOWNS j) 1 else s

/-- Add to an error count of a port, raising its source when it passes 255 (R241, R269). -/
def countPort (s : State) (l : Loc) (j n : Nat) : State :=
  let t := s.addSat l n
  if s.get l ≤ 255 ∧ 255 < t.get l then pulse t (260 + j) else t

/-! ## Frames (R240, R241) -/

def ftSnap : Nat := 1
def ftOut : Nat := 2
def ftVerdict : Nat := 3
def ftReceipt : Nat := 4
def ftShoulder : Nat := 5
def ftTime : Nat := 6
def ftMerge : Nat := 7
def ftImage : Nat := 8
def ftNak : Nat := 9
def ftTrain : Nat := 10

/-- The last n entries of a list. -/
def lastN {α : Type} (n : Nat) (l : List α) : List α := l.drop (l.length - n)

/-- The rank of a frame in R243: control frames, then exchange frames, then MERGE and IMAGE. -/
def frameRank (f : LinkFrame) : Nat :=
  if f.ty = ftSnap ∨ f.ty = ftOut then 1 else if f.ty = ftMerge ∨ f.ty = ftImage then 2 else 0

/-- Whether f goes out before g that was queued first (R243): it ranks before it, or both belong to exchanges that began in one
cycle and f's partition is the lower. -/
def goesBefore (f g : LinkFrame) : Bool :=
  decide (frameRank f < frameRank g) ||
  (frameRank f == 1 && frameRank g == 1 && decide (f.queued = g.queued ∧ f.part < g.part))

/-- A frame takes its place among those that wait (R243). -/
def enqueue (f : LinkFrame) : List LinkFrame → List LinkFrame
  | [] => [f]
  | g :: q => if goesBefore f g then f :: g :: q else g :: enqueue f q

/-- The ticks for which a frame occupies a port: tF = 180 ns for a data frame, three blocks for a control frame, and twice that on one
pair (R239, R242; DESIGN CHOICE, log 31). -/
def frameTicks (degraded : Bool) (f : LinkFrame) : Nat :=
  (if frameRank f = 0 then 2 else 18) * (if degraded then 2 else 1)

/-- The frames that a port has sent by the tick `now`: each takes the next SEQ, and the highest sequence number received in order, as
it starts, and joins the last 16 that the port keeps (R240, R241). A frame that has started is not interrupted (R243). -/
def sendQueued (l : Link) (now : Nat) (degraded : Bool) : List LinkFrame → Link
  | [] => { l with queue := [] }
  | f :: q =>
    let t := max l.busy f.queued
    if now < t then { l with queue := f :: q }
    else
      let f := { f with seq := l.txSeq, ack := (l.rxSeq + 255) % 256, sentAt := t }
      sendQueued { l with window := lastN 16 (l.window ++ [f]), txSeq := (l.txSeq + 1) % 256,
                          busy := t + frameTicks degraded f } now degraded q

/-- A live port sends what waits, as far as TIME allows. -/
def portSend (s : State) (j : Nat) : State :=
  if portLive s j && !(s.link j).queue.isEmpty then
    s.setLink j (sendQueued (s.link j) s.time.toNat (portState s j == lsDegraded) (s.link j).queue)
  else s

/-- The three ports send. -/
def linksSend (s : State) : State := [0, 1, 2].foldl portSend s

/-- Queue a frame on port j, which sends it in its turn; an enabled port that is not live keeps it until it returns (R242, R243). -/
def queueFrame (s : State) (j : Nat) (f : LinkFrame) : State :=
  if s.flag (F.CVY_PORT_CTL_EN j) || portLive s j then
    portSend (s.setLink j { s.link j with queue := enqueue { f with src := me s, queued := s.time.toNat } (s.link j).queue }) j
  else s

/-- A frame that waits for its port to give it SEQ and ACK. -/
def newFrame (ty part wnum index flags : Nat) (words : List Word) : LinkFrame :=
  ⟨ty, part, 0, 0, 0, wnum % 2 ^ 16, index, flags, words, none, 0, 0, 0, false⟩

def sendFrame (s : State) (j ty part wnum index flags : Nat) (words : List Word) : State :=
  queueFrame s j (newFrame ty part wnum index flags words)

/-- Send a frame on every port. -/
def sendAll (s : State) (ty part wnum index flags : Nat) (words : List Word) : State :=
  [0, 1, 2].foldl (fun s j => sendFrame s j ty part wnum index flags words) s

/-- Send a frame to one member. -/
def sendTo (s : State) (k ty part wnum : Nat) (words : List Word) : State :=
  match portTo s k with
  | some j => sendFrame s j ty part wnum 0 0 words
  | none => s

/-- The words of an exchange in frames of 32, the last one padded with zeros (R240). -/
def framesOf (ws : List Word) : Nat → List (List Word)
  | 0 => []
  | n + 1 => (ws.take 32 ++ List.replicate (32 - ws.length) 0) :: framesOf (ws.drop 32) n

def frameCount (len : Nat) : Nat := (len + 31) / 32

/-- Send the words of an exchange as data frames on every port. -/
def sendWords (s : State) (ty part wnum flags : Nat) (ws : List Word) (n : Nat) : State :=
  ((framesOf ws n).zip (List.range n)).foldl (fun s f => sendAll s ty part wnum f.2 flags f.1) s

/-- A resend of the frame with the given SEQ, if the port still keeps it; the eighth takes the port DOWN (R241). -/
def resend (s : State) (j seq : Nat) : State :=
  let l := s.link j
  match l.window.find? (fun f => f.seq == seq && !f.acked) with
  | none => s
  | some f =>
    let w := l.window.map (fun g => if g.seq = seq ∧ !g.acked then { g with tries := g.tries + 1, sentAt := s.time.toNat } else g)
    let s := countPort (s.setLink j { l with window := w }) (F.CVY_PORT_ERR_RESENDS j) j 1
    if 8 ≤ f.tries + 1 then setPort s j lsDown else s

/-- The frame without an ACK whose 1.5 µs end first (R241). -/
def oldestSent : List LinkFrame → Option LinkFrame
  | [] => none
  | f :: q =>
    match oldestSent q with
    | some g => if f.acked || decide (g.sentAt < f.sentAt) then some g else some f
    | none => if f.acked then none else some f

/-- Every frame without an ACK goes out again (R242). -/
def resendAll (s : State) (j : Nat) : State :=
  (((s.link j).window.filter (fun f => !f.acked)).map (·.seq)).foldl (fun s q => resend s j q) s

/-- The fields of a frame's header beside TYPE (R240). -/
structure Hdr where
  part : Nat
  src : Nat
  seq : Nat
  ack : Nat
  wnum : Nat
  index : Nat
  flags : Nat
  deriving DecidableEq, Repr

def hdrOf (h : BitVec 60) : Hdr :=
  let v := h.toNat
  ⟨v / 2 ^ 58 % 4, v / 2 ^ 56 % 4, v / 2 ^ 48 % 256, v / 2 ^ 40 % 256, v / 2 ^ 24 % 2 ^ 16, v / 2 ^ 16 % 256, v % 2 ^ 16⟩

/-- An ACK acknowledges every frame up to its SEQ (R240). -/
def ackFrames (s : State) (j ack : Nat) : State :=
  let l := s.link j
  let w := l.window.map (fun f => if (ack + 256 - f.seq) % 256 < 128 then { f with acked := true } else f)
  s.setLink j { l with window := w }

/-- A frame arrives at port j (R241): a frame with a CRC error, with a header outside R240 or beyond a SEQ gap is counted,
discarded and answered with a NAK whose payload word names the SEQ expected; else its ACK counts. The second
component says whether the frame is taken: in sequence, or a resent one. -/
def rxFrame (s : State) (j : Nat) (h : Hdr) (ok data : Bool) : State × Bool :=
  let l := s.link j
  if !portLive s j then (s, false)
  else if !ok || (data && decide (127 < h.index)) || h.src != portPeer s j ||
      (h.seq != l.rxSeq && decide ((h.seq + 256 - l.rxSeq) % 256 < 128)) then
    (sendFrame (countPort s (F.CVY_PORT_ERR_CRC_ERR j) j 1) j ftNak 0 0 0 0 [BitVec.ofNat 64 l.rxSeq], false)
  else
    let s := ackFrames s j h.ack
    let l := s.link j
    (if h.seq = l.rxSeq then s.setLink j { l with rxSeq := (l.rxSeq + 1) % 256 } else s, true)

/-! ## A merge in progress (R264, R266) -/

def mergeBusy (s : State) : Bool :=
  let st := s.get F.CVY_MERGE_STATUS_STATE
  st == 1 || st == 2 || st == 3

def joinerOf (s : State) : Nat := if s.role = roleJoining then me s else s.get F.CVY_MERGE_CTL_JOINER

/-- p has merged, though the merge goes on with other partitions. -/
def mergedIn (s : State) (p : Nat) : Bool := mergeBusy s && s.bitAt F.CVY_MERGE_STATUS_MERGED p

/-- The joiner fills the standby place: the mode has one, it is free, and no voter place is (R264, R266). -/
def joinsAsStandby (s : State) : Bool :=
  s.get F.CVY_CFG_MODE == 3 && s.cvy.standby.isNone && decide (3 ≤ (membersOf (voterMask s)).length)

/-- The voters of partition p: a joiner that fills a voter place votes in the partitions that have merged. -/
def pvoters (s : State) (p : Nat) : Nat :=
  if mergedIn s p && !joinsAsStandby s then voterMask s ||| 2 ^ joinerOf s else voterMask s

/-- Whether this member takes part in p's exchanges, and whether it votes in them. -/
def inConvoyP (s : State) (p : Nat) : Bool := inConvoy s || (s.role == roleJoining && mergedIn s p)
def votesIn (s : State) (p : Nat) : Bool :=
  s.role == roleVoter || (s.role == roleJoining && mergedIn s p && !joinsAsStandby s)

/-! ## Exchanges (R248–R250) -/

def noB' (_ : Nat) : Bool := false
def nat0 (_ : Nat) : Nat := 0
def noRcpt (_ : Nat) : Option Nat := none

def Xchg.empty : Xchg where
  isOpen := false
  wnum := 0
  voters := 0
  words := []
  got := []
  verdict := []
  flags := []
  rcpt := []
  digest := []
  rcptSent := false
  closed := false
  decided := false

def cvyPartReset (_ : Nat) : CvyPart where
  inp := Xchg.empty
  out := Xchg.empty
  outcome := 0
  voted := []
  leaving := []
  sent := false
  hold := false
  merge := false
  float := false
  coOk := false

def State.cpart (s : State) (p : Nat) : CvyPart := s.cvy.part.read cvyPartReset p
def State.setCpart (s : State) (p : Nat) (c : CvyPart) : State :=
  { s with cvy := { s.cvy with part := s.cvy.part.write cvyPartReset p c } }
def State.onCpart (s : State) (p : Nat) (f : CvyPart → CvyPart) : State := s.setCpart p (f (s.cpart p))

/-- The input or the output exchange of a partition. -/
def xchg (s : State) (p : Nat) (out : Bool) : Xchg := if out then (s.cpart p).out else (s.cpart p).inp
def setXchg (s : State) (p : Nat) (out : Bool) (x : Xchg) : State :=
  s.onCpart p (fun c => if out then { c with out := x } else { c with inp := x })

/-- The words of an exchange of the partition: the snapshot's, or the output vector's. -/
def xchgLen (s : State) (p : Nat) (out : Bool) : Nat :=
  if out then s.get (F.CVY_OUTCOUNT_COUNT p) else snapLen s p

/-- The frames of an exchange. An output vector without a word still takes one frame, for its flags (DESIGN CHOICE, log 33). -/
def xchgFrames (s : State) (p : Nat) (out : Bool) : Nat :=
  if out then max 1 (frameCount (xchgLen s p out)) else frameCount (xchgLen s p out)

/-- Whether member k's exchange is complete here: every frame, or its verdict (R249). -/
def complete (s : State) (p : Nat) (out : Bool) (k : Nat) : Bool :=
  let x := xchg s p out
  x.verdict.read nat0 k != 0 || (List.range (xchgFrames s p out)).all (fun i => x.got.read noB' (128 * k + i))

/-- The words of one member are put into an exchange. -/
def placeWords (x : Xchg) (k base : Nat) (ws : List Word) : Xchg :=
  { x with words :=
      (ws.zip (List.range ws.length)).foldl (fun t w => t.write zero64 (4096 * k + base + w.2) w.1) x.words }

/-- A frame of an exchange is placed by its INDEX. -/
def placeFrame (x : Xchg) (k index flags : Nat) (ws : List Word) : Xchg :=
  let x := placeWords x k (32 * index) (ws.take 32)
  { x with got := x.got.write noB' (128 * k + index) true, flags := x.flags.write nat0 k flags }

/-- This member's own words enter its exchange whole. -/
def placeOwn (s : State) (p : Nat) (out : Bool) (flags : Nat) (ws : List Word) : State :=
  let x := placeWords (xchg s p out) (me s) 0 ws
  setXchg s p out { x with
    got := (List.range (xchgFrames s p out)).foldl (fun t i => t.write noB' (128 * me s + i) true) x.got
    flags := x.flags.write nat0 (me s) flags }

/-- Whether a frame belongs to a window that has not begun here (R241): a member a tick ahead may send it. -/
def ahead (x : Xchg) (wnum : Nat) : Bool :=
  let d := (wnum + 2 ^ 16 - x.wnum % 2 ^ 16) % 2 ^ 16
  if x.isOpen || x.decided || x.closed then decide (1 ≤ d ∧ d < 2 ^ 15) else decide (d < 2 ^ 15)

/-- What a receipt's bits say of this member's holdings: one bit per member, and FIT (R250). -/
def receiptBits (s : State) (p : Nat) (out : Bool) : Nat :=
  ((List.range 4).foldl (fun v k => if complete s p out k then v + 2 ^ k else v) 0) +
  (if s.role = roleStandby ∧ s.flag F.CVY_STATE_STANDBY_FIT then 16 else 0)

/-- The digest of a PENDING changeover, 0 when none is pending (R267). -/
def coDigest (s : State) (p : Nat) : BitVec 32 :=
  if s.flag (F.WPT_PSTATE_CO_PENDING p) then
    Config.changeoverDigest
      ([(s.reg (A.WPT_CO_WNUM p)).toNat, s.get (F.WPT_CO_CTL_MAPS p), s.get (F.WPT_CO_CTL_DATA p)] ++
       (List.range 8).map (fun k => s.get (F.WPT_CO_TILES_TILES p k)) ++
       (List.range (s.get (F.WPT_CO_CTL_NLANES p))).map (fun i =>
         s.bytes ((s.reg (A.WPT_CO_LANES p)).toNat + 8 * i) 8) ++
       (s.mem.filter (fun e => decide (0x20000000 ≤ e.1 ∧ e.1 < 0x21000000 ∧ e.1 % 0x10000 < 0x8000 ∧
          s.bitAt (F.WPT_CO_TILES_TILES p ((e.1 - 0x20000000) / 0x10000 / 32)) ((e.1 - 0x20000000) / 0x10000 % 32) = true ∧
          (s.bitAt (F.WPT_BANK_BANK_B ((e.1 - 0x20000000) / 0x10000 / 32)) ((e.1 - 0x20000000) / 0x10000 % 32) = true ↔
            e.1 % 0x10000 < 0x4000)))).flatMap (fun e => [e.1, e.2.toNat]))
  else 0

/-- The receipt of an exchange goes out on every port, and is this member's own (R250). -/
def sendReceipt (s : State) (p : Nat) (out : Bool) : State :=
  let b := receiptBits s p out
  let d := if out then 0 else coDigest s p
  let x := xchg s p out
  let s := setXchg s p out { x with rcptSent := true, rcpt := x.rcpt.write noRcpt (me s) (some b),
                                     digest := x.digest.write noW32 (me s) d }
  sendAll s ftReceipt p x.wnum 0 0 [BitVec.ofNat 64 (b + d.toNat * 2 ^ 32)]

/-- A receipt goes out as soon as every voter's exchange is complete here (R250). -/
def tryReceipt (s : State) (p : Nat) (out : Bool) : State :=
  let x := xchg s p out
  if x.isOpen && !x.rcptSent && (membersOf (x.voters &&& pvoters s p)).all (complete s p out) then sendReceipt s p out else s

/-- This member's verdict on the output window that is open: 1 LATE, 2 FAULT (R249). -/
def sendVerdict (s : State) (p v : Nat) : State :=
  let x := xchg s p true
  if x.isOpen then
    let s := setXchg s p true { x with verdict := x.verdict.write nat0 (me s) v }
    tryReceipt (sendAll s ftVerdict p x.wnum 0 v [BitVec.ofNat 64 v]) p true
  else s

/-- A partition fault of a voter that has sent its vector goes out as FAULT at once and supersedes it (R249). -/
def faultVerdict (s : State) (p : Nat) : State :=
  if votesIn s p && (s.cpart p).sent then sendVerdict s p 2 else s

/-- A data frame of an exchange that is open here is placed by its WNUM and INDEX; a receipt may then be due (R241, R250). -/
def placeData (s : State) (p : Nat) (out : Bool) (src wnum index flags : Nat) (ws : List Word) : State :=
  let x := xchg s p out
  if x.isOpen && x.wnum % 2 ^ 16 == wnum then tryReceipt (setXchg s p out (placeFrame x src index flags ws)) p out else s

/-- Whether an early frame belongs to an exchange of partition p. -/
def isEarly (p : Nat) (out : Bool) (wnum : Nat) (f : LinkFrame) : Bool :=
  f.part == p && f.ty == (if out then ftOut else ftSnap) && f.wnum == wnum % 2 ^ 16

/-- The frames that came before an exchange began are placed as it begins (R241). -/
def takeEarly (s : State) (p : Nat) (out : Bool) : State :=
  let w := (xchg s p out).wnum
  let mine := s.cvy.early.filter (isEarly p out w)
  let s := { s with cvy := { s.cvy with early := s.cvy.early.filter (fun f => !isEarly p out w f) } }
  mine.foldl (fun s f => placeData s p out f.src f.wnum f.index f.flags f.words) s

/-- A data frame of a window that has not begun here is kept for it. -/
def keepEarly (s : State) (h : Hdr) (out : Bool) (ws : List Word) : State :=
  let merging := (s.cvy.mergeAt.read noRcpt h.part).any (fun m => m % 2 ^ 16 == h.wnum)
  if (inConvoyP s h.part || merging) && ahead (xchg s h.part out) h.wnum then
    { s with cvy := { s.cvy with early := s.cvy.early ++
      [{ newFrame (if out then ftOut else ftSnap) h.part h.wnum h.index h.flags ws with src := h.src }] } }
  else s

end Sys2Proof.Machine
end

