-- ==== Sys2Proof/Machine/Faults.lean ====
section
/-! DEFINITION. Partition faults (R222, R223), lane faults (R196), the end of a changeover (R227, R229) and the
completion of a host command (R422): shared by every block that raises them. -/

namespace Sys2Proof.Machine

/-- The ANA domain is off: the ADC and CAL registers hold their reset values (R438). -/
def anaOff (s : State) : Bool := !s.flag F.PWR_DOM_STAT_ANA

/-- An accepted host command completes (R422): BUSY falls, the result is set, CMD_DONE is raised. -/
def cmdDone (s : State) (result : Nat) : State :=
  attention (((s.put F.HW_CMD_BUSY 0).put F.HW_CMD_FW 0).put F.HW_CMD_RESULT_RESULT result) attnCmdDone

/-- A changeover of p ends DONE or REFUSED with a cause, at waypoint w (R227–R229, R231). -/
def coEnd (s : State) (p status cause w : Nat) : State :=
  let s := ((s.put (F.WPT_CO_STATUS_STATUS p) status).put (F.WPT_CO_STATUS_CAUSE p) cause).put (F.WPT_CO_STATUS_WNUM p) w
  let s := s.put (F.WPT_PSTATE_CO_PENDING p) 0
  let host := (s.part p).coHost
  let s := s.onPart p (fun q => { q with coHost := false, coPhase := 0, coScan := false })
  let s := pulse s (285 + p)
  if host then cmdDone s (s.reg (A.WPT_CO_STATUS p)).toNat else s

/-- p leaves SCANNING: a PENDING changeover ends REFUSED with CANCELLED (R227). -/
def coCancel (s : State) (p : Nat) : State :=
  if s.flag (F.WPT_PSTATE_CO_PENDING p) then coEnd s p 3 7 (s.get (F.WPT_WNUM_WNUM p)) else s

/-- A tile stops under R85: it executes nothing more; a halted tile shows STOPPED (R515). -/
def stopTile (s : State) (t : Nat) : State :=
  s.onCore t (fun c => { c with run := .stopped, halted := false, haltReq := 0, stepping := false })

/-- Every tile of the partition stops. -/
def stopTiles (s : State) (p : Nat) : State := (s.partTiles p).foldl stopTile s

/-- The first instant of the schedule at or after a tick (R199). -/
def instantFrom (s : State) (p t : Nat) : Nat :=
  let n := s.get (F.WPT_PERIOD_PERIOD p)
  t + (s.get (F.WPT_PHASE_PHASE p) + n - t % n) % n

/-- The timer of p runs, its next instant at tick t, or is stopped (R200). -/
def timerRun (s : State) (p t : Nat) : State :=
  (s.setReg (A.WPT_NEXT p) (BitVec.ofNat 64 t)).onPart p (fun q =>
    { q with timerAt := if q.timerAt.isSome then q.timerAt else some s.time.toNat })

def timerStop (s : State) (p : Nat) : State :=
  (s.setReg (A.WPT_NEXT p) 0).onPart p (fun q => { q with timerAt := none })

def timerOn (s : State) (p : Nat) : Bool := s.reg (A.WPT_NEXT p) != 0

/-- A timer that does not run starts at the next instant after the present tick, unless the device holds (R219, R222). -/
def timerResume (s : State) (p : Nat) : State :=
  if timerOn s p || s.dev == dsHold then s else timerRun s p (instantFrom s p (s.time.toNat + 1))

/-- A freeze holds back p's instant at tick w (R541). -/
def holdBack (s : State) (p w : Nat) : State :=
  s.onPart p (fun q => { q with heldInst := (w :: q.heldInst.filter (· != w)).take 2 })

/-- The causes of WPT_FAULT_REC (R223). -/
def pfTrap : Nat := 1
def pfLane : Nat := 2
def pfReleaseEcc : Nat := 3
def pfLate : Nat := 4
def pfWatchdog : Nat := 5

/-- What a fault record says of a tile: number, resume pc, trap cause, trap address and slot bit. -/
structure FaultTile where
  tile : Nat
  pc : Nat
  trap : Nat
  addr : Nat
  slot : Bool
  deriving DecidableEq, Repr

/-- The first fault after the last PROVISION is recorded; what it does not fill reads 0 (R223). -/
def recordFault (s : State) (p cause : Nat) (ft : Option FaultTile) : State :=
  if s.flag (F.WPT_FAULT_REC_VALID p) then s
  else
    let s := ((s.setReg (A.WPT_FAULT_REC p) 0).setReg (A.WPT_FAULT_PC p) 0).setReg (A.WPT_FAULT_ADDR p) 0
    let s := (s.put (F.WPT_FAULT_REC_VALID p) 1).put (F.WPT_FAULT_REC_CAUSE p) cause
    let s := s.put (F.WPT_FAULT_WNUM_SCAN p) (s.part p).scan
    match ft with
    | none => s
    | some t =>
      let s := ((s.put (F.WPT_FAULT_REC_TILE_VALID p) 1).put (F.WPT_FAULT_REC_TILE p) t.tile).put
        (F.WPT_FAULT_PC_PC p) (t.pc / 4)
      if cause = pfTrap then
        ((s.put (F.WPT_FAULT_REC_TRAP p) t.trap).putFlag (F.WPT_FAULT_REC_SLOT p) t.slot).put (F.WPT_FAULT_ADDR_ADDR p) t.addr
      else s

/-- A partition fault (R222): in SCANNING, READY, HELD and STOPPED the partition becomes FAULTED, its tiles stop and the
fault is recorded, logged and raised; in FAULTED it keeps its state and record; in NONE and PROVISIONING nothing changes.
A fault by lateness is the voiding event WPT_FAULT (R215). -/
def partitionFault (s : State) (p cause : Nat) (ft : Option FaultTile) : State :=
  let st := s.pstate p
  if st < psReady ∨ st = psFaulted then s
  else
    let s := coCancel s p
    let s := recordFault s p cause ft
    let s := stopTiles s p
    let s := (((s.put (F.WPT_PSTATE_STATE p) psFaulted).put (F.WPT_PSTATE_STOP_PENDING p) 0).put
      (F.WPT_PSTATE_HOLD_PENDING p) 0).put (F.WPT_PSTATE_CLEAN p) 0
    let s := s.onPart p (fun q => { q with scanPending := false, live := false, held := false, goRun := false })
    let s := timerResume (logEvent (pulse s (273 + p)) 4 cause p) p
    faultVerdict (if cause = pfLate then voidReport s 0x12 (.part p) else s) p

/-! ## Watchdog instances -/

def wdogReset (_ : Nat) : Wdog where
  sig := 0xFFFF
  fresh := true
  tokens := []
  recent := []

def State.wdog (s : State) (i : Nat) : Wdog := s.wdg.read wdogReset i
def State.setWdog (s : State) (i : Nat) (x : Wdog) : State := { s with wdg := s.wdg.write wdogReset i x }

/-- Every ledger count of instance i returns to 0. -/
def ledgerClear (s : State) (i : Nat) : State := (List.range 16).foldl (fun s n => s.put (F.WDG_LEDGER_ACTUAL i n) 0) s

/-- The count, the signature and the ledger counts of instance i return to 0 (R471, R477, R479). -/
def wdgRestart (s : State) (i : Nat) : State :=
  (ledgerClear (s.put (F.WDG_COUNT_COUNT i) 0) i).setWdog i { s.wdog i with sig := 0, fresh := true }

/-- Partition p enters SCANNING: its instance starts again (R471). -/
def enterScanning (s : State) (p : Nat) : State :=
  let s := s.put (F.WPT_PSTATE_STATE p) psScanning
  if s.flag (F.WDG_CTL_ON (4 + p)) then wdgRestart s (4 + p) else s

/-! ## Positions (R17, R18) -/

/-- Mesh position of cluster c. -/
def clusterXY (c : Nat) : Nat × Nat :=
  let q := c / 16
  let l := c % 16
  (4 * (q % 2) + l % 4, 4 * (q / 2) + l / 4)

/-- The cluster whose junction stands at (x, y). -/
def clusterAt (x y : Nat) : Nat := 16 * (2 * (y / 4) + x / 4) + 4 * (y % 4) + x % 4

/-- The junction of a core: its cluster's, or a corner for a service core. -/
def coreXY (k : Nat) : Nat × Nat :=
  if k < 256 then clusterXY (k / 4)
  else match k - 256 with
    | 0 => (0, 0)
    | 1 => (7, 0)
    | 2 => (0, 7)
    | _ => (7, 7)

/-- The junction port of a core: its tile port, or the service attachment (8). Ports 4–7 are east, west, north, south. -/
def corePort (k : Nat) : Nat := if k < 256 then k % 4 else 8

def quadOfXY (xy : Nat × Nat) : Nat := 2 * (xy.2 / 4) + xy.1 / 4

/-! ## Lanes -/

def laneOn (s : State) (l : Nat) : Bool := decide (l < 4160) && s.flag (F.LANE_CFG_EN l)
def laneSender (l : Nat) : Nat := l / 16
def laneDst (s : State) (l : Nat) : Nat := s.get (F.LANE_CFG_DST l)
def laneDport (s : State) (l : Nat) : Nat := s.get (F.LANE_CFG_DPORT l)
def laneDepth (s : State) (l : Nat) : Nat := s.get (F.LANE_CFG_DEPTH l)
def laneBase (s : State) (l : Nat) : Nat := s.get (F.LANE_CFG_BASE l)

/-- The tile end of a lane (R170): its sender, else its receiver. -/
def laneTile (s : State) (l : Nat) : Nat := if laneSender l < 256 then laneSender l else laneDst s l

/-- The partition that owns a lane. -/
def laneOwner (s : State) (l : Nat) : Option Nat := if laneTile s l < 256 then s.quadPart (laneTile s l / 64) else none

/-- The lane fault codes (R196). -/
def lfHeader : Nat := 1
def lfMisroute : Nat := 2
def lfOverflow : Nat := 3
def lfTollExcess : Nat := 4
def lfAudit : Nat := 5

/-- A lane fault (R196), detected at the junction xy; lane none is the unknown lane of a HEADER fault. Where no partition owns the
lane or the junction's quadrant, the record and the log entry name partition 0 (DESIGN CHOICE, log 67). -/
def laneFault (s : State) (code : Nat) (lane : Option Nat) (xy : Nat × Nat) : State :=
  let p := match lane with
    | some l => laneOwner s l
    | none => s.quadPart (quadOfXY xy)
  let s := match lane with
    | some l => if l < 4160 then s.put (F.LANE_CNT_HI_FAULTED l) 1 else s
    | none => s
  let s := recordErr s F.LANE_FAULT_VALID
    [(F.LANE_FAULT_CODE, code), (F.LANE_FAULT_PART, p.getD 0), (F.LANE_FAULT_JX, xy.1), (F.LANE_FAULT_JY, xy.2),
     (F.LANE_FAULT_LANE, lane.getD 0x1FFF)]
  let s := s.addSat F.LANE_FAULT_COUNT_COUNT 1
  let s := logEvent s 3 code (p.getD 0)
  let s := match p with
    | some p => partitionFault (voidIfSealed s 0x09 p) p pfLane none
    | none => s
  pulse s (321 + clusterAt xy.1 xy.2)

end Sys2Proof.Machine
end

