-- ==== Sys2Proof/Machine/Ranges.lean ====
section
/-! DEFINITION. The ranges of the address map (R37–R39) and the constant regions of the depot (R158, R159). -/

namespace Sys2Proof.Machine

/-- The ranges of R37. -/
def inFlash (a : Nat) : Bool := decide (a < 0x2000000)
def inInfo (a : Nat) : Bool := decide (0x8000000 ≤ a ∧ a < 0x8008000)
def inDepot (a : Nat) : Bool := decide (0x10000000 ≤ a ∧ a < 0x11000000)
def inTiles (a : Nat) : Bool := decide (0x20000000 ≤ a ∧ a < 0x21000000)
def inPeri (a : Nat) : Bool := decide (0x40000000 ≤ a ∧ a < 0x40140000)
def inRom (a : Nat) : Bool := decide (0xF0000000 ≤ a ∧ a < 0xF0040000)
def inXsp (a : Nat) : Bool := decide (0x100000000 ≤ a ∧ a < 0x300000000)
def mapped (a : Nat) : Bool :=
  inFlash a || inInfo a || inDepot a || inTiles a || inPeri a || inRom a || inXsp a

/-! ## Zeroing (R150) and stores (R168) -/

/-- The array an address lies in. -/
def arrayOf (a : Nat) : Option Nat :=
  if inTiles a then some ((a - 0x20000000) / 0x400000)
  else if inDepot a then some (4 + (a - 0x10000000) / 0x100000)
  else none

/-- An access stalls on an array that is still being zeroed (R150). -/
def zeroingAt (s : State) (a : Nat) : Bool :=
  match arrayOf a with
  | some x => s.boot.zeroing.contains x
  | none => false

/-- The array code of an address of tile SRAM or depot. -/
def arrayCode (a : Nat) : Nat := if inTiles a then memTile else memDepot

/-- The word a store of fewer than 64 bits must read and rewrite: corrected if it can be; else it is not written, and the error
is reported (R168). `init` and `who` are INIT and CORE of SYS_MEM_ERR. -/
def storeNarrow (s : State) (init who a n v : Nat) : State :=
  let m := s.eccOf (arrayCode a) (a / 8)
  if m = 2 then memError s (arrayCode a) init who (a / 8 * 8)
  else
    let s := s.setBytes a n v
    if m = 0 then s else countCorrected (s.clearEcc (arrayCode a) (a / 8) 1)

/-! ## The staging engine's reads (R225) -/

/-- The word of the shadow code bank of tile t that the i-th word of a staging source goes to. -/
def shadowBank (s : State) (t : Nat) : Nat :=
  0x20000000 + 0x10000 * t + (if s.bitAt (F.WPT_BANK_BANK_B (t / 32)) (t % 32) then 0 else 0x4000)

/-- The staging engine has read the words of its source before word n, and they stand in the shadow bank; one that it cannot
correct ends the copy there (R168, R225). -/
def stageUpTo (s : State) (n : Nat) : State :=
  let src := s.wpt.stage.2
  let i := s.wpt.stagePos
  if s.wpt.stageBad || decide (n ≤ i) then s
  else
    let key := eccKey memDepot (src / 8 + i)
    let bad := (s.ecc.filterMap (fun e => if key ≤ e.1 ∧ e.1 < key + (n - i) ∧ e.2 = 2 then some (e.1 - key) else none)).min?
    let k := bad.getD (n - i)
    let dst := shadowBank s s.wpt.stage.1 + 8 * i
    let s := s.addSat F.SYS_ECC_CORR_COUNT (s.countMarks memDepot (src / 8 + i) k)
    let s := (s.copyBytes (src + 8 * i) dst (8 * k)).clearEcc memTile (dst / 8) k
    { s with wpt := { s.wpt with stagePos := i + k, stageBad := bad.isSome } }

/-- A write of a source word finds the staging engine at some word of its copy: how far it has come is not stated (a free value,
log 1). -/
def stageRace (s : State) (a : Nat) : State :=
  let src := s.wpt.stage.2
  if s.flag F.WPT_STAGE_CTL_BUSY && decide (src ≤ a ∧ a < src + 0x4000) then
    let d := s.draw 16
    stageUpTo d.2 (min 2048 (s.wpt.stagePos + d.1.toNat % (2049 - s.wpt.stagePos)))
  else s

/-- Write n bytes (1, 2, 4, or a multiple of 8) of tile SRAM or depot: whole words get fresh check bits (R168). -/
def storeBytes (s : State) (init who a n v : Nat) : State :=
  let s := stageRace s a
  if n < 8 then storeNarrow s init who a n v else (s.setBytes a n v).clearEcc (arrayCode a) (a / 8) (n / 8)

/-! ## Constant regions (R158, R159, R52) -/

/-- Whether enabled constant region n covers a depot address. -/
def crCovers (s : State) (n a : Nat) : Bool :=
  s.flag (F.SYS_CR_CTL_EN n) &&
  (let off := s.get (F.SYS_CR_PAGE_PAGE n) * 4096
   decide (0x10000000 + off ≤ a ∧ a < 0x10000000 + off + (s.get (F.SYS_CR_CTL_PAGES_M1 n) + 1) * 4096))

/-- A region is locked while a partition of its mask is provisioned and sealed (R159). -/
def crLocked (s : State) (n : Nat) : Bool :=
  (List.range 4).any (fun p => s.bitAt (F.SYS_CR_CTL_PART n) p && s.sealedPart p)

def inCr (s : State) (a : Nat) : Bool := (List.range 8).any (fun n => crCovers s n a)
def inLockedCr (s : State) (a : Nat) : Bool := (List.range 8).any (fun n => crCovers s n a && crLocked s n)

/-- The enabled constant region through which a tile of partition p reads a constant-view address, with the depot address (R158).
Where two regions overlap in the view, which R158 calls an invalid image, the lowest-numbered is taken, and what lies beyond the
end of the depot is in no region (DESIGN CHOICE, log 63). -/
def crRegion (s : State) (p a : Nat) : Option (Nat × Nat) :=
  (List.range 8).findSome? (fun n =>
    let v := 0x100000 + s.get (F.SYS_CR_VIEW_VIEW n) * 4096
    let d := 0x10000000 + s.get (F.SYS_CR_PAGE_PAGE n) * 4096 + (a - v)
    if s.flag (F.SYS_CR_CTL_EN n) && s.bitAt (F.SYS_CR_CTL_PART n) p &&
       decide (v ≤ a ∧ a < v + (s.get (F.SYS_CR_CTL_PAGES_M1 n) + 1) * 4096) && inDepot d then
      some (n, d) else none)

def crMap (s : State) (p a : Nat) : Option Nat := (crRegion s p a).map (·.2)

end Sys2Proof.Machine
end

