-- ==== Sys2Proof/Machine/Lanes.lean ====
section
/-! DEFINITION. Lanes, tolls and junctions (06_lanes_tolls.md): lane configuration, the ports' send and receive, the
flits of the mesh, the toll audit and the lane clear. -/

namespace Sys2Proof.Machine

def zeroN (_ : Nat) : Nat := 0
def noFlit (_ : Nat) : Option Flit := none
def noFlits (_ : Nat) : List Flit := []
def noB (_ : Nat) : Bool := false

/-! ## Configuration -/

/-- The enabled lanes: a lane whose LANE_CFG has EN = 1 is listed in the register file. -/
def enabledLanes (s : State) : List Nat :=
  s.regs.filterMap (fun e =>
    if 0x40030000 ≤ e.1 ∧ e.1 < 0x40030000 + 4 * 4160 ∧ e.1 % 4 = 0 ∧ bitsOf e.2 31 31 = 1 then
      some ((e.1 - 0x40030000) / 4) else none)

/-- The lane that feeds input port `port` of core k. -/
def inLane (s : State) (k port : Nat) : Option Nat :=
  (enabledLanes s).find? (fun l => laneDst s l == k && laneDport s l == port)

/-- The lane of output port `port` of core k (R169). -/
def outLane (s : State) (k port : Nat) : Option Nat := if laneOn s (16 * k + port) then some (16 * k + port) else none

/-- The enabled lanes that partition p owns. -/
def partLanes (s : State) (p : Nat) : List Nat := (enabledLanes s).filter (fun l => laneOwner s l == some p)

/-- The junctions of an X-then-Y route, from a to b (R176). -/
def span (a b : Nat) : List Nat := if a ≤ b then (List.range (b - a + 1)).map (a + ·) else (List.range (a - b + 1)).map (a - ·)
def route (a b : Nat × Nat) : List (Nat × Nat) := (span a.1 b.1).map (·, a.2) ++ (span a.2 b.2).map (b.1, ·)

/-- R20 under the partition map in force, for a lane from core c to core d. -/
def routeOk (s : State) (c d : Nat) : Bool :=
  if c < 256 ∧ d < 256 then
    match s.quadPart (c / 64) with
    | none => false
    | some p =>
      s.quadPart (d / 64) == some p &&
      (route (coreXY c) (coreXY d) ++ route (coreXY d) (coreXY c)).all (fun xy => s.quadPart (quadOfXY xy) == some p)
  else if c < 256 then (s.quadPart (c / 64)).isSome
  else (s.quadPart (d / 64)).isSome

/-- The first failing check of R172 for enabling lane l with the given fields, 0 when none fails. `others` are the lanes
enabled beside it. -/
def laneCheck (s : State) (others : List Nat) (l dst dport base depth : Nat) : Nat :=
  let near := others.filter (fun m => m != l && laneDst s m == dst)
  if depth < 4 ∨ 256 < depth then 1
  else if 512 < base + depth then 2
  else if near.any (fun m => decide (laneBase s m < base + depth ∧ base < laneBase s m + laneDepth s m)) then 3
  else if near.any (fun m => laneDport s m == dport) then 4
  else if 260 ≤ dst ∨ (256 ≤ laneSender l ∧ 256 ≤ dst) then 5
  else if !routeOk s (laneSender l) dst then 6
  else 0

def laneErr (s : State) (cause l : Nat) : State :=
  recordErr s F.LANE_ERR_VALID [(F.LANE_ERR_CAUSE, cause), (F.LANE_ERR_LANE, l)]

/-- The settings of R174: fresh books, an empty ring, full tolls. -/
def laneSet (s : State) (l : Nat) : State :=
  let d := laneDepth s l
  let port := 16 * laneDst s l + laneDport s l
  let s := s.setReg (A.LANE_CNT_LO l) (BitVec.ofNat 64 d)
  let s := s.setReg (A.LANE_CNT_HI l) 0
  { s with mesh := { s.mesh with
      tolls := s.mesh.tolls.write zeroN l d
      rp := s.mesh.rp.write zeroN port (laneBase s l)
      occ := s.mesh.occ.write zeroN port 0
      launch := s.mesh.launch.write noFlit l none
      disable := s.mesh.disable.write noB l false } }

/-- The lanes of each partition in READY that waits are set once every net of the partition is 0 (R192). The partition is READY
meanwhile (DESIGN CHOICE, log 65). -/
def lanesSettle (s : State) : State :=
  s.mesh.readySet.foldl (fun s p =>
    if (partLanes s p).all (fun l => s.get (F.LANE_CNT_LO_DATA_NET l) == 0 && s.get (F.LANE_CNT_HI_TOLL_NET l) == 0) then
      (partLanes s p).foldl laneSet { s with mesh := { s.mesh with readySet := s.mesh.readySet.filter (· != p) } }
    else s) s

/-- A partition enters READY: its lanes are set as R174 does (R192, R219). -/
def lanesReady (s : State) (p : Nat) : State :=
  lanesSettle { s with mesh := { s.mesh with readySet := s.mesh.readySet.filter (· != p) ++ [p] } }

/-- A partition whose lane configuration is locked (R173). -/
def lanesLocked (s : State) (p : Option Nat) : Bool :=
  match p with
  | none => false
  | some p => s.pstate p == psScanning || s.pstate p == psHeld || (s.part p).coPhase != 0

def netsEmpty (s : State) (l : Nat) : Bool :=
  s.get (F.LANE_CNT_LO_DATA_NET l) == 0 && s.get (F.LANE_CNT_HI_TOLL_NET l) == 0

/-- Lane l is disabled. -/
def laneOff (s : State) (l : Nat) : State :=
  let s := s.put (F.LANE_CFG_EN l) 0
  { s with mesh := { s.mesh with disable := s.mesh.disable.write noB l false } }

/-- A write of LANE_CFG (R172, R173). A disabled lane that a service core sends has no stored owner: the written DST decides it
(DESIGN CHOICE, log 66). -/
def laneCfgWrite (s : State) (l : Nat) (v : BitVec 32) : State :=
  let w : Word := v.setWidth 64
  let en := bitsOf w 31 31 == 1
  let dst := bitsOf w 30 22
  let dport := bitsOf w 21 18
  let base := bitsOf w 17 9
  let depth := bitsOf w 8 0
  let on := laneOn s l
  let tile := if laneSender l < 256 then laneSender l else if on then laneDst s l else dst
  let owner := if tile < 256 then s.quadPart (tile / 64) else none
  if lanesLocked s owner then laneErr s 7 l
  else if on then
    if dst ≠ laneDst s l ∨ dport ≠ laneDport s l ∨ base ≠ laneBase s l ∨ depth ≠ laneDepth s l then laneErr s 7 l
    else if en then { s with mesh := { s.mesh with disable := s.mesh.disable.write noB l false } }
    else if netsEmpty s l then laneOff s l
    else { s with mesh := { s.mesh with disable := s.mesh.disable.write noB l true } }
  else if en then
    let c := laneCheck s (enabledLanes s) l dst dport base depth
    if c ≠ 0 then laneErr s c l else laneSet (s.setReg (A.LANE_CFG l) w) l
  else s.setReg (A.LANE_CFG l) w

/-- LANE_ENABLE: a write of LANE_CFG with EN = 1 (R172). -/
def execLaneEnable (l : Fin 4160) (v : BitVec 31) (s : State) : Host.Outcome State Fault Refusal :=
  .next (laneCfgWrite s l (v.setWidth 32 ||| 0x80000000#32))

/-- LANE_DISABLE: a write of LANE_CFG with EN = 0 (R173). -/
def execLaneDisable (l : Fin 4160) (v : BitVec 31) (s : State) : Host.Outcome State Fault Refusal :=
  .next (laneCfgWrite s l (v.setWidth 32))

/-- LANE_DISABLE_DONE: a waiting disable takes effect once both nets are 0 (R173). -/
def execLaneDisableDone (l : Fin 4160) (s : State) : Host.Outcome State Fault Refusal :=
  .next (if s.mesh.disable.read noB l && netsEmpty s l then laneOff s l else s)

/-! ## Ports -/

/-- A toll audit in progress holds the service-core ends of its partition's lanes (R186). -/
def auditHolds (s : State) (k l : Nat) : Bool :=
  isSc k && s.flag F.LANE_AUDIT_STATUS_BUSY && laneOwner s l == some s.mesh.auditPart

/-- The tolls an output port holds, according to the port (R130, R183). -/
def portTolls (s : State) (l : Nat) : Nat := s.mesh.tolls.read zeroN l

/-- The words an input port holds beyond its read pointer (R130, R183). -/
def portHeld (s : State) (k port : Nat) : Nat := s.mesh.occ.read zeroN (16 * k + port)

/-- Whether a send on lane l of core k may commit (R96, R181, R186, R197). -/
def canSend (s : State) (k l : Nat) : Bool :=
  decide (0 < portTolls s l) && (s.mesh.launch.read noFlit l).isNone && !s.flag (F.LANE_CNT_HI_FAULTED l) &&
  !auditHolds s k l

/-- The commit of a send: the word enters the launch register, one toll is spent (R96, R179). -/
def sendWord (s : State) (l : Nat) (v : Word) : State :=
  let s := s.put (F.LANE_CNT_LO_SEND_TOLLS l) (s.get (F.LANE_CNT_LO_SEND_TOLLS l) - 1)
  let s := s.put (F.LANE_CNT_LO_DATA_NET l) (s.get (F.LANE_CNT_LO_DATA_NET l) + 1)
  { s with mesh := { s.mesh with
      tolls := s.mesh.tolls.write zeroN l (portTolls s l - 1)
      launch := s.mesh.launch.write noFlit l (some ⟨l, v, 0, 0⟩) } }

/-- The ring word at an input port's read pointer, as an index into the receive stores. -/
def ringRead (s : State) (k port : Nat) : Nat := 512 * k + s.mesh.rp.read zeroN (16 * k + port)

/-- The commit of a receive: the read pointer advances, the word's space is freed, its toll joins the return queue
(R95, R180, R542). -/
def recvWord (s : State) (k port l : Nat) : State :=
  let i := 16 * k + port
  let off := s.mesh.rp.read zeroN i - laneBase s l
  let rp := laneBase s l + (if off + 1 < laneDepth s l then off + 1 else 0)
  let s := s.put (F.LANE_CNT_HI_RECV_HELD l) (s.get (F.LANE_CNT_HI_RECV_HELD l) - 1)
  let s := s.put (F.LANE_CNT_HI_TOLL_NET l) (s.get (F.LANE_CNT_HI_TOLL_NET l) + 1)
  { s with mesh := { s.mesh with
      rp := s.mesh.rp.write zeroN i rp
      occ := s.mesh.occ.write zeroN i (portHeld s k port - 1)
      retq := s.mesh.retq.write noFlits k (s.mesh.retq.read noFlits k ++ [⟨l, 0, 0, 0⟩]) } }

/-! ## Junctions -/

def jxy (j : Nat) : Nat × Nat := clusterXY j
def bufKey (j input : Nat) (toll : Bool) : Nat := (j * 9 + input) * 2 + (if toll then 1 else 0)
def jbufOf (s : State) (j input : Nat) (toll : Bool) : List Flit := s.mesh.jbuf.read noFlits (bufKey j input toll)
def setJbuf (s : State) (j input : Nat) (toll : Bool) (q : List Flit) : State :=
  { s with mesh := { s.mesh with jbuf := s.mesh.jbuf.write noFlits (bufKey j input toll) q } }

/-- Whether the junction of a position is powered: its quadrant's FAB domain is on (R19, R21). -/
def junctionOn (s : State) (xy : Nat × Nat) : Bool := s.bitAt F.PWR_DOM_STAT_FAB (quadOfXY xy)

/-- The core a flit travels to: a data flit to the receiver, a toll to the sender (R176). -/
def flitTarget (s : State) (toll : Bool) (f : Flit) : Nat := if toll then laneSender f.lane else laneDst s f.lane

/-- The output a flit takes at a junction (R176): along X, then along Y, then the core's port. Outputs 4–7 lead to
higher x, lower x, lower y and higher y. A flit of a lane that is not enabled, or with a bad lane number, is examined at
the output of input 4's side: it takes output 4. -/
def flitOut (s : State) (toll : Bool) (j : Nat) (f : Flit) : Nat :=
  if f.hdrErr = 2 ∨ !laneOn s f.lane then 4
  else
    let t := flitTarget s toll f
    let xy := jxy j
    let d := coreXY t
    if xy.1 < d.1 then 4 else if d.1 < xy.1 then 5 else if d.2 < xy.2 then 6 else if xy.2 < d.2 then 7 else corePort t

/-- Round-robin: the first of n candidates after `last` that satisfies a test. -/
def roundRobin (n last : Nat) (ok : Nat → Bool) : Option Nat :=
  ((List.range n).map (fun i => (last + 1 + i) % n)).find? ok

/-- The checks of R198 on a flit a junction or port has received: a corrected flit is counted and cleaned, a data word
with an uncorrectable error travels on poisoned and is reported once (mark 3), a bad or unrouted lane number is a lane
fault that discards the flit. -/
def checkFlit (s : State) (xy : Nat × Nat) (toll : Bool) (f : Flit) : State × Option Flit :=
  let s := if f.hdrErr = 1 then s.addSat F.LANE_ECC_HDR_CORR 1 else s
  if f.hdrErr = 2 then (laneFault s lfHeader none xy, none)
  else if !laneOn s f.lane then (laneFault s lfMisroute (some f.lane) xy, none)
  else
    let s := if !toll && f.dataErr == 1 then s.addSat F.LANE_ECC_DATA_CORR 1 else s
    let s := if !toll && f.dataErr == 2 then
        (match laneOwner s f.lane with
         | some p => voidIfSealed s 0x04 p
         | none => s)
      else s
    (s, some { f with hdrErr := 0, dataErr := if f.dataErr = 1 then 0 else if f.dataErr = 2 then 3 else f.dataErr })

/-- The input and the port that a round-robin takes as the last chosen before its first choice, so that input 0 and port 0
come first (DESIGN CHOICE: the spec gives no first place, log 18). -/
def lastInput (_ : Nat) : Nat := 8
def lastPort (_ : Nat) : Nat := 15

/-- A junction output's round-robin choice: the input whose head flit leaves through `out` (R176). -/
def pickInput (s : State) (j out : Nat) (toll : Bool) : Option Nat :=
  roundRobin 9 (s.mesh.jlast.read lastInput (bufKey j out toll)) (fun i =>
    match jbufOf s j i toll with
    | f :: _ => flitOut s toll j f == out
    | [] => false)

def setJlast (s : State) (j out : Nat) (toll : Bool) (i : Nat) : State :=
  { s with mesh := { s.mesh with jlast := s.mesh.jlast.write lastInput (bufKey j out toll) i } }

/-- The neighbour across an output of 4–7 and the input port a flit arrives on there. -/
def neighbour (xy : Nat × Nat) (out : Nat) : Option ((Nat × Nat) × Nat) :=
  if out = 4 then (if xy.1 < 7 then some ((xy.1 + 1, xy.2), 5) else none)
  else if out = 5 then (if 0 < xy.1 then some ((xy.1 - 1, xy.2), 4) else none)
  else if out = 6 then (if 0 < xy.2 then some ((xy.1, xy.2 - 1), 7) else none)
  else if out = 7 then (if xy.2 < 7 then some ((xy.1, xy.2 + 1), 6) else none)
  else none

/-- FLIT_HOP: junction j forwards the flit that its output `out` (0–3 for 4–7) chooses, after the checks (R176, R198). A
flit that meets no space beyond, or a domain that is off here or there, stays (R21, R176, R192). -/
def flitHop (s : State) (j out : Nat) (toll : Bool) : State :=
  match (if junctionOn s (jxy j) then pickInput s j out toll else none) with
  | none => s
  | some i =>
    match jbufOf s j i toll with
    | [] => s
    | f :: rest =>
      let bad := f.hdrErr = 2 ∨ !laneOn s f.lane
      if bad then (checkFlit (setJbuf s j i toll rest) (jxy j) toll f).1
      else
        match neighbour (jxy j) out with
        | none => s
        | some (xy, inp) =>
          let j2 := clusterAt xy.1 xy.2
          if !junctionOn s xy || decide (4 ≤ (jbufOf s j2 inp toll).length) then s
          else
            match checkFlit (setJlast (setJbuf s j i toll rest) j out toll i) (jxy j) toll f with
            | (s, some f) => setJbuf s j2 inp toll (jbufOf s j2 inp toll ++ [f])
            | (s, none) => s

/-- FLIT_HOP (R176). -/
def execFlitHop (j : Fin 64) (out : Fin 4) (toll : Bool) (s : State) : Host.Outcome State Fault Refusal :=
  .next (flitHop s j (4 + out) toll)

/-- DATA_FLIT_LAUNCH: the attachment of core k takes the word of one launch register, round-robin (R542). -/
def execDataFlitLaunch (k : CoreId) (s : State) : Host.Outcome State Fault Refusal :=
  let xy := coreXY k
  let j := clusterAt xy.1 xy.2
  let inp := corePort k
  if !junctionOn s xy || decide (4 ≤ (jbufOf s j inp false).length) then .next s
  else
    match roundRobin 16 (s.mesh.launchLast.read lastPort k) (fun p => (s.mesh.launch.read noFlit (16 * k + p)).isSome) with
    | none => .next s
    | some p =>
      match s.mesh.launch.read noFlit (16 * k + p) with
      | none => .next s
      | some f =>
        let s := { s with mesh := { s.mesh with
          launch := s.mesh.launch.write noFlit (16 * k + p) none
          launchLast := s.mesh.launchLast.write lastPort k p } }
        .next (setJbuf s j inp false (jbufOf s j inp false ++ [f]))

/-- TOLL_LAUNCH: the oldest toll of core k's return queue enters the toll network (R542). -/
def execTollLaunch (k : CoreId) (s : State) : Host.Outcome State Fault Refusal :=
  let xy := coreXY k
  let j := clusterAt xy.1 xy.2
  let inp := corePort k
  if !junctionOn s xy || decide (4 ≤ (jbufOf s j inp true).length) then .next s
  else
    match s.mesh.retq.read noFlits k with
    | [] => .next s
    | f :: rest =>
      let s := { s with mesh := { s.mesh with retq := s.mesh.retq.write noFlits k rest } }
      .next (setJbuf s j inp true (jbufOf s j inp true ++ [f]))

/-- A data flit lands at its port (R179): the word is written at the ring's write pointer and the books move. -/
def landData (s : State) (k : Nat) (f : Flit) : State :=
  let xy := coreXY k
  let l := f.lane
  if laneDst s l ≠ k then laneFault s lfMisroute (some l) xy
  else
    let port := laneDport s l
    let i := 16 * k + port
    let held := portHeld s k port
    if laneDepth s l ≤ held then laneFault s lfOverflow (some l) xy
    else
      let w := (s.mesh.rp.read zeroN i - laneBase s l + held) % laneDepth s l + laneBase s l
      let s := s.put (F.LANE_CNT_LO_DATA_NET l) (s.get (F.LANE_CNT_LO_DATA_NET l) - 1)
      let s := s.put (F.LANE_CNT_HI_RECV_HELD l) (s.get (F.LANE_CNT_HI_RECV_HELD l) + 1)
      let s := s.setEcc memStore (512 * k + w) (if f.dataErr = 0 then 0 else 2)
      { s with mesh := { s.mesh with
          store := s.mesh.store.write zero64 (512 * k + w) f.data
          poison := s.mesh.poison.write noB (512 * k + w) (f.dataErr != 0)
          occ := s.mesh.occ.write zeroN i (held + 1) } }

/-- A toll lands at its sending port (R180). -/
def landToll (s : State) (k : Nat) (f : Flit) : State :=
  let l := f.lane
  if laneSender l ≠ k then laneFault s lfMisroute (some l) (coreXY k)
  else if laneDepth s l ≤ portTolls s l then laneFault s lfTollExcess (some l) (coreXY k)
  else
    let s := s.put (F.LANE_CNT_HI_TOLL_NET l) (s.get (F.LANE_CNT_HI_TOLL_NET l) - 1)
    let s := s.put (F.LANE_CNT_LO_SEND_TOLLS l) (s.get (F.LANE_CNT_LO_SEND_TOLLS l) + 1)
    { s with mesh := { s.mesh with tolls := s.mesh.tolls.write zeroN l (portTolls s l + 1) } }

/-- The flit that the junction of core k, if its domain is on, has for the core's port leaves the mesh. -/
def landFlit (s : State) (k : Nat) (toll : Bool) : State :=
  let xy := coreXY k
  let j := clusterAt xy.1 xy.2
  match (if junctionOn s xy then pickInput s j (corePort k) toll else none) with
  | none => s
  | some i =>
    match jbufOf s j i toll with
    | [] => s
    | f :: rest =>
      match checkFlit (setJlast (setJbuf s j i toll rest) j (corePort k) toll i) xy toll f with
      | (s, some f) => if toll then landToll s k f else landData s k f
      | (s, none) => s

/-- DATA_FLIT_LAND (R179). -/
def execDataFlitLand (k : CoreId) (s : State) : Host.Outcome State Fault Refusal := .next (lanesSettle (landFlit s k false))
/-- TOLL_LAND (R180). -/
def execTollLand (k : CoreId) (s : State) : Host.Outcome State Fault Refusal := .next (lanesSettle (landFlit s k true))

/-! ## Audit and clear -/

/-- A partition is quiescent unless it scans; between a changeover waypoint and the first scan after it, it is (R185). -/
def quiescent (s : State) (p : Nat) : Bool := s.pstate p != psScanning || (s.part p).coGap

/-- The start of an audit (R186): refused with NOT_QUIESCENT (5), which the procedure of R187 tests first, or BUSY (6), else busy.
A refusal shows in RESULT and PART alone; the audit in progress keeps its partition. -/
def auditStart (s : State) (p : Nat) (host : Bool) : State × Option Nat :=
  if !quiescent s p then
    ((s.put F.LANE_AUDIT_STATUS_RESULT 5).put F.LANE_AUDIT_STATUS_PART p, some 5)
  else if s.flag F.LANE_AUDIT_STATUS_BUSY then
    ((s.put F.LANE_AUDIT_STATUS_RESULT 6).put F.LANE_AUDIT_STATUS_PART p, some 6)
  else
    let s := ((s.put F.LANE_AUDIT_STATUS_BUSY 1).put F.LANE_AUDIT_STATUS_PART p).put F.LANE_AUDIT_STATUS_CHECKED 0
    ({ s with mesh := { s.mesh with auditHost := host, auditPart := p } }, none)

/-- LANE_AUDIT_START: a write of LANE_AUDIT_CTL.START = 1 with PART (R186). -/
def execLaneAuditStart (p : Fin 4) (s : State) : Host.Outcome State Fault Refusal :=
  .next (auditStart (s.put F.LANE_AUDIT_CTL_PART p) p false).1

/-- The end of an audit (R187–R189). -/
def auditFinish (s : State) (p result lane book port checked : Nat) : State :=
  let s := ((((s.put F.LANE_AUDIT_STATUS_RESULT result).put F.LANE_AUDIT_STATUS_BUSY 0).put F.LANE_AUDIT_STATUS_PART p).put
    F.LANE_AUDIT_STATUS_CHECKED checked).put F.LANE_AUDIT_LANE_LANE lane
  let s := (s.put F.LANE_AUDIT_VALUE_BOOK book).put F.LANE_AUDIT_VALUE_PORT port
  let s := if result = 0 then s else laneFault s lfAudit (some lane) (coreXY (laneDst s lane))
  let s := s.put F.LANE_AUDIT_STATUS_DONE 1
  if s.mesh.auditHost then
    cmdDone { s with mesh := { s.mesh with auditHost := false } } (result * 2 ^ 28 + p * 2 ^ 26 + lane)
  else s

/-- The examination of the lanes in rising order, up to the first imbalance (R187). -/
def auditLanes (s : State) : List Nat → Nat → Nat × Nat × Nat × Nat × Nat
  | [], n => (0, 0, 0, 0, n)
  | l :: ls, n =>
    let st := s.get (F.LANE_CNT_LO_SEND_TOLLS l)
    let dn := s.get (F.LANE_CNT_LO_DATA_NET l)
    let rh := s.get (F.LANE_CNT_HI_RECV_HELD l)
    let tn := s.get (F.LANE_CNT_HI_TOLL_NET l)
    let held := portHeld s (laneDst s l) (laneDport s l)
    if st + dn + rh + tn ≠ laneDepth s l then (1, l, st + dn + rh + tn, 0, n + 1)
    else if st ≠ portTolls s l then (2, l, st, portTolls s l, n + 1)
    else if rh ≠ held then (3, l, rh, held, n + 1)
    else auditLanes s ls (n + 1)

/-- The mesh has drained; the lanes are examined (R187). -/
def auditDone (s : State) : State :=
  let p := s.mesh.auditPart
  if s.flag F.LANE_AUDIT_STATUS_BUSY && (partLanes s p).all (netsEmpty s) then
    let r := auditLanes s (partLanes s p) 0
    auditFinish s p r.1 r.2.1 r.2.2.1 r.2.2.2.1 r.2.2.2.2
  else s

/-- The mesh has not drained after 1,024 cycles (R187). -/
def auditStuck (s : State) : State :=
  let p := s.mesh.auditPart
  if s.flag F.LANE_AUDIT_STATUS_BUSY then
    match (partLanes s p).find? (fun l => !netsEmpty s l) with
    | some l =>
      auditFinish s p 4 l (s.get (F.LANE_CNT_LO_DATA_NET l) + s.get (F.LANE_CNT_HI_TOLL_NET l)) 0 0
    | none => s
  else s

/-- LANE_CLEAR_START: a write of LANE_CLEAR.START = 1; ignored unless PART is quiescent and no clear is busy (R192). PART stays
writable while the clear works on the partition it began with. -/
def laneClearStart (s : State) (p : Nat) : State :=
  if s.flag F.LANE_CLEAR_BUSY || !quiescent s p then s
  else { (s.put F.LANE_CLEAR_PART p).put F.LANE_CLEAR_BUSY 1 with mesh := { s.mesh with clearPart := p } }

/-- LANE_CLEAR_START (R192). -/
def execLaneClearStart (p : Fin 4) (s : State) : Host.Outcome State Fault Refusal := .next (laneClearStart s p)

/-- LANE_CLEAR_DONE: with every net of the partition 0, every enabled lane of it is set as R174 does (R192). -/
def execLaneClearDone (s : State) : Host.Outcome State Fault Refusal :=
  let p := s.mesh.clearPart
  if s.flag F.LANE_CLEAR_BUSY && (partLanes s p).all (netsEmpty s) then
    .next ((partLanes s p).foldl laneSet (s.put F.LANE_CLEAR_BUSY 0))
  else .next s

end Sys2Proof.Machine
end

