-- ==== Sys2Proof/Machine/Convoy.lean ====
section
/-! DEFINITION. Convoy (08_convoy.md): membership, the shoulder, the exchanges and decisions of a waypoint, time alignment
and the Wiath ports' events. -/

namespace Sys2Proof.Machine

/-! ## Membership -/

/-- A refusal is recorded in CVY_ERR. -/
def cvyErr (s : State) (cause op p peer : Nat) : State :=
  recordErr s F.CVY_ERR_VALID
    [(F.CVY_ERR_CAUSE, cause), (F.CVY_ERR_OP, op), (F.CVY_ERR_PART, p), (F.CVY_ERR_PEER, peer)]

def ceMode : Nat := 1
def ceDigest : Nat := 2
def ceTiming : Nat := 4
def ceState : Nat := 5
def ceNoSlot : Nat := 6
def ceLaneOpen : Nat := 7
def ceNoConverge : Nat := 8
def ceLink : Nat := 9
def ceBusy : Nat := 10

def convoyMode (s : State) : Nat := s.get F.CVY_CFG_MODE

/-- The standby that CVY_CFG names (R233). -/
def namedStandby (s : State) : Option Nat := if convoyMode s = 3 then some (s.get F.CVY_CFG_STANDBY) else none

/-- A change of ROLE raises source 272 (R269). -/
def setRole (s : State) (r : Nat) : State := if s.role = r then s else pulse (s.put F.CVY_STATE_ROLE r) 272

/-- A change of CVY_ALIGN.LOCKED raises source 267 (R269). -/
def setLocked (s : State) (v : Bool) : State :=
  if s.flag F.CVY_ALIGN_LOCKED = v then s else pulse (s.putFlag F.CVY_ALIGN_LOCKED v) 267

/-- The voter set changes: LEADER, DEGRADED and ALONE follow it, and MEMBERS_LOST is reported when it falls to one or to
none (R233, R245, R262). When the leader leaves the vote, a follower holds its trim, and a member that leads is LOCKED (R247). -/
def setVoters (s : State) (m : Nat) : State :=
  let old := (membersOf (voterMask s)).length
  let vs := membersOf m
  let lead := s.get F.CVY_STATE_LEADER
  let gone := inMask (voterMask s) lead && !inMask m lead
  let s := s.put F.CVY_STATE_VOTERS m
  let s := match vs with
    | k :: _ => s.put F.CVY_STATE_LEADER k
    | [] => s
  let s := s.putFlag F.CVY_STATE_DEGRADED (decide (2 ≤ convoyMode s ∧ vs.length = 2))
  let s := s.putFlag F.CVY_STATE_ALONE (decide (vs.length = 1))
  let s := if s.get F.CVY_STATE_LEADER = me s then
      (if inMask m (me s) then setLocked (s.put F.CVY_ALIGN_HOLDOVER 0) true else s)
    else if gone then
      (let t := s.put F.CVY_ALIGN_HOLDOVER 1
       { t with cvy := { t.cvy with measured := false } })
    else s
  if vs.length ≤ 1 ∧ vs.length < old then voidReport s 0x21 .convoy else s

/-- Whether every tile of a partition has committed WAYPT for the pending scan (R212). -/
def arrived (s : State) (p : Nat) : Bool :=
  (s.part p).live && (s.partTiles p).all (fun t => (s.core t).run == .waypt)

/-- The output vector of the scan (R248). -/
def outVector (s : State) (p : Nat) : List Word := (outWords s p).map (relWord s p)

/-- The FLAGS of this member's OUT frames (R240, R256, R258, R265): ARRIVED, DIAG, HOLD, MERGE_AT. -/
def outFlags (s : State) (p : Nat) : Nat :=
  let diag := s.bitAt F.HW_SEAL_STATUS_VALUE_VOID p || s.flag F.SYS_MEM_ERR_VALID
  1 + (if diag then 2 else 0) + (if s.flag (F.WPT_PSTATE_HOLD_PENDING p) then 4 else 0) +
  (if (s.cvy.mergeAt.read noRcpt p).isSome then 8 else 0)

/-- A voter sends its output vector once its tiles have arrived (R248); the standby keeps its own for comparison (R263). -/
def sendOut (s : State) (p : Nat) : State :=
  let x := xchg s p true
  if x.isOpen && !(s.cpart p).sent && s.pstate p == psScanning then
    let fl := outFlags s p
    let s := placeOwn s p true fl (outVector s p)
    if votesIn s p then
      let s := s.onCpart p (fun c => { c with sent := true })
      tryReceipt (sendWords s ftOut p x.wnum fl (outVector s p) (xchgFrames s p true)) p true
    else s
  else s

/-- The causes of R260. -/
def scOutDisagree : Nat := 1
def scExchange : Nat := 2
def scAlign : Nat := 3
def scFault : Nat := 4
def scDiag : Nat := 5
def scUndecided : Nat := 6
def scCommand : Nat := 7
def scHalt : Nat := 8

/-- Source, record, count, log and attention of a shoulder (R262). The record names no partition for ALIGN, COMMAND and HALT. -/
def shoulderReport (s : State) (k cause p w : Nat) : State :=
  let own := cause == scAlign || cause == scCommand || cause == scHalt
  let p := if own then 0 else p
  let w := if own then s.get (F.WPT_WNUM_WNUM 0) else w
  let s := recordErr s F.CVY_SHOULDER_REC_VALID
    [(F.CVY_SHOULDER_REC_CAUSE, cause), (F.CVY_SHOULDER_REC_MEMBER, k), (F.CVY_SHOULDER_REC_PART, p),
     (F.CVY_SHOULDER_REC_WNUM, w % 2 ^ 16)]
  let s := s.addSat F.CVY_SHOULDER_COUNT_COUNT 1
  pulse (attention (logEvent s 5 cause p) attnConvoy) (if k = me s then 263 else 264)

/-- A merge ends DONE (4) or REFUSED (5) with a cause (R266): source 266, and the completion of a host command. -/
def mergeEnd (s : State) (st cause : Nat) : State :=
  let s := pulse ((s.put F.CVY_MERGE_STATUS_STATE st).put F.CVY_MERGE_STATUS_CAUSE cause) 266
  let host := s.cvy.mergeHost
  let s := { s with cvy := { s.cvy with mergePart := none, clean := [], mergeAt := [], mergeHost := false } }
  let s := if st = 5 then cvyErr s cause 3 0 0 else s
  if host then cmdDone s (s.reg A.CVY_MERGE_STATUS).toNat else s

/-- The standby that takes the free place of a voter that leaves: it is fit, and is not leaving itself (R263). -/
def takesPlace (s : State) (m : Nat) : Option Nat :=
  s.cvy.standby.filter (fun _ => s.flag F.CVY_STATE_STANDBY_FIT && decide (m ≠ voterMask s))

/-- p's output exchange, if its close is to come, takes member k's vote; a receipt sent before is due again (R250, R263, R266). -/
def widenOut (k : Nat) (s : State) (p : Nat) : State :=
  s.onCpart p (fun c =>
    if c.out.isOpen && !c.out.closed then { c with out := { c.out with voters := c.out.voters ||| 2 ^ k, rcptSent := false } } else c)

/-- The takeover: source 265; the standby votes, and sends the vectors of the partitions that have arrived (R263). -/
def takeOver (s : State) (k : Nat) : State :=
  let s := (List.range 4).foldl (widenOut k) (pulse (s.put F.CVY_STATE_STANDBY_FIT 0) 265)
  let s := { s with cvy := { s.cvy with standby := none } }
  if k = me s then (List.range 4).foldl (fun s p => if arrived s p then sendOut s p else s) (setRole s roleVoter) else s

/-- This member's exchanges close as it leaves the convoy: its scans go on with its own captures (R261). -/
def closeExchanges (s : State) : State :=
  (List.range 4).foldl (fun s p => s.onCpart p (fun c =>
    { c with inp := { c.inp with isOpen := false, decided := c.inp.decided || c.inp.isOpen }
             out := Xchg.empty, outcome := 0, leaving := [], sent := false, hold := false, merge := false })) s

/-- This member leaves: its SHOULDER frame goes out on every port, its ROLE is SHOULDER, and its scans go on alone (R261). -/
def selfOut (s : State) (cause p w : Nat) : State :=
  closeExchanges (setRole (sendAll s ftShoulder p w 0 cause [BitVec.ofNat 64 cause]) roleShoulder)

/-- A merge ends REFUSED; the joiner goes onto the shoulder, with cause COMMAND (R266; DESIGN CHOICE, log 35). -/
def mergeRefuse (s : State) (cause : Nat) : State :=
  let s := mergeEnd s 5 cause
  if s.role = roleJoining then selfOut (shoulderReport s (me s) scCommand 0 0) scCommand 0 0 else s

/-- A voter's departure may complete what a receipt waits for (R250). -/
def retryReceipts (s : State) : State := (List.range 4).foldl (fun s p => tryReceipt (tryReceipt s p false) p true) s

/-- The members ks go onto the shoulder together, each with its cause, taking effect now (R260–R263): a fit standby takes the place of
one, and MEMBERS_LOST is reported once. -/
def shoulders (s : State) (ks : List (Nat × Nat)) (p w : Nat) : State :=
  let s := ks.foldl (fun s k => shoulderReport s k.1 k.2 p w) s
  let lead := s.get F.CVY_STATE_LEADER
  let s := if ks.any (fun k => s.cvy.standby == some k.1) then
      (let t := s.put F.CVY_STATE_STANDBY_FIT 0
       { t with cvy := { t.cvy with standby := none } })
    else s
  let m := ks.foldl (fun m k => dropMember m k.1) (voterMask s)
  let s := match takesPlace s m with
    | some k => takeOver (setVoters s (m ||| 2 ^ k)) k
    | none => if m = voterMask s then s else setVoters s m
  let s := match ks.find? (fun k => k.1 == me s) with
    | some k => selfOut s k.2 p w
    | none => s
  retryReceipts (if mergeBusy s && ks.any (fun k => k.1 == lead) then mergeRefuse s ceState else s)

/-- Member k goes onto the shoulder. -/
def shoulder (s : State) (k cause p w : Nat) : State := shoulders s [(k, cause)] p w

/-- This member goes onto the shoulder at once with a cause that no exchange decides: ALIGN, COMMAND or HALT (R257). -/
def goShoulder (s : State) (cause p : Nat) : State :=
  if inConvoy s then shoulder s (me s) cause p (s.get (F.WPT_WNUM_WNUM p)) else s

/-! ## Formation -/

/-- The formation digest (R235). -/
def formDigest (s : State) : BitVec 256 :=
  sha256 <| Config.formationBytes
    ([s.boot.digest.toNat, s.get F.CVY_CFG_MODE, s.get F.CVY_CFG_MEMBERS, s.get F.CVY_CFG_STANDBY] ++
     (List.range 4).flatMap (fun p =>
       [s.get (F.WPT_PERIOD_PERIOD p), s.get (F.WPT_GUARD_GUARD p), (s.reg (A.WPT_POLICY p)).toNat, snapLen s p,
        s.get (F.CVY_INWIN_INWIN p)]) ++
     (List.range 4).flatMap (fun p => (listedEntries s p false false ++ listedEntries s p false true).flatMap (fun e => [e.1, e.2])) ++
     s.cvy.amap.flatMap (fun e => [e.1, e.2.toNat]))

/-- The partitions that have a quadrant. -/
def assigned (s : State) : List Nat := (List.range 4).filter (fun p => s.pstate p != psNone)

/-- The ports that lead to members of the convoy. -/
def memberPorts (s : State) : List Nat := [0, 1, 2].filter (fun j => inMask (s.get F.CVY_CFG_MEMBERS) (portPeer s j))

/-- Whether a partition's timing allows a convoy (R236). -/
def timingOk (s : State) (p : Nat) : Bool :=
  let n := s.get (F.WPT_PERIOD_PERIOD p)
  let g := s.get (F.WPT_GUARD_GUARD p)
  decide (20000 ≤ n ∧ s.get (F.WPT_PHASE_PHASE p) < n ∧ 400 ≤ g ∧ g ≤ n / 2 ∧ s.get (F.CVY_INWIN_INWIN p) + 200 + g ≤ n / 2)

/-- The voters a mode needs: DUPLEX two, TRIPLEX three, TRIPLEX_STANDBY three and the standby (R233). -/
def modeMembers (m : Nat) : Nat := if m = 1 then 2 else if m = 2 then 3 else 4

/-- The voters of a formation: the members but the standby; where MEMBERS names more than the mode has voters, the lowest-numbered
(R233; DESIGN CHOICE, log 34). -/
def formVoters (s : State) : Nat :=
  let ms := s.get F.CVY_CFG_MEMBERS
  let ks := (membersOf (match namedStandby s with
    | some k => dropMember ms k
    | none => ms)).take (if convoyMode s = 1 then 2 else 3)
  ks.foldl (fun m k => m + 2 ^ k) 0

/-- The partition that a refusal of a formation request concerns: the first not READY, or whose timing does not do; else 0. -/
def formPart (s : State) (cause : Nat) : Nat :=
  ((assigned s).find? (fun p => if cause = ceTiming then !timingOk s p else cause == ceState && s.pstate p != psReady)).getD 0

/-- The refusal of a formation request that its own state gives, 0 when none (R236). -/
def formCheck (s : State) : Nat :=
  let mode := convoyMode s
  let ms := s.get F.CVY_CFG_MEMBERS
  if !(s.dev == dsProvision || s.dev == dsRun) || (assigned s).any (fun p => s.pstate p != psReady) || s.role != roleIdle
  then ceState
  else if mode = 0 ∨ 3 < mode ∨ (membersOf ms).length < modeMembers mode ∨ (mode = 3 ∧ !inMask ms (s.get F.CVY_CFG_STANDBY))
  then ceMode
  else if (assigned s).any (fun p => !timingOk s p) then ceTiming
  else 0

/-- FORM: a write of CVY_CTL.FORM = 1 (R236). -/
def cvyForm (s : State) : State :=
  let c := formCheck s
  if c = 0 then setRole s roleForming else cvyErr s c 1 (formPart s c) 0

/-- FORM (R236). -/
def execForm (s : State) : Host.Outcome State Fault Refusal := .next (cvyForm s)

def linksUp (s : State) : Bool := (memberPorts s).all (fun j => portState s j == lsUp)
def digestsAgree (s : State) : Bool := (memberPorts s).all (fun j => (s.link j).digest == formDigest s)

/-- FORM_LINK_TIMEOUT: 100 ms after the request a link is not UP (R236). -/
def execFormLinkTimeout (s : State) : Host.Outcome State Fault Refusal :=
  .next (if s.role = roleForming ∧ !linksUp s then
      cvyErr (setRole s roleIdle) ceLink 1 0 (((memberPorts s).find? (fun j => portState s j != lsUp)).elim 0 (portPeer s))
    else s)

/-- The follower's offset and its phases (R246): OFS is leader TIME less local TIME. -/
def alignTime (s : State) (ofs : BitVec 64) (ph : List (BitVec 32)) : State :=
  let s := s.setReg A.CVY_TIME_OFS ofs
  let s := (List.range 4).foldl (fun s p =>
    let n := s.get (F.WPT_PERIOD_PERIOD p)
    let v := (((ph[p]?.getD 0).toNat : Int) - ofs.toInt).emod n
    s.put (F.WPT_PHASE_PHASE p) v.toNat) s
  { s with cvy := { s.cvy with aligned := true } }

/-- Every partition's pins float until it releases as a voter (R263, R266). -/
def floatAll (s : State) : State :=
  (List.range 4).foldl (fun s p => s.onCpart p (fun c => { c with float := true })) s

/-- FORMATION_COMPLETE: every link is UP; the digests are compared, the roles set and time aligned (R236, R237, R246). The
operands are the leader's TIME less the local TIME, and the leader's phases. A member that MEMBERS names beyond the mode's voters has no
role to take: it is refused as MODE (DESIGN CHOICE, log 34). -/
def execFormationComplete (ofs : BitVec 64) (ph0 ph1 ph2 ph3 : BitVec 32) (s : State) :
    Host.Outcome State Fault Refusal :=
  if s.role = roleForming && linksUp s then
    if !digestsAgree s then
      .next (cvyErr (setRole s roleIdle) ceDigest 1 0
        (((memberPorts s).find? (fun j => (s.link j).digest != formDigest s)).elim 0 (portPeer s)))
    else
      let voters := formVoters s
      if !(inMask voters (me s) || namedStandby s == some (me s)) then .next (cvyErr (setRole s roleIdle) ceMode 1 0 0)
      else
        let s := setVoters { s with cvy := { s.cvy with standby := namedStandby s } } voters
        let s := s.putFlag F.CVY_STATE_STANDBY_FIT (namedStandby s).isSome
        let s := if namedStandby s = some (me s) then floatAll (setRole s roleStandby) else setRole s roleVoter
        let s := s.put F.HW_SEAL_STATUS_AGREE_VOID 0
        if s.get F.CVY_STATE_LEADER = me s then .next { s with cvy := { s.cvy with aligned := true } }
        else .next (alignTime s ofs [ph0, ph1, ph2, ph3])
  else .next s

/-- CVY_CTL_SHOULDER (R260). -/
def execCvyCtlShoulder (s : State) : Host.Outcome State Fault Refusal := .next (goShoulder s scCommand 0)

/-- The first live port whose peer has another digest. -/
def joinDiffers (s : State) : Option Nat :=
  (memberPorts s).find? (fun j => portLive s j && (s.link j).digest != formDigest s)

/-- JOIN: CVY_CTL.JOIN after the member is provisioned again (R237, R264); a digest that differs refuses it (R235). -/
def cvyJoin (s : State) : State :=
  if !(s.role == roleIdle || s.role == roleShoulder) || (assigned s).any (fun p => s.pstate p != psProvisioning) then
    cvyErr s ceState 2 (((assigned s).find? (fun p => s.pstate p != psProvisioning)).getD 0) 0
  else if convoyMode s = 0 ∨ 3 < convoyMode s then cvyErr s ceMode 2 0 0
  else
    match joinDiffers s with
    | some j => cvyErr s ceDigest 2 0 (portPeer s j)
    | none => floatAll (setRole { s with cvy := { s.cvy with aligned := false } } roleJoining)

/-- JOIN (R237). -/
def execJoin (s : State) : Host.Outcome State Fault Refusal := .next (cvyJoin s)

/-- ABORT: FORMING is left to IDLE, JOINING to SHOULDER (R237, R266). -/
def cvyAbort (s : State) : State :=
  if s.role = roleForming then setRole s roleIdle
  else if s.role = roleJoining then (if mergeBusy s then mergeRefuse s ceState else shoulder s (me s) scCommand 0 0)
  else s

/-- ABORT (R237). -/
def execAbort (s : State) : Host.Outcome State Fault Refusal := .next (cvyAbort s)

/-! ## Ports (R234, R241–R244) -/

/-- The payload words of this end's training frames: its member and port numbers, then its formation digest (R234, R235; DESIGN CHOICE,
log 32). -/
def trainingWords (s : State) (j : Nat) : List Word :=
  BitVec.ofNat 64 (me s + 4 * j) :: (List.range 4).map (fun i => (formDigest s).extractLsb' (64 * i) 64)

/-- RETRAIN: CVY_PORT_CTL.RETRAIN of an enabled port (R242); this end sends its training frames (R234). -/
def portRetrain (s : State) (j : Nat) : State :=
  if s.flag (F.CVY_PORT_CTL_EN j) then
    let s := s.setLink j { s.link j with training := trainingWords s j }
    setPort ((s.put (F.CVY_PORT_STATUS_PAIR0_OK j) 0).put (F.CVY_PORT_STATUS_PAIR1_OK j) 0) j lsTrain
  else s

/-- RETRAIN (R242). -/
def execRetrain (j : Fin 3) (s : State) : Host.Outcome State Fault Refusal := .next (portRetrain s j)

/-- SIGNAL_RETURN: a DOWN or DEGRADED port sees signal and retrains (R242); so does one that waits for it. -/
def execSignalReturn (j : Fin 3) (s : State) : Host.Outcome State Fault Refusal :=
  let st := portState s j
  .next (if st = lsDown ∨ st = lsDegraded ∨ st = lsDetect then portRetrain s j else s)

/-- SEND_WAKE: the wake pattern for 200 µs, 20,000 ticks (R244). -/
def portWake (s : State) (j : Nat) : State := s.setLink j { s.link j with waking := s.time.toNat + 20000 }

/-- SEND_WAKE (R244). -/
def execSendWake (j : Fin 3) (s : State) : Host.Outcome State Fault Refusal := .next (portWake s j)

/-- A write of CVY_PORT_CTL: enabling a port starts detection, disabling it takes it DOWN; RETRAIN and SEND_WAKE act. -/
def portCtlWrite (s : State) (j : Nat) (v : Word) : State :=
  let was := s.flag (F.CVY_PORT_CTL_EN j)
  let s := genericWrite s (A.CVY_PORT_CTL j) v
  let now := s.flag (F.CVY_PORT_CTL_EN j)
  let s := if now && !was then setPort s j lsDetect else if was && !now then setPort (s.setLink j { s.link j with queue := [] }) j lsDown else s
  let s := if bitsOf v 31 31 = 1 then portRetrain s j else s
  if bitsOf v 30 30 = 1 then portWake s j else s

/-- The frames that have no ACK go out again on a port that has returned, and those that wait after them (R242). Their resends count
anew (DESIGN CHOICE, log 31). -/
def portReturn (s : State) (j : Nat) : State :=
  let l := s.link j
  portSend (resendAll (s.setLink j { l with window := l.window.map (fun f => { f with tries := 0 }), busy := 0 }) j) j

/-- TRAIN: training ends with the peer's member, port and digest (R234, R235); the queued frames go out (R242). -/
def execTrain (j : Fin 3) (member : Fin 4) (port : Fin 3) (digest : BitVec 256) (s : State) :
    Host.Outcome State Fault Refusal :=
  if portState s j = lsTrain then
    let s := (s.put (F.CVY_PORT_STATUS_PEER j) member).put (F.CVY_PORT_STATUS_PEER_PORT j) port
    let s := s.setLink j { s.link j with digest := digest }
    if member.val = portPeer s j ∧ port.val + j.val = 2 then
      let s := (s.put (F.CVY_PORT_STATUS_PAIR0_OK j) 1).put (F.CVY_PORT_STATUS_PAIR1_OK j) 1
      .next (portReturn (setPort s j lsUp) j)
    else .next (setPort s j lsCableErr)
  else .next s

/-- PAIR_LOCK_LOSS: a pair is dropped (R242). -/
def execPairLockLoss (j : Fin 3) (pair : Bool) (s : State) : Host.Outcome State Fault Refusal :=
  let s := s.put (if pair then F.CVY_PORT_STATUS_PAIR1_OK j else F.CVY_PORT_STATUS_PAIR0_OK j) 0
  if !portLive s j then .next s
  else if s.flag (F.CVY_PORT_STATUS_PAIR0_OK j) || s.flag (F.CVY_PORT_STATUS_PAIR1_OK j) then
    .next (resendAll (setPort s j lsDegraded) j)
  else .next (setPort s j lsDown)

/-- FRAME_RESEND_TIMEOUT: the frame without an ACK that went out longest ago is resent (R241). -/
def execFrameResendTimeout (j : Fin 3) (s : State) : Host.Outcome State Fault Refusal :=
  match oldestSent (s.link j).window with
  | some f => .next (if portLive s j then resend s j f.seq else s)
  | none => .next s

/-- NAK: the named frame is resent (R241). -/
def execNak (j : Fin 3) (h : BitVec 60) (ok : Bool) (seq : BitVec 8) (s : State) : Host.Outcome State Fault Refusal :=
  match rxFrame s j (hdrOf h) ok false with
  | (s, true) => .next (resend s j seq.toNat)
  | (s, false) => .next s

/-! ## Frames of an exchange -/

/-- What a joiner learns of the convoy from a frame: the sender of a SNAP or OUT frame votes, and the sender of an IMAGE or MERGE frame
is the donor, which leads (R248, R264; DESIGN CHOICE, log 35). -/
def learn (s : State) (src : Nat) (donor : Bool) : State :=
  if s.role ≠ roleJoining then s
  else
    let s := if inMask (voterMask s) src then s else setVoters s (voterMask s + 2 ^ src)
    if donor then s.put F.CVY_STATE_LEADER src else s

/-- A data frame of an exchange is placed in it, or kept for it if it has not begun here (R241, R250). -/
def rxData (s : State) (j : Nat) (hd : BitVec 60) (ok out : Bool) (ws : List Word) : State :=
  let h := hdrOf hd
  match rxFrame s j h ok true with
  | (s, false) => s
  | (s, true) =>
    let s := learn s h.src false
    let x := xchg s h.part out
    if x.isOpen && x.wnum % 2 ^ 16 == h.wnum then placeData s h.part out h.src h.wnum h.index h.flags ws
    else keepEarly s h out ws

/-- SNAP: a snapshot frame (R248). -/
def execSnap (j : Fin 3) (h : BitVec 60) (ok : Bool) (ws : List Word) (s : State) : Host.Outcome State Fault Refusal :=
  .next (rxData s j h ok false ws)

/-- VERDICT: LATE or FAULT completes that member's exchange (R249). -/
def execVerdict (j : Fin 3) (hd : BitVec 60) (ok fault : Bool) (s : State) : Host.Outcome State Fault Refusal :=
  let h := hdrOf hd
  match rxFrame s j h ok false with
  | (s, false) => .next s
  | (s, true) =>
    let x := xchg s h.part true
    if x.isOpen && x.wnum % 2 ^ 16 == h.wnum then
      .next (tryReceipt (setXchg s h.part true { x with verdict := x.verdict.write nat0 h.src (if fault then 2 else 1) })
        h.part true)
    else .next s

/-- RECEIPT: completeness bits, FIT and the changeover digest of a member (R250, R267). The waypoint number tells an input
receipt from an output receipt. -/
def execReceipt (j : Fin 3) (hd : BitVec 60) (ok : Bool) (w : Word) (s : State) : Host.Outcome State Fault Refusal :=
  let h := hdrOf hd
  match rxFrame s j h ok false with
  | (s, false) => .next s
  | (s, true) =>
    let inp := (xchg s h.part false).isOpen && (xchg s h.part false).wnum % 2 ^ 16 == h.wnum
    let x := xchg s h.part (!inp)
    if x.isOpen && x.wnum % 2 ^ 16 == h.wnum then
      let s := setXchg s h.part (!inp)
        { x with rcpt := x.rcpt.write noRcpt h.src (some (bitsOf w 4 0))
                 digest := x.digest.write noW32 h.src (BitVec.ofNat 32 (bitsOf w 63 32)) }
      .next (if s.cvy.standby = some h.src then
        s.put F.CVY_STATE_STANDBY_FIT (bitsOf w 4 4) else s)
    else .next s

/-- Whether member k takes part in the convoy, as this member sees it. -/
def takesPart (s : State) (k : Nat) : Bool := inMask (voterMask s) k || s.cvy.standby == some k

/-- SHOULDER: its sender is removed at the next decision (R261); a member that makes no decisions, because it is on the shoulder or
joining, records it at once (R262). -/
def execShoulder (j : Fin 3) (hd : BitVec 60) (ok : Bool) (cause : BitVec 4) (s : State) :
    Host.Outcome State Fault Refusal :=
  let h := hdrOf hd
  match rxFrame s j h ok false with
  | (s, false) => .next s
  | (s, true) =>
    .next (if inConvoy s then
        { s with cvy := { s.cvy with gone := s.cvy.gone.filter (fun g => g.1 != h.src) ++ [(h.src, cause.toNat)] } }
      else if takesPart s h.src then shoulder s h.src cause.toNat h.part h.wnum
      else s)

/-! ## Time (R245–R247) -/

def tracking (s : State) : Bool :=
  (inConvoy s || s.role == roleShoulder || s.role == roleJoining) && s.get F.CVY_STATE_LEADER != me s

/-- TIME_EXCHANGE: every 4,096 ticks a follower asks the leader (R245). -/
def execTimeExchange (s : State) : Host.Outcome State Fault Refusal :=
  if tracking s then
    let s := [0, 1, 2].foldl (fun s j =>
      if portPeer s j = s.get F.CVY_STATE_LEADER then sendFrame s j ftTime 0 0 0 0 [s.time] else s) s
    .next { s with cvy := { s.cvy with timeDue := true } }
  else .next s

/-- A measurement in picoseconds: OFFSET saturates, LOCKED follows 16 good ones, above 20 ns FAULT is set and a voter or
the standby goes onto the shoulder (R247). -/
def measure (s : State) (off : Int) : State :=
  let was := (s.flag F.CVY_ALIGN_LOCKED, s.flag F.CVY_ALIGN_FAULT)
  let v := max (-32767) (min 32767 off)
  let s := s.put F.CVY_ALIGN_OFFSET (v.emod 65536).toNat
  let run := if -5000 ≤ off ∧ off ≤ 5000 then s.cvy.lockRun + 1 else 0
  let s := { s with cvy := { s.cvy with lockRun := min run 16, measured := true, timeDue := false } }
  let s := s.put F.CVY_ALIGN_HOLDOVER 0
  let s := if run = 0 then s.put F.CVY_ALIGN_LOCKED 0 else if 16 ≤ run then s.put F.CVY_ALIGN_LOCKED 1 else s
  let bad := decide (off < -20000 ∨ 20000 < off)
  let s := if bad then s.put F.CVY_ALIGN_FAULT 1 else s
  let s := if (s.flag F.CVY_ALIGN_LOCKED, s.flag F.CVY_ALIGN_FAULT) ≠ was then pulse s 267 else s
  if bad then goShoulder s scAlign 0 else s

/-- The trim moves so that the offset tends to 0, within ±20,000 steps of 0.01 ppm; its size is free (log 1). -/
def trim (s : State) : State :=
  let d := s.draw 16
  let x := max (-20000) (min 20000 d.1.toInt)
  d.2.put F.CVY_TRIM_TRIM (x.emod 65536).toNat

/-- The leader, as which this member answers TIME frames (R245). -/
def leads (s : State) : Bool := s.role == roleVoter && s.get F.CVY_STATE_LEADER == me s

/-- TIME: a follower's request, which the leader answers with its own TIME; or the leader's answer, with the four stamps in
picoseconds, the leader's TIME less the local TIME, and the leader's phases (R245, R246). A member that starts to track writes its
offset and phases first. -/
def execTime (j : Fin 3) (hd : BitVec 60) (ok : Bool) (t1 t2 t3 t4 ofs : BitVec 64) (ph0 ph1 ph2 ph3 : BitVec 32)
    (s : State) : Host.Outcome State Fault Refusal :=
  match rxFrame s j (hdrOf hd) ok false with
  | (s, false) => .next s
  | (s, true) =>
    if tracking s && portPeer s j == s.get F.CVY_STATE_LEADER then
      let s := if s.cvy.aligned then s else alignTime s ofs [ph0, ph1, ph2, ph3]
      .next (measure (trim s) (((t2.toInt - t1.toInt) - (t4.toInt - t3.toInt)) / 2))
    else if leads s then .next (sendFrame s j ftTime 0 0 0 0 [s.time])
    else .next s

/-! ## Decisions (R249–R256) -/

/-- The receipts are full: one from every voter with all voter bits set (R250). -/
def receiptsFull (s : State) (p : Nat) (out : Bool) : Bool :=
  let x := xchg s p out
  let v := x.voters &&& pvoters s p
  (membersOf v).all (fun k => match x.rcpt.read noRcpt k with
    | some b => b &&& v == v
    | none => false)

/-- Whether the pair (i, j) of voters is broken, as this member sees it (R251). -/
def broken (s : State) (p : Nat) (out : Bool) (i j : Nat) : Bool :=
  let x := xchg s p out
  let lacks (a b : Nat) : Bool := match x.rcpt.read noRcpt a with
    | some r => !inMask r b
    | none => false
  (me s == i && !complete s p out j) || (me s == j && !complete s p out i) || lacks i j || lacks j i

def voterPairs (v : Nat) : List (Nat × Nat) :=
  (membersOf v).flatMap (fun i => ((membersOf v).filter (fun j => decide (i < j))).map (fun j => (i, j)))

/-- The voter in the most broken pairs; on a tie the higher number (R251). -/
def worst (v : Nat) (b : List (Nat × Nat)) : Nat :=
  ((membersOf v).foldl (fun m k =>
    let n := (b.filter (fun q => q.1 == k || q.2 == k)).length
    if m.2 ≤ n then (k, n) else m) (0, 0)).1

/-- The procedure of R251: the members it removes, in order. -/
def decideVoters (s : State) (p : Nat) (out : Bool) : Nat → Nat → List Nat
  | 0, _ => []
  | n + 1, v =>
    let b := (voterPairs v).filter (fun q => broken s p out q.1 q.2)
    if b.isEmpty then []
    else
      let k := worst v b
      k :: decideVoters s p out n (dropMember v k)

/-- The shoulders of a decision: at an input decision now, at an output decision at the next release (R257). -/
def shoulderAt (s : State) (p : Nat) (out : Bool) (k cause : Nat) : State :=
  if out then s.onCpart p (fun c => { c with leaving := c.leaving ++ [(k, cause)] })
  else shoulder s k cause p (xchg s p false).wnum

/-- The voters of an exchange at its decision: members whose SHOULDER frame has come leave first, then R251 decides. The
standby that lacks an exchange or a receipt clears its FIT (R251). -/
def exchangeVoters (s : State) (p : Nat) (out : Bool) : State × Nat :=
  let v := (xchg s p out).voters &&& pvoters s p
  let gone := s.cvy.gone
  let s := gone.foldl (fun s g => if takesPart s g.1 then shoulder s g.1 g.2 p (xchg s p out).wnum else s) s
  let s := { s with cvy := { s.cvy with gone := [] } }
  let v := gone.foldl (fun v g => dropMember v g.1) v
  let s := if s.role = roleStandby ∧ ((membersOf v).any (fun k =>
      !complete s p out k || ((xchg s p out).rcpt.read noRcpt k).isNone)) then s.put F.CVY_STATE_STANDBY_FIT 0 else s
  let out' := decideVoters s p out 4 v
  (out'.foldl (fun s k => shoulderAt s p out k scExchange) s, out'.foldl dropMember v)

/-! ### Input agreement (R252) -/

/-- The sort key of MEDIAN. -/
def medianKey (key : Nat) (w : Word) : Int :=
  if key = 0 then w.toInt
  else if key = 1 then (w.setWidth 32).toInt
  else if key = 2 then (if w.msb then (2 ^ 64 - 1 - w.toNat : Int) else (w.toNat : Int) + 2 ^ 63)
  else w.toNat

def insertByKey (key : Nat) (w : Word) : List Word → List Word
  | [] => [w]
  | y :: ys => if medianKey key y ≤ medianKey key w then y :: insertByKey key w ys else w :: y :: ys

/-- A word that at least two of the words are, if there is one. -/
def majority (x : List Word) : Option Word := x.find? (fun w => decide (2 ≤ (x.filter (· == w)).length))

/-- The agreed word of one entry, and whether none was agreed (R252). -/
def agreeWord (e : BitVec 32) (x : List Word) : Word × Bool :=
  let tie := e.getLsbD 6
  let rule := e.toNat % 16
  let pick (y : List Word) (i : Nat) : Word := (y[i]?).getD 0
  if rule = 0 then
    match x with
    | [w] => (w, false)
    | _ => match majority x with
      | some w => (w, false)
      | none => (pick x 0, true)
  else if rule = 1 then
    let y := x.foldl (fun y w => insertByKey (e.toNat / 16 % 4) w y) []
    (if y.length = 3 then pick y 1 else if y.length = 2 then (if tie then pick y 1 else pick y 0) else pick y 0, false)
  else
    (match x with
     | [a, b, c] => (a &&& b) ||| (a &&& c) ||| (b &&& c)
     | [a, b] => if tie then a ||| b else a &&& b
     | _ => pick x 0, false)

/-- The field of CVY_IN_DIS that counts member k. -/
def inDis (p k : Nat) : Loc :=
  if k = 0 then F.CVY_IN_DIS_M0 p else if k = 1 then F.CVY_IN_DIS_M1 p else if k = 2 then F.CVY_IN_DIS_M2 p else F.CVY_IN_DIS_M3 p

/-- The partition's snapshot buffer that the tiles do not see, as a base in the snapshot storage. -/
def hiddenSnap (s : State) (p : Nat) : Nat := (2 * p + (if (s.part p).vis then 0 else 1)) * 4096

/-- The buffer of the pending scan, which the agreed words complete (R254). -/
def scanSnap (s : State) (p : Nat) : Nat := (2 * p + (if (s.part p).vis then 1 else 0)) * 4096

def setSnapWord (s : State) (key : Nat) (w : Word) : State :=
  { s with wpt := { s.wpt with snap := s.wpt.snap.write zero64 key w } }

/-- Agree on entry i with the voters vs: count the disagreements, report a missing majority, store the word (R252, R254). -/
def agreeEntry (s : State) (p : Nat) (vs : List Nat) (i : Nat) : State :=
  let e := s.cvy.amap.read noW32 (4096 * p + i)
  let x := vs.map (fun k => (xchg s p false).words.read zero64 (4096 * k + i))
  let r := agreeWord e x
  let s := if r.2 then pulse (voidReport (s.addSat (F.CVY_NOMAJ_IN p) 1) 0x20 .convoy) 269 else s
  let s := if e.toNat % 16 = 1 then s
    else (vs.zip x).foldl (fun s kw =>
      if kw.2 = r.1 then s
      else
        let first := s.reg (A.CVY_IN_DIS p) == 0
        let s := s.addSat (inDis p kw.1) 1
        if first then pulse s 268 else s) s
  setSnapWord s (scanSnap s p + i) r.1

/-- A changeover in a convoy stands only if every voter's receipt carries the same digest at the input decision of the
waypoint before (R267). -/
def coConvoyCheck (s : State) (p : Nat) (vs : List Nat) : State :=
  let x := xchg s p false
  if s.flag (F.WPT_PSTATE_CO_PENDING p) && (s.reg (A.WPT_CO_WNUM p)).toNat == x.wnum + 1 then
    let d := coDigest s p
    if d ≠ 0 ∧ vs.all (fun k => x.digest.read noW32 k == d) then s.onCpart p (fun c => { c with coOk := true })
    else pulse (coEnd s p 3 8 x.wnum) 271
  else s

def tickOfLast (s : State) (p : Nat) : Nat := (s.reg (A.WPT_NEXT p)).toNat - s.get (F.WPT_PERIOD_PERIOD p)

/-- INPUT_CLOSE: receipts not yet sent go out (R249, R250). -/
def execInputClose (p : Fin 4) (s : State) : Host.Outcome State Fault Refusal :=
  let x := xchg s p false
  if x.isOpen then
    let s := if x.rcptSent then s else sendReceipt s p false
    .next (setXchg s p false { xchg s p false with closed := true })
  else .next s

/-- INPUT_DECISION (R250–R254). -/
def execInputDecision (p : Fin 4) (s : State) : Host.Outcome State Fault Refusal :=
  let x := xchg s p false
  if x.isOpen && !x.decided && (x.closed || receiptsFull s p false) then
    let (s, v) := exchangeVoters s p false
    if inConvoyP s p then
      let vs := membersOf v
      let s := (List.range (snapLen s p)).foldl (fun s i => agreeEntry s p vs i) s
      let s := coConvoyCheck s p vs
      let s := s.put (F.CVY_XSTAT_IN_DONE p) (min 65535 (s.time.toNat - tickOfLast s p))
      .next (setXchg s p false { xchg s p false with decided := true, isOpen := false })
    else .next s
  else .next s

/-! ### Output vote (R255, R256) -/

/-- A late waypoint is counted in its guard cycle, or at the joint decision (R214–R216). -/
def lateWaypoint (s : State) (p : Nat) : State :=
  let s := s.addSat (F.WPT_LATE_COUNT_COUNT p) 1
  let s := s.addSat ⟨A.HW_WPT_LATE, 8 * p + 7, 8 * p⟩ 1
  let s := s.addSat (F.WPT_PSTATE_LATE_RUN p) 1
  let s := pulse (attention s attnWptLate) (277 + p)
  if s.flag (F.WPT_POLICY_FAULT_ON_LATE p) && s.get (F.WPT_PSTATE_LATE_RUN p) == s.get (F.WPT_POLICY_K p) then
    let ft := (s.partTiles p).find? (fun t => (s.core t).run != .waypt || !(s.part p).live)
    partitionFault s p pfLate (ft.map (fun t => ⟨t, (s.core t).pc.toNat, 0, 0, false⟩))
  else s

def onTimeWaypoint (s : State) (p : Nat) : State := s.put (F.WPT_PSTATE_LATE_RUN p) 0

/-- The progress of a vote: the members that differ, an undecided word, a two-voter mismatch, and the voted words. -/
structure Vote where
  bad : List Nat
  undecided : Bool
  mismatch : Bool
  words : Tab Word
  deriving DecidableEq, Repr

def voteWord (s : State) (p : Nat) (vs : List Nat) (r : Vote) (i : Nat) : Vote :=
  let word (k : Nat) : Word := (xchg s p true).words.read zero64 (4096 * k + i)
  match vs with
  | [a, b] =>
    { r with mismatch := r.mismatch || word a != word b, words := r.words.write zero64 i (word a) }
  | [_, _, _] =>
    match majority (vs.map word) with
    | none => { r with undecided := true }
    | some m =>
      { r with bad := r.bad ++ vs.filter (fun k => word k != m && !r.bad.contains k),
               words := r.words.write zero64 i m }
  | k :: _ => { r with words := r.words.write zero64 i (word k) }
  | [] => r

def memberWords (s : State) (p k n : Nat) : Tab Word :=
  (List.range n).foldl (fun t i => t.write zero64 i ((xchg s p true).words.read zero64 (4096 * k + i))) []

def setOutcome (s : State) (p n : Nat) (ws : Tab Word) : State :=
  s.onCpart p (fun c => { c with outcome := n, voted := ws })

/-- Every voter goes onto the shoulder: no vector is agreed (R256). -/
def undecidedVote (s : State) (p : Nat) (vs : List Nat) : State :=
  let s := vs.foldl (fun s k => shoulderAt s p true k scUndecided) s
  setOutcome (pulse (voidReport (s.addSat (F.CVY_NOMAJ_OUT p) 1) 0x20 .convoy) 269) p 3 []

/-- The vote of R256 among the voters vs. -/
def voteOutputs (s : State) (p : Nat) (vs : List Nat) : State :=
  let n := xchgLen s p true
  let r := (List.range n).foldl (voteWord s p vs) ⟨[], false, false, []⟩
  if r.undecided then undecidedVote s p vs
  else if r.mismatch then
    match vs.filter (fun k => (xchg s p true).flags.read nat0 k / 2 % 2 == 1) with
    | [d] =>
      let other := (vs.find? (· != d)).getD d
      setOutcome (shoulderAt s p true d scDiag) p 1 (memberWords s p other n)
    | _ => undecidedVote s p vs
  else
    let s := r.bad.foldl (fun s k => shoulderAt s p true k scOutDisagree) s
    -- the standby compares its own vector with the voted one (R263)
    let s := if s.role = roleStandby ∧ (List.range n).any (fun i =>
        r.words.read zero64 i != (xchg s p true).words.read zero64 (4096 * me s + i)) then
        s.put F.CVY_STATE_STANDBY_FIT 0 else s
    setOutcome s p 1 r.words

/-- The output window of the next waypoint opens (R248, R249). -/
def openOut (s : State) (p w : Nat) : State :=
  takeEarly (s.onCpart p (fun c => { c with out := { Xchg.empty with isOpen := true, wnum := w, voters := pvoters s p }, sent := false })) p true

/-- OUTPUT_CLOSE (R249). The voters of the window are those whose close this is (R263). -/
def execOutputClose (p : Fin 4) (s : State) : Host.Outcome State Fault Refusal :=
  let x := xchg s p true
  if x.isOpen then
    let s := setXchg s p true { x with voters := pvoters s p, closed := true }
    .next (if x.rcptSent then s else sendReceipt s p true)
  else .next s

/-- The joint decision of the output window: faults, lateness, then the vote (R255, R256, R258). -/
def outputDecision (s : State) (p : Nat) : State :=
  let x := xchg s p true
  let (s, v) := exchangeVoters s p true
  let close := (s.reg (A.WPT_NEXT p)).toNat - 300
  let s := s.put (F.CVY_XSTAT_OUT_SLACK p) (min 65535 (close - s.time.toNat))
  let s := setXchg s p true { xchg s p true with decided := true, isOpen := false }
  let s := s.onCpart p (fun c => { c with
    hold := (membersOf v).any (fun k => x.flags.read nat0 k / 4 % 2 == 1)
    merge := (membersOf v).any (fun k => x.flags.read nat0 k / 8 % 2 == 1) })
  let verdict (k : Nat) : Nat := (xchg s p true).verdict.read nat0 k
  let vs := membersOf v
  if vs.isEmpty then setOutcome s p 3 []
  else if vs.all (fun k => verdict k == 2) then
    let d := s.draw 4
    setOutcome (partitionFault d.2 p d.1.toNat none) p 3 []
  else
    let s := (vs.filter (fun k => verdict k == 2)).foldl (fun s k => shoulderAt s p true k scFault) s
    let vs := vs.filter (fun k => verdict k != 2)
    if vs.any (fun k => verdict k == 1) then
      let s := lateWaypoint (setOutcome s p 2 []) p
      let s := openOut s p (x.wnum + 1)
      if arrived s p then sendOut s p else s
    else voteOutputs (onTimeWaypoint s p) p vs

/-- OUTPUT_DECISION (R255). -/
def execOutputDecision (p : Fin 4) (s : State) : Host.Outcome State Fault Refusal :=
  let x := xchg s p true
  if x.isOpen && !x.decided && (x.closed || receiptsFull s p true) then .next (outputDecision s p) else .next s

/-! ## The agreement map (R252, R253, R268) -/

def amapLocked (s : State) (p : Nat) : Bool := s.role != roleIdle || !(s.pstate p != psScanning && s.pstate p != psHeld)

def nextAmap (s : State) : State := s.put F.CVY_AMAP_ADDR_INDEX (s.get F.CVY_AMAP_ADDR_INDEX + 1)

/-- AMAP_DATA_WRITE: an entry, written only while ROLE is IDLE and in the states of R211; INDEX advances. -/
def amapWrite (s : State) (v : BitVec 32) : State :=
  let p := s.get F.CVY_AMAP_ADDR_PART
  let i := s.get F.CVY_AMAP_ADDR_INDEX
  let s := if amapLocked s p then cvyErr s ceState 5 p 0
    else { s with cvy := { s.cvy with amap := s.cvy.amap.write noW32 (4096 * p + i) v } }
  nextAmap s

/-- AMAP_DATA_WRITE (R268). -/
def execAmapDataWrite (v : BitVec 32) (s : State) : Host.Outcome State Fault Refusal := .next (amapWrite s v)

/-- AMAP_DATA_READ: the entry; INDEX advances. -/
def amapRead (s : State) : BitVec 32 × State :=
  (s.cvy.amap.read noW32 (4096 * s.get F.CVY_AMAP_ADDR_PART + s.get F.CVY_AMAP_ADDR_INDEX), nextAmap s)

/-- AMAP_DATA_READ (R268). -/
def execAmapDataRead (s : State) : Host.Outcome State Fault Refusal := .next (readOut (amapRead s))

/-- A write of CVY_CFG: only while ROLE is IDLE (R268); a MODE above 3 is refused as MODE (R233). -/
def cvyCfgWrite (s : State) (v : Word) : State :=
  if s.role ≠ roleIdle then cvyErr s ceState 5 0 0
  else if 3 < bitsOf v 2 0 then cvyErr s ceMode 5 0 0
  else genericWrite s A.CVY_CFG v

/-- A write of CVY_ALIGN: clearing FAULT raises source 267 (R269). -/
def cvyAlignWrite (s : State) (v : Word) : State :=
  let t := genericWrite s A.CVY_ALIGN v
  if t.flag F.CVY_ALIGN_FAULT = s.flag F.CVY_ALIGN_FAULT then t else pulse t 267

/-- A write of CVY_INWIN: in the states of R202, 200 to 32,767 ticks; else ignored. -/
def inwinWrite (s : State) (p : Nat) (v : Word) : State :=
  if s.pstate p = psScanning ∨ s.pstate p = psHeld ∨ bitsOf v 14 0 < 200 then s else genericWrite s (A.CVY_INWIN p) v

/-- A write of CVY_CTL: each bit that is 1 acts, from bit 31 down. -/
def cvyCtlWrite (s : State) (v : Word) : State :=
  let s := if bitsOf v 31 31 = 1 then cvyForm s else s
  let s := if bitsOf v 30 30 = 1 then goShoulder s scCommand 0 else s
  let s := if bitsOf v 29 29 = 1 then cvyJoin s else s
  if bitsOf v 28 28 = 1 then cvyAbort s else s

end Sys2Proof.Machine
end

