-- ==== Sys2Proof/Machine/Laybuf.lean ====
section
/-! DEFINITION. The layby buffer (R452–R456) and the arming of waypoints (R64–R66, R465). -/

namespace Sys2Proof.Machine

/-- The completed half of tile t, or of the service-core area (256). -/
def layTop (s : State) (t : Nat) : Nat := s.lay.top.read nat0 t
def layWord (s : State) (half i : Nat) : Word := s.lay.buf.read Config.laybyRam (32768 * half + i)
def layPoisoned (s : State) (half i : Nat) : Bool := s.lay.poison.read noB (32768 * half + i)

/-- A word enters the filling half of unit t: poisoned if it shows an uncorrectable error; beyond 16 marks POISON_OVF is
set (R456). -/
def layPut (s : State) (t i : Nat) (w : Word) (bad : Bool) : State :=
  let h := 1 - layTop s t
  let key := 32768 * h + i
  let s := { s with lay := { s.lay with buf := s.lay.buf.write Config.laybyRam key w, poison := s.lay.poison.write noB key false } }
  if !bad then s
  else if s.lay.poison.length < 16 then
    { s with lay := { s.lay with poison := s.lay.poison.write noB key true } }
  else
    { s.put F.LAY_STAT_POISON_OVF 1 with
      lay := { s.lay with overMarks := if s.lay.overMarks.contains (2 * t + h) then s.lay.overMarks
                                       else s.lay.overMarks ++ [2 * t + h] } }

/-- The word of an array that lies at a enters the filling half: a correctable error is corrected and counted, an uncorrectable one
reported for the layby engine (INIT 5) and copied as read (R168, R456). -/
def layTake (s : State) (t i arr a : Nat) : State :=
  let m := s.eccOf arr (a / 8)
  let s := if m = 2 then memError s arr 5 0 a else if m = 1 then countCorrected (s.setEcc arr (a / 8) 3) else s
  layPut s t i (BitVec.ofNat 64 (s.bytes a 8)) (m == 2)

/-- The filling half of unit t is replaced: its overflow goes with it (R456). -/
def layFresh (s : State) (t : Nat) : State :=
  let m := s.lay.overMarks.filter (· != 2 * t + (1 - layTop s t))
  let s := { s with lay := { s.lay with overMarks := m } }
  if m.isEmpty then s.put F.LAY_STAT_POISON_OVF 0 else s

/-- The copy of a tile's keep region after its WAYPT commits (R453): k bytes at the end of its 512, zero below (R452). -/
def layCopy (s : State) (t : Nat) : State :=
  let n := 8 * s.get (F.SYS_TILE_CFG_KEEP t)
  (List.range 64).foldl (fun s j =>
    let a := 0x20000000 + 0x10000 * t + 0xFE00 + 8 * j
    if 64 ≤ n + j then layTake s t (64 * t + j) memTile a
    else layPut s t (64 * t + j) 0 false) (layFresh s t)

/-- The halves of unit t swap. -/
def layFlip (s : State) (t : Nat) : State :=
  { s with lay := { s.lay with top := s.lay.top.write nat0 t (1 - layTop s t) } }

/-- A release of p: its tiles swap halves and BUF_VALID shows the scan (R454). -/
def laySwap (s : State) (p w : Nat) : State :=
  let s := (s.partTiles p).foldl layFlip s
  { s.putBit F.LAY_STAT_BUF_VALID p true with lay := { s.lay with wnum := s.lay.wnum.write nat0 p w } }

/-- The service-core keep area is copied as it stands in the release cycle (R455). A release that finds the copy before it still
running starts it anew (DESIGN CHOICE, log 44). -/
def layScStart (s : State) (p w : Nat) : State :=
  if s.flag F.LAY_CTL_SC_EN && s.get F.LAY_CTL_SC_PART == p then
    let s := (List.range 2048).foldl (fun s i => layTake s 256 (16384 + i) memDepot (0x10FFC000 + 8 * i)) (layFresh s 256)
    { s with lay := { s.lay with scBusy := true, scWnum := w } }
  else s

/-- SC_KEEP_COPY_DONE: the service-core halves swap, SC_VALID is set and the waypoint number recorded (R455). -/
def execScKeepCopyDone (s : State) : Host.Outcome State Fault Refusal :=
  if s.lay.scBusy then
    let w := s.lay.scWnum
    let s := layFlip s 256
    let s := (s.put F.LAY_STAT_SC_VALID 1).put F.LAY_STAT_SC_WNUM (w % 16)
    .next { s with lay := { s.lay with scBusy := false, wnum := s.lay.wnum.write nat0 4 w } }
  else .next s

/-- The slots that are free and not being prepared. -/
def layFreeSlots (s : State) : List Nat :=
  (List.range 8).filter (fun j => s.bitAt F.LAY_STAT_FREE j && s.lay.prepSlot != some j)

/-- The arming of an instant, with the VHOLD comparator's result (R64, R465): a run of unarmed waypoints is one voiding event
(R66). -/
def layArm (s : State) (vhold : Bool) : State :=
  let slot := !(layFreeSlots s).isEmpty
  let armed := vhold && slot && s.flag F.LAY_CTL_EN
  let s := (s.putFlag F.LAY_STAT_ARMED armed).putFlag F.HW_SEAL_STATUS_LAYBY_ARMED armed
  if armed then { s with lay := { s.lay with unarmedRun := false } }
  else
    let s := (s.put F.HW_SEAL_STATUS_LAYBY_VOID 1).put F.LAY_IRQ_NOT_ARMED 1
    if s.lay.unarmedRun then s
    else voidReport { s with lay := { s.lay with unarmedRun := true } } (if slot then 0x30 else 0x31) .device

end Sys2Proof.Machine
end

