-- ==== Sys2Proof/Machine/Wake.lean ====
section
/-! DEFINITION. The refusal of a power state (R442) and the wake sources (R445–R447), which several blocks raise. -/

namespace Sys2Proof.Machine

/-- The reason codes of R449. -/
def prState : Nat := 0x01
def prNoWake : Nat := 0x02
def prWakePending : Nat := 0x03
def prTimeout : Nat := 0x04
def prBusy : Nat := 0x05
def prFlashBusy : Nat := 0x10
def prXspBusy : Nat := 0x11
def prEngines : Nat := 0x12
def prInService : Nat := 0x13
def prDmaBusy : Nat := 0x14
def prLaybyBusy : Nat := 0x15
def prDebug : Nat := 0x16
def prVidLow : Nat := 0x20
def prRange : Nat := 0x21
def prNotLocked : Nat := 0x22
def prInUse : Nat := 0x23
def prVrdyTimeout : Nat := 0x30
def prLockLost : Nat := 0x31
def prClockMon : Nat := 0x32
def prThermWarn : Nat := 0x40
def prThermLimit : Nat := 0x41

/-- The sleep states (R439). -/
def slDoze : Nat := 1
def slNap : Nat := 2
def slHibernate : Nat := 3

/-- The records of a refused entry (R442): an event log entry of class 9, HS_REFUSED, and the end of a host SLEEP. -/
def hsRecord (s : State) (code block : Nat) (host : Bool) : State :=
  let s := (s.put F.PWR_HS_STAT_BLOCK block).put F.PWR_HS_STAT_CODE code
  let s := logEvent (s.put F.HW_POWER_STATE_REFUSE code) 9 code 0
  let s := s.put F.PWR_IRQ_HS_REFUSED 1
  if host then cmdDone s code else s

/-- The handshake in progress ends in a refusal. -/
def hsRefuse (s : State) (code block : Nat) (host : Bool) : State :=
  hsRecord { s.put F.PWR_HS_STAT_BUSY 0 with pwr := { s.pwr with hs := none } } code block host

/-- Whether wake source b acts (R445): its bit of PWR_WAKE_EN, and in DOZE the host chip select whatever that holds. -/
def wakeEnabled (s : State) (b : Nat) : Bool :=
  s.bitAt F.PWR_WAKE_EN_EN b || (b == 5 && s.dev == dsSleep && s.pwr.mode == slDoze)

/-- PWR_AON_CNT as the AON clock has brought it (log 1): no rule relates it to what the model counts. -/
def aonCount (s : State) : State :=
  let c := s.draw 32
  c.2.put F.PWR_AON_CNT_VALUE c.1.toNat

/-- The record of a wake: HW_WAKE_CAUSE, HW_POWER_STATE.LAST and PWR_SLEEP_TIME (R444, R445, R447). -/
def wakeRecord (s : State) (b line : Nat) : State :=
  let s := s.setReg A.HW_WAKE_CAUSE (BitVec.ofNat 64 (2 ^ b + (if b = 3 then 256 * (line % 64) else 0)))
  let s := aonCount (s.put F.HW_POWER_STATE_LAST s.pwr.mode)
  s.setReg A.PWR_SLEEP_TIME (((s.reg A.PWR_AON_CNT).setWidth 32 - s.pwr.aonAt).setWidth 64)

/-- A wake source registers (R442, R445–R447): a handshake is refused with WAKE_PENDING, DOZE ends in the state it left, and a
wake from NAP or HIBERNATE starts the ramp. After DOZE no engine steps before the next tick (R324). -/
def wakeSource (s : State) (b line : Nat) : State :=
  if !wakeEnabled s b then s
  else
    match s.pwr.hs with
    | some h => hsRefuse s prWakePending 0 h.host
    | none =>
      if s.dev ≠ dsSleep ∨ s.pwr.waking then s
      else
        let s := wakeRecord s b line
        if s.pwr.mode = slDoze then
          { (s.put F.HW_STATE_STATE s.pwr.before).put F.PWR_IRQ_WOKE 1 with
            pwr := { s.pwr with mode := 0 }
            eng := s.eng.map (fun e => (e.1, { e.2 with lastStep := some s.time.toNat })) }
        else { s with pwr := { s.pwr with waking := true } }

end Sys2Proof.Machine
end

