-- ==== Sys2Proof/Machine/Pins.lean ====
section
/-! DEFINITION. Pins and ownership (11_pins.md): owners, masked writes, function priority, event lines and pads. -/

namespace Sys2Proof.Machine

/-- Who drives or configures a pin: an initiator, the release of a partition, or an engine (PIN_ERR.SRC). -/
inductive PinSrc where
  | agent (a : Agent)
  | release (p : Nat)
  | engine (e : Nat)
  deriving DecidableEq, Repr

def PinSrc.code : PinSrc → Nat × Nat
  | .agent (.sc k) => (0, k)
  | .agent (.dma g) => (1, 32 + g)
  | .agent .host => (2, 0)
  | .agent .debug => (2, 0)
  | .release p => (3, p)
  | .engine e => (4, e)

def engReset (_ : Nat) : Engine where
  tx := []
  rx := []
  ctrl := 0
  outv := 0
  drive := false
  prev := none
  startAt := none
  lastStep := none

def State.engine (s : State) (e : Nat) : Engine := s.eng.read engReset e
def State.setEngine (s : State) (e : Nat) (x : Engine) : State := { s with eng := s.eng.write engReset e x }
def State.onEngine (s : State) (e : Nat) (f : Engine → Engine) : State := s.setEngine e (f (s.engine e))

/-- A partition whose pins and engines may be configured (R302, R327). -/
def configurable (s : State) (p : Nat) : Bool := s.pstate p != psScanning && s.pstate p != psHeld

def pinOwner (s : State) (n : Nat) : Nat := s.get (F.PIN_CFG_OWNER n)
def engOwner (s : State) (e : Nat) : Nat := s.get (F.IOS_OWNER_OWNER e)

/-- The partition an owner code names (R327, R300). -/
def ownerPart (o : Nat) : Option Nat := if 8 ≤ o ∧ o ≤ 11 then some (o - 8) else none

/-- Whether a PIN_OUT or PIN_DIR bit of pin n is accepted from a source (R327). -/
def pinAccepts (s : State) (src : PinSrc) (n : Nat) (dir : Bool) : Bool :=
  let o := pinOwner s n
  match src with
  | .agent .debug => s.get F.DBG_LEVEL_LEVEL == 2
  | .agent (.sc k) =>
    o == 0 || o == k.val + 1 ||
    (dir && (match ownerPart o with
      | some p => configurable s p
      | none => false))
  | .agent (.dma _) => decide (o ≤ 4)
  | .agent .host => o == 0
  | .release p => o == 8 + p
  | .engine e => o == engOwner s e && decide (o ≤ 11)

def pinErr (s : State) (cause : Nat) (src : PinSrc) (n : Nat) : State :=
  recordErr s F.PIN_ERR_VALID
    [(F.PIN_ERR_CAUSE, cause), (F.PIN_ERR_SRC, src.code.1), (F.PIN_ERR_ID, src.code.2), (F.PIN_ERR_PIN, n)]

/-- A non-owner write is recorded and counted once, naming its lowest refused pin (R329). -/
def notOwner (s : State) (src : PinSrc) (n : Nat) : State := (pinErr s 1 src n).addSat F.PIN_NOWN_COUNT_COUNT 1

/-- Refuse a list of pins as one write, if there is any. -/
def refusePins (s : State) (src : PinSrc) (ps : List Nat) : State :=
  match ps.min? with
  | some n => notOwner s src n
  | none => s

/-- A masked write (R330): bits of the half of bank b take the value where the mask is 1 and the writer is accepted. -/
def maskedWrite (s : State) (src : PinSrc) (b : Nat) (hi dir : Bool) (w : Nat) : State :=
  let base := if hi then 16 else 0
  let js := (List.range 16).filter (fun j => w / 2 ^ (16 + j) % 2 == 1)
  let ok := js.filter (fun j => pinAccepts s src (32 * b + base + j) dir)
  let bad := (js.filter (fun j => !pinAccepts s src (32 * b + base + j) dir)).map (fun j => 32 * b + base + j)
  let l := if dir then F.PIN_DIRV_DIR b else F.PIN_OUTV_LATCH b
  refusePins (ok.foldl (fun s j => s.putBit l (base + j) (w / 2 ^ j % 2 == 1)) s) src bad

/-! ## Functions (R333, R334) -/

/-- The slots of a group, in ascending order (R320). -/
def slotsOf (m : Nat) : List Nat := (List.range 8).filter (fun k => m / 2 ^ k % 2 == 1)
def outSlots (s : State) (e : Nat) : List Nat := slotsOf (s.get (F.IOS_PINA_OUT e))
def inSlots (s : State) (e : Nat) : List Nat := slotsOf (s.get (F.IOS_PINA_IN e))
def ctrlSlots (s : State) (e : Nat) : List Nat := slotsOf (s.get (F.IOS_PINB_CTRL e))
def slotPin (s : State) (e k : Nat) : Nat := s.get (F.IOS_PMAP_PIN e k)

/-- The engines whose STATE is not OFF. -/
def activeEngines (s : State) : List Nat := (List.range 128).filter (fun e => s.get (F.IOS_STAT_STATE e) != 0)

/-- Whether engine e claims pin n (R333). -/
def engClaims (s : State) (e n : Nat) : Bool := (outSlots s e ++ ctrlSlots s e).any (fun k => slotPin s e k == n)

/-- The function of the highest rank that claims a pin: FUNC and ENGINE of PIN_CFG (R333, R334). Pins are numbered with
PH at 224, PJ at 256 and PK at 288. -/
def pinFunc (s : State) (n : Nat) : Nat × Nat :=
  let host := if s.flag F.HW_REV_HMODE then n == 288 || n == 289 || n == 290 || n == 294
    else decide (256 ≤ n ∧ n < 302)
  let xsp (x : Nat) := s.flag (F.XSP_CTL_EN x) && decide (224 + 16 * x ≤ n ∧ n < 234 + 16 * x) ||
    (s.flag (F.XSP_CTL_EN x) && decide (234 + 16 * x ≤ n ∧ n < 238 + 16 * x) &&
     s.bitAt (F.XSP_CTL_CSPINS x) (n - (234 + 16 * x)))
  if s.pads.fiveWire && decide (315 ≤ n ∧ n < 320) then (6, 0)
  else if host then (5, 0)
  else if xsp 0 then (3, 0)
  else if xsp 1 then (4, 0)
  else match (activeEngines s).find? (fun e => engClaims s e n) with
    | some e => (2, e)
    | none => if s.flag (F.PIN_CFG_EVEN n) then (1, 0) else (0, 0)

/-! ## Pads (R326, R332, R341) -/

/-- Whether the pads of partition p's pins and engines are high-impedance (R224, R322, R261, R341); DOZE keeps what it found. -/
def partFloats (s : State) (p : Nat) : Bool :=
  let st := s.pstate p
  decide (st < psScanning) || (st == psFaulted && s.flag (F.WPT_POLICY_FAULT_PINS p)) || s.dev == dsService ||
  (s.dev == dsSleep && s.pwr.before == dsService) ||
  s.get F.CVY_STATE_ROLE == roleShoulder || (s.cpart p).float

/-- Whether every general pad floats in the device state (R341). -/
def devFloats (s : State) : Bool :=
  s.dev == dsOff || s.dev == dsLayby || s.dev == dsRoadblock || s.boot.inReset.isSome ||
  (s.dev == dsSleep && decide (2 ≤ s.pwr.mode))

/-- The boundary scan in force: EXTEST (1) and HIGHZ (2) act only at level FULL in BOOT, PROVISION or SERVICE (R508). -/
def scanMode (s : State) : Nat :=
  if s.get F.DBG_LEVEL_LEVEL = 2 ∧ (s.dev = dsBoot ∨ s.dev = dsProvision ∨ s.dev = dsService) ∧ s.boot.inReset = none then
    s.dbgp.scan
  else 0

/-- A host port output (R341, R402, R404): HST and HRDY, and in a read HD, show the last reply's status and data while a parallel
access is in progress, HSDO is high between bits while HSS_N is low. -/
def hostDrive (s : State) (n : Nat) : Option Bool :=
  if !s.host.isOpen then none
  else if s.flag F.HW_REV_HMODE then (if n = 290 then some true else none)
  else if n < 288 then (if s.host.reads then some (s.host.lastData.getLsbD (n - 256)) else none)
  else if n = 297 then some true
  else if 298 ≤ n then some (s.host.lastStatus.getLsbD (n - 298))
  else none

/-- An octal port's output (R334, R385, R387): the chip select of the frame on the bus is low, the others high; SCK is low between
frames; within a frame SCK and the data lines toggle below a command's grain (free values, log 8). RDS is an input. -/
def octalDrive (s : State) (x i : Nat) : Option Bool :=
  let frame := (s.xsp.find? (fun e => e.1 == x)).bind (fun e => e.2.frame)
  match frame with
  | none => if i = 8 then some false else if 10 ≤ i then some true else none
  | some f =>
    if 10 ≤ i then some (f.cs != i - 10)
    else if i = 9 then none
    else some (Config.padContention s.free (224 + 16 * x + i))

def noSw (_ : Nat) : Option (Nat × Bool) := none

/-- A function switch on pad n is in its high-impedance cycles (R337): they lie in the tick of the switch. While no tick passes, they
lie within the command (DEDUCED, log 8). -/
def switching (s : State) (n : Nat) : Bool :=
  s.pllClock && (match s.pads.sw.read noSw n with
    | some (t, _) => t == s.time.toNat + 1
    | none => false)

/-- The level that a pad's readers keep through a switch. -/
def frozenLevel (s : State) (n : Nat) : Bool :=
  match s.pads.sw.read noSw n with
  | some (_, v) => v
  | none => false

/-- The level that the device drives on pad n, if it drives. -/
def padDrive (s : State) (n : Nat) : Option Bool :=
  let b := n / 32
  let i := n % 32
  let fn := s.get (F.PIN_CFG_FUNC n)
  let ownerFloats := match ownerPart (pinOwner s n) with
    | some p => partFloats s p
    | none => false
  let alive := s.dev == dsRoadblock && s.boot.inReset.isNone && fn == 5
  if (devFloats s && !alive) || !s.flag (F.PIN_BANKSTAT_OK b) then none
  else if scanMode s = 2 then none
  else if scanMode s = 1 then (if s.dbgp.bsEn.getLsbD n then some (s.dbgp.bsOut.getLsbD n) else none)
  else if switching s n then none
  else if fn = 5 then hostDrive s n
  else if ownerFloats then none
  else if fn = 0 then
    if s.bitAt (F.PIN_DIRV_DIR b) i then
      let v := s.bitAt (F.PIN_OUTV_LATCH b) i
      if s.flag (F.PIN_CFG_OD n) && v then none else some v
    else none
  else if fn = 2 then
    let e := s.get (F.PIN_CFG_ENGINE n)
    let x := s.engine e
    if !pinAccepts s (.engine e) n false then none
    else
      match (ctrlSlots s e).findIdx? (fun k => slotPin s e k == n) with
      | some j => some (x.ctrl.getLsbD j)
      | none =>
        match (outSlots s e).findIdx? (fun k => slotPin s e k == n) with
        | some j => if x.drive then some (x.outv.getLsbD j) else none
        | none => none
  else if fn = 3 ∨ fn = 4 then octalDrive s (fn - 3) (n - (224 + 16 * (fn - 3)))
  else none

/-- The pull of a pad: 1 up, 2 down, 0 none or switched off by its bank's supply, the state of the device, the shoulder or reset (R326,
R340–R342); in NAP and HIBERNATE a pin with WAKE = 1 that is not the host port's or the debug port's keeps it. -/
def padPull (s : State) (n : Nat) : Nat :=
  let shoulder := match ownerPart (pinOwner s n) with
    | some _ => s.get F.CVY_STATE_ROLE == roleShoulder
    | none => false
  let fixed := s.get (F.PIN_CFG_FUNC n) == 5 || s.get (F.PIN_CFG_FUNC n) == 6
  if !s.flag (F.PIN_BANKSTAT_OK (n / 32)) then 0
  else if devFloats s && !(s.dev == dsSleep && s.flag (F.PIN_CFG_WAKE n) && !fixed) then 0
  else if shoulder then 0
  else s.get (F.PIN_CFG_PULL n)

/-- The level of a pad that the device does not drive: a driver outside sets it, else a resistor outside or the pull; the spec
states no level for a pad that nothing drives or pulls, or that a pull and a resistor pull apart (a free value). -/
def idleLevel (s : State) (n : Nat) : Bool :=
  let x := s.pads.ext.read zeroN n
  let u := padPull s n
  if 3 ≤ x then x == 4
  else if x = 1 ∧ u ≠ 1 ∨ x = 0 ∧ u = 2 then false
  else if x = 2 ∧ u ≠ 2 ∨ x = 0 ∧ u = 1 then true
  else Config.padContention s.free n

/-- The synchronised level of pad n (R326, R337, R342): what the device drives, else what the outside and the pull give; a
contention is indeterminate. -/
def pinLevel (s : State) (n : Nat) : Bool :=
  let x := s.pads.ext.read zeroN n
  if !s.flag (F.PIN_BANKSTAT_OK (n / 32)) then false
  else if switching s n then frozenLevel s n
  else
    match padDrive s n with
    | none => idleLevel s n
    | some v => if 3 ≤ x ∧ (x == 4) ≠ v then Config.padContention s.free n else v

/-- The levels of a bank's pins as one word. -/
def bankWord (level : Nat → Bool) (b : Nat) : Nat :=
  (List.range 32).foldl (fun v i => if level (32 * b + i) then v + 2 ^ i else v) 0

/-- PIN_IN of bank b. -/
def bankIn (s : State) (b : Nat) : Nat := bankWord (pinLevel s) b

def noWas (_ : Nat) : Option Bool := none

/-- The level of pad n that a step or a capture in the present tick reads: that of two cycles before, so nothing that happened in
the tick shows (R205, R306; DEDUCED, log 8). -/
def tickLevel (s : State) (n : Nat) : Bool :=
  if s.pads.wasAt = s.time.toNat + 1 then (s.pads.was.read noWas n).getD (pinLevel s n) else pinLevel s n

/-! ## Function switches (R337–R339) -/

/-- FUNC and ENGINE of a pin show the function of the highest rank. -/
def setFunc (s : State) (n : Nat) : State :=
  let f := pinFunc s n
  (s.put (F.PIN_CFG_FUNC n) f.1).put (F.PIN_CFG_ENGINE n) f.2

def hasFunc (s : State) (n : Nat) : Bool := (s.get (F.PIN_CFG_FUNC n), s.get (F.PIN_CFG_ENGINE n)) == pinFunc s n

/-- A switch begins, or begins again, on pad n, whose readers keep a level (R337, R339). -/
def startSwitch (s : State) (n : Nat) (v : Bool) : State :=
  { s with pads := { s.pads with sw := s.pads.sw.write noSw n (some (s.time.toNat + 1, v)) } }

/-- Pin n takes its function: a switch, if that changes. -/
def takeFunc (s : State) (n : Nat) : State := if hasFunc s n then s else startSwitch (setFunc s n) n (pinLevel s n)

/-- A write that may change a pin's function (R337, R338): a pin owned by a partition keeps FUNC until its next release edge. -/
def refreshPin (s : State) (n : Nat) : State := if (ownerPart (pinOwner s n)).isSome then s else takeFunc s n

/-- The pins whose PIN_CFG holds something, with it. -/
def listedPins (s : State) : List (Nat × Word) :=
  s.regs.filterMap (fun e =>
    if 0x40090000 ≤ e.1 ∧ e.1 < 0x40090000 + 4 * 320 ∧ e.1 % 4 = 0 then some ((e.1 - 0x40090000) / 4, e.2) else none)

/-- The pins of partition p. -/
def partPins (s : State) (p : Nat) : List Nat :=
  ((listedPins s).filter (fun e => bitsOf e.2 31 28 == 8 + p)).map (·.1)

/-- The pending switches of partition p's pins act at its release edge (R338). -/
def releaseSwitch (s : State) (p : Nat) : State := (partPins s p).foldl takeFunc s

/-- The pins an engine claims, refreshed. -/
def refreshEngine (s : State) (e : Nat) : State :=
  ((outSlots s e ++ ctrlSlots s e).map (slotPin s e)).foldl (fun s n => if n < 320 then refreshPin s n else s) s

/-- The pins take their functions at a release of reset or a wake, which no function held before. -/
def refreshAll (s : State) : State :=
  (List.range 320).foldl (fun s n => if (ownerPart (pinOwner s n)).isSome then s else setFunc s n) s

/-! ## Event lines (R335, R336) -/

/-- The pins that feed line k. -/
def feeders (s : State) (k : Nat) : List Nat :=
  ((listedPins s).filter (fun e => bitsOf e.2 15 15 == 1 && bitsOf e.2 14 9 == k)).map (·.1)

def lineInput (s : State) (k : Nat) : Bool :=
  match feeders s k with
  | [n] => pinLevel s n
  | _ => false

/-- A registered edge of line k: each enabled generator with SRC = PIN on the line triggers at the next tick (R277). -/
def pinTrigger (s : State) (k : Nat) : State :=
  (List.range 4).foldl (fun s i =>
    if s.flag (F.ADC_TRIGCFG_EN i) && s.get (F.ADC_TRIGCFG_SRC i) == 2 && s.get (F.ADC_TRIGCFG_LINE i) == k then
      { s with adc := { s.adc with trgPend := s.adc.trgPend.write zeroN i (s.time.toNat + 1) } }
    else s) s

/-- The pin that feeds line k watches for a wake (R335, R341, R445). -/
def lineWakes (s : State) (k : Nat) : Bool :=
  match feeders s k with
  | [n] => s.flag (F.PIN_CFG_WAKE n)
  | _ => false

/-- A line registers the edge that EDGE selects: TIME is written, PEND set, OVF set if PEND was 1; a pin with WAKE = 1 may wake the
device by it (R335). -/
def lineSample (s : State) (k : Nat) : State :=
  let now := lineInput s k
  let was := s.pads.evPrev.read noB k
  let e := s.get (F.PIN_EVCFG_EDGE k)
  let edge := (now && !was && (e == 0 || e == 2)) || (!now && was && (e == 1 || e == 2))
  let s := { s with pads := { s.pads with evPrev := s.pads.evPrev.write noB k now } }
  if edge && s.flag (F.PIN_EVCFG_EN k) then
    let s := if s.flag (F.PIN_EVCFG_PEND k) then s.put (F.PIN_EVCFG_OVF k) 1 else s
    let s := pinTrigger ((s.put (F.PIN_EVCFG_PEND k) 1).setReg (A.PIN_EVTS k) s.time) k
    if lineWakes s k then wakeSource s 3 k else s
  else s

/-- The lines that the given pins feed. -/
def linesOf (s : State) (ns : List Nat) : List Nat :=
  ((ns.filter (fun n => s.flag (F.PIN_CFG_EVEN n))).map (fun n => s.get (F.PIN_CFG_EVLINE n))).eraseDups

/-- A pad that has changed leaves the level it had before, for the readers of this tick. -/
def noteWas (old s : State) (n : Nat) : State :=
  if pinLevel old n = pinLevel s n then s
  else
    let was := if s.pads.wasAt = s.time.toNat + 1 then s.pads.was else []
    let was := if (was.read noWas n).isSome then was else was.write noWas n (some (pinLevel old n))
    { s with pads := { s.pads with was := was, wasAt := s.time.toNat + 1 } }

/-- After a change that may move the given pads: the levels before it are kept for the tick, and the lines they feed sample them. -/
def padsMove (old s : State) (ns : List Nat) : State :=
  let s := ns.foldl (noteWas old) s
  (linesOf s ns).foldl lineSample s

/-- What stands on the pads with time: switches whose cycles have passed end, and every line that a pin feeds samples its level. -/
def padsSettle (s : State) : State :=
  let s := { s with pads := { s.pads with sw := s.pads.sw.filter (fun e => switching s e.1) } }
  (linesOf s ((listedPins s).map (·.1))).foldl lineSample s

/-- A masked write with what it does to the pads (R330, R335). -/
def pinWrite (s : State) (src : PinSrc) (b : Nat) (hi dir : Bool) (w : Nat) : State :=
  padsMove s (maskedWrite s src b hi dir w)
    (((List.range 16).filter (fun j => w / 2 ^ (16 + j) % 2 == 1)).map (fun j => 32 * b + (if hi then 16 else 0) + j))

/-- PIN_OUT_WRITE (R330). -/
def execPinOutWrite (i : Agent) (b : Fin 10) (hi : Bool) (v : BitVec 32) (s : State) : Host.Outcome State Fault Refusal :=
  .next (pinWrite s (.agent i) b hi false v.toNat)

/-- PIN_DIR_WRITE (R330). -/
def execPinDirWrite (i : Agent) (b : Fin 10) (hi : Bool) (v : BitVec 32) (s : State) : Host.Outcome State Fault Refusal :=
  .next (pinWrite s (.agent i) b hi true v.toNat)

/-- Line k after a change of what feeds it: the PIN and CONFLICT fields, and the sticky record of a conflict that begins.
Entering or leaving a conflict registers no edge (R336). -/
def refreshLine (s : State) (k : Nat) : State :=
  let fs := feeders s k
  let was := s.flag (F.PIN_EVCFG_CONFLICT k)
  let now := decide (2 ≤ fs.length)
  let s := (s.putFlag (F.PIN_EVCFG_CONFLICT k) now).put (F.PIN_EVCFG_PIN k) (match fs with
    | [n] => n
    | _ => 0x1FF)
  let s := if now && !was then
      (if s.flag F.PIN_STAT_CONFLICT then s else s.put F.PIN_STAT_LINE k).put F.PIN_STAT_CONFLICT 1
    else s
  if now != was then { s with pads := { s.pads with evPrev := s.pads.evPrev.write noB k (lineInput s k) } }
  else lineSample s k

/-- A write of PIN_EVCFG: EDGE = 3 is refused as RANGE (R335). -/
def evcfgWrite (s : State) (i : Agent) (k : Nat) (v : Word) : State :=
  if bitsOf v 29 28 = 3 then pinErr s 3 (.agent i) 0x1FF else genericWrite s (A.PIN_EVCFG k) v

/-- PIN_EVENT: what the outside does to pad n changes (0 nothing, 1 and 2 low and high through a resistor, 3 and 4 low and
high by a driver), and the line the pin feeds samples it (R335). -/
def execPinEvent (n : Fin 320) (outside : Fin 5) (s : State) : Host.Outcome State Fault Refusal :=
  .next (padsMove s { s with pads := { s.pads with ext := s.pads.ext.write zeroN n outside.val } } [n.val])

/-! ## Configuration (R327, R328) -/

/-- Whether PIN_CFG writes of a pin with the given owner are accepted from an initiator. -/
def cfgAccepts (s : State) (i : Agent) (o : Nat) : Bool :=
  match i with
  | .debug => s.get F.DBG_LEVEL_LEVEL == 2
  | .sc k => o == 0 || o == k.val + 1 || (match ownerPart o with
    | some p => configurable s p
    | none => false)
  | .host => o == 0
  | .dma _ => false

def ownerCodeOk (o : Nat) : Bool := decide (o ≤ 4 ∨ (8 ≤ o ∧ o ≤ 12))

/-- A write of PIN_CFG that is accepted: what it does to the pin's function and to the lines it feeds (R335–R338). A pin that a
partition owns after the write keeps FUNC until the release edge. -/
def pinCfgTake (s : State) (n : Nat) (v : Word) : State :=
  let line := s.get (F.PIN_CFG_EVLINE n)
  let t := genericWrite s (A.PIN_CFG n) v
  let t :=
    if (ownerPart (pinOwner t n)).isSome || (pinOwner t n == pinOwner s n && hasFunc t n) then t
    else startSwitch (setFunc t n) n (pinLevel s n)
  padsMove s (refreshLine (refreshLine t line) (bitsOf v 14 9)) [n]

/-- A write of PIN_CFG (R327–R329, R335–R338). OWNER becomes SEC, or leaves it, through the pin lock alone (R328). -/
def pinCfgWrite (s : State) (i : Agent) (n : Nat) (v : Word) : State :=
  let o := pinOwner s n
  let o' := bitsOf v 31 28
  let locked := match ownerPart o with
    | some p => !configurable s p
    | none => false
  if locked && i != .debug then pinErr s 2 (.agent i) n
  else if !ownerCodeOk o' || bitsOf v 5 4 == 3 then pinErr s 3 (.agent i) n
  else if !cfgAccepts s i o || !cfgAccepts s i o' || (o' == 12) != (o == 12) then notOwner s (.agent i) n
  else pinCfgTake s n v

/-- PIN_CFG as it reads: FUNC is SWITCHING in the cycles of a switch (R337). -/
def pinCfgRead (s : State) (n : Nat) : Word :=
  let v := s.reg (A.PIN_CFG n)
  if switching s n then withBits (withBits v 27 24 7) 22 16 0 else v

/-- PIN_CFG_WRITE (R328). -/
def execPinCfgWrite (i : Agent) (n : Fin 320) (v : BitVec 32) (s : State) : Host.Outcome State Fault Refusal :=
  .next (pinCfgWrite s i n (v.setWidth 64))

def bankPins (b : Nat) : List Nat := (List.range 32).map (32 * b + ·)

/-- BANK_SUPPLY_LOST: VDDIO of bank b leaves every window (R326). -/
def execBankSupplyLost (b : Fin 10) (s : State) : Host.Outcome State Fault Refusal :=
  if s.flag (F.PIN_BANKSTAT_OK b) then
    let t := ((s.put (F.PIN_BANKSTAT_OK b) 0).put (F.PIN_BANKSTAT_LEVEL b) 0).put (F.PIN_BANKSTAT_LOST b) 1
    .next (padsMove s (attention (logEvent (t.put F.PIN_STAT_BANK_FAULT 1) 10 b 0) attnWarn) (bankPins b))
  else .next s

/-- BANK_SUPPLY_RETURN: VDDIO of bank b enters a window, 1.8 V, 2.5 V or 3.3 V (R325, R326). -/
def execBankSupplyReturn (b : Fin 10) (cls : Fin 3) (s : State) : Host.Outcome State Fault Refusal :=
  .next (padsMove s ((s.put (F.PIN_BANKSTAT_OK b) 1).put (F.PIN_BANKSTAT_LEVEL b) (cls.val + 1)) (bankPins b))

end Sys2Proof.Machine
end

