-- ==== Sys2Proof/Machine/Ios.lean ====
section
/-! DEFINITION. I/O sequencers (10_io_sequencers.md): engines, their steps, flags, FIFOs and events. -/

namespace Sys2Proof.Machine

/-- Engine states (IOS_STAT.STATE). FROZEN (3) is computed where the register is read. -/
def esOff : Nat := 0
def esWaiting : Nat := 1
def esRunning : Nat := 2
def esFrozen : Nat := 3
def esHalted : Nat := 4

def engState (s : State) (e : Nat) : Nat := s.get (F.IOS_STAT_STATE e)
def engN (s : State) (e : Nat) : Nat := s.get (F.IOS_CLKDIV_NM1 e) + 1

/-- A debug freeze of the engine is in force (R307, R523). -/
def engFrozen (s : State) (e : Nat) : Bool := s.bitAt (F.DBG_FRZ_IOS_FRZ (e / 32)) (e % 32) && s.freezeInForce

/-- IOS_STAT.STATE as it reads. -/
def engShown (s : State) (e : Nat) : Nat :=
  let st := engState s e
  if engFrozen s e && (st == esWaiting || st == esRunning) then esFrozen else st

/-- The refusals of the block (IOS_ERR): an engine or flag group, and an offset. -/
def iosErr (s : State) (cause e off : Nat) : State :=
  recordErr s F.IOS_ERR_VALID [(F.IOS_ERR_CAUSE, cause), (F.IOS_ERR_ENGINE, e), (F.IOS_ERR_OFFSET, off)]

def ieLocked : Nat := 1
def ieRange : Nat := 2
def ieOverlap : Nat := 3
def ieOwner : Nat := 4

/-- The engine's partition, if it is scanning or held (R302). -/
def engLocked (s : State) (e : Nat) : Bool :=
  match ownerPart (engOwner s e) with
  | some p => !configurable s p
  | none => false

/-! ## FIFOs (R317, R318) -/

def fifoDepth : Nat := 4

/-- A push to the transmit FIFO: a full FIFO discards the word and sets OVERRUN (R317). -/
def txPush (s : State) (e : Nat) (w : BitVec 32) : State :=
  if (s.engine e).tx.length < fifoDepth then s.onEngine e (fun x => { x with tx := x.tx ++ [w] })
  else s.put (F.IOS_STAT_OVERRUN e) 1

/-- A push to the receive FIFO, with the same outcome when it is full. -/
def rxPush (s : State) (e : Nat) (w : BitVec 32) : State :=
  if (s.engine e).rx.length < fifoDepth then s.onEngine e (fun x => { x with rx := x.rx ++ [w] })
  else s.put (F.IOS_STAT_OVERRUN e) 1

/-- Which initiators reach an engine's FIFOs (R318). The debug port is judged as the host window is (R524). -/
def fifoAccepts (s : State) (i : Agent) (e : Nat) : Bool :=
  let o := engOwner s e
  match i with
  | .sc k => o == 0 || o == k.val + 1
  | .dma _ => decide (o ≤ 4)
  | .host => o == 0
  | .debug => o == 0

/-- TXF_PUSH (R318). -/
def txfWrite (s : State) (i : Agent) (e : Nat) (w : BitVec 32) : State :=
  if fifoAccepts s i e then txPush s e w else iosErr s ieOwner e 0x24

/-- TXF_PUSH (R318). -/
def execTxfPush (i : Agent) (e : Fin 128) (w : BitVec 32) (s : State) : Host.Outcome State Fault Refusal :=
  .next (txfWrite s i e w)

/-- RXF_POP (R318): the word read, and the state after. -/
def rxfRead (s : State) (i : Agent) (e : Nat) : BitVec 32 × State :=
  if fifoAccepts s i e then
    match (s.engine e).rx with
    | w :: rest => (w, s.onEngine e (fun x => { x with rx := rest }))
    | [] => (0, s.put (F.IOS_STAT_UNDERRUN e) 1)
  else (0, iosErr s ieOwner e 0x28)

/-- RXF_POP (R318). -/
def execRxfPop (i : Agent) (e : Fin 128) (s : State) : Host.Outcome State Fault Refusal := .next (readOut (rxfRead s i e))

/-- A write of IOS_FSTAT (R302): the clear bits. -/
def fstatWrite (s : State) (e : Nat) (tx rx : Bool) : State :=
  if (tx || rx) && engLocked s e then iosErr s ieLocked e 0x20
  else s.onEngine e (fun x => { x with tx := if tx then [] else x.tx, rx := if rx then [] else x.rx })

/-- TX_CLR (R302). -/
def execTxClr (e : Fin 128) (s : State) : Host.Outcome State Fault Refusal := .next (fstatWrite s e true false)
/-- RX_CLR (R302). -/
def execRxClr (e : Fin 128) (s : State) : Host.Outcome State Fault Refusal := .next (fstatWrite s e false true)

/-! ## Enable and disable (R301, R305, R307, R320, R321) -/

def drivenPins (s : State) (e : Nat) : List Nat := (outSlots s e ++ ctrlSlots s e).map (slotPin s e)

/-- The first failing check of an enable: RANGE, then OVERLAP, then OWNER (the order is DEDUCED, log 11). -/
def enableCheck (s : State) (e sync : Nat) : Nat :=
  let snd := s.get (F.IOS_OPT_SNDLEN e)
  let cap := s.get (F.IOS_OPT_CAPLEN e)
  let pins := drivenPins s e
  let o := engOwner s e
  if sync = 3 ∨ 4 < (ctrlSlots s e).length ∨ pins.any (fun n => decide (319 < n)) ∨ snd < 1 ∨ 32 < snd ∨ cap < 1 ∨ 32 < cap
  then ieRange
  else if !decide pins.Nodup || (outSlots s e).any (fun k => (ctrlSlots s e).contains k) then ieOverlap
  else if ((List.range 8).any (fun j =>
      let d := e / 8 * 8 + j
      d != e && s.flag (F.IOS_CTL_EN d) && engOwner s d != o)) || (sync == 1 && (ownerPart o).isNone) then ieOwner
  else 0

/-- The pins of a list that the engine's owner does not own count as one refused write (R329). -/
def engRefuse (s : State) (e : Nat) (ps : List Nat) : State :=
  refusePins s (.engine e) (ps.filter (fun n => decide (n < 320) && !pinAccepts s (.engine e) n false))

/-- An accepted enable (R305, R321). -/
def engEnable (s : State) (e sync start : Nat) : State :=
  let s := ((s.put (F.IOS_CTL_EN e) 1).put (F.IOS_CTL_SYNC e) sync).put (F.IOS_CTL_START e) start
  let s := s.setReg (A.IOS_PC e) (BitVec.ofNat 64 start)
  let s := ((s.setReg (A.IOS_SND e) 0).setReg (A.IOS_CAP e) 0).setReg (A.IOS_BITS e) 0
  let s := s.put (F.IOS_STAT_STATE e) esWaiting
  let s := s.onEngine e (fun x => { x with
    ctrl := BitVec.ofNat 4 (s.get (F.IOS_OPT_CTRL_INIT e))
    outv := 0
    drive := s.flag (F.IOS_OPT_DRIVE_INIT e)
    prev := none
    startAt := if sync = 0 then some (s.time.toNat + 1) else none
    lastStep := none })
  let outs := if s.flag (F.IOS_OPT_DRIVE_INIT e) then outSlots s e else []
  refreshEngine (engRefuse s e ((outs ++ ctrlSlots s e).map (slotPin s e))) e

/-- The engine is disabled (R307): its registers and FIFOs keep their values and its pins leave the function. -/
def engDisable (s : State) (e : Nat) : State :=
  if s.flag (F.IOS_CTL_EN e) then
    let s := (s.put (F.IOS_CTL_EN e) 0).put (F.IOS_STAT_STATE e) esOff
    refreshEngine (s.onEngine e (fun x => { x with startAt := none })) e
  else s

/-- A write of IOS_CTL (R301, R302, R305, R307). -/
def iosCtlWrite (s : State) (e : Nat) (v : Word) : State :=
  let en := bitsOf v 31 31 == 1
  let sync := bitsOf v 29 28
  let start := bitsOf v 4 0
  let on := s.flag (F.IOS_CTL_EN e)
  let changes := sync != s.get (F.IOS_CTL_SYNC e) || start != s.get (F.IOS_CTL_START e)
  if engLocked s e || (on && changes) then iosErr s ieLocked e 0
  else if on then (if en then s else engDisable s e)
  else if en then
    let c := enableCheck s e sync
    if c ≠ 0 then iosErr s c e 0 else engEnable s e sync start
  else if sync = 3 then iosErr s ieRange e 0
  else (s.put (F.IOS_CTL_SYNC e) sync).put (F.IOS_CTL_START e) start

/-- ENGINE_ENABLE (R305). -/
def execEngineEnable (e : Fin 128) (sync : BitVec 2) (start : BitVec 5) (s : State) :
    Host.Outcome State Fault Refusal :=
  .next (iosCtlWrite s e (BitVec.ofNat 64 (2 ^ 31 + sync.toNat * 2 ^ 28 + start.toNat)))

/-- ENGINE_DISABLE (R307): a write of EN = 0 that leaves SYNC and START as they are. -/
def execEngineDisable (e : Fin 128) (s : State) : Host.Outcome State Fault Refusal :=
  .next (iosCtlWrite s e (BitVec.ofNat 64 (s.get (F.IOS_CTL_SYNC e) * 2 ^ 28 + s.get (F.IOS_CTL_START e))))

/-- The start of every WAITING engine of word k with SYNC = GO whose bit is set (R305). -/
def iosGo (s : State) (k v : Nat) : State :=
  (List.range 32).foldl (fun s b =>
    let e := 32 * k + b
    if v / 2 ^ b % 2 = 1 ∧ engState s e = esWaiting ∧ s.get (F.IOS_CTL_SYNC e) = 2 ∧ (s.engine e).startAt.isNone then
      s.onEngine e (fun x => { x with startAt := some (s.time.toNat + 1) })
    else s) s

/-- IOS_GO (R305). -/
def execIosGo (k : Fin 4) (v : BitVec 32) (s : State) : Host.Outcome State Fault Refusal := .next (iosGo s k v.toNat)

/-- A waypoint at which partition p starts a scan: its WAITING engines with SYNC = WAYPOINT take the instant (R305). -/
def iosWaypoint (s : State) (p : Nat) : State :=
  (activeEngines s).foldl (fun s e =>
    if engState s e = esWaiting ∧ s.get (F.IOS_CTL_SYNC e) = 1 ∧ engOwner s e = 8 + p ∧ (s.engine e).startAt.isNone then
      s.onEngine e (fun x => { x with startAt := some s.time.toNat })
    else s) s

/-- p enters PROVISIONING: its engines are disabled; p enters READY: their FIFOs are emptied (R303). -/
def iosProvision (s : State) (p : Nat) : State :=
  (List.range 128).foldl (fun s e => if engOwner s e = 8 + p then engDisable s e else s) s

def iosReady (s : State) (p : Nat) : State :=
  (List.range 128).foldl (fun s e =>
    if engOwner s e = 8 + p then s.onEngine e (fun x => { x with tx := [], rx := [] }) else s) s

/-- Event i reaches every enabled engine (R316). -/
def iosEvent (s : State) (i : Nat) : State :=
  (activeEngines s).foldl (fun s e =>
    if s.flag (F.IOS_CTL_EN e) then
      if s.bitAt (F.IOS_PC_EVT e) i then s.put (F.IOS_STAT_EVT_MISS e) 1 else s.putBit (F.IOS_PC_EVT e) i true
    else s) s

/-- Every other engine register (R302): written only while EN is 0; IOS_OWNER also under the states of both owners.
Interrupt enables and the status flags are never locked; SND, CAP, PC and BITS are read-only, so a write is ignored without a
record (R15). -/
def iosRegWrite (s : State) (e off : Nat) (v : Word) : State :=
  let a := 0x40080000 + 0x100 * e + off
  if off = 0x34 ∨ off = 0x38 ∨ off = 0x3C ∨ off = 0x4C then s
  else if off = 0x18 ∨ off = 0x1C then genericWrite s a v
  else if s.flag (F.IOS_CTL_EN e) then iosErr s ieLocked e off
  else if off = 0x14 then
    let o := bitsOf v 3 0
    let newLocked := match ownerPart o with
      | some p => !configurable s p
      | none => false
    if engLocked s e || newLocked then iosErr s ieLocked e off
    else if decide (4 < o ∧ o < 8) || decide (11 < o) then iosErr s ieRange e off
    else genericWrite s a v
  else genericWrite s a v

/-! ## Flags (R315) -/

def flagsWord (s : State) : Nat :=
  s.get (F.IOS_FLAGS_FLAGS 0) + s.get (F.IOS_FLAGS_FLAGS 1) * 2 ^ 32 + s.get (F.IOS_FLAGS_FLAGS 2) * 2 ^ 64 +
  s.get (F.IOS_FLAGS_FLAGS 3) * 2 ^ 96

/-- The flags of the cycle in which engines step, the first of a tick: at its first use in a tick they are those that stand then. -/
def flagCycle (s : State) : FlagCycle :=
  if s.flagCyc.cycle = s.time.toNat + 1 then s.flagCyc
  else { cycle := s.time.toNat + 1, start := BitVec.ofNat 128 (flagsWord s), sets := 0 }

/-- Flag f (0–127) as a test in this cycle finds it: the value at the start of the cycle, unless an engine of this cycle
has consumed it; engines step in rising order (R315). -/
def flagSeen (s : State) (f : Nat) : Bool := (flagCycle s).start.getLsbD f

/-- A clear, or the consumption of a test: clears take effect before sets (R315). -/
def flagClear (s : State) (f : Nat) (consume : Bool) : State :=
  let c := flagCycle s
  let s := { s with flagCyc := if consume then { c with start := c.start &&& ~~~(BitVec.ofNat 128 (2 ^ f)) } else c }
  if c.sets.getLsbD f then s else s.putBit (F.IOS_FLAGS_FLAGS (f / 32)) (f % 32) false

def flagSet (s : State) (f : Nat) : State :=
  let c := flagCycle s
  { s with flagCyc := { c with sets := c.sets ||| BitVec.ofNat 128 (2 ^ f) } }.putBit
    (F.IOS_FLAGS_FLAGS (f / 32)) (f % 32) true

/-- A group that owns an enabled engine of a partition (R315). -/
def groupHeld (s : State) (g : Nat) : Bool :=
  (List.range 8).any (fun j => s.flag (F.IOS_CTL_EN (8 * g + j)) && (ownerPart (engOwner s (8 * g + j))).isSome)

/-- A write of IOS_FLAGSET or IOS_FLAGCLR, group by group (R315). It is taken as alone in its cycle, not in the engines' own, so the
order of the commands is that of its effects (DEDUCED, log 61). -/
def flagWrite (s : State) (k v : Nat) (set : Bool) : State :=
  (List.range 4).foldl (fun s j =>
    let g := 4 * k + j
    let b := v / 2 ^ (8 * j) % 256
    if b = 0 then s
    else if groupHeld s g then iosErr s ieOwner g ((if set then 0x10 else 0x20) + 4 * k)
    else (List.range 8).foldl (fun s i =>
      if b / 2 ^ i % 2 = 1 then s.putBit (F.IOS_FLAGS_FLAGS k) (8 * j + i) set else s) s) s

/-- IOS_FLAGSET (R315). -/
def execIosFlagset (k : Fin 4) (v : BitVec 32) (s : State) : Host.Outcome State Fault Refusal :=
  .next (flagWrite s k v.toNat true)
/-- IOS_FLAGCLR (R315). -/
def execIosFlagclr (k : Fin 4) (v : BitVec 32) (s : State) : Host.Outcome State Fault Refusal :=
  .next (flagWrite s k v.toNat false)

/-! ## Steps -/

/-- Whether engine e steps in this cycle (R304, R305, R307, R324). -/
def engSteps (s : State) (e : Nat) : Bool :=
  let st := engState s e
  let x := s.engine e
  let due := st == esRunning || (st == esWaiting && (match x.startAt with
    | some t => decide (t ≤ s.time.toNat)
    | none => false))
  s.flag (F.IOS_CTL_EN e) && due && s.onGrid (engN s e) && x.lastStep != some s.time.toNat && !engFrozen s e &&
  s.pllClock && (s.dev == dsBoot || s.dev == dsProvision || s.dev == dsRun || s.dev == dsHold || s.dev == dsService)

/-- The instruction word at the engine's PC. -/
def engWord (s : State) (e : Nat) : Nat := bitsOf (s.reg (A.IOS_SLOT e (s.get (F.IOS_PC_PC e)))) 31 0

def wFlow (w : Nat) : Nat := w / 2 ^ 29 % 8
def wCond (w : Nat) : Nat := w / 2 ^ 25 % 16
def wTarget (w : Nat) : Nat := w / 2 ^ 20 % 32
def wAct (w : Nat) : Nat := w / 2 ^ 16 % 16
def wArg (w : Nat) : Nat := w / 2 ^ 8 % 256
def wCmask (w : Nat) : Nat := w / 2 ^ 4 % 16
def wCval (w : Nat) : Nat := w % 16

/-- The bits of ARG that the condition and the action read (R308). -/
def argBits (w : Nat) : Nat :=
  let c := if wCond w = 11 then 7 else if wCond w = 12 then 3 else 0
  let a := if wAct w = 6 then 255 else if wAct w = 12 ∨ wAct w = 13 then 7 else if wAct w = 15 then 1 else 0
  c ||| a

/-- A reserved encoding (R314). -/
def engReserved (w : Nat) : Bool :=
  decide (5 ≤ wFlow w ∨ wCond w = 15 ∨ (wFlow w = 0 ∧ (wCond w ≠ 0 ∨ wTarget w ≠ 0)) ∨ (wFlow w = 3 ∧ wTarget w ≠ 0) ∨
    (wFlow w = 4 ∧ wCond w ≠ 0) ∨ wArg w &&& (255 ^^^ argBits w) ≠ 0)

/-- The level of slot k's pin as a step reads it (R306); a pin above 319 reads 0 (R320). -/
def slotLevel (s : State) (e k : Nat) : Bool :=
  let n := slotPin s e k
  decide (n < 320) && tickLevel s n

def watchSample (s : State) (e : Nat) : Bool :=
  s.flag (F.IOS_PINB_WATCH_EN e) && slotLevel s e (s.get (F.IOS_PINB_WATCH e))

/-- The watch slot is sampled and the latches follow (R310). -/
def engWatch (s : State) (e : Nat) : State :=
  let now := watchSample s e
  let s1 := match (s.engine e).prev with
    | none => s
    | some was =>
      if !s.flag (F.IOS_PINB_WATCH_EN e) then s
      else if now && !was then s.put (F.IOS_PC_RISE e) 1
      else if !now && was then s.put (F.IOS_PC_FALL e) 1
      else s
  s1.onEngine e (fun x => { x with prev := some now })

/-- The condition of R309, judged at the start of the step. -/
def engCond (s : State) (e w : Nat) : Bool :=
  let x := s.engine e
  match wCond w with
  | 0 => true
  | 1 => s.get (F.IOS_CNT_VALUE e) == 0
  | 2 => s.get (F.IOS_CNT_VALUE e) != 0
  | 3 => s.get (F.IOS_ACC_VALUE e) == s.get (F.IOS_CMP_VALUE e)
  | 4 => s.get (F.IOS_ACC_VALUE e) != s.get (F.IOS_CMP_VALUE e)
  | 5 => watchSample s e
  | 6 => !watchSample s e
  | 7 => s.flag (F.IOS_PC_RISE e)
  | 8 => s.flag (F.IOS_PC_FALL e)
  | 9 => !x.tx.isEmpty
  | 10 => decide (x.rx.length < fifoDepth)
  | 11 => flagSeen s (e / 8 * 8 + wArg w % 8)
  | 12 => s.bitAt (F.IOS_PC_EVT e) (wArg w % 4)
  | 13 => s.get (F.IOS_BITS_SND e) == 0
  | 14 => decide (s.get (F.IOS_OPT_CAPLEN e) ≤ s.get (F.IOS_BITS_CAP e))
  | _ => false

/-- What a condition found true consumes (R309, R315). -/
def engConsume (s : State) (e w : Nat) : State :=
  match wCond w with
  | 7 => s.put (F.IOS_PC_RISE e) 0
  | 8 => s.put (F.IOS_PC_FALL e) 0
  | 11 => flagClear s (e / 8 * 8 + wArg w % 8) true
  | 12 => s.putBit (F.IOS_PC_EVT e) (wArg w % 4) false
  | _ => s

/-- The control field (R312). -/
def engControl (s : State) (e w : Nat) : State :=
  let m := BitVec.ofNat 4 (wCmask w)
  s.onEngine e (fun x => { x with ctrl := (x.ctrl &&& ~~~m) ||| (BitVec.ofNat 4 (wCval w) &&& m) })

/-- The pins that the step drives: the control pins it sets, and the output group where it drives (R329). -/
def engStepPins (s : State) (e w : Nat) (acts : Bool) : List Nat :=
  let ctl := ((ctrlSlots s e).zipIdx.filter (fun kj => wCmask w / 2 ^ kj.2 % 2 == 1)).map (fun kj => slotPin s e kj.1)
  let sends := acts && (((wAct w == 1 || wAct w == 3) && (s.engine e).drive) || (wAct w == 15 && wArg w % 2 == 1))
  ctl ++ (if sends then (outSlots s e).map (slotPin s e) else [])

/-- The next PC (R308). LOOP reads CNT after the action. -/
def engFlow (s : State) (e w : Nat) (cond : Bool) : State :=
  let pc := s.get (F.IOS_PC_PC e)
  let nxt := (pc + 1) % 32
  match wFlow w with
  | 1 => s.put (F.IOS_PC_PC e) (if cond then wTarget w else nxt)
  | 2 => s.put (F.IOS_PC_PC e) (if cond then nxt else wTarget w)
  | 3 => if cond then s.put (F.IOS_PC_PC e) nxt else s
  | 4 =>
    let n := s.get (F.IOS_CNT_VALUE e)
    if n = 0 then (s.put (F.IOS_CNT_VALUE e) (s.get (F.IOS_RELOAD_VALUE e))).put (F.IOS_PC_PC e) nxt
    else (s.put (F.IOS_CNT_VALUE e) (n - 1)).put (F.IOS_PC_PC e) (wTarget w)
  | _ => s.put (F.IOS_PC_PC e) nxt

/-! ### Actions (R308, R311, R313) -/

/-- SEND (R311). -/
def actSend (s : State) (e : Nat) : State :=
  let w := (outSlots s e).length
  let q := s.get (F.IOS_BITS_SND e)
  let len := s.get (F.IOS_OPT_SNDLEN e)
  let v := s.get (F.IOS_SND_VALUE e) % 2 ^ len
  let b := if s.flag (F.IOS_OPT_SND_LSB e) then v / 2 ^ (len - q) else if w ≤ q then v / 2 ^ (q - w) else v * 2 ^ (w - q)
  if w = 0 then s
  else (s.put (F.IOS_BITS_SND e) (q - w)).onEngine e (fun x => { x with outv := BitVec.ofNat 8 (b % 2 ^ w) })

/-- The samples of the input group: bit j is the level of its j-th slot (R311). -/
def engSamples (s : State) (e : Nat) : Nat :=
  (inSlots s e).zipIdx.foldl (fun n kj => if slotLevel s e kj.1 then n + 2 ^ kj.2 else n) 0

/-- SAMPLE of the word a (R311). -/
def actSample (s : State) (e a : Nat) : State :=
  let v := (inSlots s e).length
  let c := s.get (F.IOS_BITS_CAP e)
  let cap := s.get (F.IOS_CAP_VALUE e)
  let cap := if s.flag (F.IOS_OPT_CAP_LSB e) then cap ||| (a * 2 ^ c) else (cap * 2 ^ v) ||| a
  if v = 0 then s
  else (s.put (F.IOS_CAP_VALUE e) (cap % 2 ^ 32)).put (F.IOS_BITS_CAP e) (min (c + v) 32)

/-- TAKE (R313). -/
def actTake (s : State) (e : Nat) : State :=
  let s' := match (s.engine e).tx with
    | x :: rest => (s.onEngine e (fun y => { y with tx := rest })).put (F.IOS_SND_VALUE e) x.toNat
    | [] => (s.put (F.IOS_SND_VALUE e) (s.get (F.IOS_FILLW_VALUE e))).put (F.IOS_STAT_UNDERRUN e) 1
  s'.put (F.IOS_BITS_SND e) (s.get (F.IOS_OPT_SNDLEN e))

/-- GIVE (R313). -/
def actGive (s : State) (e : Nat) : State :=
  let s := rxPush s e (BitVec.ofNat 32 (s.get (F.IOS_CAP_VALUE e)))
  (s.put (F.IOS_CAP_VALUE e) 0).put (F.IOS_BITS_CAP e) 0

/-- ACC plus n modulo 2^32. -/
def actAcc (s : State) (e n : Nat) : State := s.put (F.IOS_ACC_VALUE e) ((s.get (F.IOS_ACC_VALUE e) + n) % 2 ^ 32)

/-- The action of code `code` with argument `arg` (R308, R313); a is the word that the input group samples. -/
def engAct (s : State) (e code arg a : Nat) : State :=
  match code with
  | 1 => actSend s e
  | 2 => actSample s e a
  | 3 => actSend (actSample s e a) e
  | 4 => actTake s e
  | 5 => actGive s e
  | 6 => s.put (F.IOS_CNT_VALUE e) arg
  | 7 => s.put (F.IOS_CNT_VALUE e) (s.get (F.IOS_RELOAD_VALUE e))
  | 8 => actAcc s e 1
  | 9 => actAcc s e (2 ^ 32 - 1)
  | 10 => rxPush s e (BitVec.ofNat 32 (s.get (F.IOS_ACC_VALUE e)))
  | 11 => s.put (F.IOS_ACC_VALUE e) 0
  | 12 => flagSet s (e / 8 * 8 + arg % 8)
  | 13 => flagClear s (e / 8 * 8 + arg % 8) false
  | 14 => s.put (F.IOS_STAT_SIG e) 1
  | 15 => s.onEngine e (fun x => { x with drive := arg % 2 == 1 })
  | _ => s

/-- The start of a step: the engine is RUNNING and its watch slot sampled, which its condition sees (R310). -/
def engBegin (s : State) (e : Nat) : State :=
  let t := (s.put (F.IOS_STAT_STATE e) esRunning).onEngine e (fun x => { x with lastStep := some s.time.toNat })
  engWatch { t with flagCyc := flagCycle t } e

/-- One step of engine e on its slot (R308, R313), with what it does to its pads. -/
def engOne (s : State) (e : Nat) : State :=
  let w := engWord s e
  let t := engBegin s e
  let cond := engCond t e w
  let acts := wFlow w != 3 || cond
  let t := if cond then engConsume t e w else t
  let t := engRefuse t e (engStepPins t e w acts)
  let t := if acts then engAct t e (wAct w) (wArg w) (engSamples s e) else t
  padsMove s (engFlow (engControl t e w) e w cond) (drivenPins s e)

/-- An engine that reaches a reserved encoding halts on it (R314). The step samples the watch slot as every step does (R310). -/
def engHalt (s : State) (e : Nat) : State :=
  let t := (s.put (F.IOS_STAT_STATE e) esHalted).put (F.IOS_STAT_ILLEGAL e) 1
  (engWatch t e).onEngine e (fun x => { x with lastStep := some s.time.toNat })

/-- What engine e does at its grid tick, if it has not done it yet. -/
def engTurn (s : State) (e : Nat) : State :=
  if !engSteps s e then s else if engReserved (engWord s e) then engHalt s e else engOne s e

/-- The lower-numbered engines of the group that test the same flag in this tick and have not stepped: they come first, since only
the lowest-numbered finds it set (R315). -/
def flagRivals (s : State) (e : Nat) : List Nat :=
  let w := engWord s e
  if wCond w = 11 then
    ((List.range (e % 8)).map (e / 8 * 8 + ·)).filter (fun d =>
      engSteps s d && wCond (engWord s d) == 11 && wArg (engWord s d) % 8 == wArg w % 8)
  else []

/-- The step of engine e on a slot whose ACT is `code`. A command whose slot holds another action, or a reserved encoding, changes
nothing. -/
def engStep (s : State) (e code : Nat) : State :=
  let w := engWord s e
  if !engSteps s e || engReserved w || wAct w != code then s else engOne ((flagRivals s e).foldl engTurn s) e

/-- NONE. -/
def execIosNone (e : Fin 128) (s : State) : Host.Outcome State Fault Refusal := .next (engStep s e 0)
/-- SEND. -/
def execIosSend (e : Fin 128) (s : State) : Host.Outcome State Fault Refusal := .next (engStep s e 1)
/-- SAMPLE. -/
def execIosSample (e : Fin 128) (s : State) : Host.Outcome State Fault Refusal := .next (engStep s e 2)
/-- XFER. -/
def execIosXfer (e : Fin 128) (s : State) : Host.Outcome State Fault Refusal := .next (engStep s e 3)
/-- TAKE. -/
def execIosTake (e : Fin 128) (s : State) : Host.Outcome State Fault Refusal := .next (engStep s e 4)
/-- GIVE. -/
def execIosGive (e : Fin 128) (s : State) : Host.Outcome State Fault Refusal := .next (engStep s e 5)
/-- LOADC. -/
def execLoadc (e : Fin 128) (s : State) : Host.Outcome State Fault Refusal := .next (engStep s e 6)
/-- RELOADC. -/
def execReloadc (e : Fin 128) (s : State) : Host.Outcome State Fault Refusal := .next (engStep s e 7)
/-- ACC_INC. -/
def execAccInc (e : Fin 128) (s : State) : Host.Outcome State Fault Refusal := .next (engStep s e 8)
/-- ACC_DEC. -/
def execAccDec (e : Fin 128) (s : State) : Host.Outcome State Fault Refusal := .next (engStep s e 9)
/-- ACC_GIVE. -/
def execAccGive (e : Fin 128) (s : State) : Host.Outcome State Fault Refusal := .next (engStep s e 10)
/-- ACC_CLR. -/
def execAccClr (e : Fin 128) (s : State) : Host.Outcome State Fault Refusal := .next (engStep s e 11)
/-- FLAG_SET. -/
def execFlagSet (e : Fin 128) (s : State) : Host.Outcome State Fault Refusal := .next (engStep s e 12)
/-- FLAG_CLR. -/
def execFlagClr (e : Fin 128) (s : State) : Host.Outcome State Fault Refusal := .next (engStep s e 13)
/-- RAISE. -/
def execRaise (e : Fin 128) (s : State) : Host.Outcome State Fault Refusal := .next (engStep s e 14)
/-- DRIVE. -/
def execDrive (e : Fin 128) (s : State) : Host.Outcome State Fault Refusal := .next (engStep s e 15)

/-- ENGINE_HALT_RESERVED (R314). -/
def execEngineHaltReserved (e : Fin 128) (s : State) : Host.Outcome State Fault Refusal :=
  .next (if engSteps s e && engReserved (engWord s e) then engHalt s e else s)

/-- The engines of partition p that step in this tick and have not, up to those that a test picks: in the cycle of a waypoint they
act as the capture does (R306, R317, R319). -/
def partTurns (s : State) (p : Nat) (pick : Engine → Bool) : State :=
  (activeEngines s).foldl (fun s e => if engOwner s e = 8 + p ∧ pick (s.engine e) = true then engTurn s e else s) s

/-- An engine whose freeze has ended makes no step in this tick (R307). -/
def iosThaw (old s : State) : State :=
  { s with eng := s.eng.map (fun e =>
      if engFrozen old e.1 && !engFrozen s e.1 then (e.1, { e.2 with lastStep := some s.time.toNat }) else e) }

/-- IOS_STAT and IOS_FSTAT as they read: the state shown, and the FIFOs' levels. -/
def iosStatRead (s : State) (e : Nat) : Word :=
  let x := s.engine e
  let v := withBits (s.reg (A.IOS_STAT e)) 31 29 (engShown s e)
  let v := withBits v 1 1 (if x.tx.length < fifoDepth then 1 else 0)
  withBits v 0 0 (if x.rx.isEmpty then 0 else 1)

def iosFstatRead (s : State) (e : Nat) : Word :=
  withBits (withBits (s.reg (A.IOS_FSTAT e)) 10 8 (s.engine e).tx.length) 2 0 (s.engine e).rx.length

end Sys2Proof.Machine
end

