-- ==== Sys2Proof/Machine/Adc.lean ====
section
/-! DEFINITION. Analog conversion (09_analog_conversion.md): slices, triggers, results and rings. -/

namespace Sys2Proof.Machine

/-! ## Access to the block's state -/

def sliceReset (_ : Nat) : Slice where
  conv := none
  pos := 0
  burst := 0
  nextStart := 0
  offPending := false
  accSum := []
  accN := []
  accClip := []
  results := []
  ringq := []
  ringBase := 0
  ringSize := 0

def groupReset (_ : Nat) : CalGroup where
  cmpSum := 0
  cmpN := 0
  ho := 0

def zeroI (_ : Nat) : Int := 0

def State.slice (s : State) (i : Nat) : Slice := s.adc.slices.read sliceReset i
def State.setSlice (s : State) (i : Nat) (x : Slice) : State :=
  { s with adc := { s.adc with slices := s.adc.slices.write sliceReset i x } }
def State.onSlice (s : State) (i : Nat) (f : Slice → Slice) : State := s.setSlice i (f (s.slice i))

def State.calGroup (s : State) (g : Nat) : CalGroup := s.adc.groups.read groupReset g
def State.setCalGroup (s : State) (g : Nat) (x : CalGroup) : State :=
  { s with adc := { s.adc with groups := s.adc.groups.write groupReset g x } }

/-- The refusals of the block (ADC_ERR). -/
def adcErr (s : State) (cause off : Nat) : State :=
  recordErr s F.ADC_ERR_VALID [(F.ADC_ERR_CAUSE, cause), (F.ADC_ERR_OFFSET, off % 2 ^ 13)]

def aeLocked : Nat := 1
def aeNotReady : Nat := 2
def aeRange : Nat := 3
def aeRing : Nat := 4
def aeRptr : Nat := 5
def aeLead : Nat := 6

def sliceMode (s : State) (i : Nat) : Nat := s.get (F.ADC_SCFG_MODE i)
def sliceLen (s : State) (i : Nat) : Nat := s.get (F.ADC_SSEQ_LEN i)
def sliceAvg (s : State) (i : Nat) : Nat := s.get (F.ADC_SCFG_AVG i)
def sliceFrozen (s : State) (i : Nat) : Bool := s.bitAt F.DBG_FRZ_ADC_FRZ i && s.freezeInForce

/-- Whether conversions and generators advance: a timebase, and a device state that clocks the block (R34, R45). -/
def anaRuns (s : State) : Bool :=
  s.pllClock && (s.dev == dsBoot || s.dev == dsProvision || s.dev == dsRun || s.dev == dsHold || s.dev == dsService)

/-! ## Coefficients (R291–R293) -/

/-- The coefficient that ideal coefficients hold in word w of a record: unit gains, zero offsets and corrections. -/
def idealCoef (k : Nat) : BitVec 32 :=
  let w := k % 40
  if w = 19 ∨ (21 ≤ w ∧ w ≤ 35 ∧ w % 2 = 1) then 0x40000000 else 0

def zero32 (_ : Nat) : BitVec 32 := 0

def layerWord (s : State) (c w : Nat) : BitVec 32 := s.adc.layer.read idealCoef (40 * c + w)
def liveWord (s : State) (c w : Nat) : BitVec 32 := s.adc.live.read zero32 (40 * c + w)
def liveValid (s : State) (c : Nat) : Bool :=
  if c < 32 then s.bitAt F.CAL_LIVE_LIVE_VALID c else s.bitAt F.CAL_LIVE_SP_LIVE_VALID (c - 32)

/-- The converter-level values in use: words 0–19 of the live record, or of the loaded layer (R293). -/
def convWords (s : State) (c : Nat) : List (BitVec 32) :=
  (List.range 20).map (fun w => if liveValid s c then liveWord s c w else layerWord s c w)

/-- The input trims of input m of slice i, always from the loaded layer (R293). -/
def inputTrims (s : State) (i m : Nat) : BitVec 32 × BitVec 32 := (layerWord s i (20 + 2 * m), layerWord s i (21 + 2 * m))

/-- R274: clip a corrected value; the second component says that it was clipped. -/
def clipResult (r : Int) (diff : Bool) : Int × Bool :=
  let lo := if diff then -131072 else 0
  let hi := if diff then 131071 else 262143
  if r < lo then (lo, true) else if hi < r then (hi, true) else (r, false)

/-- `correct` of R293: the sum of the bit weights, the offsets, the gains, the rounding. The arithmetic is exact, as the rule
says; a product of a full-scale code with a gain near 1 does not fit the 64 bits that the rule also names, and nothing wraps
(DEDUCED, log 20). -/
def correct (raw : BitVec 18) (cv : List (BitVec 32)) (tr : BitVec 32 × BitVec 32) (diff : Bool) (ho : BitVec 32) : Int × Bool :=
  let x : Int := (List.range 18).foldl (fun (x : Int) i =>
    if raw.getLsbD i then x + 2 ^ (16 + i) + (cv.getD i 0).toInt else x) 0
  let x := x - ((cv.getD 18 0).toInt + tr.1.toInt + ho.toInt) * 2 ^ 8
  let x := x * ((cv.getD 19 0).toNat : Int) / 2 ^ 30
  let x := x * (tr.2.toNat : Int) / 2 ^ 30
  let r := (x + 0x8000) / 2 ^ 16
  clipResult (if diff then r - 131072 else r) diff

/-- The result of one conversion, with CLIP as R274 gives it. -/
def convResult (raw : BitVec 18) (cv : List (BitVec 32)) (tr : BitVec 32 × BitVec 32) (diff : Bool) (ho : BitVec 32) : Int × Bool :=
  let r := correct raw cv tr diff ho
  (r.1, r.2 || raw == 0 || raw == 0x3FFFF)

/-! ## Conversions (R272–R281, R287–R289) -/

/-- Whether slice i is in an overlap of its group's rotation, 64 of whose conversions are compared (R287, R289). -/
def inOverlap (s : State) (i : Nat) : Bool :=
  let g := i / 8
  let ph := s.get (F.CAL_GROUP_PHASE g)
  (ph == 1 || ph == 3) && s.get (F.CAL_GROUP_SLICE g) == i % 8 && decide ((s.calGroup g).cmpN < 64)

/-- The input that an entry converts; an input of a differential pair converts as the even one (R271). -/
def entryInput (s : State) (i e : Nat) : Nat × Bool :=
  let m := s.get (F.ADC_SSEQ_ENTRY i) / 8 ^ e % 8
  if s.bitAt (F.ADC_SCFG_DIFF i) (m / 2) then (m / 2 * 2, true) else (m, false)

/-- Whether a conversion of slice i may start in this tick (R275, R276, R280). -/
def convDue (s : State) (i : Nat) : Bool :=
  let x := s.slice i
  anaRuns s && !sliceFrozen s i && x.conv.isNone &&
  (if sliceMode s i = 1 then s.onGrid 50 && decide (x.nextStart ≤ s.time.toNat)
   else sliceMode s i == 2 && decide (0 < x.burst) && x.nextStart == s.time.toNat)

/-- CONVERSION_START (R275, R276). The coefficients it uses are those in force now (R293, R294). -/
def execConversionStart (i : Fin 32) (s : State) : Host.Outcome State Fault Refusal :=
  if convDue s i then
    let x := s.slice i
    let g := i.val / 8
    let m := (entryInput s i x.pos).1
    .next (s.setSlice i { x with conv := some {
      start := s.time.toNat, entry := x.pos, slice := convWords s i, spare := convWords s (32 + g)
      trims := inputTrims s i m, onSpare := s.flag (F.ADC_SSTAT_ON_SPARE i), both := inOverlap s i
      ho := if s.get (F.CAL_GROUP_PHASE g) = 1 then 0 else (s.calGroup g).ho } })
  else .next s

/-- MODE becomes OFF: an average that is not complete is discarded (R279). -/
def sliceOff (s : State) (i : Nat) : State :=
  (s.put (F.ADC_SCFG_MODE i) 0).onSlice i (fun x => { x with
    conv := none, burst := 0, offPending := false, accSum := [], accN := [], accClip := [] })

/-- One corrected conversion enters the average of its entry; the 2^k-th makes a result (R281). -/
def accumulate (s : State) (i e m : Nat) (r : Int) (clip spare : Bool) : State :=
  let k := sliceAvg s i
  let x := s.slice i
  let sum := x.accSum.read zeroI e + r
  let n := x.accN.read zeroN e + 1
  let c := x.accClip.read noB e || clip
  if n = 2 ^ k then
    let v := if k = 0 then sum else (sum + 2 ^ (k - 1)) / 2 ^ k
    s.setSlice i { x with
      accSum := x.accSum.write zeroI e 0, accN := x.accN.write zeroN e 0, accClip := x.accClip.write noB e false
      results := x.results ++ [⟨m, BitVec.ofInt 32 v, c, spare⟩] }
  else
    s.setSlice i { x with
      accSum := x.accSum.write zeroI e sum, accN := x.accN.write zeroN e n, accClip := x.accClip.write noB e c }

/-- The difference of an overlap's pair of results joins the mean (R289). -/
def compareOverlap (s : State) (g : Nat) (d : Int) : State :=
  let x := s.calGroup g
  s.setCalGroup g { x with cmpSum := x.cmpSum + d, cmpN := x.cmpN + 1 }

/-- The end of a conversion, with the raw codes of the slice and of the spare (R272, R281, R289). -/
def conversionEnd (s : State) (i : Nat) (raw rawSp : BitVec 18) : State :=
  let x := s.slice i
  match x.conv with
  | none => s
  | some c =>
    if s.time.toNat < c.start + 50 then s
    else
      let md := entryInput s i c.entry
      let rs := convResult raw c.slice c.trims md.2 0
      let rp := convResult rawSp c.spare c.trims md.2 c.ho
      let s := if c.both then compareOverlap s (i / 8) (rp.1 - rs.1) else s
      let r := if c.onSpare then rp else rs
      let s := accumulate s i c.entry md.1 r.1 r.2 c.onSpare
      let s := s.onSlice i (fun x => { x with
        conv := none
        pos := (c.entry + 1) % max 1 (sliceLen s i)
        burst := x.burst - 1
        nextStart := c.start + 50 })
      if x.offPending then sliceOff s i else s

/-- CONVERSION_END (R272). -/
def execConversionEnd (i : Fin 32) (raw rawSp : BitVec 18) (s : State) : Host.Outcome State Fault Refusal :=
  .next (conversionEnd s i raw rawSp)

/-! ## Results and rings (R282–R286) -/

/-- The fill of a ring (R285). -/
def ringFill (s : State) (i : Nat) : Nat :=
  ((s.get (F.ADC_RWPTR_WPTR i)) + 2 ^ 32 - s.get (F.ADC_RRPTR_RPTR i)) % 2 ^ 32

/-- A lost ring entry (R285). -/
def ringLost (s : State) (i : Nat) : State := (s.put (F.ADC_SSTAT_OVR i) 1).addSat (F.ADC_RDROP_COUNT i) 1

/-- A ring entry reaches the writer (R285, R286): lost while the fill is 2^SIZE or the writer's 16 places are taken. -/
def ringTake (s : State) (i : Nat) (w : BitVec 32) : State :=
  let q := (s.slice i).ringq
  if !s.flag (F.ADC_RCTL_EN i) then s
  else if decide (2 ^ s.get (F.ADC_RCTL_SIZE i) ≤ ringFill s i) || decide (16 ≤ q.length) then ringLost s i
  else s.onSlice i (fun x => { x with ringq := x.ringq ++ [w] })

/-- RESULT_VISIBLE (R282): the oldest result updates its latest-sample word, CLIP and the ring writer. -/
def resultVisible (s : State) (i : Nat) : State :=
  match (s.slice i).results with
  | [] => s
  | r :: rest =>
    let s := s.onSlice i (fun x => { x with results := rest })
    let a := 8 * i + r.input
    let seq := (s.get (F.ADC_LATEST_SEQ a) + 1) % 2 ^ 16
    let b (x : Bool) := if x then 1 else 0
    let s := s.setReg (A.ADC_LATEST a) (BitVec.ofNat 64
      (b r.spare * 2 ^ 50 + b r.clip * 2 ^ 49 + 2 ^ 48 + seq * 2 ^ 32 + r.value.toNat))
    let s := if r.clip then s.put (F.ADC_SSTAT_CLIP i) 1 else s
    ringTake s i (BitVec.ofNat 32
      (seq % 512 * 2 ^ 23 + b r.spare * 2 ^ 22 + b r.clip * 2 ^ 21 + r.input * 2 ^ 18 + r.value.toNat % 2 ^ 18))

/-- RESULT_VISIBLE (R282). -/
def execResultVisible (i : Fin 32) (s : State) : Host.Outcome State Fault Refusal := .next (resultVisible s i)

def dmaFrozen (s : State) : Bool := s.flag F.DBG_FRZ_UNIT_DMA && s.freezeInForce

/-- RING_ENTRY_WRITE (R285, R286): the depot accepts the writer's oldest entry, or refuses it and the writer stops. An entry
that finds the ring full waits, so no unread entry is overwritten; the ring is the one of the last enable (log 13). -/
def ringEntryWrite (s : State) (i : Nat) : State :=
  let x := s.slice i
  match x.ringq with
  | [] => s
  | w :: rest =>
    if dmaFrozen s || decide (2 ^ x.ringSize ≤ ringFill s i) then s
    else
      let n := s.get (F.ADC_RWPTR_WPTR i)
      let a := x.ringBase + 4 * (n % 2 ^ x.ringSize)
      if zeroingAt s a then s
      else if inLockedCr s a then
        ((s.put (F.ADC_RCTL_EN i) 0).put (F.ADC_SSTAT_RING_ERR i) 1).onSlice i (fun x => { x with ringq := [] })
      else
        ((storeBytes s 2 i a 4 w.toNat).put (F.ADC_RWPTR_WPTR i) ((n + 1) % 2 ^ 32)).onSlice i
          (fun x => { x with ringq := rest })

/-- RING_ENTRY_WRITE (R285). -/
def execRingEntryWrite (i : Fin 32) (s : State) : Host.Outcome State Fault Refusal := .next (ringEntryWrite s i)

/-- RRPTR_WRITE (R285). -/
def rrptrWrite (s : State) (i v : Nat) : State :=
  if anaOff s then s else
  if 2 ^ s.get (F.ADC_RCTL_SIZE i) < (s.get (F.ADC_RWPTR_WPTR i) + 2 ^ 32 - v) % 2 ^ 32 then
    adcErr s aeRptr (0x1020 + 0x40 * i)
  else s.put (F.ADC_RRPTR_RPTR i) v

/-- RRPTR_WRITE (R285). -/
def execRrptrWrite (i : Fin 32) (v : BitVec 32) (s : State) : Host.Outcome State Fault Refusal :=
  .next (rrptrWrite s i v.toNat)

/-- A write of ADC_RCTL (R286). -/
def rctlWrite (s : State) (i : Nat) (v : Word) : State :=
  if anaOff s then s else
  let off := 0x1018 + 0x40 * i
  let en := bitsOf v 31 31 == 1
  let size := bitsOf v 25 21
  let base := (s.reg (A.ADC_RBASE i)).toNat
  if s.flag (F.ADC_RCTL_EN i) then
    if en then adcErr s aeLocked off
    else
      let s' := s.put (F.ADC_RCTL_EN i) 0
      if bitsOf v 25 0 = bitsOf (s.reg (A.ADC_RCTL i)) 25 0 then s' else adcErr s' aeLocked off
  else if size < 6 ∨ 20 < size then adcErr s aeRange off
  else if en then
    if base % (4 * 2 ^ size) ≠ 0 ∨ !inDepot base ∨ !inDepot (base + 4 * 2 ^ size - 1) then adcErr s aeRing off
    else
      ((genericWrite s (A.ADC_RCTL i) v).put (F.ADC_RWPTR_WPTR i) 0).put (F.ADC_RRPTR_RPTR i) 0
        |>.onSlice i (fun x => { x with ringq := [], ringBase := base, ringSize := size })
  else genericWrite s (A.ADC_RCTL i) v

/-- RING_ENABLE (R286): a write of ADC_RCTL with EN = 1. -/
def execRingEnable (i : Fin 32) (size : BitVec 5) (thr : BitVec 21) (s : State) : Host.Outcome State Fault Refusal :=
  .next (rctlWrite s i (BitVec.ofNat 64 (2 ^ 31 + size.toNat * 2 ^ 21 + thr.toNat)))

/-! ## Configuration (R279, R280, R283) -/

/-- Slice i leaves OFF: its latest-sample words are cleared and its sequence starts afresh (R273, R275, R283). -/
def sliceEnable (s : State) (i : Nat) : State :=
  let s := (List.range 8).foldl (fun s m =>
    ((s.put (F.ADC_LATEST_VALID (8 * i + m)) 0).put (F.ADC_LATEST_SEQ (8 * i + m)) 0).put (F.ADC_LATEST_RESULT (8 * i + m)) 0) s
  s.onSlice i (fun x => { x with
    conv := none, pos := 0, burst := 0, nextStart := s.time.toNat + 1, offPending := false, accSum := [], accN := []
    accClip := [] })

/-- A write of ADC_SCFG (R279, R280, R283). -/
def scfgWrite (s : State) (i : Nat) (v : Word) : State :=
  if anaOff s then s else
  let off := 0x1000 + 0x40 * i
  let mode := bitsOf v 1 0
  if sliceMode s i ≠ 0 then
    if mode ≠ 0 then adcErr s aeLocked off
    else
      let s1 := if bitsOf v 15 2 = bitsOf (s.reg (A.ADC_SCFG i)) 15 2 then s else adcErr s aeLocked off
      if (s1.slice i).conv.isSome then s1.onSlice i (fun x => { x with offPending := true }) else sliceOff s1 i
  else if mode = 3 ∨ 8 < bitsOf v 11 8 then adcErr s aeRange off
  else if mode ≠ 0 ∧ (!s.flag F.ADC_REF_READY ∨ s.flag F.CAL_STATUS_BUSY) then adcErr s aeNotReady off
  else
    let s := genericWrite s (A.ADC_SCFG i) v
    if mode = 0 then s else sliceEnable s i

/-- A write of ADC_SSEQ (R279). -/
def sseqWrite (s : State) (i : Nat) (v : Word) : State :=
  if anaOff s then s else
  let off := 0x1004 + 0x40 * i
  let len := bitsOf v 27 24
  if sliceMode s i ≠ 0 then adcErr s aeLocked off
  else if len = 0 ∨ 8 < len then adcErr s aeRange off
  else genericWrite s (A.ADC_SSEQ i) v

/-- SLICE_CONFIG_WRITE (R279): ADC_SSEQ when `seq` holds, else ADC_SCFG. -/
def execSliceConfigWrite (i : Fin 32) (seq : Bool) (v : BitVec 32) (s : State) : Host.Outcome State Fault Refusal :=
  .next (if seq then sseqWrite s i (v.setWidth 64) else scfgWrite s i (v.setWidth 64))

/-- REF_WRITE (R280, R297). -/
def refWrite (s : State) (v : Word) : State :=
  if anaOff s then s else
  let en := bitsOf v 0 0
  let sel := bitsOf v 1 1
  let selChanges := sel != s.get F.ADC_REF_SEL
  if selChanges && (List.range 32).any (fun i => sliceMode s i != 0) then adcErr s aeLocked 0
  else
    let changes := selChanges || en != s.get F.ADC_REF_EN
    let s := (s.put F.ADC_REF_EN en).put F.ADC_REF_SEL sel
    if changes then s.put F.ADC_REF_READY 0 else s

/-- REF_WRITE (R280). -/
def execRefWrite (en sel : Bool) (s : State) : Host.Outcome State Fault Refusal :=
  .next (refWrite s (BitVec.ofNat 64 ((if en then 1 else 0) + (if sel then 2 else 0))))

/-- REF_SETTLED (R297). -/
def execRefSettled (s : State) : Host.Outcome State Fault Refusal :=
  .next (if s.flag F.ADC_REF_EN then s.put F.ADC_REF_READY 1 else s)

/-! ## Triggers (R276, R277) -/

/-- Whether a WPT-sourced generator has a LEAD that is not less than its partition's PERIOD (R277). -/
def leadBad (s : State) (i : Nat) : Bool :=
  s.flag (F.ADC_TRIGCFG_EN i) && s.get (F.ADC_TRIGCFG_SRC i) == 1 &&
  decide (s.get (F.WPT_PERIOD_PERIOD (s.get (F.ADC_TRIGCFG_PART i))) ≤ s.get (F.ADC_TRIGLEAD_LEAD i))

/-- A write of a generator's registers (R277). A disabled generator keeps no trigger that waits for its tick. -/
def trgWrite (s : State) (i off : Nat) (v : Word) : State :=
  if anaOff s then s else
  let a := 0x40070010 + 0x10 * i + off
  let o := 0x10 + 0x10 * i + off
  if off = 0 ∧ bitsOf v 29 28 = 3 then adcErr s aeRange o
  else if off = 8 ∧ 1 ≤ bitsOf v 23 0 ∧ bitsOf v 23 0 ≤ 49 then adcErr s aeRange o
  else
    let s := genericWrite s a v
    let s := if s.flag (F.ADC_TRIGCFG_EN i) then s
      else { s with adc := { s.adc with trgPend := s.adc.trgPend.write zeroN i 0 } }
    if (off = 0 ∨ off = 4) ∧ leadBad s i then adcErr s aeLead o else s

/-- PERIOD of partition p has dropped from `old`: generators whose LEAD it no longer exceeds are recorded (R277). -/
def trgPeriod (s : State) (p old : Nat) : State :=
  (List.range 4).foldl (fun s i =>
    if leadBad s i && s.get (F.ADC_TRIGCFG_PART i) == p && decide (s.get (F.ADC_TRIGLEAD_LEAD i) < old) then adcErr s aeLead (0x10 + 0x10 * i) else s) s

/-- FIRE (R277): a write of ADC_TRIGSW.FIRE = 1. -/
def fireWrite (s : State) (i : Nat) : State :=
  if s.flag (F.ADC_TRIGCFG_EN i) then
    { s with adc := { s.adc with trgPend := s.adc.trgPend.write zeroN i (s.time.toNat + 1) } }
  else s

/-- FIRE (R277). -/
def execFire (i : Fin 4) (s : State) : Host.Outcome State Fault Refusal := .next (fireWrite s i)

/-- Whether scheduled instant w of partition p gives a trigger in this tick (R277, R541). -/
def wptTick (s : State) (i p w : Nat) : Bool :=
  let t := s.time.toNat
  let lead := s.get (F.ADC_TRIGLEAD_LEAD i)
  let div := s.get (F.ADC_TRIGDIV_DIV i)
  let per := s.get (F.WPT_PERIOD_PERIOD p)
  let q := s.part p
  decide (w ≤ t + lead) && decide (t + lead < w + per) && decide (lead < per) &&
  (if div = 0 then t + lead == w else (t + lead - w) % div == 0) &&
  (match q.timerAt with
   | some a => decide (a ≤ w)
   | none => false) &&
  !q.heldInst.contains w

/-- Whether generator i triggers in this tick (R277). -/
def trgDue (s : State) (i : Nat) : Bool :=
  let pend := s.adc.trgPend.read zeroN i
  let p := s.get (F.ADC_TRIGCFG_PART i)
  let nxt := (s.reg (A.WPT_NEXT p)).toNat
  let per := s.get (F.WPT_PERIOD_PERIOD p)
  s.flag (F.ADC_TRIGCFG_EN i) && anaRuns s && s.adc.trgLast.read zeroN i != s.time.toNat + 1 &&
  ((pend != 0 && pend == s.time.toNat) ||
   (s.get (F.ADC_TRIGCFG_SRC i) == 1 && (wptTick s i p nxt || (decide (per ≤ nxt) && wptTick s i p (nxt - per)))))

/-- A trigger reaches a slice (R276). A burst that a freeze held goes on at the trigger (R280); one at the tick in which a
burst's last conversion ends starts the next burst there. -/
def sliceTrigger (s : State) (i : Nat) : State :=
  let x := s.slice i
  let held := decide (0 < x.burst) && x.conv.isNone && decide (x.nextStart < s.time.toNat)
  let ends := x.burst == 1 && (x.conv.map (fun c => c.start + 50)) == some s.time.toNat
  if ends && !sliceFrozen s i then s.setSlice i { x with burst := 1 + sliceLen s i * 2 ^ sliceAvg s i }
  else if sliceFrozen s i || x.conv.isSome || (decide (0 < x.burst) && !held) then s.put (F.ADC_SSTAT_TRIG_MISS i) 1
  else s.setSlice i { x with
    burst := if held then x.burst else sliceLen s i * 2 ^ sliceAvg s i
    pos := if held then x.pos else 0
    nextStart := s.time.toNat }

/-- A trigger reaches the general DMA channels with PACE = TRIG (R26). -/
def dmaTrigger (s : State) (i : Nat) : State :=
  (List.range 16).foldl (fun s g =>
    if s.flag (F.DMA_CTL_EN g) && s.get (F.DMA_CTL_PACE g) == 3 && s.get (F.DMA_CTL_SEL g) == i then
      if s.dma.trig.read noB g then s.put (F.DMA_STAT_MISS g) 1
      else { s with dma := { s.dma with trig := s.dma.trig.write noB g true } }
    else s) s

/-- TRIGGER_TICK (R277): the slices that follow the generator, the engines' event (R316) and the DMA units (R26). -/
def triggerTick (s : State) (i : Nat) : State :=
  if trgDue s i then
    let s := { s with adc := { s.adc with
      trgPend := s.adc.trgPend.write zeroN i 0, trgLast := s.adc.trgLast.write zeroN i (s.time.toNat + 1) } }
    let s := (List.range 32).foldl (fun s j =>
      if sliceMode s j == 2 && s.get (F.ADC_SCFG_TRIG j) == i then sliceTrigger s j else s) s
    dmaTrigger (iosEvent s i) i
  else s

/-- TRIGGER_TICK (R277). -/
def execTriggerTick (i : Fin 4) (s : State) : Host.Outcome State Fault Refusal := .next (triggerTick s i)

/-! ## Fields computed where they are read -/

/-- ADC_SSTAT as it reads: BUSY and RING_THR (R285). -/
def sstatRead (s : State) (i : Nat) : Word :=
  let x := s.slice i
  let thr := s.get (F.ADC_RCTL_THR i)
  let v := withBits (s.reg (A.ADC_SSTAT i)) 30 30 (if x.conv.isSome || decide (0 < x.burst) then 1 else 0)
  withBits v 0 0 (if thr ≠ 0 ∧ thr ≤ ringFill s i then 1 else 0)

/-- ADC_LATEST as it reads: the odd input of a differential pair reads 0 (R271). -/
def latestRead (s : State) (a : Nat) : Word :=
  if a % 2 = 1 ∧ s.bitAt (F.ADC_SCFG_DIFF (a / 8)) (a % 8 / 2) then 0 else s.reg (A.ADC_LATEST a)

/-- Every other ADC register. -/
def adcRegWrite (s : State) (a : Nat) (v : Word) : State :=
  if 0x40071000 ≤ a ∧ a < 0x40071800 ∧ a % 0x40 = 0x10 ∧ s.flag (F.ADC_RCTL_EN ((a - 0x40071000) / 0x40)) then
    adcErr s aeLocked (a - 0x40070000)
  else genericWrite s a v

end Sys2Proof.Machine
end

