-- ==== Sys2Proof/Machine/Flash.lean ====
section
/-! DEFINITION. Flash memory and its controller (13_flash.md). -/

namespace Sys2Proof.Machine

/-! ## Codewords (R356, R357) -/

def isPow2 (p : Nat) : Bool := p == 1 || p == 2 || p == 4 || p == 8 || p == 16 || p == 32 || p == 64 || p == 128

/-- The positions of the 128 data bits: from 3 upward, powers of two skipped. -/
def eccPositions : List Nat := (List.range 137).filter (fun p => decide (3 ≤ p) && !isPow2 p)

def parityOf (n : Nat) (v : Nat) : Bool := (List.range n).foldl (fun b i => b != (v / 2 ^ i % 2 == 1)) false

/-- c[7:0] of `ecc`: the XOR of the positions of the data bits that are 1. -/
def eccLow (d : BitVec 128) : Nat :=
  (eccPositions.zipIdx.foldl (fun c pi => if d.getLsbD pi.2 then c ^^^ pi.1 else c) 0) % 256

/-- `ecc` of R356. -/
def ecc (d : BitVec 128) : BitVec 9 :=
  let c := eccLow d
  BitVec.ofNat 9 (c + (if parityOf 128 d.toNat != parityOf 8 c then 256 else 0))

/-- What a sensed word gives (R357): erased, data, corrected data, or uncorrectable. -/
inductive Sensed where
  | erased
  | good (d : BitVec 128)
  | corrected (d : BitVec 128)
  | bad
  deriving DecidableEq, Repr

/-- The SEC-DED check of 128 data bits and 9 check bits. -/
def sense (d : BitVec 128) (c : BitVec 9) : Sensed :=
  if d = BitVec.allOnes 128 ∧ c = BitVec.allOnes 9 then .erased
  else
    let syn := eccLow d ^^^ (c.toNat % 256)
    let odd := parityOf 128 d.toNat != parityOf 9 c.toNat
    if syn = 0 then (if odd then .corrected d else .good d)
    else if !odd then .bad
    else if isPow2 syn then .corrected d
    else
      match eccPositions.findIdx? (· == syn) with
      | some i => .corrected (d ^^^ BitVec.ofNat 128 (2 ^ i))
      | none => .bad

/-! ## Cells -/

def erasedCheck (w : Nat) : BitVec 9 := if w = 0x800482 then ecc (Config.deviceId.setWidth 128) else BitVec.allOnes 9

def wordData (s : State) (a : Nat) : BitVec 128 := BitVec.ofNat 128 (s.bytes (a / 16 * 16) 16)
def wordCheck (s : State) (a : Nat) : BitVec 9 := s.flash.check.read erasedCheck (a / 16)

/-- A word takes 128 data bits and the given check bits. -/
def putWord (s : State) (a : Nat) (d : BitVec 128) (c : BitVec 9) : State :=
  let s := s.setBytes (a / 16 * 16) 16 d.toNat
  { s with flash := { s.flash with
      check := s.flash.check.write erasedCheck (a / 16) c, margin := s.flash.margin.write zeroN (a / 16) 0 } }

/-- A word is programmed with new contents and their check bits. -/
def flashWord (s : State) (a : Nat) (d : BitVec 128) : State := putWord s a d (ecc d)

/-- A word whose contents a failed or aborted program leaves open: free data and check bits (log 1). -/
def freeWord (s : State) (a : Nat) : State :=
  let d := s.draw 128
  let c := d.2.draw 9
  putWord c.2 a d.1 c.1

/-- The words from a, whose bytes a program has set, take the check bits of their contents. -/
def checkWords (s : State) (a : Nat) : Nat → State
  | 0 => s
  | n + 1 => checkWords (flashWord s a (wordData s a)) (a + 16) n

/-- The range a to a + n is erased. -/
def eraseRange (s : State) (a n : Nat) : State :=
  { s with
    mem := s.mem.filter (fun e => !decide (a ≤ e.1 ∧ e.1 < a + n))
    flash := { s.flash with
      check := s.flash.check.filter (fun e => !decide (a / 16 ≤ e.1 ∧ e.1 < (a + n) / 16))
      margin := s.flash.margin.filter (fun e => !decide (a / 16 ≤ e.1 ∧ e.1 < (a + n) / 16)) } }

/-! ## Banks and sectors (R355) -/

/-- The bank and sector of a flash address; the INFO bank is 8, its sectors are pages. -/
def flashAt (a : Nat) : Option (Nat × Nat) :=
  if inFlash a then some (a / 0x400000, a % 0x400000 / 0x8000)
  else if inInfo a then some (8, (a - 0x8000000) / 0x800)
  else none

def sectorBase (b j : Nat) : Nat := if b < 8 then b * 0x400000 + j * 0x8000 else 0x8000000 + j * 0x800
def sectorSize (b : Nat) : Nat := if b < 8 then 0x8000 else 0x800

def engIdle (_ : Nat) : FlashEng := { erase := none, prog := none }
def flEng (s : State) (k : Nat) : FlashEng := s.flash.eng.read engIdle k
def setFlEng (s : State) (k : Nat) (e : FlashEng) : State :=
  { s with flash := { s.flash with eng := s.flash.eng.write engIdle k e } }

/-- FLC_BSTAT.STATE codes. -/
def fsIdle : Nat := 0
def fsCheck : Nat := 1
def fsProgram : Nat := 2
def fsErase : Nat := 3
def fsSuspending : Nat := 4
def fsSuspended : Nat := 5
def fsLayby : Nat := 6

def bankState (s : State) (k : Nat) : Nat := s.get (F.FLC_BSTAT_STATE k)
def setBank (s : State) (k st : Nat) : State := s.put (F.FLC_BSTAT_STATE k) st

/-! ## The slots of the layby region (R461, R463) -/

/-- The stored data of a flash word, or none if it cannot be read. -/
def senseData (s : State) (a : Nat) : Option (BitVec 128) :=
  match sense (wordData s a) (wordCheck s a) with
  | .erased => some (BitVec.allOnes 128)
  | .good d => some d
  | .corrected d => some d
  | .bad => none

def slotBase (b j : Nat) : Nat := sectorBase b (120 + j)
def slotWordAt (s : State) (j off : Nat) : Option (BitVec 128) := senseData s (slotBase 0 j + off)

def slFree : Nat := 0
def slBegun : Nat := 1
def slComplete : Nat := 2
def slConsumed : Nat := 3
def slPending : Nat := 4
def slDirty : Nat := 5

def begunWord : BitVec 128 := BitVec.ofNat 128 (0x4C590001 * 2 ^ 96 + (2 ^ 96 - 1))

/-- The state of slot j (R461, R463): PENDING while a sector of it is listed in FLC_PEND. -/
def slotState (s : State) (j : Nat) : Nat :=
  if (List.range 8).any (fun b => s.flash.pend.contains (b, 120 + j)) then slPending
  else
    let used := slotWordAt s j 0x80 != some (BitVec.allOnes 128)
    match slotWordAt s j 0 with
    | none => slDirty
    | some w =>
      if w = BitVec.allOnes 128 then (if used then slDirty else slFree)
      else if w = begunWord then slBegun
      else if w = 0 then (if !used then slComplete else if slotWordAt s j 0x80 = some 0 then slConsumed else slDirty)
      else slDirty

def slotInfo (s : State) (j : Nat) : Nat := ((slotWordAt s j 0x10).getD 0).toNat
def slotSeq (s : State) (j : Nat) : Nat := slotInfo s j % 2 ^ 32

/-- LAY_SLOTj and LAY_STAT.FREE follow the slot. -/
def showSlot (s : State) (j : Nat) : State :=
  let st := slotState s j
  let s := (s.put (F.LAY_SLOT_STATE j) st).put (F.LAY_SLOT_SEQ j) (if st = slFree then 0 else slotSeq s j % 2 ^ 16)
  s.putBit F.LAY_STAT_FREE j (st == slFree)

def showSlots (s : State) : State := (List.range 8).foldl showSlot s

/-- A change to sector j of bank k shows in the slot that holds it. -/
def showSector (s : State) (k j : Nat) : State := if k < 8 ∧ 120 ≤ j then showSlot s (j - 120) else s

/-! ## Engine states -/

/-- A bank that serves no reads (R364); during a layby save every engine is the layby engine's (R377). -/
def bankBusy (s : State) (k : Nat) : Bool :=
  let st := bankState s k
  st == fsProgram || st == fsErase || st == fsSuspending || st == fsLayby

/-! ## Reading (R357–R360, R375, R379) -/

/-- Initiator codes of FLC_UNCORR. -/
def fiFetch : Nat := 0
def fiLoad : Nat := 1
def fiDma : Nat := 2
def fiHost : Nat := 3
def fiDebug : Nat := 4
def fiLayby : Nat := 5
def fiEngine : Nat := 6

/-- What a read of a flash word comes to. -/
inductive FlashRd where
  | data (d : BitVec 128)
  | busy
  | uncorr
  | refused
  deriving DecidableEq, Repr

/-- FLC_REFRESH: the first flagged word is held, later ones are counted (R359). -/
def flagRefresh (s : State) (a : Nat) : State :=
  let s := if s.flag F.FLC_REFRESH_VALID then s
    else attention ((s.put F.FLC_REFRESH_VALID 1).put F.FLC_REFRESH_ADDR (a / 16)) attnFlash
  s.addSat F.FLC_REFRESH_COUNT 1

/-- FLC_UNCORR (R360). -/
def recordUncorr (s : State) (init a : Nat) : State :=
  if s.flag F.FLC_UNCORR_VALID then s
  else attention (((s.put F.FLC_UNCORR_VALID 1).put F.FLC_UNCORR_INIT init).put F.FLC_UNCORR_ADDR (a / 16)) attnFlash

/-- Whether an execute-only region covers an address (R375). -/
def xoCovers (s : State) (a : Nat) : Bool :=
  inFlash a && (List.range 16).any (fun r =>
    s.flag (F.FLC_XO_EN r) && decide (s.get (F.FLC_XO_FIRST r) ≤ a / 0x8000 ∧ a / 0x8000 ≤ s.get (F.FLC_XO_LAST r)))

def recordXo (s : State) (init a : Nat) : State :=
  if s.flag F.FLC_XO_FAULT_VALID then s
  else ((s.put F.FLC_XO_FAULT_VALID 1).put F.FLC_XO_FAULT_INIT init).put F.FLC_XO_FAULT_ADDR (a / 16)

/-- `read_word` of R359 on a word whose stored bits and margin the cells give. -/
def readStored (s : State) (init a : Nat) : FlashRd × State :=
  let m := s.flash.margin.read zeroN (a / 16)
  match sense (wordData s a) (wordCheck s a) with
  | .bad => (.uncorr, recordUncorr s init a)
  | r =>
    let d := match r with
      | .good d => d
      | .corrected d => d
      | _ => BitVec.allOnes 128
    let corr := match r with
      | .corrected _ => true
      | _ => false
    if m = 0 then (.data d, if corr then s.addSat F.FLC_CORR_CORRECTED 1 else s)
    else if m ≤ 6 then
      let s := s.addSat F.FLC_CORR_RESCUED 1
      (.data d, if 3 ≤ m then flagRefresh s a else s)
    else (.uncorr, recordUncorr s init a)

/-- A read of a word whose sector's contents are indeterminate: free data, or an uncorrectable word (R364). -/
def readIndet (s : State) (init a : Nat) : FlashRd × State :=
  let u := s.draw 1
  let d := u.2.draw 128
  if u.1 = 1 then (.uncorr, recordUncorr d.2 init a) else (.data d.1, d.2)

/-- The debug key of R494. -/
def isDebugKey (a : Nat) : Bool := decide (0x8004800 ≤ a ∧ a < 0x8004820)

/-- A read of the word at a by an initiator (R359, R360, R364, R375, R494). After a wake from HIBERNATE it stalls until NVM is
ready (R447). -/
def flashRead (s : State) (init a : Nat) : FlashRd × State :=
  match flashAt a with
  | none => (.refused, s)
  | some (k, j) =>
    if init ≠ fiFetch ∧ xoCovers s a then (.refused, recordXo s init a)
    else if isDebugKey a ∧ s.flag F.SEC_LOCK_DBGKEY then (.refused, s)
    else if bankBusy s k || s.pwr.nvmOff then (.busy, s)
    else if (k, j) ∈ s.flash.indet then readIndet s init a
    else readStored s init a

/-! ## The marker log (R367–R370) -/

def logPage (i : Nat) : Nat := 0x8006000 + (i - 12) * 0x800

def headerData (gen : Nat) : BitVec 128 := BitVec.ofNat 128 (0xA5E700FF * 2 ^ 96 + (2 ^ 64 - 1) * 2 ^ 32 + gen % 2 ^ 32)

/-- The generation of a log page with a correct header. -/
def pageGen (s : State) (i : Nat) : Option Nat :=
  match sense (wordData s (logPage i)) (wordCheck s (logPage i)) with
  | .good d => if d.toNat / 2 ^ 96 = 0xA5E700FF then some (d.toNat % 2 ^ 32) else none
  | .corrected d => if d.toNat / 2 ^ 96 = 0xA5E700FF then some (d.toNat % 2 ^ 32) else none
  | _ => none

/-- The active page (R368); with no correct header page 12 serves (log 15). -/
def activePage (s : State) : Nat :=
  match pageGen s 12, pageGen s 13 with
  | some a, some b => if a < b then 13 else 12
  | none, some _ => 13
  | _, _ => 12

def entryData (b j : Nat) : BitVec 128 :=
  BitVec.ofNat 128 (0xA5E70001 * 2 ^ 96 + (2 ^ 80 - 1) * 2 ^ 16 + b % 16 * 2 ^ 12 + 31 * 2 ^ 7 + j % 128)

/-- The bank and sector of a BEGUN entry at an address. -/
def begunAt (s : State) (a : Nat) : Option (Nat × Nat) :=
  match sense (wordData s a) (wordCheck s a) with
  | .good d => if d.toNat / 2 ^ 96 = 0xA5E70001 then some (d.toNat / 2 ^ 12 % 16, d.toNat % 128) else none
  | .corrected d => if d.toNat / 2 ^ 96 = 0xA5E70001 then some (d.toNat / 2 ^ 12 % 16, d.toNat % 128) else none
  | _ => none

def entryAddrs (i : Nat) : List Nat := (List.range 127).map (fun n => logPage i + 16 * (n + 1))

def freeEntries (s : State) (i : Nat) : List Nat :=
  (entryAddrs i).filter (fun a => sense (wordData s a) (wordCheck s a) == .erased)

/-- The BEGUN entries of a page, in log order. -/
def begunList (s : State) (i : Nat) : List (Nat × Nat) := (entryAddrs i).filterMap (begunAt s)

/-- A BEGUN entry is programmed in the first free word of the active page; its address. -/
def putEntry (s : State) (b j : Nat) : Nat × State :=
  match freeEntries s (activePage s) with
  | a :: _ => (a, flashWord s a (entryData b j))
  | [] => (0, s)

/-- The start of a log move (R368): a BEGUN entry for the other page. -/
def moveStart (s : State) : State :=
  let other := 25 - activePage s
  let s := (putEntry s 8 other).2
  { s.put F.FLC_STAT_LOG_BUSY 1 with flash := { s.flash with move := some other } }

/-- Whether a new entry would leave the active page with fewer than 2 free words. -/
def logFull (s : State) : Bool := decide ((freeEntries s (activePage s)).length < 3)

/-- The new page of a log move: erased, the entries still BEGUN except its own, and the header last. -/
def moveFill (s : State) (page : Nat) : State :=
  let old := activePage s
  let gen := (pageGen s old).getD 0 + 1
  let es := (begunList s old).filter (fun e => e != (8, page))
  let s := eraseRange s (logPage page) 0x800
  let s := es.zipIdx.foldl (fun s ei => flashWord s (logPage page + 16 * (ei.2 + 1)) (entryData ei.1.1 ei.1.2)) s
  flashWord s (logPage page) (headerData gen)

/-! ## Command outcomes -/

def bankDone (s : State) (k : Nat) : State := s.put (F.FLC_BSTAT_DONE k) 1
def bankFail (s : State) (k cause : Nat) : State := (s.put (F.FLC_BSTAT_FAIL k) 1).put (F.FLC_BSTAT_CAUSE k) cause

def fcEccConflict : Nat := 9
def fcOldEcc : Nat := 10
def fcVerify : Nat := 11
def fcEraseVerify : Nat := 12
def fcAborted : Nat := 13

/-- The state an engine shows once a program of it has ended. -/
def restState (s : State) (k : Nat) : Nat :=
  match (flEng s k).erase with
  | some _ => fsSuspended
  | none => fsIdle

def pendDrop (s : State) (b j : Nat) : State :=
  showSector { s with flash := { s.flash with pend := s.flash.pend.filter (fun e => e != (b, j)) } } b j

/-! ## The erases of COMMIT_USER (R295) -/

/-- A CAL command ends with a result; the host's own command completes with CAL_STATUS (R296). -/
def calEnd (s : State) (result : Nat) : State :=
  let host := s.adc.calHost
  let s := (s.put F.CAL_STATUS_BUSY 0).put F.CAL_STATUS_RESULT result
  let s := { s with adc := { s.adc with calHost := false, calHold := false, commit := 0, fold := [] } }
  if host then cmdDone s (s.reg A.CAL_STATUS).toNat else s

/-- The start of an erase (R367): it waits in CHECK for its BEGUN entry, and its sector joins the pending list (DEDUCED,
log 16). -/
def eraseStart (s : State) (k j : Nat) (cal : Bool) : State :=
  let s := (s.put (F.FLC_BSTAT_LAST k) 3).put (F.FLC_BSTAT_SECTOR k) j
  let was := decide ((k, j) ∈ s.flash.pend)
  let s := setFlEng s k { flEng s k with erase := some ⟨j, 0, 0, 0, 0, false, was, cal⟩ }
  let s := if was then s else { s with flash := { s.flash with pend := s.flash.pend ++ [(k, j)] } }
  let s := showSector (setBank s k fsCheck) k j
  if logFull s && s.flash.move.isNone then moveStart s else s

/-- COMMIT_USER's next step once the INFO engine is free: the erase of the next page of the user rows, refused by a full
pending list (R370) like any other, or, with all four pages erased, the programs, which the engine runs until
COMMIT_USER_DONE (DESIGN CHOICE, log 72). -/
def commitNext (s : State) : State :=
  if bankState s 8 ≠ fsIdle then s
  else if 4 ≤ s.adc.commit ∧ s.adc.commit < 8 then
    if 16 ≤ s.flash.pend.length then calEnd s 3 else eraseStart s 8 s.adc.commit true
  else if s.adc.commit = 8 then setBank s 8 fsProgram
  else s

/-- An erase of the INFO engine has ended: COMMIT_USER goes on, or ends with FLASH_ERR if it was its own and failed. -/
def commitErased (s : State) (k : Nat) (e : Erase) (ok : Bool) : State :=
  if k ≠ 8 then s
  else if e.cal && s.adc.commit == e.sector then
    if ok then commitNext { s with adc := { s.adc with commit := s.adc.commit + 1 } } else calEnd s 3
  else commitNext s

/-- An erase that has not begun ends FAIL: its sector leaves the list unless it was pending before. -/
def eraseFail (s : State) (k : Nat) (e : Erase) : State :=
  let s := setFlEng s k { flEng s k with erase := none }
  let s := setBank (bankFail s k fcEraseVerify) k fsIdle
  commitErased (if e.wasPending then s else pendDrop s k e.sector) k e false

/-- LOG_MOVE_DONE (R368): the new header is programmed, or the move fails, sets LOG, and ends every erase that waits. -/
def logMoveDone (s : State) (ok : Bool) : State :=
  match s.flash.move with
  | none => s
  | some page =>
    let s' := if ok then moveFill s page else s
    let s' := { s'.put F.FLC_STAT_LOG_BUSY 0 with flash := { s'.flash with move := none } }
    if ok then s'
    else
      let s' := if s'.flag F.FLC_STAT_LOG then s' else attention (s'.put F.FLC_STAT_LOG 1) attnFlash
      (List.range 9).foldl (fun s k =>
        match (flEng s k).erase with
        | some e => if e.phase = 0 then eraseFail s k e else s
        | none => s) s'

/-- LOG_MOVE_DONE (R368). -/
def execLogMoveDone (ok : Bool) (s : State) : Host.Outcome State Fault Refusal := .next (logMoveDone s ok)

/-! ## Commands (R361–R374) -/

def wpLow (s : State) : Bool := !s.pads.wpN

/-- R373. -/
def wpProtected (s : State) (b j : Nat) : Bool :=
  wpLow s && ((b == 0 && j == 0) || (b == 8 && (decide (j ≤ 3) || j == 8 || j == 9 || j == 10)))

/-- R374 and R494. -/
def regionRefused (s : State) (cmd a b j : Nat) (layby : Bool) : Bool :=
  (b == 8 && decide (11 ≤ j)) ||
  (b == 8 && j == 10 && (cmd == 2 || (cmd == 1 && a != 0x8005000))) ||
  (decide (b < 8 ∧ 120 ≤ j) && (cmd != 3 || !layby)) ||
  (b == 8 && (j == 8 || j == 9) && s.flag F.SEC_LOCK_KEYS) || (b == 8 && j == 9 && s.flag F.SEC_LOCK_DBGKEY)

/-- An engine that takes a PROG or BURST to sector j, or an ERASE, now (R361, BUSY). -/
def engTakes (s : State) (k j cmd : Nat) : Bool :=
  bankState s k == fsIdle ||
  (bankState s k == fsSuspended && cmd != 3 && (match (flEng s k).erase with
    | some e => e.sector != j
    | none => false))

/-- The first failing check of R361, or 0. -/
def flcCheck (s : State) (key cmd bank : Nat) (layby : Bool) : Nat :=
  let a := (s.reg A.FLC_ADDR).toNat
  if key ≠ 0xC5 then 1
  else if cmd = 4 ∨ cmd = 5 then
    if 8 < bank then 2
    else if cmd = 4 ∧ bankState s bank ≠ fsErase then 3
    else if cmd = 5 ∧ bankState s bank ≠ fsSuspended then 3
    else 0
  else if cmd = 0 ∨ 5 < cmd ∨ 8 < bank then 2
  else
    match flashAt a with
    | none => 2
    | some (b, j) =>
      if cmd = 2 ∧ a % 128 ≠ 0 then 2
      else if !engTakes s b j cmd then 4
      else if wpProtected s b j then 5
      else if regionRefused s cmd a b j layby then 6
      else if cmd ≠ 3 ∧ (b, j) ∈ s.flash.pend then 7
      else if cmd = 3 ∧ 16 ≤ s.flash.pend.length then 8
      else 0

/-- Word w of FLC_BUF. -/
def bufWord (s : State) (w : Nat) : BitVec 128 :=
  BitVec.ofNat 128 ((List.range 4).foldl (fun v i => v + (s.flash.buf.read zero32 (4 * w + i)).toNat * 2 ^ (32 * i)) 0)

/-- `prog_check` of R366: the cause, or 0. -/
def progCheck (s : State) (a : Nat) (new : BitVec 128) : Nat :=
  match sense (wordData s a) (wordCheck s a) with
  | .erased => 0
  | .good d =>
    if s.flash.margin.read zeroN (a / 16) ≠ 0 then fcOldEcc
    else if new &&& ~~~d ≠ 0 ∨ ecc new &&& ~~~(wordCheck s a) ≠ 0 then fcEccConflict
    else 0
  | _ => fcOldEcc

/-- An accepted PROG or BURST (R363, R366). -/
def progStart (s : State) (k j a : Nat) (ws : List (BitVec 128)) (last : Nat) : State :=
  let s := (s.put (F.FLC_BSTAT_LAST k) last).put (F.FLC_BSTAT_SECTOR k) j
  let c := (ws.zipIdx.map (fun wi => progCheck s (a + 16 * wi.2) wi.1)).find? (· != 0)
  match c with
  | some c => bankFail s k c
  | none => setBank (setFlEng s k { flEng s k with prog := some ⟨a, ws⟩ }) k fsProgram

/-- A suspend begins (R371). -/
def suspendNow (s : State) (k : Nat) (e : Erase) (auto : Bool) : State :=
  setBank (setFlEng s k { flEng s k with erase := some { e with phase := 2, held := 0, auto := auto } }) k fsSuspending

/-- A suspend request: it acts at once unless MINRUN holds it (R371). -/
def suspendReq (s : State) (k : Nat) (auto : Bool) : State :=
  match (flEng s k).erase with
  | some e =>
    if e.phase ≠ 1 then s
    else if s.time.toNat - e.since < 1000 * s.get F.FLC_CFG_MINRUN then
      setFlEng s k { flEng s k with erase := some { e with held := if auto then 2 else 1 } }
    else suspendNow s k e auto
  | none => s

/-- A resume (R371, R372). -/
def resumeNow (s : State) (k : Nat) : State :=
  match (flEng s k).erase with
  | some e =>
    if e.phase = 3 ∧ (flEng s k).prog.isNone then
      setBank (setFlEng s k { flEng s k with erase := some { e with phase := 1, since := s.time.toNat, auto := false } }) k fsErase
    else s
  | none => s

/-- A write of FLC_CMD (R361). -/
def flcCommand (s : State) (key cmd bank : Nat) (layby : Bool) : State :=
  let a := (s.reg A.FLC_ADDR).toNat
  let at' := (flashAt a).getD (0, 0)
  let b := if cmd = 4 ∨ cmd = 5 then bank else at'.1
  let c := flcCheck s key cmd bank layby
  let s := ((s.put F.FLC_RESULT_CAUSE c).put F.FLC_RESULT_BANK b).put F.FLC_RESULT_CMD cmd
  if c ≠ 0 then s
  else if cmd = 1 then progStart s b at'.2 a [bufWord s 0] 1
  else if cmd = 2 then progStart s b at'.2 a ((List.range 8).map (bufWord s)) 2
  else if cmd = 3 then eraseStart s b at'.2 false
  else if cmd = 4 then suspendReq s b false
  else resumeNow s b

/-- PROG (R363). -/
def execProg (key : BitVec 8) (s : State) : Host.Outcome State Fault Refusal := .next (flcCommand s key.toNat 1 0 false)
/-- BURST (R363). -/
def execBurst (key : BitVec 8) (s : State) : Host.Outcome State Fault Refusal := .next (flcCommand s key.toNat 2 0 false)
/-- ERASE (R367). -/
def execErase (key : BitVec 8) (layby : Bool) (s : State) : Host.Outcome State Fault Refusal :=
  .next (flcCommand s key.toNat 3 0 layby)
/-- SUSPEND (R371). -/
def execSuspend (key : BitVec 8) (bank : BitVec 4) (s : State) : Host.Outcome State Fault Refusal :=
  .next (flcCommand s key.toNat 4 bank.toNat false)
/-- RESUME (R371). -/
def execResume (key : BitVec 8) (bank : BitVec 4) (s : State) : Host.Outcome State Fault Refusal :=
  .next (flcCommand s key.toNat 5 bank.toNat false)

/-- PROG_DONE (R363): the words are programmed and read back as intended, or end FAIL with VERIFY. -/
def progDone (s : State) (k : Nat) (ok : Bool) : State :=
  match (flEng s k).prog with
  | none => s
  | some p =>
    let s := p.data.zipIdx.foldl (fun s wi =>
      if ok then flashWord s (p.addr + 16 * wi.2) wi.1 else freeWord s (p.addr + 16 * wi.2)) s
    let s := setFlEng s k { flEng s k with prog := none }
    let s := setBank s k (restState s k)
    let s := if ok then bankDone s k else bankFail s k fcVerify
    if k = 8 then commitNext s else s

/-- PROG_DONE (R363). -/
def execProgDone (k : Fin 9) (ok : Bool) (s : State) : Host.Outcome State Fault Refusal := .next (progDone s k ok)

/-- ERASE_MARKER_DONE (R367): the BEGUN entry is verified and the erase starts. An entry that would leave the log too
full waits for a log move. -/
def execEraseMarkerDone (k : Fin 9) (s : State) : Host.Outcome State Fault Refusal :=
  match (flEng s k).erase with
  | some e =>
    if e.phase ≠ 0 ∨ s.flash.move.isSome then .next s
    else if logFull s then .next (moveStart s)
    else
      let r := putEntry s k e.sector
      let s := r.2
      let s := setFlEng s k { flEng s k with erase := some { e with phase := 1, entry := r.1, since := s.time.toNat } }
      let s := { s with flash := { s.flash with
        indet := if (k.val, e.sector) ∈ s.flash.indet then s.flash.indet else s.flash.indet ++ [(k.val, e.sector)] } }
      .next (setBank s k fsErase)
  | none => .next s

/-- ERASE_END (R363): the erase and its verify end; reads of the bank resume. -/
def execEraseEnd (k : Fin 9) (ok : Bool) (s : State) : Host.Outcome State Fault Refusal :=
  match (flEng s k).erase with
  | some e =>
    if e.phase ≠ 1 then .next s
    else if ok then
      let s := eraseRange s (sectorBase k e.sector) (sectorSize k)
      let s := { s with flash := { s.flash with indet := s.flash.indet.filter (fun x => x != (k.val, e.sector)) } }
      .next (setBank (setFlEng s k { flEng s k with erase := some { e with phase := 4, held := 0 } }) k fsCheck)
    else .next (commitErased (setBank (bankFail (setFlEng s k { flEng s k with erase := none }) k fcEraseVerify) k fsIdle) k e false)
  | none => .next s

/-- Every BEGUN entry of a sector in the active page is programmed to zero. -/
def zeroEntries (s : State) (b j : Nat) : State :=
  (entryAddrs (activePage s)).foldl (fun s a => if begunAt s a = some (b, j) then flashWord s a 0 else s) s

/-- ERASE_MARKER_CLEARED (R367): the entry is zeroed, DONE is set and the sector leaves FLC_PEND (R369). -/
def execEraseMarkerCleared (k : Fin 9) (s : State) : Host.Outcome State Fault Refusal :=
  match (flEng s k).erase with
  | some e =>
    if e.phase ≠ 4 ∨ s.flash.move.isSome then .next s
    else
      let s := pendDrop (zeroEntries s k e.sector) k e.sector
      .next (commitErased (bankDone (setBank (setFlEng s k { flEng s k with erase := none }) k fsIdle) k) k e true)
  | none => .next s

/-- AUTO_SUSPEND (R371): a read waits on an erasing bank whose AUTOSUS bit is 1. -/
def execAutoSuspend (k : Fin 9) (s : State) : Host.Outcome State Fault Refusal :=
  .next (if s.bitAt F.FLC_CFG_AUTOSUS k then suspendReq s k true else s)

/-- MINRUN_ELAPSED (R371): a held request acts. -/
def execMinrunElapsed (k : Fin 9) (s : State) : Host.Outcome State Fault Refusal :=
  match (flEng s k).erase with
  | some e => .next (if e.phase = 1 ∧ e.held ≠ 0 then suspendNow s k e (e.held == 2) else s)
  | none => .next s

/-- SUSPEND_DONE (R371). -/
def execSuspendDone (k : Fin 9) (s : State) : Host.Outcome State Fault Refusal :=
  match (flEng s k).erase with
  | some e =>
    .next (if e.phase = 2 then setBank (setFlEng s k { flEng s k with erase := some { e with phase := 3 } }) k fsSuspended else s)
  | none => .next s

/-- AUTO_SUSPEND_END (R371): 16 µs without a read, or MAXSUS, ends an automatic suspend. -/
def execAutoSuspendEnd (k : Fin 9) (s : State) : Host.Outcome State Fault Refusal :=
  match (flEng s k).erase with
  | some e => .next (if e.auto then resumeNow s k else s)
  | none => .next s

/-- WP_CHANGE (R373): the synchronised level of WP_N changes. -/
def execWpChange (level : Bool) (s : State) : Host.Outcome State Fault Refusal :=
  if s.pads.wpN = level then .next s
  else .next ({ s with pads := { s.pads with wpN := level } }.put F.FLC_STAT_WP_CHG 1)

/-! ## Resets, layby and power (R369, R377, R378) -/

/-- A chip reset or the loss of VCORE: programs are aborted and erases end with their markers left BEGUN (R377). -/
def flashAbort (s : State) : State :=
  let s := (List.range 9).foldl (fun s k =>
    match (flEng s k).prog with
    | some p => (List.range p.data.length).foldl (fun s i => freeWord s (p.addr + 16 * i)) s
    | none => s) s
  { s with flash := { s.flash with eng := [], buf := [], pend := [], move := none } }

/-- Entry to LAYBY (R377): programs complete, erases are abandoned with ABORTED, and the layby engine owns the engines.
A COMMIT_USER that is in progress ends with FLASH_ERR (log 72). -/
def flashLayby (s : State) : State :=
  let s := if s.adc.commit = 0 then s else calEnd s 3
  (List.range 9).foldl (fun s k =>
    let s := progDone s k true
    let s := match (flEng s k).erase with
      | some _ => bankFail (setFlEng s k { flEng s k with erase := none }) k fcAborted
      | none => s
    setBank s k fsLayby) s

/-- An engine that stands in the way of a power state (R378). -/
def flashBusy (s : State) : Bool :=
  s.flag F.FLC_STAT_LOG_BUSY || (List.range 9).any (fun k => bankState s k != fsIdle && bankState s k != fsSuspended)

/-- The scan of the marker log (R369, R370). -/
def flashScan (s : State) : State :=
  let b := begunList s (activePage s)
  let pend := (b.filter (fun e => !(e.1 == 8 && (e.2 == 12 || e.2 == 13)))).take 16
  let s := { s with flash := { s.flash with
    pend := pend, indet := pend ++ s.flash.indet.filter (fun e => decide (e ∉ pend)) } }
  let s := showSlots (s.put F.FLC_STAT_SCAN_DONE 1)
  let s := match b.find? (fun e => e.1 == 8 && (e.2 == 12 || e.2 == 13)) with
    | some e => { s.put F.FLC_STAT_LOG_BUSY 1 with flash := { s.flash with move := some e.2 } }
    | none => s
  if b.isEmpty then s else attention (s.put F.FLC_STAT_PEND_FOUND 1) attnFlash

/-! ## Registers -/

/-- FLC_STAT as it reads: its mirrors and counts. -/
def flcStatRead (s : State) : Word :=
  let b (x : Bool) := if x then 1 else 0
  let v := s.reg A.FLC_STAT
  let v := withBits v 31 31 (b s.pads.wpN)
  let v := withBits v 28 24 s.flash.pend.length
  let v := withBits v 5 5 (s.get F.FLC_XO_FAULT_VALID)
  let v := withBits v 3 3 (s.get F.FLC_UNCORR_VALID)
  let v := withBits v 2 2 (s.get F.FLC_REFRESH_VALID)
  let v := withBits v 1 1 (b ((List.range 9).any (fun k => s.flag (F.FLC_BSTAT_FAIL k))))
  withBits v 0 0 (b ((List.range 9).any (fun k => s.flag (F.FLC_BSTAT_DONE k))))

/-- FLC_PENDi as it reads. -/
def flcPendRead (s : State) (i : Nat) : Word :=
  match s.flash.pend[i]? with
  | some (b, j) => BitVec.ofNat 64 (2 ^ 31 + b * 2 ^ 8 + j)
  | none => 0

/-- A write of FLC_REFRESH: COUNT clears with VALID. -/
def flcRefreshWrite (s : State) (v : Word) : State :=
  let s := genericWrite s A.FLC_REFRESH v
  if s.flag F.FLC_REFRESH_VALID then s else s.setReg A.FLC_REFRESH 0

/-- A write of FLC_BUFi. -/
def flcBufWrite (s : State) (i : Nat) (v : BitVec 32) : State :=
  { s with flash := { s.flash with buf := s.flash.buf.write zero32 i v } }

end Sys2Proof.Machine
end

