-- ==== Sys2Proof/Machine/Cal.lean ====
section
/-! DEFINITION. Background calibration and the calibration layers (09_analog_conversion.md, R287–R296). -/

namespace Sys2Proof.Machine

/-! ## Layers (R291, R292) -/

def factoryRows : Nat := 0x8000000
def userRows : Nat := 0x8002000

/-- One step of the CRC-32 of IEEE 802.3, bit-reflected. -/
def crcBit (c : BitVec 32) : BitVec 32 := if c.getLsbD 0 then (c >>> 1) ^^^ 0xEDB88320#32 else c >>> 1

def crcByte (c : BitVec 32) (b : Byte) : BitVec 32 :=
  let c := c ^^^ b.setWidth 32
  crcBit (crcBit (crcBit (crcBit (crcBit (crcBit (crcBit (crcBit c)))))))

/-- CRC-32 over flash words, each from its lowest byte. -/
def crcRows (ws : List (BitVec 128)) : BitVec 32 :=
  ~~~(ws.foldl (fun (c : BitVec 32) (w : BitVec 128) => (List.range 16).foldl (fun c i => crcByte c ((w >>> (8 * i)).setWidth 8)) c) 0xFFFFFFFF)

/-- The value of a committed COMMIT word: 1 in its first 4 bytes, the other bytes 0xFF (R291). -/
def commitWord : BitVec 128 := BitVec.ofNat 128 (2 ^ 128 - 2 ^ 32 + 1)

/-- n flash words from a as the CAL block reads them (R359): corrected, and none where one is uncorrectable. It reads as a
bank engine (DESIGN CHOICE, log 72). -/
def rowWords (s : State) (a : Nat) : Nat → Option (List (BitVec 128)) × State
  | 0 => (some [], s)
  | n + 1 =>
    let r := flashRead s fiEngine a
    let t := rowWords r.2 (a + 16) n
    match r.1, t.1 with
    | .data d, some ds => (some (d :: ds), t.2)
    | _, _ => (none, t.2)

/-- The four header words and the 360 record words of the layer at a base. -/
def layerRows (s : State) (b : Nat) : Option (List (BitVec 128)) × State := rowWords s b 364

/-- The header word of a layer of the given REF_TRIM and CRC (R291): MAGIC, VERSION 1, COUNT 36. -/
def headerWord (trim : BitVec 16) (crc : BitVec 32) : BitVec 128 :=
  BitVec.ofNat 128 (0x4C435642 + 2 ^ 32 + 36 * 2 ^ 48 + trim.toNat * 2 ^ 64 + crc.toNat * 2 ^ 96)

/-- Whether header word h names a layer whose records have the given CRC. -/
def layerHeaderOk (h : BitVec 128) (crc : BitVec 32) : Bool :=
  h.setWidth 64 == (headerWord 0 0).setWidth 64 && h >>> 96 == crc.setWidth 128

/-- Whether the layer at a base, whose words have been read, is valid (R292). -/
def layerValid (s : State) (b : Nat) (ws : Option (List (BitVec 128))) : Bool :=
  match ws with
  | some (h :: commit :: _ :: _ :: recs) =>
    commit == commitWord && sense (wordData s (b + 0x20)) (wordCheck s (b + 0x20)) == .erased && layerHeaderOk h (crcRows recs)
  | _ => false

/-- Load a layer from its words: 36 records of 40 coefficients, and REF_TRIM. -/
def loadLayer (s : State) (ws : Option (List (BitVec 128))) : State :=
  match ws with
  | some (h :: _ :: _ :: _ :: recs) =>
    let t := (List.range 1440).foldl (fun t j =>
      Tab.write idealCoef t j ((recs.getD (j / 4) 0 >>> (32 * (j % 4))).setWidth 32)) ([] : Tab (BitVec 32))
    { s with adc := { s.adc with layer := t, refTrim := (h >>> 64).setWidth 16 } }
  | _ => s

/-- Whether the info rows cannot be read in this cycle (R364, R447). -/
def rowsBusy (s : State) : Bool := bankBusy s 8 || s.pwr.nvmOff

/-- CAL_LOAD_DONE (R292): the load that a release of reset or the return of the ANA domain started ends. -/
def calLoadDone (s : State) : State :=
  if !s.flag F.CAL_STATUS_BUSY || s.get F.CAL_STATUS_CMD != 0 || !s.flag F.PWR_DOM_STAT_ANA || rowsBusy s then s
  else
    let ru := layerRows s userRows
    let rf := layerRows ru.2 factoryRows
    let u := layerValid s userRows ru.1
    let f := layerValid s factoryRows rf.1
    let s := rf.2
    let s := ((s.putFlag F.CAL_STATUS_USER_VALID u).putFlag F.CAL_STATUS_FACTORY_VALID f).put F.CAL_STATUS_BUSY 0
    if u then (loadLayer s ru.1).put F.CAL_STATUS_LAYER 2
    else if f then (loadLayer s rf.1).put F.CAL_STATUS_LAYER 1
    else attention ({ s with adc := { s.adc with layer := [], refTrim := 0 } }.put F.CAL_STATUS_LAYER 0) attnCal

/-- CAL_LOAD_DONE (R292). -/
def execCalLoadDone (s : State) : Host.Outcome State Fault Refusal := .next (calLoadDone s)

/-! ## Rotation (R287–R290) -/

def phIdle : Nat := 0
def phIn : Nat := 1
def phCal : Nat := 2
def phOut : Nat := 3
def phSelf : Nat := 4

def calPhase (s : State) (g : Nat) : Nat := s.get (F.CAL_GROUP_PHASE g)
def calSlice (s : State) (g : Nat) : Nat := s.get (F.CAL_GROUP_SLICE g)

/-- Begin the step of slice m of group g, or of the spare (m = 8): a slice whose MODE is OFF has no overlap (R287). -/
def stepBegin (s : State) (g m : Nat) : State :=
  let s := s.put (F.CAL_GROUP_SLICE g) m
  let s := s.setCalGroup g (groupReset g)
  s.put (F.CAL_GROUP_PHASE g) (if m = 8 then phSelf else if sliceMode s (8 * g + m) = 0 then phCal else phIn)

/-- Whether group g may go on rotating: ROT_EN, and no RESTORE_FACTORY that waits (R290, R294). -/
def rotates (s : State) (g : Nat) : Bool := s.bitAt F.CAL_CTL_ROT_EN g && !s.adc.calHold

/-- The end of a step: the next one, or IDLE. -/
def stepEnd (s : State) (g : Nat) : State :=
  if rotates s g then stepBegin s g ((calSlice s g + 1) % 9) else s.put (F.CAL_GROUP_PHASE g) phIdle

/-- A group stopped by a failure (R289). -/
def groupFailed (s : State) (g : Nat) : Bool :=
  s.flag (F.CAL_GROUP_SPARE_FAILED g) || s.get (F.CAL_GROUP_FAILED g) != 0

/-- A write of CAL_CTL (R287, R290): an idle group whose ROT_EN rises begins at S(8g). -/
def calCtlWrite (s : State) (v : Word) : State :=
  if anaOff s then s else
  let old := s.get F.CAL_CTL_ROT_EN
  let s := genericWrite s A.CAL_CTL v
  (List.range 4).foldl (fun s g =>
    if old / 2 ^ g % 2 = 0 ∧ rotates s g ∧ calPhase s g = phIdle ∧ !groupFailed s g then stepBegin s g 0 else s) s

/-- A group failure: the rotation stops, CAL is raised and logged (R289). -/
def groupFail (s : State) (g : Nat) : State :=
  attention (logEvent (s.put (F.CAL_GROUP_PHASE g) phIdle) 7 (0xF0 + g) 0) attnCal

/-- Whether the mean of an overlap's 64 differences exceeds MISMATCH_LIM (R289). -/
def mismatch (s : State) (g : Nat) : Bool :=
  decide (64 * s.get F.CAL_CTL_MISMATCH_LIM < (s.calGroup g).cmpSum.natAbs)

/-- OVERLAP_IN_END (R288, R289): the spare takes over with the offset HO, the mean difference, or is suspect. -/
def execOverlapInEnd (g : Fin 4) (s : State) : Host.Outcome State Fault Refusal :=
  let i := 8 * g.val + calSlice s g
  let x := s.calGroup g
  if calPhase s g ≠ phIn then .next s
  else if sliceMode s i = 0 then .next (s.put (F.CAL_GROUP_PHASE g) phCal)
  else if x.cmpN < 64 then .next s
  else if mismatch s g then
    .next (groupFail ((s.put (F.CAL_GROUP_SPARE_FAILED g) 1).put (F.ADC_SSTAT_SPARE_FAIL (8 * g.val)) 1) g)
  else
    .next (((s.put (F.ADC_SSTAT_ON_SPARE i) 1).put (F.CAL_GROUP_PHASE g) phCal).setCalGroup g
      { cmpSum := 0, cmpN := 0, ho := BitVec.ofInt 32 (4 * x.cmpSum) })

/-- A live record: 18 weight corrections, the offset and the gain that the phase measured. -/
def liveRecord (s : State) (c : Nat) (m : List (BitVec 32)) : State :=
  { s with adc := { s.adc with
      live := (List.range 20).foldl (fun t w => Tab.write zero32 t (40 * c + w) (m.getD w 0)) s.adc.live } }

/-- CALIBRATE_END (R287, R293): the slice's live record is complete, with what it measured, and OVERLAP_OUT begins. A slice
that is OFF has none, but for one under cover, which returns only through a fresh OVERLAP_OUT (R290). -/
def execCalibrateEnd (g : Fin 4) (m : List (BitVec 32)) (s : State) : Host.Outcome State Fault Refusal :=
  let i := 8 * g.val + calSlice s g
  if calPhase s g ≠ phCal then .next s
  else
    let s := (liveRecord s i m).putBit F.CAL_LIVE_LIVE_VALID i true
    if sliceMode s i = 0 ∧ !s.flag (F.CAL_GROUP_COVER g) then .next (stepEnd (s.put (F.ADC_SSTAT_ON_SPARE i) 0) g)
    else .next (s.put (F.CAL_GROUP_PHASE g) phOut)

/-- OVERLAP_OUT_END (R288, R289): the slice returns to duty, or the spare goes on covering it. -/
def execOverlapOutEnd (g : Fin 4) (s : State) : Host.Outcome State Fault Refusal :=
  let i := 8 * g.val + calSlice s g
  if calPhase s g ≠ phOut then .next s
  else if (sliceMode s i ≠ 0 ∨ s.flag (F.CAL_GROUP_COVER g)) ∧ (s.calGroup g).cmpN < 64 then .next s
  else if (sliceMode s i ≠ 0 ∨ s.flag (F.CAL_GROUP_COVER g)) ∧ mismatch s g then
    .next (groupFail (((s.putBit (F.CAL_GROUP_FAILED g) (calSlice s g) true).put (F.CAL_GROUP_COVER g) 1).put
      (F.ADC_SSTAT_CAL_FAIL i) 1) g)
  else .next (stepEnd ((s.put (F.ADC_SSTAT_ON_SPARE i) 0).put (F.CAL_GROUP_COVER g) 0) g)

/-- SPARE_SELF_END (R287): the spare's own live record is complete and the rotation goes on. -/
def execSpareSelfEnd (g : Fin 4) (m : List (BitVec 32)) (s : State) : Host.Outcome State Fault Refusal :=
  if calPhase s g ≠ phSelf then .next s
  else .next (stepEnd ((liveRecord s (32 + g) m).putBit F.CAL_LIVE_SP_LIVE_VALID g true) g)

/-- CLEAR_FAILED (R290): the failures of each group of the mask clear and its stopped rotation restarts. -/
def clearFailed (s : State) (mask : Nat) : State :=
  (List.range 4).foldl (fun s g =>
    if mask / 2 ^ g % 2 = 1 ∧ groupFailed s g then
      let s := (s.put (F.CAL_GROUP_FAILED g) 0).put (F.CAL_GROUP_SPARE_FAILED g) 0
      if s.flag (F.CAL_GROUP_COVER g) then
        let x := s.calGroup g
        (s.put (F.CAL_GROUP_PHASE g) phCal).setCalGroup g { x with cmpSum := 0, cmpN := 0 }
      else if rotates s g then stepBegin s g 0 else s
    else s) s

/-- CLEAR_FAILED (R290). -/
def execClearFailed (mask : BitVec 4) (s : State) : Host.Outcome State Fault Refusal := .next (clearFailed s mask.toNat)

/-! ## Commands (R294–R296) -/

/-- The start of R294. REVOKE is programmed once the rotation has stopped, in RESTORE_FACTORY_DONE. -/
def restoreFactory (s : State) (host : Bool) : State :=
  if s.flag F.CAL_STATUS_BUSY then s.put F.CAL_STATUS_RESULT 1
  else
    let s := (s.put F.CAL_STATUS_CMD 1).put F.CAL_STATUS_BUSY 1
    let s := { s with adc := { s.adc with calHost := host, calHold := true } }
    if s.flag F.CAL_STATUS_FACTORY_VALID then s else calEnd s 2

/-- RESTORE_FACTORY: a write of CAL_CMD.RESTORE_FACTORY = 1. -/
def execRestoreFactory (s : State) : Host.Outcome State Fault Refusal := .next (restoreFactory s false)

/-- Whether every group has ended its step, or is under cover (R294). -/
def rotationEnded (s : State) : Bool := (List.range 4).all (fun g => calPhase s g == phIdle || s.flag (F.CAL_GROUP_COVER g))

/-- Whether the INFO engine can take the program of REVOKE (R363). -/
def infoFree (s : State) : Bool := (bankState s 8 == fsIdle || bankState s 8 == fsSuspended) && !s.flag F.FLC_STAT_LOG_BUSY

/-- RESTORE_FACTORY_DONE (R294): the user layer is revoked, the factory layer loads, and at a grid tick every converter
changes to it. Rows that no longer read end it with FLASH_ERR (DESIGN CHOICE, log 72). -/
def execRestoreFactoryDone (s : State) : Host.Outcome State Fault Refusal :=
  if s.flag F.CAL_STATUS_BUSY && s.get F.CAL_STATUS_CMD == 1 && rotationEnded s && s.onGrid 50 && infoFree s && !s.pwr.nvmOff then
    let s := if s.flag F.CAL_STATUS_USER_VALID then (flashWord s (userRows + 0x20) 0).put F.CAL_STATUS_USER_VALID 0 else s
    let r := layerRows s factoryRows
    if r.1.isNone then .next (calEnd r.2 3)
    else
      let s := (loadLayer r.2 r.1).put F.CAL_STATUS_LAYER 1
      let s := { (s.put F.CAL_LIVE_LIVE_VALID 0).put F.CAL_LIVE_SP_LIVE_VALID 0 with adc := { s.adc with live := [] } }
      let s := calEnd s 0
      .next ((List.range 4).foldl (fun s g =>
        if rotates s g ∧ calPhase s g = phIdle ∧ !groupFailed s g then stepBegin s g 0 else s) s)
  else .next s

/-- The fold of R295: converter values from the live records where valid, the rest from the loaded layer. The temperature
of a folded live record is stated nowhere, so it is a free value (log 1). -/
def foldWord (s : State) (j : Nat) : BitVec 32 :=
  let c := j / 40
  let w := j % 40
  if liveValid s c ∧ w < 20 then liveWord s c w
  else if liveValid s c ∧ w = 36 then Config.freeValue (s.free + c) 32
  else layerWord s c w

/-- The start of R295: the fold is taken, and the erase of the user rows starts as soon as the INFO engine is free. -/
def commitUser (s : State) (host : Bool) : State :=
  if s.flag F.CAL_STATUS_BUSY then s.put F.CAL_STATUS_RESULT 1
  else
    let f := (List.range 1440).foldl (fun t j => Tab.write zero32 t j (foldWord s j)) ([] : Tab (BitVec 32))
    let s := (((s.put F.CAL_STATUS_CMD 2).put F.CAL_STATUS_BUSY 1).put F.CAL_STATUS_USER_VALID 0)
    commitNext { s with adc := { s.adc with calHost := host, fold := f, commit := 4 }, free := s.free + 36 }

/-- COMMIT_USER: a write of CAL_CMD.COMMIT_USER = 1. -/
def execCommitUser (s : State) : Host.Outcome State Fault Refusal := .next (commitUser s false)

/-- The records of a fold as flash words. -/
def recordWords (t : Tab (BitVec 32)) : List (BitVec 128) :=
  (List.range 360).map (fun w => BitVec.ofNat 128
    ((List.range 4).foldl (fun v i => v + (t.read zero32 (4 * w + i)).toNat * 2 ^ (32 * i)) 0))

/-- The new user layer: header, records, then COMMIT (R291, R295). -/
def writeLayer (s : State) (t : Tab (BitVec 32)) : State :=
  let ws := recordWords t
  let s := flashWord s userRows (headerWord s.adc.refTrim (crcRows ws))
  let s := ws.zipIdx.foldl (fun s wi => flashWord s (userRows + 0x40 + 16 * wi.2) wi.1) s
  flashWord s (userRows + 0x10) commitWord

/-- COMMIT_USER_DONE (R295), once the user rows are erased: the layer is programmed with its COMMIT word last, or a flash
error ends the command. -/
def execCommitUserDone (ok : Bool) (s : State) : Host.Outcome State Fault Refusal :=
  if s.flag F.CAL_STATUS_BUSY && s.get F.CAL_STATUS_CMD == 2 && s.adc.commit == 8 then
    let s := setBank s 8 fsIdle
    if ok then
      let s := writeLayer s s.adc.fold
      let t := (List.range 1440).foldl (fun t j => Tab.write idealCoef t j (s.adc.fold.read zero32 j)) ([] : Tab (BitVec 32))
      let s := { s with adc := { s.adc with layer := t } }
      .next (calEnd ((s.put F.CAL_STATUS_LAYER 2).put F.CAL_STATUS_USER_VALID 1) 0)
    else .next (calEnd s 3)
  else .next s

/-- A write of CAL_CMD: its bits in the register's order. -/
def calCmdWrite (s : State) (v : Word) : State :=
  if anaOff s then s else
  let s := if bitsOf v 31 31 = 1 then restoreFactory s false else s
  let s := if bitsOf v 30 30 = 1 then commitUser s false else s
  clearFailed s (bitsOf v 3 0)

/-- COEF_DATA_READ (R291): the addressed word, and the state with WORD moved on. -/
def coefRead (s : State) : BitVec 32 × State :=
  let c := s.get F.CAL_COEF_ADDR_CONV
  let w := s.get F.CAL_COEF_ADDR_WORD
  let v := if 36 ≤ c ∨ 40 ≤ w then 0
    else if s.flag F.CAL_COEF_ADDR_LIVE then (if liveValid s c && decide (w < 20) then liveWord s c w else 0)
    else layerWord s c w
  (v, s.put F.CAL_COEF_ADDR_WORD (if 39 ≤ w then 0 else w + 1))

/-- COEF_DATA_READ (R291). -/
def execCoefDataRead (s : State) : Host.Outcome State Fault Refusal := .next (readOut (coefRead s))

end Sys2Proof.Machine
end

