-- ==== Sys2Proof/Machine/Wpt.lean ====
section
/-! DEFINITION. Waypoints, scans and partitions (07_waypoints_partitions.md): the waypoint timer, latch and release, the
partition commands, staging and changeover. -/

namespace Sys2Proof.Machine

/-! ## Refusals and configuration (R202, R211) -/

def weLocked : Nat := 1
def weRange : Nat := 2
def weState : Nat := 3
def weMap : Nat := 4

/-- A refusal is recorded in WPT_ERR. -/
def wptErr (s : State) (cause p : Nat) (rel : Bool) (index : Nat) : State :=
  recordErr s F.WPT_ERR_VALID
    [(F.WPT_ERR_CAUSE, cause), (F.WPT_ERR_PART, p), (F.WPT_ERR_REL, if rel then 1 else 0), (F.WPT_ERR_INDEX, index % 4096)]

/-- The states of R202 and R211: every state but SCANNING and HELD. -/
def partOpen (s : State) (p : Nat) : Bool := configurable s p

/-- Whether a value is in range for a configuration register, by its offset (R199, R201, R202). -/
def wptRange (s : State) (p off : Nat) (v : Word) : Bool :=
  let x := bitsOf v 31 0
  let n := s.get (F.WPT_PERIOD_PERIOD p)
  if off = 0 then
    decide (2000 ≤ x) && (s.get F.CVY_CFG_MODE == 0 || decide (20000 ≤ x)) &&
    decide (s.get (F.WPT_PHASE_PHASE p) < x ∧ s.get (F.WPT_GUARD_GUARD p) ≤ min 65535 (x / 2))
  else if off = 4 then decide (x < n)
  else if off = 8 then decide (16 ≤ bitsOf v 15 0 ∧ bitsOf v 15 0 ≤ min 65535 (n / 2))
  else if off = 0xC then bitsOf v 7 0 != 0
  else decide (bitsOf v 12 0 ≤ 4096)

/-- WPT_CONFIG_WRITE: a write of WPT_PERIOD, PHASE, GUARD, POLICY or SNAP_LEN (R202). A running timer takes the new schedule
at once. -/
def wptCfgWrite (s : State) (p off : Nat) (v : Word) : State :=
  if !partOpen s p then wptErr s weLocked p false (0x100 * p + off)
  else if !wptRange s p off v then wptErr s weRange p false (0x100 * p + off)
  else
    let old := s.get (F.WPT_PERIOD_PERIOD p)
    let s := genericWrite s (0x40020000 + 0x100 * p + off) v
    let s := if off = 0 then trgPeriod s p old else s
    if off ≤ 8 ∧ timerOn s p then timerRun s p (instantFrom s p (s.time.toNat + 1)) else s

/-- The offset of the configuration register a command names: WPT_PERIOD, PHASE, GUARD, POLICY, SNAP_LEN. -/
def execWptConfigWrite (p : Fin 4) (r : Fin 5) (v : BitVec 32) (s : State) : Host.Outcome State Fault Refusal :=
  .next (wptCfgWrite s p (4 * r) (v.setWidth 64))

/-- INDEX of WPT_MAP_ADDR advances after an access (R211). -/
def nextMapIndex (s : State) : State := s.put F.WPT_MAP_ADDR_INDEX (s.get F.WPT_MAP_ADDR_INDEX + 1)

/-- MAP_DATA_WRITE (R211). -/
def mapWrite (s : State) (v : BitVec 32) : State :=
  let p := s.get F.WPT_MAP_ADDR_PART
  let staged := s.flag F.WPT_MAP_ADDR_STAGED
  let rel := s.flag F.WPT_MAP_ADDR_REL
  let i := s.get F.WPT_MAP_ADDR_INDEX
  let locked := if staged then s.flag (F.WPT_PSTATE_CO_PENDING p) else !partOpen s p
  nextMapIndex (if locked then wptErr s weLocked p false 0x808 else setMapEntry s p staged rel i v)

/-- MAP_DATA_WRITE (R211). -/
def execMapDataWrite (v : BitVec 32) (s : State) : Host.Outcome State Fault Refusal := .next (mapWrite s v)

/-- MAP_DATA_READ (R211). -/
def mapRead (s : State) : BitVec 32 × State :=
  (BitVec.ofNat 32 (mapEntry s (s.get F.WPT_MAP_ADDR_PART) (s.flag F.WPT_MAP_ADDR_STAGED) (s.flag F.WPT_MAP_ADDR_REL)
    (s.get F.WPT_MAP_ADDR_INDEX)), nextMapIndex s)

/-- MAP_DATA_READ (R211). -/
def execMapDataRead (s : State) : Host.Outcome State Fault Refusal := .next (readOut (mapRead s))

/-! ## Provisioning states (R217–R219) -/

/-- A tile returns to the state in which provisioning leaves it: stopped, its registers, counters and pc 0 (R60, R99, R101), its
code bank A (R147), nothing staged (R225). Stores that have retired still drain (R85). -/
def resetTile (s : State) (t : Nat) : State :=
  let s := stopTile s t
  let s := s.onCore t (fun c => { c with
    pc := 0, npc := 4, slot := false, slotPc := none, wait := 0, g := [], f := []
    sr := c.sr.filter (fun e => decide (e.1 ≠ srCycles ∧ e.1 ≠ srFpsr ∧ ¬(srPmc 0 ≤ e.1 ∧ e.1 ≤ srPmc 7))) })
  let s := s.putBit (F.WPT_BANK_BANK_B (t / 32)) (t % 32) false
  s.putBit (F.WPT_STAGED_STAGED (t / 32)) (t % 32) false

/-- p enters PROVISIONING, or NONE without a quadrant (R217, R219): tiles and timer stop, its engines are disabled (R303),
BUF_VALID (R454) and the fault record (R223) clear, release words return to 0 (R56). LATE_RUN returns to 0 with the other fields of
WPT_PSTATE (DESIGN CHOICE, log 68). -/
def enterProvisioning (s : State) (p : Nat) : State :=
  let s := coCancel s p
  let s := timerStop ((s.partTiles p).foldl resetTile s) p
  let none? := (List.range 4).all (fun q => s.quadPart q != some p)
  let s := s.setReg (A.WPT_PSTATE p) (BitVec.ofNat 64 (if none? then psNone else psProvisioning))
  let s := (s.put (F.WPT_FAULT_REC_VALID p) 0).putBit F.LAY_STAT_BUF_VALID p false
  let keep (b : Nat) (e : Nat × Word) : Bool := !(decide (b ≤ e.1 ∧ e.1 < b + 4096))
  let s := { s with wpt := { s.wpt with rel := s.wpt.rel.filter (keep (4096 * p)),
                                        relOut := s.wpt.relOut.filter (keep (4096 * p)) } }
  let s := s.clearEcc memRel (4096 * p) 4096
  let s := { s with mesh := { s.mesh with readySet := s.mesh.readySet.filter (· != p) } }
  iosProvision (s.setPart p { partReset p with mapB := (s.part p).mapB }) p

/-- PROVISION (R219). -/
def cmdProvision (s : State) (p : Nat) : State :=
  let st := s.pstate p
  if st = psReady ∨ st = psStopped ∨ st = psFaulted then padsMove s (enterProvisioning s p) (partPins s p)
  else wptErr s weState p false 1

/-- PROVISION (R219). -/
def execProvision (p : Fin 4) (s : State) : Host.Outcome State Fault Refusal := .next (cmdProvision s p)

/-- PART_MAP_WRITE (R217). -/
def partMapWrite (s : State) (v : Word) : State :=
  if !(s.dev == dsBoot || s.dev == dsProvision || s.dev == dsService) then wptErr s weLocked 0 false 0x800
  else
    let old := fun p => (List.range 4).filter (fun q => s.quadPart q == some p)
    let parts := (List.range 4).filter (fun p =>
      (List.range 4).filter (fun q => decide (bitsOf v (8 + q) (8 + q) = 1 ∧ bitsOf v (2 * q + 1) (2 * q) = p)) != old p)
    let s := parts.foldl stopTiles s
    parts.foldl enterProvisioning (genericWrite s A.WPT_PART_MAP v)

/-- PART_MAP_WRITE (R217). -/
def execPartMapWrite (v : BitVec 32) (s : State) : Host.Outcome State Fault Refusal :=
  .next (partMapWrite s (v.setWidth 64))

/-! ## READY (R210) -/

/-- An engine that "I/O sequencers" gives to partition p: it owns the engine (R300). -/
def engOfPart (s : State) (p e : Nat) : Bool := engOwner s e == 8 + p

/-- Whether a snapshot map entry is legal on its own (R207, R210). -/
def snapEntryOk (s : State) (p e : Nat) : Bool :=
  let src := e / 2 ^ 28
  let i := e % 512
  decide (src ≤ 6 ∧ e / 512 % 2 ^ 19 = 0) &&
  (if src = 1 ∨ src = 4 then decide (i ≤ 255) else if src = 2 then decide (i ≤ 9)
   else if src = 3 then decide (i ≤ 127) && engOfPart s p i else i == 0)

/-- Whether a release map entry is legal on its own (R208, R210). -/
def relEntryOk (s : State) (p e : Nat) : Bool :=
  let dst := e / 2 ^ 28
  let i := e % 1024
  decide (dst ≤ 4 ∧ e / 2 ^ 24 % 8 = 0 ∧ e / 2 ^ 10 % 64 = 0) &&
  (e / 2 ^ 27 % 2 == 0 || s.tilePart (e / 2 ^ 16 % 256) == some p) &&
  (if dst = 0 then i == 0 else if dst ≤ 2 then decide (i ≤ 9)
   else if dst = 3 then decide (i ≤ 127) && engOfPart s p i else true)

/-- Whether two entries of one map claim one thing twice: an engine, or a bank's half (R210). -/
def sameClaim (rel : Bool) (a b : Nat) : Bool :=
  if rel then a / 2 ^ 28 == b / 2 ^ 28 && a % 1024 == b % 1024 && decide (1 ≤ a / 2 ^ 28 ∧ a / 2 ^ 28 ≤ 3)
  else a / 2 ^ 28 == 3 && b / 2 ^ 28 == 3 && a % 512 == b % 512

/-- The first entry that is illegal, or repeats an earlier one's claim. -/
def firstBad (ok : Nat → Bool) (rel : Bool) : List Nat → List (Nat × Nat) → Option Nat
  | _, [] => none
  | seen, (i, e) :: es =>
    if !ok e || seen.any (fun f => sameClaim rel e f) then some i else firstBad ok rel (e :: seen) es

/-- The bank halves that every other provisioned partition's active map claims. -/
def otherHalves (s : State) (p : Nat) : List Nat :=
  ((List.range 4).filter (fun q => q != p && s.provisioned q)).flatMap (fun q =>
    ((listedEntries s q false true).map Prod.snd).filter (fun e => decide (e / 2 ^ 28 = 1 ∨ e / 2 ^ 28 = 2)))

/-- An agreement map entry that R253 refuses. -/
def amapBad (e : BitVec 32) : Bool :=
  let rule := e.toNat % 16
  decide (2 < rule ∨ (rule ≠ 1 ∧ e.toNat / 16 % 4 ≠ 0) ∨ 128 ≤ e.toNat)

/-- The first entry that READY refuses, with its REL bit (R210, R253): in the snapshot map, then the release map, then the agreement
map, each in rising order; of two entries that conflict, the later (DESIGN CHOICE, log 69). -/
def readyBad (s : State) (p : Nat) : Option (Bool × Nat) :=
  match firstBad (snapEntryOk s p) false [] (listedEntries s p false false) with
  | some i => some (false, i)
  | none =>
    match firstBad (relEntryOk s p) true (otherHalves s p) (listedEntries s p false true) with
    | some i => some (true, i)
    | none =>
      if s.get F.CVY_CFG_MODE = 0 then none
      else ((s.cvy.amap.filter (fun e => decide (4096 * p ≤ e.1 ∧ e.1 < 4096 * p + 4096))).find? (fun e => amapBad e.2)).map
        (fun e => (false, e.1 - 4096 * p))

/-- READY (R210, R219): the checks; on success WNUM is 0, the lanes are set as R174 does, the FIFOs of its engines empty
(R303), its tiles wait for the first scan, and the bits of R68 clear. -/
def cmdReady (s : State) (p : Nat) : State :=
  if s.pstate p ≠ psProvisioning then wptErr s weState p false 2
  else
    match (if 4096 < snapLen s p then some (false, 0) else readyBad s p) with
    | some (rel, i) => wptErr s weMap p rel i
    | none =>
      let s := (s.put (F.WPT_PSTATE_STATE p) psReady).setReg (A.WPT_WNUM p) 0
      let s := lanesReady s p
      let s := (s.partTiles p).foldl (fun s t =>
        s.onCore t (fun c => { c with run := .waypt, wait := 0, sr := c.sr.filter (fun e => decide (e.1 ≠ srCycles)) })) s
      let s := (s.putBit F.HW_SEAL_STATUS_VALUE_VOID p false).putBit F.HW_SEAL_STATUS_TIMING_VOID p false
      let s := s.put (F.CVY_OUTCOUNT_COUNT p) (outWords s p).length
      iosReady (s.onPart p (fun q => { q with started := false, lastStart := none })) p

/-- READY (R210). -/
def execReady (p : Fin 4) (s : State) : Host.Outcome State Fault Refusal := .next (cmdReady s p)

/-! ## START, STOP, STOP_NOW (R219) -/

/-- An audit of p is busy: no scan of p starts (R186). -/
def auditOf (s : State) (p : Nat) : Bool := s.flag F.LANE_AUDIT_STATUS_BUSY && s.mesh.auditPart == p

/-- p starts to scan: from READY W(0) is the first instant at least 16 ticks on, from STOPPED the next instant (R200, R219).
The first start in PROVISION completes provisioning (R46). -/
def startNow (s : State) (p : Nat) (at? : Option Nat) : State :=
  let st := s.pstate p
  let first := match at? with
    | some t => t
    | none => s.time.toNat + (if st = psReady then 16 else 1)
  let s := (enterScanning s p).put (F.WPT_PSTATE_CLEAN p) 0
  let s := s.onPart p (fun q => { q with guardLate := none, coGap := false })
  let s := if timerOn s p && at?.isNone then s else timerRun s p (instantFrom s p first)
  if s.dev = dsProvision then s.put F.HW_STATE_STATE dsRun else s

/-- Whether START is legal: in the partition states of R219, and in a device state in which a partition may scan (R45). -/
def startLegal (s : State) (p : Nat) : Bool :=
  (s.dev == dsProvision || s.dev == dsRun) &&
  (s.pstate p == psReady || (s.pstate p == psStopped && s.flag (F.WPT_PSTATE_CLEAN p)))

/-- A joint start or resume at this member: p starts at the named tick, or goes on from HELD there (R219, R258). -/
def startAt (s : State) (p t : Nat) : State :=
  if startLegal s p then startNow s p (some t)
  else if s.pstate p = psHeld then
    let s := enterScanning s p
    timerRun (s.onPart p (fun q => { q with goRun := true, held := false })) p (instantFrom s p t)
  else s

/-- The leader names the first scheduled instant at least 1,000 ticks on, in a control frame to every member; at any other member the
instant has been named, in local ticks (R258). During an audit of p the start waits for the audit's end (R186). -/
def jointStart (s : State) (p : Nat) (named : Nat) : State :=
  if !inConvoy s then s
  else
    let t := if leads s then instantFrom s p (s.time.toNat + 1000) else named
    let s := if leads s then sendAll s Config.requestType p (s.get (F.WPT_WNUM_WNUM p)) 0 0 [BitVec.ofNat 64 t] else s
    if auditOf s p then { s with mesh := { s.mesh with startHeld := s.mesh.startHeld.write zeroN p (2 + t) } }
    else startAt s p t

/-- A request of this member for a joint start (code 3) or resume (code 2) of p: the leader names the instant at once, any other member
sends the request to the leader in a control frame (R258). -/
def jointRequest (s : State) (p code : Nat) : State :=
  if leads s then jointStart s p 0
  else sendTo s (s.get F.CVY_STATE_LEADER) Config.requestType p (s.get (F.WPT_WNUM_WNUM p)) [BitVec.ofNat 64 code]

/-- START (R219): during an audit of p it waits for the audit's end (R186); in a convoy it is a joint decision (R258). -/
def cmdStart (s : State) (p : Nat) : State :=
  if !startLegal s p then wptErr s weState p false 3
  else if inConvoy s then jointRequest s p 3
  else if auditOf s p then { s with mesh := { s.mesh with startHeld := s.mesh.startHeld.write zeroN p 1 } }
  else startNow s p none

/-- START (R219). -/
def execStart (p : Fin 4) (s : State) : Host.Outcome State Fault Refusal := .next (cmdStart s p)

/-- JOINT_START_FRAME: a start or resume request reaches the leader, or the leader's named instant another member (R258). -/
def execJointStartFrame (p : Fin 4) (named : BitVec 64) (s : State) : Host.Outcome State Fault Refusal :=
  .next (jointStart s p named.toNat)

/-- STOP (R219): pending until the release cycle. -/
def cmdStop (s : State) (p : Nat) : State :=
  if s.pstate p = psScanning then s.put (F.WPT_PSTATE_STOP_PENDING p) 1 else wptErr s weState p false 4

/-- STOP (R219). -/
def execStop (p : Fin 4) (s : State) : Host.Outcome State Fault Refusal := .next (cmdStop s p)

/-- Once no partition waits to hold and a GO_HOLD is in force, the device is in HOLD: the timers of STOPPED and FAULTED
partitions stop (R46, R219). -/
def holdCheck (s : State) : State :=
  if s.wpt.holdReq && (List.range 4).all (fun p => !s.flag (F.WPT_PSTATE_HOLD_PENDING p)) then
    let s := { s.put F.HW_STATE_STATE dsHold with wpt := { s.wpt with holdReq := false } }
    (List.range 4).foldl (fun s p => if s.pstate p = psStopped ∨ s.pstate p = psFaulted then timerStop s p else s) s
  else s

/-- STOPPED at once: tiles stop under R85, the pending scan is not released, CLEAN is 0 (R219). The timer runs. -/
def stopNow (s : State) (p : Nat) : State :=
  let s := stopTiles (coCancel s p) p
  let s := ((s.put (F.WPT_PSTATE_STATE p) psStopped).put (F.WPT_PSTATE_STOP_PENDING p) 0).put (F.WPT_PSTATE_HOLD_PENDING p) 0
  let s := s.put (F.WPT_PSTATE_CLEAN p) 0
  holdCheck (timerResume (s.onPart p (fun q => { q with scanPending := false, live := false, held := false, goRun := false })) p)

/-- STOP_NOW (R219). -/
def cmdStopNow (s : State) (p : Nat) : State :=
  if s.pstate p = psScanning then stopNow s p else wptErr s weState p false 5

/-- STOP_NOW (R219). -/
def execStopNow (p : Fin 4) (s : State) : Host.Outcome State Fault Refusal := .next (cmdStopNow s p)

/-- A write of WPT_PCMD. -/
def pcmdWrite (s : State) (p : Nat) (v : Word) : State :=
  let c := bitsOf v 3 0
  if c = 1 then cmdProvision s p else if c = 2 then cmdReady s p else if c = 3 then cmdStart s p
  else if c = 4 then cmdStop s p else if c = 5 then cmdStopNow s p else s

/-! ## Latch (R203, R204, R207) -/

/-- Pop the receive FIFO of an engine for a snapshot: the word and VALID; an empty FIFO gives 0 (R207). -/
def snapPop (s : State) (e : Nat) : Word × State :=
  match (s.engine e).rx with
  | [] => (0, s)
  | w :: rest => (w.setWidth 64 ||| (1#64 <<< 32), s.onEngine e (fun x => { x with rx := rest }))

/-- The value an entry of the snapshot map captures at waypoint n (R207). -/
def snapWord (s : State) (p n periods e : Nat) : Word × State :=
  let src := e / 2 ^ 28
  let i := e % 512
  if src = 1 then (latestRead s i, s)
  else if src = 2 then (BitVec.ofNat 64 (bankWord (tickLevel s) i), s)
  else if src = 3 then snapPop s i
  else if src = 4 then (s.reg (A.WPT_SVCIN p i), s)
  else if src = 5 then (BitVec.ofNat 64 n, s)
  else if src = 6 then (BitVec.ofNat 64 periods, s)
  else (0, s)

/-- The capture of W(n) into the buffer that the tiles do not see (R30, R203): its words, none of them filled yet. -/
def capture (s : State) (p n : Nat) : State × List Word :=
  let periods := match (s.part p).lastStart with
    | some m => n - m
    | none => 0
  let b := hiddenSnap s p
  let s := { s with wpt := { s.wpt with snap := s.wpt.snap.filter (fun e => !(decide (b ≤ e.1 ∧ e.1 < b + 4096))) } }
  let s := s.clearEcc memSnap b 4096
  let s := s.onPart p (fun q => { q with fill := q.fill.write nat0 (if q.vis then 0 else 1) 0 })
  let r := (List.range (snapLen s p)).foldl (fun (a : State × List Word) i =>
    let w := snapWord a.1 p n periods (mapEntry a.1 p false false i)
    (w.2, w.1 :: a.2)) (s, [])
  let ws := r.2.reverse
  ((ws.zip (List.range ws.length)).foldl (fun s w => setSnapWord s (b + w.2) w.1) r.1, ws)

/-- SNAPSHOT_FILL: the snapshot fills four words in a cycle (R204): the buffer the tiles see first, then the other. -/
def execSnapshotFill (p : Fin 4) (s : State) : Host.Outcome State Fault Refusal :=
  let q := s.part p
  let n := snapLen s p
  let seen := if q.vis then 1 else 0
  let b := if q.fill.read nat0 seen < n then seen else 1 - seen
  .next (s.onPart p (fun q => { q with fill := q.fill.write nat0 b (min n (q.fill.read nat0 b + 4)) }))

/-! ## Release (R205, R208, R209) -/

/-- One released word reaches its destination (R205, R208). -/
def releaseTo (s : State) (p e : Nat) (w : Word) : State :=
  let dst := e / 2 ^ 28
  let i := e % 1024
  if dst = 1 ∧ i < 10 then pinWrite s (.release p) i false false (bitsOf w 31 0)
  else if dst = 2 ∧ i < 10 then pinWrite s (.release p) i true false (bitsOf w 31 0)
  else if dst = 3 then (if bitsOf w 32 32 = 1 then txPush s i (w.setWidth 32) else s)
  else if dst = 4 then s.setReg (A.WPT_MIRROR p i) w
  else s

/-- The words of a partition's release storage become the released values; in a convoy the voted vector does (R205, R256).
An uncorrectable word releases nothing and faults the partition (R168). -/
def release (s : State) (p : Nat) (voted : Option (Tab Word)) : State :=
  match s.ecc.find? (fun e => decide (eccKey memRel (4096 * p) ≤ e.1 ∧ e.1 < eccKey memRel (4096 * p) + 4096) && e.2 == 2) with
  | some e =>
    let s := memError s memRel 0 0 (0x20000 + 8 * (e.1 - eccKey memRel (4096 * p)))
    partitionFault (voidIfSealed s 0x05 p) p pfReleaseEcc none
  | none =>
    let ow := outWords s p
    let s := match voted with
      | none => s
      | some v => (ow.zip (List.range ow.length)).foldl (fun s (wi : Nat × Nat) =>
          { s with wpt := { s.wpt with rel := s.wpt.rel.write zero64 (4096 * p + wi.1) (v.read zero64 wi.2) } }) s
    let keep (e : Nat × Word) : Bool := !(decide (4096 * p ≤ e.1 ∧ e.1 < 4096 * p + 4096))
    let mine := s.wpt.rel.filter (fun e => !keep e)
    let s := { s with wpt := { s.wpt with
      relOut := mine.foldl (fun (t : Tab Word) (e : Nat × Word) => t.write zero64 e.1 e.2) (s.wpt.relOut.filter keep) } }
    let s := s.addSat F.SYS_ECC_CORR_COUNT (s.countMarks memRel (4096 * p) 4096)
    (listedEntries s p false true).foldl (fun s ie => releaseTo s p ie.2 (relWord s p ie.1)) s

/-! ## The lanes at a waypoint (R190, R191) -/

/-- Lanes of p that are not empty in a release cycle are marked OPEN (R190). -/
def markOpen (s : State) (p : Nat) : State :=
  (partLanes s p).foldl (fun s l =>
    if s.get (F.LANE_CNT_LO_DATA_NET l) = 0 ∧ s.get (F.LANE_CNT_HI_RECV_HELD l) = 0 then s
    else s.put (F.LANE_CNT_HI_OPEN l) 1) s

def laneEmpty (s : State) (l : Nat) : Bool :=
  s.get (F.LANE_CNT_LO_DATA_NET l) == 0 && s.get (F.LANE_CNT_HI_RECV_HELD l) == 0

/-- Whether tile t is in the changeover's set. -/
def inCoSet (s : State) (p t : Nat) : Bool := decide (t < 256) && s.bitAt (F.WPT_CO_TILES_TILES p (t / 32)) (t % 32)

/-- The lane list of a changeover: lane number and new LANE_CFG value (R230). -/
def coList (s : State) (p : Nat) : List Nat :=
  (List.range (s.get (F.WPT_CO_CTL_NLANES p))).map (fun i => s.bytes ((s.reg (A.WPT_CO_LANES p)).toNat + 8 * i) 8)

def coLane (e : Nat) : Nat := e / 2 ^ 32 % 2 ^ 13
def coCfg (e : Nat) : Nat := e % 2 ^ 32

/-- The lanes a changeover affects: those with an end at a tile of the set, and those its list names (R191). -/
def coLanes (s : State) (p : Nat) : List Nat :=
  let named := (coList s p).map coLane
  (enabledLanes s).filter (fun l => inCoSet s p (laneSender l) || inCoSet s p (laneDst s l) || named.contains l)

/-! ## Scan starts -/

/-- The tiles of p start the scan that is pending (R29, R97). -/
def startTiles (s : State) (p : Nat) : State :=
  let s := (s.partTiles p).foldl (fun s t =>
    s.onCore t (fun c => if c.run = .waypt then { c with run := .active, wait := 0 } else c)) s
  s.onPart p (fun q => { q with live := true, coGap := false })

/-- Scan n becomes pending at W(n): PERIODS counts from it, source 281 + p is raised, engines with SYNC = WAYPOINT may step
(R207, R231, R305). The buffer just latched becomes the one the scan reads, so that a later latch leaves it alone (R30). -/
def beginScan (s : State) (p n : Nat) : State :=
  let s := s.onPart p (fun q => { q with
    scanPending := true, scan := n, lastStart := some n, live := false, guardLate := none, vis := !q.vis })
  iosWaypoint (pulse s (281 + p)) p

/-- The input exchange of W(n) opens with this member's capture; a voter sends it (R248). -/
def openInput (s : State) (p n : Nat) (ws : List Word) (send : Bool) : State :=
  let s := setXchg s p false { Xchg.empty with isOpen := true, wnum := n, voters := pvoters s p }
  let s := takeEarly (placeOwn s p false 0 ws) p false
  let s := openOut s p (n + 1)
  if send then tryReceipt (sendWords s ftSnap p n 0 ws (xchgFrames s p false)) p false else s

/-- The scan whose capture has been made starts: at once in SOLO, after the agreement in a convoy, after an audit's end while
one is busy (R186, R254). -/
def scanOn (s : State) (p n : Nat) (ws : List Word) : State :=
  let s := beginScan s p n
  if inConvoyP s p then openInput s p n ws (votesIn s p)
  else if auditOf s p || (s.part p).coPhase != 0 then s.onPart p (fun q => { q with coScan := true })
  else startTiles s p

/-- What waited for an audit acts once it has ended: a START, and a scan's start (R186). -/
def releaseStart (s : State) : State :=
  if s.flag F.LANE_AUDIT_STATUS_BUSY then s
  else
    let held := s.mesh.startHeld
    let s := held.foldl (fun s e =>
        if e.2 ≠ 1 then startAt s e.1 (max (e.2 - 2) (s.time.toNat + 1)) else if startLegal s e.1 then cmdStart s e.1 else s)
      { s with mesh := { s.mesh with startHeld := [] } }
    (List.range 4).foldl (fun s p =>
      let q := s.part p
      if q.scanPending && !q.live && q.coScan && q.coPhase == 0 && s.pstate p == psScanning && !inConvoyP s p then
        startTiles (s.onPart p (fun q => { q with coScan := false })) p
      else s) s

/-- AUDIT_DONE: the mesh has drained; the lanes are examined (R187). -/
def execAuditDone (s : State) : Host.Outcome State Fault Refusal := .next (releaseStart (auditDone s))

/-- AUDIT_STUCK: 1,024 cycles have passed and a net is not empty (R187). -/
def execAuditStuck (s : State) : Host.Outcome State Fault Refusal := .next (releaseStart (auditStuck s))

/-- CONVOY_SCAN_START: the scan starts in the cycle after the last agreed word is written (R254); a member that has left the
convoy since its waypoint starts on its own capture (R261). -/
def execConvoyScanStart (p : Fin 4) (s : State) : Host.Outcome State Fault Refusal :=
  let q := s.part p
  if q.scanPending && !q.live && q.coPhase == 0 && !auditOf s p && (xchg s p false).decided && s.pstate p == psScanning then
    .next (startTiles (setXchg s p false { xchg s p false with decided := false }) p)
  else .next s

/-! ## The guard test (R212–R216) -/

/-- The test of the guard cycle. In a convoy a voter that has not sent its vector sends its verdict, and the decision is
joint (R216, R249). -/
def guardTest (s : State) (p : Nat) : State :=
  if s.pstate p ≠ psScanning ∨ !(s.part p).scanPending then
    (if votesIn s p && !(s.cpart p).sent && (xchg s p true).verdict.read nat0 (me s) == 0 then
      sendVerdict s p (if s.pstate p = psFaulted then 2 else 1)
    else s)
  else if (s.part p).guardLate.isSome then s
  else
    let late := !arrived s p
    let s := s.onPart p (fun q => { q with guardLate := some late })
    if inConvoyP s p then
      if !late then sendOut s p else if votesIn s p && !(s.cpart p).sent then sendVerdict s p 1 else s
    else if late then lateWaypoint s p
    else onTimeWaypoint s p

/-- Whether a freeze of the WPT block is in force (R523, R541). -/
def wptFrozen (s : State) : Bool := s.flag F.DBG_FRZ_UNIT_WPT && s.freezeInForce

/-- TIME reaches a scheduled tick. -/
def reach (s : State) (t : Nat) : State := if s.time.toNat < t then linksSend (padsSettle (passTicks s (t - s.time.toNat))) else s

/-- GUARD_TEST: the guard cycle of p's next instant (R201, R212); under a WPT freeze the instant is held back (R541). -/
def execGuardTest (p : Fin 4) (s : State) : Host.Outcome State Fault Refusal :=
  if timerOn s p && s.pllClock then
    let w := (s.reg (A.WPT_NEXT p)).toNat
    let s := reach s (w - s.get (F.WPT_GUARD_GUARD p))
    if wptFrozen s then .next (holdBack s p w)
    else .next (guardTest s p)
  else .next s

/-! ## Changeover at its waypoint (R226–R228) -/

/-- The changeover acts at the release cycle of W(n): in a convoy only if the input decision of the waypoint before has let it stand
(R267); then the lane test and the wait for tolls; `scan` says whether a scan
starts after it (R227, R228). One that already runs goes on, and the scan that starts now waits for it. The second component says
that it runs. -/
def coAct (s : State) (p n : Nat) (scan : Bool) : State × Bool :=
  if (s.part p).coPhase ≠ 0 then (s.onPart p (fun q => { q with coScan := scan }), true)
  else if !s.flag (F.WPT_PSTATE_CO_PENDING p) || decide (n < (s.reg (A.WPT_CO_WNUM p)).toNat) then (s, false)
  else if inConvoyP s p && !(s.cpart p).coOk then (pulse (coEnd s p 3 8 n) 271, false)
  else if !(coLanes s p).all (laneEmpty s) then (coEnd s p 3 6 n, false)
  else ((s.put (F.WPT_CO_STATUS_WNUM p) n).onPart p (fun q => { q with coPhase := 1, coScan := scan, coGap := true }), true)

/-! ## The waypoint (R29) -/

/-- A partition stops or holds at a release cycle: nothing is captured and no scan starts (R219, R221). -/
def stopOrHold (s : State) (p n : Nat) : State :=
  let s := s.onPart p (fun q => { q with scanPending := false, live := false })
  if s.flag (F.WPT_PSTATE_STOP_PENDING p) then
    let s := coCancel s p
    let s := ((s.put (F.WPT_PSTATE_STATE p) psStopped).put (F.WPT_PSTATE_CLEAN p) 1).put (F.WPT_PSTATE_STOP_PENDING p) 0
    holdCheck (s.put (F.WPT_PSTATE_HOLD_PENDING p) 0)
  else
    let s := (coAct s p n false).1
    let s := if (s.part p).coPhase = 0 then coCancel s p else s
    let s := ((s.put (F.WPT_PSTATE_STATE p) psHeld).put (F.WPT_PSTATE_HOLD_PENDING p) 0).onPart p (fun q => { q with held := true })
    holdCheck (timerStop s p)

/-- The capture of W(n), in one cycle with the steps of p's engines: a full FIFO pops before the push of a step, any other after it
(R203, R306, R317, R319). -/
def latch (s : State) (p n : Nat) : State × List Word :=
  let r := capture (partTurns s p (fun x => decide (x.rx.length < fifoDepth))) p n
  (partTurns r.1 p (fun _ => true), r.2)

/-- The shoulders of an output decision take effect, together (R257). -/
def leaveNow (s : State) (p n : Nat) : State :=
  let ks := (s.cpart p).leaving.filter (fun k => inMask (voterMask s) k.1)
  let s := s.onCpart p (fun c => { c with outcome := 0, voted := [], leaving := [] })
  if ks.isEmpty then s else shoulders s ks p n

/-- The release of the pending scan at W(n) (R29, step 2): the buffer halves swap, the service-core copy starts (R454, R455).
In a convoy the shoulders of the vote take effect, a standby that takes a place drives from this release on, and the decided vector is
released (R256, R257, R263). -/
def releaseScan (s : State) (p n : Nat) : State :=
  let c := s.cpart p
  let s :=
    if inConvoyP s p then
      let s := leaveNow s p n
      let s := if votesIn s p then s.onCpart p (fun c => { c with float := false }) else s
      if c.outcome = 1 then release s p (some c.voted) else s
    else release s p none
  if s.pstate p = psScanning then layScStart (laySwap s p n) p n else s

/-- Whether this waypoint releases: the guard test, or the joint decision in a convoy. -/
def onTime (s : State) (p : Nat) : Bool :=
  if inConvoyP s p then decide ((s.cpart p).outcome = 1 ∨ (s.cpart p).outcome = 3) else (s.part p).guardLate == some false

/-- An uncorrectable word of the release storage: the release will fault the partition, and no scan starts (R168). -/
def relBad (s : State) (p : Nat) : Bool := s.anyUncorr memRel (4096 * p) 4096

/-- W(n) at which a scan starts (R29): the latch, the release of any pending scan, with the function switches that waited for the
edge (R338), and the start; a changeover runs first (R228). -/
def latchReleaseStart (s : State) (p n : Nat) : State :=
  let pend := (s.part p).scanPending
  let (s, ws) := latch (iosWaypoint s p) p n
  let s := if pend && relBad s p then s else releaseSwitch s p
  let s := if pend then releaseScan s p n else s
  if s.pstate p ≠ psScanning then s else scanOn (coAct s p n true).1 p n ws

/-- W(n) at which the partition stops or holds: any pending scan is released, and nothing is captured (R219, R221). -/
def releaseEnd (s : State) (p n : Nat) : State :=
  let pend := (s.part p).scanPending
  let s := partTurns s p (fun _ => true)
  let s := if pend then releaseScan s p n else s
  if s.pstate p ≠ psScanning then s else stopOrHold s p n

/-- Whether W(n) takes the partition to HELD: its device holds, or in a convoy the output decision says so (R219, R258). -/
def holdsNow (s : State) (p : Nat) : Bool :=
  if inConvoyP s p && (s.part p).scanPending then (s.cpart p).hold else s.flag (F.WPT_PSTATE_HOLD_PENDING p)

/-- W(n) of a SCANNING partition. -/
def scanWaypoint (s : State) (p n : Nat) : State :=
  if (s.part p).scanPending && !onTime s p then
    let (s, _) := latch s p n
    (leaveNow (s.addSat (F.WPT_SKIPPED_COUNT p) 1) p n).onPart p (fun q => { q with guardLate := none })
  else if s.flag (F.WPT_PSTATE_STOP_PENDING p) || holdsNow s p then releaseEnd s p n
  else latchReleaseStart s p n

/-- An instant that a freeze holds back (R541): one report for each freeze of a SCANNING partition; the next instant is tested
afresh. -/
def heldBack (s : State) (p w : Nat) : State :=
  let s := if s.pstate p = psScanning ∧ !(s.part p).frzReported then voidReport s 0x10 (.part p) else s
  let s := holdBack (s.onPart p (fun q => { q with frzReported := true, guardLate := none })) p w
  timerRun s p (w + s.get (F.WPT_PERIOD_PERIOD p))

/-- The end of a freeze of the WPT block: a later one is reported again (R541). -/
def wptThaw (old s : State) : State :=
  if wptFrozen old && !wptFrozen s then
    (List.range 4).foldl (fun s p => s.onPart p (fun q => { q with frzReported := false })) s
  else s

/-- The decisions of this waypoint that no earlier command has made: the guard test, and in a convoy the joint decision. -/
def settleDecision (s : State) (p : Nat) : State :=
  let s := guardTest s p
  if inConvoyP s p && s.pstate p == psScanning && (s.part p).scanPending && (s.cpart p).outcome == 0 && (xchg s p true).isOpen
  then outputDecision s p else s

/-- p's scheduled instant, with the VHOLD comparator's result (R29, R64). A partition that FAULTED from READY, with no START, takes
its first instant as the one that leaves WNUM at 0 (DESIGN CHOICE, log 70). -/
def waypoint (s : State) (p : Nat) (vhold : Bool) : State :=
  let w := (s.reg (A.WPT_NEXT p)).toNat
  let s := reach s w
  if wptFrozen s || (s.part p).heldInst.contains w then heldBack s p w
  else
    let s := s.onPart p (fun q => { q with frzReported := false })
    let s := settleDecision s p
    let q := s.part p
    let count := q.started && !q.goRun
    let n := s.get (F.WPT_WNUM_WNUM p) + (if count then 1 else 0)
    let s := s.setReg (A.WPT_WNUM p) (BitVec.ofNat 64 n)
    let s := if q.goRun then s.put (F.WPT_PHASE_PHASE p) (w % s.get (F.WPT_PERIOD_PERIOD p)) else s
    let s := s.onPart p (fun q => { q with
      started := true, goRun := false, held := false
      lastStart := if q.goRun then q.lastStart.map (fun _ => n - 1) else q.lastStart })
    let s := timerRun s p (w + s.get (F.WPT_PERIOD_PERIOD p))
    let s := layArm (markOpen s p) vhold
    if s.pstate p = psScanning then scanWaypoint s p n else leaveNow s p n


/-! ## Staging (R225) -/

/-- A PENDING changeover includes the tile. -/
def coIncludes (s : State) (t : Nat) : Bool :=
  (List.range 4).any (fun p => s.flag (F.WPT_PSTATE_CO_PENDING p) && inCoSet s p t)

/-- STAGE_START: a write of WPT_STAGE_CTL with START = 1 (R225). TILE is an RW field and takes the written value in every
case; a running copy keeps the tile and the source it started with (DEDUCED, log 19). An accepted start clears ERR, which tells of
the last start. A WPT_STAGED bit that is 1 stays 1 until a bank switch or provisioning clears it, whatever becomes of the copy (DESIGN
CHOICE, log 71). -/
def stageStart (s : State) (t : Nat) : State :=
  let src := (s.reg A.WPT_STAGE_SRC).toNat
  let s := s.put F.WPT_STAGE_CTL_TILE t
  if s.flag F.WPT_STAGE_CTL_BUSY || coIncludes s t || !(inDepot src && inDepot (src + 0x3FFF)) then s.put F.WPT_STAGE_CTL_ERR 1
  else { (s.put F.WPT_STAGE_CTL_BUSY 1).put F.WPT_STAGE_CTL_ERR 0 with
    wpt := { s.wpt with stage := (t, src), stagePos := 0, stageBad := false } }

/-- STAGE_START (R225). -/
def execStageStart (t : BitVec 8) (s : State) : Host.Outcome State Fault Refusal := .next (stageStart s t.toNat)

/-- A write of WPT_STAGE_CTL: the W1C bits, the tile, and START. -/
def stageCtlWrite (s : State) (v : Word) : State :=
  let s := if bitsOf v 29 29 = 1 then s.put F.WPT_STAGE_CTL_DONE 0 else s
  let s := if bitsOf v 28 28 = 1 then s.put F.WPT_STAGE_CTL_ERR 0 else s
  if bitsOf v 31 31 = 1 then stageStart s (bitsOf v 7 0)
  else s.put F.WPT_STAGE_CTL_TILE (bitsOf v 7 0)

/-- STAGE_COPY_DONE: the copy ends, after the words that no earlier command has seen it read (R225). -/
def execStageCopyDone (s : State) : Host.Outcome State Fault Refusal :=
  if s.flag F.WPT_STAGE_CTL_BUSY then
    let t := s.wpt.stage.1
    let s := stageUpTo ((s.put F.WPT_STAGE_CTL_BUSY 0).put F.WPT_STAGE_CTL_DONE 1) 2048
    .next (if s.wpt.stageBad then s.put F.WPT_STAGE_CTL_ERR 1 else s.putBit (F.WPT_STAGED_STAGED (t / 32)) (t % 32) true)
  else .next s

/-! ## Changeover requests (R226, R229, R230) -/

/-- Whether an entry of the lane list is well formed, and names a lane with an end at a tile of p: its sender, or its receiver now or
under the new value (R226, R230). -/
def coEntryOk (s : State) (p e : Nat) : Bool :=
  let l := coLane e
  let mine (t : Nat) : Bool := decide (t < 256) && s.tilePart t == some p
  decide (e / 2 ^ 45 = 0 ∧ l < 4160) &&
  (mine (laneSender l) || (laneOn s l && mine (laneDst s l)) || mine (bitsOf (BitVec.ofNat 64 (coCfg e)) 30 22))

/-- The lane list, applied as a whole to the present configuration, fails a check of R172 (R226). -/
def coListBad (s : State) (p : Nat) (es : List Nat) : Bool :=
  let t := es.foldl (fun t e => t.setReg (A.LANE_CFG (coLane e)) (BitVec.ofNat 64 (coCfg e))) s
  es.any (fun e => !coEntryOk s p e) ||
  es.any (fun e =>
    let l := coLane e
    laneOn t l && laneCheck t (enabledLanes t) l (laneDst t l) (laneDport t l) (laneBase t l) (laneDepth t l) != 0)

/-- Whether the lane list is refused as LANE_MAP (R226). -/
def laneMapBad (s : State) (p : Nat) : Bool :=
  let a := (s.reg (A.WPT_CO_LANES p)).toNat
  let n := s.get (F.WPT_CO_CTL_NLANES p)
  s.get (F.WPT_CO_CTL_DATA p) == 3 || decide (512 < n) ||
  (decide (0 < n) && (!(inDepot a && inDepot (a + 8 * n - 1)) || s.anyUncorr memDepot (a / 8) n ||
    coListBad s p (coList s p)))

/-- The cause that refuses a changeover of p at waypoint w, 0 when none does (R226). -/
def coCheck (s : State) (p w : Nat) : Nat :=
  if s.flag (F.WPT_PSTATE_CO_PENDING p) then 3
  else if s.pstate p ≠ psScanning then 1
  else
    let n := s.get (F.WPT_WNUM_WNUM p)
    let next := n + (if (s.part p).started && !(s.part p).goRun then 1 else 0)
    let passed := decide ((s.reg (A.WPT_NEXT p)).toNat < s.time.toNat + s.get (F.WPT_GUARD_GUARD p))
    if w ≤ n ∨ (w = next ∧ passed) then 2
    else if (List.range 256).any (fun t => inCoSet s p t &&
        (s.tilePart t != some p || !s.bitAt (F.WPT_STAGED_STAGED (t / 32)) (t % 32))) then 4
    else if laneMapBad s p then 5
    else 0

/-- A changeover request (R226): accepted as PENDING, or refused with its cause; in a convoy none is once the input decision of
W(w − 1) is past (R267). The second component is the cause. -/
def coRequest (s : State) (p w : Nat) : State × Nat :=
  let c := coCheck s p w
  if c = 3 then (s.put (F.WPT_CO_STATUS_CAUSE p) 3, 3)
  else if c ≠ 0 then
    (((s.put (F.WPT_CO_STATUS_STATUS p) 3).put (F.WPT_CO_STATUS_CAUSE p) c).put (F.WPT_CO_STATUS_WNUM p) w, c)
  else if inConvoy s && decide (w ≤ s.get (F.WPT_WNUM_WNUM p) + 1) && !(xchg s p false).isOpen then
    (pulse (((s.put (F.WPT_CO_STATUS_STATUS p) 3).put (F.WPT_CO_STATUS_CAUSE p) 8).put (F.WPT_CO_STATUS_WNUM p) w) 271, 8)
  else
    let s := s.onCpart p (fun c => { c with coOk := false })
    let s := ((s.put (F.WPT_CO_STATUS_STATUS p) 1).put (F.WPT_CO_STATUS_CAUSE p) 0).put (F.WPT_CO_STATUS_WNUM p) w
    (s.put (F.WPT_PSTATE_CO_PENDING p) 1, 0)

/-- CHANGEOVER_REQUEST: a write of WPT_CO_CTL with REQ = 1; the other fields are written first. While a changeover is PENDING
they keep what the request held. -/
def coCtlWrite (s : State) (p : Nat) (v : Word) : State :=
  let s := if s.flag (F.WPT_PSTATE_CO_PENDING p) then s else genericWrite s (A.WPT_CO_CTL p) v
  if bitsOf v 31 31 = 1 then (coRequest s p (s.reg (A.WPT_CO_WNUM p)).toNat).1 else s

/-- CHANGEOVER_REQUEST (R226). -/
def execChangeoverRequest (p : Fin 4) (v : BitVec 31) (s : State) : Host.Outcome State Fault Refusal :=
  .next (coCtlWrite s p (v.setWidth 64 ||| 0x80000000#64))

/-! ## The changeover's switch and end (R228) -/

/-- What the switch does to a tile of the set: the other code bank, the pc at 0, registers and FPSR 0, nothing staged. -/
def switchTile (s : State) (t : Nat) : State :=
  let l := F.WPT_BANK_BANK_B (t / 32)
  let s := s.putBit l (t % 32) (!s.bitAt l (t % 32))
  let s := s.putBit (F.WPT_STAGED_STAGED (t / 32)) (t % 32) false
  s.onCore t (fun c => ({ c with pc := 0, npc := 4, slot := false, g := [], f := [] }).setSr t srFpsr 0)

def coTiles (s : State) (p : Nat) : List Nat := (List.range 256).filter (inCoSet s p)

/-- CHANGEOVER_SWITCH: TOLL_NET of every affected lane is 0 (R228, R193). -/
def execChangeoverSwitch (p : Fin 4) (s : State) : Host.Outcome State Fault Refusal :=
  if (s.part p).coPhase = 1 ∧ ((coLanes s p).all (fun l => s.get (F.LANE_CNT_HI_TOLL_NET l) == 0)) = true then
    let maps := s.flag (F.WPT_CO_CTL_MAPS p)
    let s := (coTiles s p).foldl switchTile s
    let s := s.onPart p (fun q => { q with coPhase := 2, mapB := q.mapB != maps })
    .next (s.put (F.CVY_OUTCOUNT_COUNT p) (outWords s p).length)
  else .next s

/-- One entry of the lane list takes effect; a lane that stays enabled is set as R174 does (R192, R228). -/
def applyLane (s : State) (e : Nat) : State :=
  let l := coLane e
  let s := s.setReg (A.LANE_CFG l) (BitVec.ofNat 64 (coCfg e))
  if laneOn s l then laneSet s l else laneOff s l

/-- The data area of a tile under DATA: kept, cleared below the keep region, or cleared whole (R228). -/
def clearData (s : State) (p t : Nat) : State :=
  let d := s.get (F.WPT_CO_CTL_DATA p)
  let n := 0x8000 - (if d = 1 then 64 * s.get (F.SYS_TILE_CFG_KEEP t) else 0)
  if d = 0 then s
  else (s.eraseBytes (0x20008000 + 0x10000 * t) n).clearEcc memTile ((0x20008000 + 0x10000 * t) / 8) (n / 8)

/-- CHANGEOVER_DONE: the lane entries and the clear are complete; the tiles start the new scan, the status is DONE (R228). -/
def execChangeoverDone (p : Fin 4) (s : State) : Host.Outcome State Fault Refusal :=
  if (s.part p).coPhase = 2 ∧ !auditOf s p then
    let touched := coLanes s p
    let s := (coList s p).foldl applyLane s
    let s := (touched.filter (laneOn s)).foldl laneSet s
    let s := (coTiles s p).foldl (fun s t => clearData s p t) s
    let scan := (s.part p).coScan
    let s := coEnd s p 2 0 (s.get (F.WPT_CO_STATUS_WNUM p))
    .next (if scan && s.pstate p == psScanning && !inConvoyP s p then startTiles s p else s)
  else .next s

/-! ## Registers of the block -/

/-- WPT_PSTATE as it reads: WAITING counts the tiles that have not committed WAYPT for the pending scan. -/
def pstateRead (s : State) (p : Nat) : Word :=
  let q := s.part p
  let n := if !q.scanPending then 0
    else if !q.live then (s.partTiles p).length
    else ((s.partTiles p).filter (fun t => (s.core t).run != .waypt)).length
  withBits (s.reg (A.WPT_PSTATE p)) 23 15 (min 511 n)

/-- WPT_NEXT as it reads: 0 while the timer does not run, or no timebase pulses occur (R34). -/
def nextRead (s : State) (p : Nat) : Word := if s.pllClock then s.reg (A.WPT_NEXT p) else 0

/-- Every other write of a WPT register of partition p: the changeover registers keep what a PENDING request held (R230). -/
def wptRegWrite (s : State) (p off : Nat) (v : Word) : State :=
  if 0x60 ≤ off ∧ off < 0xA0 ∧ s.flag (F.WPT_PSTATE_CO_PENDING p) then s
  else genericWrite s (0x40020000 + 0x100 * p + off) v

end Sys2Proof.Machine
end

