-- ==== Sys2Proof/Machine/Reset.lean ====
section
/-! DEFINITION. Reset: the causes and what each keeps (R487–R489), the release (R490), the zeroing of arrays (R150), the loss
of VCORE (R46), ROADBLOCK (R45, R480), the start of service cores, the random source (R504) and the pin lock (R505). -/

namespace Sys2Proof.Machine

/-! ## Causes: the bits of HW_RESET_CAUSE -/

def rcPowerOn : Nat := 0
def rcResetN : Nat := 1
def rcChip : Nat := 2
def rcWdg : Nat := 3
def rcDebug : Nat := 4
def rcLayby : Nat := 5
def rcRoadblock : Nat := 6

/-- Whether memories lose their contents: power-on and end of layby (R487). -/
def rcZeroes (c : Nat) : Bool := c == rcPowerOn || c == rcLayby

def inBlock (b a : Nat) : Bool := decide (b ≤ a ∧ a < b + 0x10000)

/-- Registers that a reset with cause c keeps (R487, R526, and the descriptions that name causes). -/
def keptReg (c a : Nat) : Bool :=
  c != rcPowerOn &&
  (a == A.SYS_AON_CFG || a == A.PWR_AON_CNT || a == A.WDG_LADDER ||
   (c != rcLayby && a == A.HW_BOOT_CFG) ||
   (c == rcWdg && (List.range 8).any (fun i => a == A.WDG_FAULT i || a == A.WDG_FAULT_SIG i)) ||
   (inBlock 0x400E0000 a && a != A.DBG_LEVEL))

/-- The fields of WDG_LADDER that survive: COUNT and LIMIT, LAST2 across watchdog stage 2 (R483, R487). -/
def ladderAfter (s : State) (c : Nat) : State :=
  let s := s.put F.WDG_LADDER_STAGE1 0
  let s := if c = rcWdg then s else s.put F.WDG_LADDER_LAST2 0
  if c = rcRoadblock then s.put F.WDG_LADDER_COUNT 0 else s

/-- A core in reset: its debug registers stay, its halt, its REASON and FEED_STAT do not (R526). -/
def coreCleared (k : Nat) (c : Core) : Core :=
  let d := c.dbg.drop 0x22C
  { coreReset k with dbg := d.write dbgReset 0x204 (withBits (d.read dbgReset 0x204) 23 20 0) }

def coresCleared (s : State) : Tab Core :=
  s.cores.foldl (fun t e => t.write coreReset e.1 (coreCleared e.1 e.2)) []

/-- Memory that loses its contents with VCORE or the domains: tile SRAM and depot (R150). -/
def volatile (a : Nat) : Bool := inTiles a || inDepot a

/-- Marks of tile SRAM, receive stores and depot words. -/
def keptMark (key : Nat) : Bool :=
  let arr := key / 2 ^ 40
  arr == memTile || arr == memStore || arr == memDepot

/-- The device logic in reset with cause c (R487): everything at its reset value but for what the cause keeps. -/
def resetTo (s : State) (c : Nat) : State :=
  let s := flashAbort s
  let z := rcZeroes c
  let on := c == rcPowerOn
  let b := State.reset
  let t : State := { b with
    regs := s.regs.filter (fun e => keptReg c e.1)
    rwl := s.rwl.filter (fun e => !on && e.1 == A.WDG_LADDER * 64)
    mem := if z then s.mem.filter (fun e => !volatile e.1) else s.mem
    ecc := if z then [] else s.ecc.filter (fun e => keptMark e.1)
    cores := if on then [] else coresCleared s
    mesh := { b.mesh with store := if z then [] else s.mesh.store }
    pads := { s.pads with evPrev := [] }
    flash := s.flash
    lay := if on then b.lay else { b.lay with buf := s.lay.buf, poison := s.lay.poison, top := s.lay.top,
                                              wnum := s.lay.wnum, seq := s.lay.seq }
    dbgp := if on then b.dbgp else { s.dbgp with scan := 0, mem := none, held := none, word := none, unlock :=
      if s.dbgp.unlock.host then b.dbgp.unlock else { s.dbgp.unlock with checking := false } }
    boot := { b.boot with inReset := some c, zeroing := [], stage := s.boot.stage }
    free := s.free
    pending := s.pending }
  if on then (t.setReg A.HW_STATE 0) else ladderAfter t c

/-! ## The steps of the watchdogs (R471, R473) -/

def wdgOn (s : State) (i : Nat) : Bool := s.flag (F.WDG_CTL_ON i)
def wdgFrozen (s : State) (i : Nat) : Bool :=
  s.bitAt F.DBG_FRZ_UNIT_WDG i && s.get F.DBG_LEVEL_LEVEL == 2 && s.freezeInForce

/-- The count holds (R471). -/
def wdgHolds (s : State) (i : Nat) : Bool :=
  s.dev == dsSleep || wdgFrozen s i ||
  (decide (4 ≤ i) && s.pstate (i - 4) != psScanning && s.pstate (i - 4) != psFaulted)

/-- The instance takes steps: it is on, its count does not hold, and the device is not in reset, OFF or ROADBLOCK. -/
def wdgRuns (s : State) (i : Nat) : Bool :=
  wdgOn s i && !wdgHolds s i && s.boot.inReset.isNone && s.dev != dsOff && s.dev != dsRoadblock

/-- What a step without a service does. -/
inductive WdgNext where
  | count
  | warn
  | expiry
  deriving DecidableEq, Repr

def wdgNext (s : State) (i : Nat) : WdgNext :=
  let c := s.get (F.WDG_COUNT_COUNT i)
  let w := s.get (F.WDG_WARN_WARN i)
  if s.get (F.WDG_CLOSE_CLOSE i) ≤ c then .expiry
  else if w ≠ 0 ∧ c + 1 = w then .warn
  else .count

/-- The order of preference among causes that register in one cycle (R489). -/
def resetRank (c : Nat) : Nat :=
  if c = rcResetN then 4 else if c = rcWdg then 3 else if c = rcDebug then 2 else if c = rcChip then 1 else 0

/-- The instances whose expiry in this cycle would be a stage-2 fault. -/
def wdgDueNow (s : State) : List Nat :=
  (List.range 8).filter (fun j => wdgRuns s j && s.flag (F.WDG_STAT_FAULTED j) && (s.wdog j).tokens.isEmpty &&
    wdgNext s j == .expiry && s.get F.WDG_LADDER_COUNT != s.get F.WDG_LADDER_LIMIT)

/-- A reset cause of rank 4 registers (R46, R47): LAYBY holds it off, OFF and ROADBLOCK ignore it. A reset already registered
stands; of two that register in one cycle, before a tick passes, HW_RESET_CAUSE will record the preferred one (R489). -/
def raiseReset (s : State) (c : Nat) : State :=
  if s.dev == dsOff || s.dev == dsRoadblock then s
  else
    match s.boot.inReset with
    | some c' => if s.boot.newReset && resetRank c' < resetRank c then { s with boot := { s.boot with inReset := some c } } else s
    | none =>
      if s.dev = dsLayby then
        { s with lay := { s.lay with heldReset := if s.lay.heldReset.isSome then s.lay.heldReset else some c } }
      else
        let due := wdgDueNow s
        let t := resetTo s c
        { t with boot := { t.boot with wdgDue := due, newReset := true } }

/-- VCORE_LOSS (R46, R47): VCORE falls below the power-on threshold; from any state the device goes to OFF. A save that has begun
runs on from VHOLD, and its end takes the device out of LAYBY (R459, R460; DEDUCED, log 44). -/
def execVcoreLoss (s : State) : Host.Outcome State Fault Refusal :=
  if s.dev = dsLayby ∧ s.lay.save.isSome then .next s
  else .next (resetTo { s with boot := { s.boot with stage := 0 } } rcPowerOn)

/-- RESET_N_ASSERT (R488). -/
def execResetNAssert (s : State) : Host.Outcome State Fault Refusal := .next (raiseReset s rcResetN)

/-- ROADBLOCK (R45, R324, R480): tiles and sequencers stop, every pad floats, a command in progress ends without completion
(R422), and stage 3 is logged; a voter or standby goes onto the shoulder first (R260). -/
def enterRoadblock (s : State) : State :=
  let s := goShoulder s scCommand 0
  let s := (List.range 128).foldl engDisable s
  let s := (List.range 4).foldl (fun s p => timerStop (stopTiles s p) p) s
  let s := ((s.put F.HW_CMD_BUSY 0).put F.HW_CMD_FW 0).put F.HST_CMD_PENDING 0
  logEvent (s.put F.HW_STATE_STATE dsRoadblock) 8 3 0

/-! ## The device configuration word (R492) -/

def dcwAddr : Nat := 0x8005000

def dcwErased (d : BitVec 128) : Bool := d == BitVec.allOnes 128

/-- The fields marked 0 are 0, no field holds a value marked invalid, and MAGIC is right. -/
def dcwValid (d : BitVec 128) : Bool :=
  let f (hi lo : Nat) := d.toNat / 2 ^ lo % 2 ^ (hi + 1 - lo)
  f 127 96 == 0x44435731 && f 79 64 == 0 && f 43 40 == 0 && f 31 8 == 0 && f 2 2 == 0 &&
  decide (f 49 48 ≤ 1) && decide (f 5 4 ≤ 2) && decide (f 1 0 ≤ 2)

/-- The debug port is five-wire: DEBUG_PORT, and for an erased or invalid word (R492, R506). -/
def dcwFiveWire (s : State) : Bool :=
  match senseData s dcwAddr with
  | some d => dcwErased d || !dcwValid d || d.getLsbD 3
  | none => true

/-! ## Release (R490) -/

/-- Arrays 0–3 are the tile SRAMs and receive stores of a quadrant, 4 + b depot bank b. -/
def allArrays : List Nat := List.range 20

/-- RESET_RELEASE (R488, R490): the straps are sampled, HW_STATE shows BOOT, HW_RESET_CAUSE the cause, and the zeroing, the
scans and the coefficient load start. The boot after a stage-2 reset logs it and raises WDG_STAGE (R482); a held escalation at
stage 3 enters ROADBLOCK (R483). -/
def resetRelease (s : State) (hmode : Bool) (mid : BitVec 2) : State :=
  match s.boot.inReset with
  | none => s
  | some c =>
    let s := (s.put F.HW_STATE_STATE dsBoot).setReg A.HW_RESET_CAUSE
      (BitVec.ofNat 64 (2 ^ c + (if s.boot.held then 2 ^ 31 else 0)))
    let s := { s with
      pads := { s.pads with hmode := hmode, mid := mid, fiveWire := dcwFiveWire s }
      boot := { s.boot with inReset := none, held := false, stage := 0, wdgDue := [], newReset := false,
                            zeroing := if rcZeroes c || s.boot.held then allArrays else [] } }
    let s := refreshAll (((s.putFlag F.HW_REV_HMODE hmode).put F.HW_REV_MEMBER mid.toNat).put F.CVY_CFG_MEMBER mid.toNat)
    if c = rcWdg then attention (logEvent s 8 2 0) attnWdg else s

/-- RESET_RELEASE (R490). -/
def execResetRelease (hmode : Bool) (mid : BitVec 2) (s : State) : Host.Outcome State Fault Refusal :=
  let stage := s.boot.stage
  let was := s.boot.inReset.isSome
  let s := resetRelease s hmode mid
  .next (if was && stage == 3 then enterRoadblock s else s)

/-- ZEROING_DONE (R150): an array's zeroing ends. -/
def execZeroingDone (a : Fin 20) (s : State) : Host.Outcome State Fault Refusal :=
  .next { s with boot := { s.boot with zeroing := s.boot.zeroing.filter (· != a.val) } }

/-! ## Service cores -/

/-- A service core starts at an address. -/
def startCore (s : State) (k : Nat) (a : Addr) : State :=
  s.onCore k (fun c => { coreReset k with dbg := c.dbg, run := .active, pc := a, npc := a + 4 })

def scEntry (s : State) (k : Nat) : Addr := BitVec.ofNat 40 (s.get (F.SYS_SC_ENTRY_ADDR k) * 4)

/-- A write of SYS_SC_START (R490): SC1–SC3 that are still in reset start at their entries. -/
def scStart (s : State) (v : Nat) : State :=
  [1, 2, 3].foldl (fun s k =>
    if v / 2 ^ k % 2 = 1 ∧ (s.core (256 + k)).run = .reset then startCore s (256 + k) (scEntry s k) else s) s

/-- SC_START (R490). -/
def execScStart (v : BitVec 4) (s : State) : Host.Outcome State Fault Refusal := .next (scStart s v.toNat)

/-- SYS_SC_START as it reads: RUN shows the cores out of reset. -/
def scStartRead (s : State) : Word :=
  BitVec.ofNat 64 ((List.range 4).foldl (fun v k => if (s.core (256 + k)).run = .reset then v else v + 2 ^ (16 + k)) 0)

/-! ## The random source (R504) -/

/-- RNG_READY: 1,024 samples have passed the tests. -/
def execRngReady (s : State) : Host.Outcome State Fault Refusal :=
  .next (if s.flag F.SEC_RNG_STAT_FAIL then s else s.put F.SEC_RNG_STAT_READY 1)

/-- RNG_TEST_FAIL: FAIL is set, READY clears, WARN is raised and an entry of class 15 appended, whose CODE is not stated. -/
def execRngTestFail (s : State) : Host.Outcome State Fault Refusal :=
  let s := (s.put F.SEC_RNG_STAT_FAIL 1).put F.SEC_RNG_STAT_READY 0
  let c := s.draw 8
  .next (attention (logEvent c.2 15 c.1.toNat 0) attnWarn)

/-- RNG_WORD_PRODUCED: a word joins the queue, which holds four. -/
def execRngWordProduced (w : BitVec 32) (s : State) : Host.Outcome State Fault Refusal :=
  if s.flag F.SEC_RNG_STAT_READY ∧ s.boot.rng.length < 4 then
    let q := s.boot.rng ++ [w]
    .next ({ s with boot := { s.boot with rng := q } }.put F.SEC_RNG_STAT_LEVEL q.length)
  else .next s

/-- A read of SEC_RNG_DATA pops one word; without one, or while READY is 0, it returns 0 and sets EMPTY. -/
def rngRead (s : State) : BitVec 32 × State :=
  match s.flag F.SEC_RNG_STAT_READY, s.boot.rng with
  | true, w :: q => (w, { s with boot := { s.boot with rng := q } }.put F.SEC_RNG_STAT_LEVEL q.length)
  | _, _ => (0, s.put F.SEC_RNG_STAT_EMPTY 1)

/-- RNG_READ (R504). -/
def execRngRead (s : State) : Host.Outcome State Fault Refusal :=
  let r := rngRead s
  .next { r.2 with rdata := r.1.setWidth 64 }

/-! ## The SEC block's writes -/

def secErr (s : State) (cause index : Nat) : State :=
  recordErr s F.SEC_ERR_VALID [(F.SEC_ERR_CAUSE, cause), (F.SEC_ERR_INDEX, index)]

/-- Whether pin n may be locked (R505). -/
def pinLockable (s : State) (n : Nat) : Bool :=
  decide (s.get (F.PIN_CFG_FUNC n) ≤ 1) &&
  (match ownerPart (pinOwner s n) with
   | some p => configurable s p
   | none => true)

/-- One pin's lock: its OWNER becomes SEC, which freezes it (R505, R327), by a function switch. -/
def lockPin (s : State) (b i : Nat) : State :=
  let n := 32 * b + i
  if s.bitAt (F.SEC_PINLOCK_LOCK b) i then s
  else if !pinLockable s n then secErr s 2 n
  else refreshPin ((s.putBit (F.SEC_PINLOCK_LOCK b) i true).put (F.PIN_CFG_OWNER n) 12) n

def pinLock (s : State) (b v : Nat) : State :=
  (List.range 32).foldl (fun s i => if v / 2 ^ i % 2 = 1 then lockPin s b i else s) s

/-- A write of a SEC register: from privileged service-core contexts only; from the host window or a DMA channel it is recorded
with cause ORIGIN. SEC_HOSTWIN is frozen by SEC_LOCK.HOSTWIN. -/
def secWrite (s : State) (i : Agent) (priv : Bool) (a : Nat) (v : Word) : State :=
  match i with
  | .host => secErr s 1 (a % 512)
  | .dma _ => secErr s 1 (a % 512)
  | .debug => s
  | .sc _ =>
    if !priv then s
    else if A.SEC_PINLOCK 0 ≤ a ∧ a < A.SEC_PINLOCK 10 then pinLock s ((a - A.SEC_PINLOCK 0) / 4) (bitsOf v 31 0)
    else if a = A.SEC_HOSTWIN ∧ s.flag F.SEC_LOCK_HOSTWIN then s
    else genericWrite s a v

/-- PIN_LOCK (R505). -/
def execPinLock (k : Fin 4) (b : Fin 10) (v : BitVec 32) (s : State) : Host.Outcome State Fault Refusal :=
  .next (secWrite s (.sc k) (s.isPriv (256 + k)) (A.SEC_PINLOCK b) (v.setWidth 64))

end Sys2Proof.Machine
end

