-- ==== Sys2Proof/Machine/Layby.lean ====
section
/-! DEFINITION. The layby engine: slots and the boot scan (R461, R463), the sag and the save (R457–R460), preparation (R464),
restore and discard (R466–R468), and the scans that follow a release of reset (R369, R463). -/

namespace Sys2Proof.Machine

/-! ## The boot scan -/

/-- The slot of the greatest SEQ among those that satisfy p; the first of equals. -/
def newestOf (s : State) (p : Nat → Bool) : Option Nat :=
  (List.range 8).foldl (fun o j =>
    if !p j then o
    else match o with
      | none => some j
      | some k => if slotSeq s k < slotSeq s j then some j else o) none

/-- boot_scan of R463. SEQ is rebuilt at power-on only (R487). The log entry of an incomplete save has a class and a code that
the spec does not state (R460). -/
def laybyScan (s : State) : State :=
  let s := showSlots s
  let st (j : Nat) := s.get (F.LAY_SLOT_STATE j)
  let top := newestOf s (fun j => decide (slBegun ≤ st j ∧ st j ≤ slConsumed))
  let offered := newestOf s (fun j => st j == slComplete)
  let next := match top with
    | none => 1
    | some j => (slotSeq s j + 1) % 2 ^ 32
  let on := bitsOf (s.reg A.HW_RESET_CAUSE) 0 0 == 1
  let s := { s with lay := { s.lay with newest := top, seq := if on then next else s.lay.seq } }
  let s := match top with
    | some j =>
      if st j = slBegun then
        let c := s.draw 12
        attention (logEvent (c.2.put F.LAY_STAT_INCOMPLETE 1) (c.1.toNat / 256) (c.1.toNat % 256) 0) attnWarn
      else s
    | none => s
  match offered with
  | some j =>
    let s := ((s.put F.HW_LAYBY_STATUS_OFFERED 1).put F.HW_LAYBY_STATUS_SLOT j).put F.HW_LAYBY_STATUS_SEQ (slotSeq s j % 2 ^ 16)
    attention (s.put F.LAY_IRQ_OFFERED 1) attnLayby
  | none => s

/-- FLASH_LOG_SCAN_DONE (R369, R463, R490): the scan of the marker log ends, and the layby boot scan with it. -/
def execFlashLogScanDone (s : State) : Host.Outcome State Fault Refusal :=
  if s.dev = dsBoot ∧ s.boot.inReset = none ∧ s.boot.scanned = false then
    let s := laybyScan (flashScan s)
    .next { s with boot := { s.boot with scanned := true } }
  else .next s

/-- save_target of R463. -/
def saveTarget (s : State) : Option Nat :=
  let base := s.lay.newest.getD 7
  ((List.range 8).map (fun k => (base + k + 1) % 8)).find? (fun j => (layFreeSlots s).contains j)

/-! ## The save -/

/-- The buffer in order (R452): the completed halves' words, and whether each is poisoned. -/
def saveUnit (i : Nat) : Nat := if i < 16384 then i / 64 else 256
def bufferWord (s : State) (i : Nat) : Word := layWord s (layTop s (saveUnit i)) i
def savePoisoned (s : State) (i : Nat) : Bool := layPoisoned s (layTop s (saveUnit i)) i

/-- The poison list: 16 entries of 32 bits. -/
def poisonList (s : State) : List Nat :=
  let l := ((s.lay.poison.map (fun e => e.1)).filter (fun key =>
    let i := key % 32768
    savePoisoned s i && key / 32768 == layTop s (saveUnit i))).map (· % 32768)
  (l ++ List.replicate 16 0xFFFFFFFF).take 16

def packWords (l : List Nat) (w : Nat) : Nat := l.foldr (fun x v => x % 2 ^ w + v * 2 ^ w) 0

/-- The four flash words of a list of up to sixteen 32-bit entries, at an address. -/
def putList (s : State) (a : Nat) (l : List Nat) : State :=
  (List.range 4).foldl (fun s i => flashWord s (a + 16 * i) (BitVec.ofNat 128 (packWords ((l.drop (4 * i)).take 4) 32))) s

/-- The header burst with STATE = BEGUN, and the poison list burst (R459, R461). -/
def saveHeader (s : State) (j : Nat) : State :=
  let a := slotBase 0 j
  let info := s.lay.seq % 2 ^ 32 + s.get F.LAY_STAT_BUF_VALID * 2 ^ 32 + s.get F.LAY_STAT_SC_VALID * 2 ^ 36 +
    s.get F.LAY_STAT_POISON_OVF * 2 ^ 37 + me s % 4 * 2 ^ 40
  let wn (p : Nat) := s.lay.wnum.read nat0 p
  let s := flashWord (flashWord s a begunWord) (a + 0x10) (BitVec.ofNat 128 info)
  let s := flashWord s (a + 0x20) (s.boot.digest.setWidth 128)
  let s := flashWord s (a + 0x30) ((s.boot.digest >>> 128).setWidth 128)
  let s := flashWord s (a + 0x40) (BitVec.ofNat 128 (packWords [wn 0, wn 1] 64))
  let s := flashWord s (a + 0x50) (BitVec.ofNat 128 (packWords [wn 2, wn 3] 64))
  let s := flashWord s (a + 0x60) (BitVec.ofNat 128 (packWords [wn 4] 64))
  let s := flashWord s (a + 0x70) 0
  putList s (slotBase 1 j) (poisonList s)

/-- The address of flash word w (0–7) of data block i (R461). -/
def blockAddr (j i w : Nat) : Nat := slotBase (i % 8) j + 0x100 + 128 * (i / 8) + 16 * w

def saveData (s : State) (j : Nat) : State :=
  (List.range 9216).foldl (fun t n =>
    flashWord t (blockAddr j (n / 8) (n % 8))
      (BitVec.ofNat 128 (packWords [(bufferWord s (2 * n)).toNat, (bufferWord s (2 * n + 1)).toNat] 64))) s

/-- The CRC-32 over the data bytes in buffer order. -/
def crcWords (f : Nat → Nat) (n : Nat) : BitVec 32 :=
  ~~~((List.range n).foldl (fun c i =>
    (List.range 8).foldl (fun c b => crcByte c (BitVec.ofNat 8 (f i / 256 ^ b))) c) (0xFFFFFFFF : BitVec 32))

/-- SAG (R457–R459): in RUN, HOLD, SERVICE and SLEEP the device goes to LAYBY; in other states no save follows. The bank engines
finish programs and abandon erases; with EN, a valid half and a free slot the save begins. -/
def sag (s : State) : State :=
  if s.boot.inReset.isSome ∨ ¬(s.dev = dsRun ∨ s.dev = dsHold ∨ s.dev = dsService ∨ s.dev = dsSleep) then s
  else
    let s := if s.role = roleVoter ∨ s.role = roleStandby then goShoulder s scCommand 0 else s
    let s := { s.put F.PWR_HS_STAT_BUSY 0 with pwr := { s.pwr with hs := none, waking := false } }
    let valid := s.get F.LAY_STAT_BUF_VALID != 0 || s.flag F.LAY_STAT_SC_VALID
    let target := if s.flag F.LAY_CTL_EN && valid then saveTarget s else none
    let s := (List.range 128).foldl engDisable s
    let s := (List.range 4).foldl (fun s p => timerStop (stopTiles s p) p) s
    let s := (s.put F.SYS_CLK_STAT_SRC 0).put F.HW_STATE_STATE dsLayby
    let s := flashLayby s
    let s := match s.lay.prepSlot with
      | some j => showSlot (s.put F.LAY_PREP_BUSY 0) j
      | none => s
    let s := { s with lay := { s.lay with prepSlot := none, restore := none, scBusy := false, save := target } }
    match target with
    | some j => showSlot (saveHeader (s.put F.LAY_STAT_STATE 2) j) j
    | none => s

/-- SAG (R457). -/
def execSag (s : State) : Host.Outcome State Fault Refusal := .next (sag s)

/-- Out of LAYBY (R46, R460): to reset with cause end of layby, or with the cause that was held, or to OFF. -/
def leaveLayby (s : State) (recovered : Bool) : State :=
  if !recovered then resetTo s rcPowerOn
  else
    match s.lay.heldReset with
    | none => resetTo s rcLayby
    | some c =>
      let t := resetTo s c
      { t with mem := t.mem.filter (fun e => !volatile e.1), ecc := [], mesh := { t.mesh with store := [] },
               boot := { t.boot with held := true } }

/-- LAYBY_SAVE_COMPLETE (R459, R460): the data, the CRC word and STATE = COMPLETE are programmed, SEQ advances, and LAYBY ends. -/
def execLaybySaveComplete (recovered : Bool) (s : State) : Host.Outcome State Fault Refusal :=
  if s.dev ≠ dsLayby then .next s
  else
    let s := match s.lay.save with
      | some j =>
        let crc := crcWords (fun i => (bufferWord s i).toNat) 18432
        let t := flashWord (saveData s j) (slotBase 0 j + 0x90) (BitVec.ofNat 128 (2 ^ 128 - 2 ^ 32 + crc.toNat))
        let t := flashWord t (slotBase 0 j) 0
        { t with lay := { t.lay with save := none, seq := (t.lay.seq + 1) % 2 ^ 32 } }
      | none => s
    .next (leaveLayby s recovered)

/-- VHOLD_FLOOR (R460): the save stops, its slot stays BEGUN, and the device goes to OFF. -/
def execVholdFloor (s : State) : Host.Outcome State Fault Refusal :=
  if s.dev ≠ dsLayby then .next s
  else
    let s := match s.lay.save with
      | some j => { s with flash := { s.flash with indet := s.flash.indet ++ (List.range 7).map (fun b => (b + 1, 120 + j)) } }
      | none => s
    .next (resetTo s rcPowerOn)

/-! ## Preparation (R464) -/

/-- LAY_PREP.START: refused whole for the offered slot, a free slot, and while a preparation is busy; else an ERASE on each bank, each
with its marker. A bank that takes no erase counts as failed (DEDUCED, log 44). -/
def prepStart (s : State) (j : Nat) : State :=
  let offered := s.flag F.HW_LAYBY_STATUS_OFFERED && s.get F.HW_LAYBY_STATUS_SLOT == j
  if s.flag F.LAY_PREP_BUSY || offered || s.bitAt F.LAY_STAT_FREE j then s
  else
    let s := s.put F.LAY_PREP_SLOT j
    let s := ((s.put F.LAY_PREP_BUSY 1).put F.LAY_PREP_FAIL 0).put F.LAY_STAT_STATE 1
    let s := (List.range 8).foldl (fun s b =>
      if engTakes s b (120 + j) 3 && (decide (s.flash.pend.length < 16) || s.flash.pend.contains (b, 120 + j)) then
        eraseStart s b (120 + j) false
      else s.put F.LAY_PREP_FAIL 1) s
    showSlot { s with lay := { s.lay with prepSlot := some j } } j

/-- PREP_START (R464). -/
def execPrepStart (j : BitVec 3) (s : State) : Host.Outcome State Fault Refusal :=
  .next (prepStart s j.toNat)

/-- PREP_DONE: the erases have ended. -/
def execPrepDone (s : State) : Host.Outcome State Fault Refusal :=
  match s.lay.prepSlot with
  | none => .next s
  | some j =>
    let runs (b : Nat) := match (flEng s b).erase with
      | some e => e.sector == 120 + j
      | none => false
    if (List.range 8).any runs then .next s
    else
      let s := if (List.range 8).any (fun b => s.flash.pend.contains (b, 120 + j)) then s.put F.LAY_PREP_FAIL 1 else s
      let s := showSlot { s with lay := { s.lay with prepSlot := none } } j
      .next (((s.put F.LAY_PREP_BUSY 0).put F.LAY_STAT_STATE 0).put F.LAY_IRQ_PREP_DONE 1)

/-! ## Restore (R466, R467) and discard (R468) -/

/-- Word i of the slot's data, if it can be read. -/
def slotData (s : State) (j i : Nat) : Option Nat :=
  (senseData s (blockAddr j (i / 16) (i % 16 / 2))).map (fun d => d.toNat / 2 ^ (64 * (i % 2)) % 2 ^ 64)

def slotCrcOk (s : State) (j : Nat) : Bool :=
  (List.range 18432).all (fun i => (slotData s j i).isSome) &&
  (match slotWordAt s j 0x90 with
   | some w => crcWords (fun i => (slotData s j i).getD 0) 18432 == w.setWidth 32
   | none => false)

/-- The cause of a refused restore, in the order of R466's table; 0 if it is accepted. -/
def restoreCheck (s : State) (parts : Nat) (sc : Bool) : Nat :=
  let j := s.get F.HW_LAYBY_STATUS_SLOT
  let named := (List.range 4).filter (fun p => parts / 2 ^ p % 2 == 1)
  let digest := (((slotWordAt s j 0x30).getD 0).toNat * 2 ^ 128 + ((slotWordAt s j 0x20).getD 0).toNat)
  if s.dev ≠ dsProvision ∨ named.any (fun p => s.pstate p != psProvisioning) then 1
  else if !s.flag F.HW_LAYBY_STATUS_OFFERED then 2
  else if named.any (fun p => slotInfo s j / 2 ^ (32 + p) % 2 == 0) || (sc && slotInfo s j / 2 ^ 36 % 2 == 0) then 3
  else if digest ≠ s.boot.digest.toNat then 4
  else if !slotCrcOk s j then 5
  else if slotInfo s j / 2 ^ 37 % 2 = 1 then 6
  else if s.flag F.LAY_RESTORE_BUSY || s.flag F.LAY_PREP_BUSY then 7
  else 0

def restoreStart (s : State) (parts : Nat) (sc : Bool) : State :=
  let c := restoreCheck s parts sc
  if c ≠ 0 then (s.put F.LAY_RESTORE_RESULT c).put F.LAY_IRQ_RESTORE_DONE 1
  else
    let s := (s.put F.LAY_RESTORE_BUSY 1).put F.LAY_STAT_STATE 3
    { s with lay := { s.lay with restore := some (parts, sc) } }

/-- RESTORE_START (R466). -/
def execRestoreStart (sc : Bool) (parts : BitVec 4) (s : State) : Host.Outcome State Fault Refusal :=
  .next (restoreStart ((s.putFlag F.LAY_RESTORE_SC sc).put F.LAY_RESTORE_PARTS parts.toNat) parts.toNat sc)

/-- The slot's poison list holds a word. -/
def slotPoisoned (s : State) (j i : Nat) : Bool :=
  (List.range 4).any (fun n => match senseData s (slotBase 1 j + 16 * n) with
    | some w => (List.range 4).any (fun e => w.toNat / 2 ^ (32 * e) % 2 ^ 32 == i)
    | none => false)

/-- A word of the slot is written back, a listed one with check bits that read as uncorrectable. -/
def restoreWord (s : State) (j i a arr : Nat) : State :=
  ((s.setBytes a 8 ((slotData s j i).getD 0)).clearEcc arr (a / 8) 1).setEcc arr (a / 8) (if slotPoisoned s j i then 2 else 0)

/-- The keep region of a tile (R148) takes the last words of the tile's part of the buffer. -/
def restoreTile (s : State) (j t : Nat) : State :=
  let n := 8 * s.get (F.SYS_TILE_CFG_KEEP t)
  (List.range 64).foldl (fun s i =>
    if 64 ≤ n + i then restoreWord s j (64 * t + i) (0x20000000 + 0x10000 * t + 0xFE00 + 8 * i) memTile else s) s

/-- The offered save is consumed. -/
def consume (s : State) : State :=
  let j := s.get F.HW_LAYBY_STATUS_SLOT
  showSlot ((flashWord s (slotBase 0 j + 0x80) 0).put F.HW_LAYBY_STATUS_OFFERED 0) j

/-- RESTORE_DONE (R467). -/
def execRestoreDone (s : State) : Host.Outcome State Fault Refusal :=
  match s.lay.restore with
  | none => .next s
  | some (parts, sc) =>
    let j := s.get F.HW_LAYBY_STATUS_SLOT
    let ts := (List.range 4).flatMap (fun p => if parts / 2 ^ p % 2 = 1 then s.partTiles p else [])
    let s := ts.foldl (fun s t => restoreTile s j t) s
    let s := if sc then (List.range 2048).foldl (fun s i => restoreWord s j (16384 + i) (0x10FFC000 + 8 * i) memDepot) s else s
    let s := (consume s).put F.HW_LAYBY_STATUS_RESTORED 1
    let s := ((s.put F.LAY_RESTORE_BUSY 0).put F.LAY_RESTORE_RESULT 0).put F.LAY_STAT_STATE 0
    .next { s.put F.LAY_IRQ_RESTORE_DONE 1 with lay := { s.lay with restore := none } }

/-- DISCARD (R468): the offered save is consumed and DISCARDED set. -/
def layDiscard (s : State) : State :=
  if s.flag F.HW_LAYBY_STATUS_OFFERED then (consume s).put F.HW_LAYBY_STATUS_DISCARDED 1 else s

/-- DISCARD (R468). -/
def execDiscard (s : State) : Host.Outcome State Fault Refusal := .next (layDiscard s)

/-! ## Registers -/

/-- A write of a LAY register. -/
def layRegWrite (s : State) (a : Nat) (v : Word) : State :=
  let t := genericWrite s a v
  if a = A.LAY_PREP then (if bitsOf v 31 31 = 1 then prepStart s (bitsOf v 2 0) else t)
  else if a = A.LAY_RESTORE then
    let t := if bitsOf v 31 31 = 1 then restoreStart t (bitsOf v 3 0) (bitsOf v 4 4 == 1) else t
    if bitsOf v 30 30 = 1 then layDiscard t else t
  else t

/-- HW_LAYBY_STATUS as it reads. -/
def laybyStatusRead (s : State) : Word :=
  let v := withBits (s.reg A.HW_LAYBY_STATUS) 30 30 (s.get F.HW_SEAL_STATUS_LAYBY_ARMED)
  withBits v 23 16 (layFreeSlots s).length

end Sys2Proof.Machine
end

