-- ==== Sys2Proof/Machine/Xsp.lean ====
section
/-! DEFINITION. Octal memory ports (14_external_memory_ports.md): regions, requests, frames and translated writes. The
memories themselves stand outside the device: what they send comes with the commands. -/

namespace Sys2Proof.Machine

def xportReset (_ : Nat) : Xport where
  queue := []
  req := none
  frame := none
  last := none
  pieces := []
  step := 0
  answers := []
  csOff := []

def State.xport (s : State) (x : Nat) : Xport := s.xsp.read xportReset x
def State.setXport (s : State) (x : Nat) (p : Xport) : State := { s with xsp := s.xsp.write xportReset x p }
def State.onXport (s : State) (x : Nat) (f : Xport → Xport) : State := s.setXport x (f (s.xport x))

/-- Initiator codes of XSP_ERR.INIT. -/
def xiFetch : Nat := 0
def xiLoad : Nat := 1
def xiStore : Nat := 2
def xiDma : Nat := 3
def xiHost : Nat := 4
def xiDebug : Nat := 5
def xiManual : Nat := 6

/-- A refused register write (XSP_ERR causes 1–4). -/
def xspRefuse (s : State) (x cause cs off : Nat) : State :=
  recordErr s (F.XSP_ERR_VALID x) [(F.XSP_ERR_CAUSE x, cause), (F.XSP_ERR_CS x, cs), (F.XSP_ERR_OFFSET x, off)]

def xeRange : Nat := 1
def xeLocked : Nat := 2
def xeFormat : Nat := 3
def xeOverlap : Nat := 4
def xeRdy : Nat := 5
def xeBusy : Nat := 6

/-- A failed transfer (R394). -/
def xspFail (s : State) (x cause : Nat) (r : XReq) : State :=
  if s.flag (F.XSP_ERR_VALID x) then s
  else (recordErr s (F.XSP_ERR_VALID x)
    [(F.XSP_ERR_CAUSE x, cause), (F.XSP_ERR_CS x, r.cs), (F.XSP_ERR_INIT x, r.init)]).put (F.XSP_ERR_ADDR_ADDR x) r.addr

/-! ## Regions (R390) -/

def csBase (s : State) (x c : Nat) : Nat := s.get (F.XSP_CSCFG_BASE x c) * 65536
def csSize (s : State) (x c : Nat) : Nat := 2 ^ (16 + s.get (F.XSP_CSCFG_SIZE x c))
def csType (s : State) (x c : Nat) : Nat := s.get (F.XSP_CSCFG_TYPE x c)

/-- The enabled chip select of an enabled port whose region holds n bytes at a window offset. -/
def csOf (s : State) (x off n : Nat) : Option Nat :=
  if s.flag (F.XSP_CTL_EN x) then
    (List.range 4).find? (fun c =>
      s.flag (F.XSP_CSCFG_EN x c) && decide (csBase s x c ≤ off ∧ off + n ≤ csBase s x c + csSize s x c))
  else none

/-- The port of a window address. -/
def portOf (a : Nat) : Nat := a / 2 ^ 32 - 1

/-- Whether an access is performed, and on which chip select (R390). -/
def xspAccess (s : State) (a n : Nat) (store : Bool) : Option Nat :=
  match csOf s (portOf a) (a % 2 ^ 32) n with
  | some c => if store && csType s (portOf a) c == 2 then none else some c
  | none => none

/-! ## Requests -/

/-- Queue a request (R391). -/
def xspRequest (s : State) (r : XReq) (x : Nat) : State := s.onXport x (fun p => { p with queue := p.queue ++ [r] })

/-- Whether an initiator's request is waiting or in service. -/
def xspWaits (s : State) (x init who : Nat) : Bool :=
  let p := s.xport x
  let is (r : XReq) := r.init == init && r.who == who && r.reply
  p.queue.any is || (match p.req with
    | some r => is r
    | none => false)

/-- The answer to a read of n bytes at a by an initiator, if there is one, and the state with it taken. -/
def xspAnswer (s : State) (x init who a n : Nat) (write : Bool) : Option (Option (List Byte) × State) :=
  let p := s.xport x
  match p.answers.find? (fun e => e.1.init == init && e.1.who == who && e.1.addr == a && e.1.len == n && e.1.write == write) with
  | some e => some (e.2, s.setXport x { p with answers := p.answers.filter (fun f => f != e) })
  | none => none

/-- A read of n bytes at an XSP address: its answer when the frame has ended, else the state with the request made. -/
def xspRead (s : State) (init who a n : Nat) : Option (List Byte) × Bool × State :=
  let x := portOf a
  match xspAccess s a n false with
  | none => (none, true, s)
  | some c =>
    match xspAnswer s x init who a n false with
    | some (some d, s) => (some d, true, s)
    | some (none, s) => (none, true, s)
    | none =>
      if xspWaits s x init who then (none, false, s)
      else (none, false, xspRequest s ⟨init, who, a, n, [], false, c, true, 0, false⟩ x)

/-- A write of bytes at an XSP address; `reply` when its acceptance is awaited. True when it is accepted, or lost. -/
def xspWrite (s : State) (init who a : Nat) (d : List Byte) : Bool × State :=
  let x := portOf a
  match xspAccess s a d.length true with
  | none => (true, s)
  | some c =>
    match xspAnswer s x init who a d.length true with
    | some (_, s) => (true, s)
    | none =>
      if xspWaits s x init who then (false, s)
      else (false, xspRequest s ⟨init, who, a, d.length, d, true, c, true, 0, false⟩ x)

/-! ## Frames (R382, R383, R392) -/

/-- The bytes of a frame's command and address phases, in the order they go out: OPCODE, its extension, and the address
most significant byte first (R382, R383). -/
def frameHead (f : XFrame) : List Byte :=
  let op := f.fmt.setWidth 8
  let ext := if f.fmt.getLsbD 13 then ~~~op else op
  let b (i : Nat) : Byte := BitVec.ofNat 8 (f.addr / 2 ^ (8 * i))
  let al := f.fmt.toNat / 2 ^ 23 % 4
  (if f.fmt.getLsbD 28 then [op, ext] else [op]) ++
  (if al = 1 then [b 2, b 1, b 0] else if al = 2 then [b 3, b 2, b 1, b 0] else [])

def xspFrozen (s : State) (x : Nat) : Bool :=
  (if x = 0 then s.flag F.DBG_FRZ_UNIT_XSP0 else s.flag F.DBG_FRZ_UNIT_XSP1) && s.freezeInForce

/-- A divider or source switch waits or acts: no frame starts (R386). -/
def clockPending (s : State) : Bool :=
  s.flag F.SYS_CLK_STAT_SWITCHING || s.get F.PWR_OPP_STAT_PHASE == 2 || s.get F.PWR_OPP_STAT_PHASE == 3

/-- Whether the port may start a frame (R386, R396). -/
def mayStart (s : State) (x : Nat) : Bool :=
  s.flag (F.XSP_CTL_EN x) && !s.flag (F.XSP_STATUS_FRAME x) && !xspFrozen s x && !clockPending s

/-- A frame begins; one whose format has DATA_EN = 0 has no data phase (R382). -/
def startFrame (s : State) (x : Nat) (f : XFrame) : State :=
  let f := if f.fmt.getLsbD 12 then f else { f with out := [], inLen := 0 }
  (s.onXport x (fun p => { p with frame := some f, last := some f })).put (F.XSP_STATUS_FRAME x) 1

/-- The offset of an address within its chip select's region (R383). -/
def csOffset (s : State) (x c a : Nat) : Nat := a % 2 ^ 32 - csBase s x c

def fmtOf (s : State) (a : Nat) : BitVec 32 := (s.reg a).setWidth 32

/-- The head of the queue enters service. -/
def takeHead (s : State) (x : Nat) (r : XReq) (rest : List XReq) : State :=
  s.onXport x (fun p => { p with queue := rest, req := some r })

/-- XSP_READ_FRAME (R392): a read request becomes one RD frame. -/
def execXspReadFrame (x : Fin 2) (s : State) : Host.Outcome State Fault Refusal :=
  let p := s.xport x
  match p.req, p.queue with
  | none, r :: rest =>
    .next (if mayStart s x && !r.write && r.init != xiManual then
      startFrame (takeHead s x r rest) x ⟨r.cs, fmtOf s (A.XSP_RD_FMT x r.cs), csOffset s x r.cs r.addr, [], r.len⟩ else s)
  | _, _ => .next s

/-- XSP_MEMORY_WRITE (R392): a write to a MEMORY region becomes one WR frame. -/
def execXspMemoryWrite (x : Fin 2) (s : State) : Host.Outcome State Fault Refusal :=
  let p := s.xport x
  match p.req, p.queue with
  | none, r :: rest =>
    .next (if mayStart s x && r.write && r.init != xiManual && csType s x r.cs == 0 then
      startFrame (takeHead s x r rest) x ⟨r.cs, fmtOf s (A.XSP_WR_FMT x r.cs), csOffset s x r.cs r.addr, r.data, 0⟩ else s)
  | _, _ => .next s

/-- The pieces of a write, split at each boundary of the program page (R393). -/
def splitPages (page : Nat) : Nat → Nat → List Byte → List (Nat × List Byte)
  | 0, _, _ => []
  | n + 1, a, d =>
    if d.isEmpty then []
    else
      let k := page - a % page
      (a, d.take k) :: splitPages page n (a + k) (d.drop k)

/-- FLASH_WRITE_TRANSLATE (R393): the next frame of a translated write, WREN or WR, begins; the first one takes the
request into service. -/
def execFlashWriteTranslate (x : Fin 2) (s : State) : Host.Outcome State Fault Refusal :=
  let p := s.xport x
  if !mayStart s x then .next s
  else
    match p.req, p.queue with
    | none, r :: rest =>
      if r.write && r.init != xiManual && csType s x r.cs == 1 then
        let s' := takeHead s x r rest
        let s' := s'.onXport x (fun p => { p with
          pieces := splitPages (2 ^ (6 + s.get (F.XSP_CSCFG_PAGE x r.cs))) 65 (csOffset s x r.cs r.addr) r.data
          step := 1 })
        .next (startFrame s' x ⟨r.cs, fmtOf s (A.XSP_WREN_FMT x r.cs), 0, [], 0⟩)
      else .next s
    | some r, _ =>
      if p.step = 1 then .next (startFrame s x ⟨r.cs, fmtOf s (A.XSP_WREN_FMT x r.cs), 0, [], 0⟩)
      else if p.step = 2 then
        match p.pieces with
        | (a, d) :: _ => .next (startFrame s x ⟨r.cs, fmtOf s (A.XSP_WR_FMT x r.cs), a, d, 0⟩)
        | [] => .next s
      else .next s
    | none, [] => .next s

/-- The request in service ends with an answer: received bytes, or none for a write or a failure. -/
def xspFinish (s : State) (x : Nat) (d : Option (List Byte)) : State :=
  let p := s.xport x
  match p.req with
  | none => s
  | some r =>
    let s := (s.setXport x { p with
      req := none, frame := none, pieces := [], step := 0
      answers := if r.reply then p.answers ++ [(r, d)] else p.answers }).put (F.XSP_STATUS_POLL x) 0
    let s := (s.put (F.XSP_STATUS_FRAME x) 0).put (F.XSP_STATUS_WAIT x) 0
    if r.init = xiManual then (s.put (F.XSP_MAN_CTL_BUSY x) 0).put (F.XSP_STATUS_MAN_DONE x) 1 else s

/-- Received bytes enter XSP_MAN_DATA (R395). -/
def manData (s : State) (x : Nat) (d : List Byte) : State :=
  d.zipIdx.foldl (fun s bi =>
    s.put ⟨A.XSP_MAN_DATA x (bi.2 / 4), 8 * (bi.2 % 4) + 7, 8 * (bi.2 % 4)⟩ bi.1.toNat) s

/-- FRAME_END (R387, R391–R393, R395): the frame ends, with the bytes received; the access it served proceeds, or its
write goes on to its next frame or to polling. -/
def frameEnd (s : State) (x : Nat) (d : List Byte) : State :=
  let p := s.xport x
  match p.frame, p.req with
  | some f, some r =>
    let got := (List.range f.inLen).map (fun i => d.getD i 0)
    let s := (s.put (F.XSP_STATUS_FRAME x) 0).put (F.XSP_STATUS_WAIT x) 0
    let s := s.onXport x (fun p => { p with frame := none })
    if p.step = 1 then s.onXport x (fun p => { p with step := 2 })
    else if p.step = 2 then
      let rest := p.pieces.drop 1
      let s := s.onXport x (fun p => { p with pieces := rest, step := if rest.isEmpty then 3 else 1 })
      if rest.isEmpty then s.put (F.XSP_STATUS_POLL x) 1 else s
    else if r.init = xiManual then
      let s := if r.write then s else manData s x got
      if r.poll then (s.onXport x (fun p => { p with step := 3 })).put (F.XSP_STATUS_POLL x) 1
      else xspFinish s x none
    else xspFinish s x (if r.write then some [] else some got)
  | _, _ => s

/-- FRAME_END (R387). -/
def execFrameEnd (x : Fin 2) (d : List Byte) (s : State) : Host.Outcome State Fault Refusal := .next (frameEnd s x d)

/-- POLL_STATUS (R393): after the gap a STAT frame reads the status byte; busy polls again, not busy completes. A STAT frame that
the ready line held ends here too (R388). -/
def execPollStatus (x : Fin 2) (status : Byte) (s : State) : Host.Outcome State Fault Refusal :=
  let p := s.xport x
  match p.req with
  | some r =>
    if p.step = 3 ∧ (mayStart s x ∨ s.flag (F.XSP_STATUS_WAIT x)) then
      let s := (s.put (F.XSP_STATUS_FRAME x) 0).put (F.XSP_STATUS_WAIT x) 0
      let s := s.onXport x (fun p => { p with last := some ⟨r.cs, fmtOf s (A.XSP_STAT_FMT x r.cs), 0, [], 1⟩ })
      let busy := status.getLsbD (s.get (F.XSP_POLL_BUSY_BIT x r.cs)) == s.flag (F.XSP_POLL_BUSY_POL x r.cs)
      .next (if busy then s else xspFinish s x (some []))
    else .next s
  | none => .next s

/-- BUSY_TIMEOUT (R393, R394): a translated write that polls fails. -/
def execBusyTimeout (x : Fin 2) (s : State) : Host.Outcome State Fault Refusal :=
  let p := s.xport x
  match p.req with
  | some r =>
    if p.step = 3 then .next (xspFinish (xspFail (s.put (F.XSP_STATUS_BUSY_TO x) 1) x xeBusy r) x none) else .next s
  | none => .next s

/-- READY_STALL (R388): on a chip select with RDS = READY the line falls in the dummy or data phase of a frame, or of the STAT
frame of a port that polls. -/
def execReadyStall (x : Fin 2) (s : State) : Host.Outcome State Fault Refusal :=
  let p := s.xport x
  match p.req with
  | some r => .next (if s.get (F.XSP_CSCFG_RDS x r.cs) = 2 ∧ (p.frame.isSome ∨ (p.step = 3 ∧ mayStart s x)) then
      (s.put (F.XSP_STATUS_FRAME x) 1).put (F.XSP_STATUS_WAIT x) 1 else s)
  | none => .next s

/-- READY_LINE_RISE (R388): the clock runs again; a STAT frame that was held goes on to its end at POLL_STATUS. -/
def execReadyLineRise (x : Fin 2) (s : State) : Host.Outcome State Fault Refusal :=
  .next ((s.put (F.XSP_STATUS_WAIT x) 0).putFlag (F.XSP_STATUS_FRAME x) (s.xport x).frame.isSome)

/-- READY_TIMEOUT (R389, R394): the frame ends and the access fails. -/
def execReadyTimeout (x : Fin 2) (s : State) : Host.Outcome State Fault Refusal :=
  let p := s.xport x
  match p.req with
  | some r =>
    if s.flag (F.XSP_STATUS_WAIT x) then .next (xspFinish (xspFail (s.put (F.XSP_STATUS_RDY_TO x) 1) x xeRdy r) x none)
    else .next s
  | none => .next s

/-! ## Manual frames (R395) -/

def fmtReserved (f : BitVec 32) : Bool := f.toNat / 2 ^ 23 % 4 == 3 || f.toNat / 2 ^ 8 % 16 != 0

/-- A write of XSP_MAN_CTL. -/
def manCtlWrite (s : State) (x : Nat) (v : Word) : State :=
  let cs := bitsOf v 27 26
  let len := bitsOf v 6 0
  if 64 < len then xspRefuse s x xeRange cs 0x20
  else if bitsOf v 31 31 = 1 ∧ (s.flag (F.XSP_MAN_CTL_BUSY x) ∨ !s.flag (F.XSP_CSCFG_EN x cs)) then xspRefuse s x xeLocked cs 0x20
  else if bitsOf v 31 31 = 1 ∧ fmtReserved (fmtOf s (A.XSP_MAN_FMT x)) then xspRefuse s x xeFormat cs 0x20
  else
    let s := genericWrite s (A.XSP_MAN_CTL x) v
    if bitsOf v 31 31 = 1 then
      let wr := bitsOf v 29 29 == 1
      let bytes := (List.range len).map (fun i =>
        BitVec.ofNat 8 (s.get ⟨A.XSP_MAN_DATA x (i / 4), 8 * (i % 4) + 7, 8 * (i % 4)⟩))
      xspRequest (s.put (F.XSP_MAN_CTL_BUSY x) 1)
        ⟨xiManual, 0, s.get (F.XSP_MAN_ADDR_ADDR x), len, if wr then bytes else [], wr, cs, false,
          fmtOf s (A.XSP_MAN_FMT x), bitsOf v 28 28 == 1⟩ x
    else s

/-- The manual frame at the head of the queue begins. -/
def manStart (s : State) (x : Nat) : State :=
  let p := s.xport x
  match p.req, p.queue with
  | none, r :: rest =>
    if mayStart s x && r.init == xiManual then
      startFrame (takeHead s x r rest) x ⟨r.cs, r.fmt, r.addr, r.data, if r.write then 0 else r.len⟩
    else s
  | _, _ => s

/-- MANUAL_FRAME (R395): a write of XSP_MAN_CTL with START = 1; the frame begins at once where it is first in line and may
start. With START = 0 the port begins the manual frame that has come first in line. -/
def execManualFrame (x : Fin 2) (start : Bool) (v : BitVec 31) (s : State) : Host.Outcome State Fault Refusal :=
  .next (manStart (if start then manCtlWrite s x (v.setWidth 64 ||| 0x80000000#64) else s) x)

/-! ## Configuration (R385, R390, R396, R397) -/

/-- The failing check of an enable of chip select c, or 0 (R397). -/
def csCheck (s : State) (x c : Nat) (v : Word) : Nat :=
  let rd := fmtOf s (A.XSP_RD_FMT x c)
  let wr := fmtOf s (A.XSP_WR_FMT x c)
  let we := fmtOf s (A.XSP_WREN_FMT x c)
  let st := fmtOf s (A.XSP_STAT_FMT x c)
  let base := bitsOf v 15 0
  let size := bitsOf v 20 16
  let lo := base * 65536
  let hi := lo + 2 ^ (16 + size)
  let strobe := [rd, wr, we, st].any (fun f => f.getLsbD 19)
  if [rd, wr, we, st].any fmtReserved || !rd.getLsbD 12 || [rd, st].any (fun f => f.getLsbD 20 && !f.getLsbD 19) ||
     (strobe && bitsOf v 28 27 != 1) || decide (base % 2 ^ size ≠ 0) || decide (2 ^ 32 < hi) then xeFormat
  else if (List.range 4).any (fun d => d != c && s.flag (F.XSP_CSCFG_EN x d) &&
      decide (csBase s x d < hi ∧ lo < csBase s x d + csSize s x d)) then xeOverlap
  else 0

/-- Whether a request for chip select c is queued or in progress (R397). -/
def csBusy (s : State) (x c : Nat) : Bool :=
  let p := s.xport x
  p.queue.any (fun r => r.cs == c) || (match p.req with
    | some r => r.cs == c
    | none => false)

/-- A write of XSP_CSCFG (R397). -/
def cscfgWrite (s : State) (x c : Nat) (v : Word) : State :=
  let off := 0x100 + 0x40 * c
  let en := bitsOf v 31 31 == 1
  let same := bitsOf v 30 0 == bitsOf (s.reg (A.XSP_CSCFG x c)) 30 0
  if s.flag (F.XSP_CSCFG_EN x c) then
    let s := if same then s else xspRefuse s x xeLocked c off
    if en then s
    else if csBusy s x c then s.onXport x (fun p => { p with csOff := p.csOff.filter (· != c) ++ [c] })
    else s.put (F.XSP_CSCFG_EN x c) 0
  else if bitsOf v 30 29 = 3 ∨ bitsOf v 28 27 = 3 ∨ 16 < bitsOf v 20 16 then xspRefuse s x xeFormat c off
  else
    let cause := if en then csCheck s x c v else 0
    if cause ≠ 0 then xspRefuse s x cause c off else genericWrite s (A.XSP_CSCFG x c) v

/-- CS_ENABLE (R397): a write of XSP_CSCFG with EN = 1. -/
def execCsEnable (x : Fin 2) (c : Fin 4) (v : BitVec 31) (s : State) : Host.Outcome State Fault Refusal :=
  .next (cscfgWrite s x c (v.setWidth 64 ||| 0x80000000#64))

/-- CS_DISABLE_DONE (R397): a disable that waits takes effect. -/
def execCsDisableDone (x : Fin 2) (c : Fin 4) (s : State) : Host.Outcome State Fault Refusal :=
  let p := s.xport x
  .next (if p.csOff.contains c.val && !csBusy s x c then
    (s.setXport x { p with csOff := p.csOff.filter (· != c.val) }).put (F.XSP_CSCFG_EN x c) 0 else s)

/-- A write of XSP_CTL (R396, R397): CSPINS only while EN is 0; the port's pins follow. -/
def xspCtlWrite (s : State) (x : Nat) (v : Word) : State :=
  let on := s.flag (F.XSP_CTL_EN x)
  let pins := bitsOf v 23 20
  let s := if on && pins != s.get (F.XSP_CTL_CSPINS x) then xspRefuse s x xeLocked 0 0 else s
  let s := if on then s else s.put (F.XSP_CTL_CSPINS x) pins
  let s := s.put (F.XSP_CTL_EN x) (bitsOf v 31 31)
  (List.range 14).foldl (fun s i => refreshPin s (224 + 16 * x + i)) s

/-- Every other register of the port at an offset (R385, R397, CSTIME and POLL ranges). -/
def xspRegWrite (s : State) (x off : Nat) (v : Word) : State :=
  let a := 0x400A0000 + 0x10000 * x + off
  if off = 4 then
    if s.flag (F.XSP_CTL_EN x) then xspRefuse s x xeLocked 0 off
    else if bitsOf v 15 12 = 0 ∨ bitsOf v 11 8 = 0 then xspRefuse s x xeRange 0 off
    else genericWrite s a v
  else if 0x104 ≤ off ∧ off < 0x200 then
    let c := (off - 0x100) / 0x40
    let o := off % 0x40
    if s.flag (F.XSP_CSCFG_EN x c) then xspRefuse s x xeLocked c off
    else if o = 4 ∧ (bitsOf v 31 28 = 0 ∨ bitsOf v 27 24 = 0 ∨ bitsOf v 21 16 = 0 ∨ bitsOf v 15 0 = 0) then
      xspRefuse s x xeRange c off
    else if o = 0x18 ∧ bitsOf v 15 0 = 0 then xspRefuse s x xeRange c off
    else genericWrite s a v
  else genericWrite s a v

/-- Whether a request, translated write or manual frame is queued or in progress (R396). -/
def xspBusy (s : State) (x : Nat) : Bool :=
  let p := s.xport x
  !p.queue.isEmpty || p.req.isSome || p.frame.isSome

/-- XSP_CTL and XSP_STATUS as they read. -/
def xspCtlRead (s : State) (x : Nat) : Word := withBits (s.reg (A.XSP_CTL x)) 30 30 (if xspBusy s x then 1 else 0)
def xspStatusRead (s : State) (x : Nat) : Word := withBits (s.reg (A.XSP_STATUS x)) 1 1 (s.get (F.XSP_ERR_VALID x))

end Sys2Proof.Machine
end

