-- ==== Sys2Proof/Machine/Boot.lean ====
section
/-! DEFINITION. The boot ROM's sequence (R491–R501): the device configuration word, the key slots, images and their checks,
fallback, and the host's wait. The boot ROM is software whose code the spec does not give; what it does is given as the steps of
R498, which BOOT_ROM_ENTRY performs as one. -/

namespace Sys2Proof.Machine

/-! ## Images -/

/-- Where an image comes from: flash area A (false) or B, the octal memory, or the depot (R497, R500). -/
inductive ImgSrc where
  | flash (b : Bool)
  | xsp (d : List Byte)
  | depot
  deriving DecidableEq, Repr

/-- The sector of image offset o in its area: bank and number (R497). -/
def areaSector (b : Bool) (o : Nat) : Nat × Nat :=
  let n := o / 0x8000
  if b then (if n < 120 then (2, n) else (3, n - 120))
  else if n < 118 then (0, n + 2) else (1, n - 118)

def areaAddr (b : Bool) (o : Nat) : Nat :=
  let x := areaSector b o
  sectorBase x.1 x.2 + o % 0x8000

/-- The address of an image's byte in the 40-bit map; the octal image lies at an offset of XSP0's window. -/
def imgAddr (src : ImgSrc) (xspOfs o : Nat) : Nat :=
  match src with
  | .flash b => areaAddr b o
  | .xsp _ => 0x100000000 + xspOfs + o
  | .depot => 0x10000000 + o

/-- The 16 bytes of an image at an offset, or a failure code: 0x0A uncorrectable, 0x0B an octal transfer that fails (R498). -/
def imgWord (s : State) (src : ImgSrc) (o : Nat) : (List Byte × Nat) × State :=
  let bytes (v : Nat) : List Byte := (List.range 16).map (fun i => BitVec.ofNat 8 (v / 256 ^ i))
  match src with
  | .flash b =>
    match flashRead s fiLoad (areaAddr b o) with
    | (.data d, s) => ((bytes d.toNat, 0), s)
    | (_, s) => (([], 0x0A), s)
  | .xsp d => if o + 16 ≤ d.length then (((d.drop o).take 16, 0), s) else (([], 0x0B), s)
  | .depot =>
    let a := 0x10000000 + o
    if s.anyUncorr memDepot (a / 8) 2 then (([], 0x0A), memError s memDepot 1 256 a)
    else ((bytes (s.bytes a 16), 0), s)

/-- n flash words of an image from an offset. -/
def imgBytes (s : State) (src : ImgSrc) (o : Nat) : Nat → (List Byte × Nat) × State
  | 0 => (([], 0), s)
  | n + 1 =>
    match imgWord s src o with
    | ((w, 0), s) =>
      match imgBytes s src (o + 16) n with
      | ((l, c), s) => ((w ++ l, c), s)
    | ((_, c), s) => (([], c), s)

/-- n bytes of a list from an offset, as a little-endian number (R10). -/
def leNum (l : List Byte) (o n : Nat) : Nat := ((l.drop o).take n).foldr (fun b v => b.toNat + 256 * v) 0

/-- A section entry (R496). -/
structure Section where
  ty : Nat
  flags : Nat
  ofs : Nat
  len : Nat
  target : Nat
  deriving DecidableEq, Repr

def sectionAt (l : List Byte) (i : Nat) : Section :=
  let o := 0x100 + 16 * i
  ⟨leNum l o 2, leNum l (o + 2) 2, leNum l (o + 4) 4, leNum l (o + 8) 4, leNum l (o + 12) 4⟩

def sections (l : List Byte) : List Section := (List.range (leNum l 0xC 4)).map (sectionAt l)

def isXo (x : Section) : Bool := x.flags == 1

/-- A header is as R495 lays it out. -/
def headerOk (l : List Byte) : Bool :=
  let len := leNum l 8 4
  let n := leNum l 0xC 4
  leNum l 0 4 == 0x504F4C31 && leNum l 6 2 == 1 && len % 16 == 0 && decide (len ≤ 7616 * 1024) &&
  decide (1 ≤ n ∧ n ≤ 256) && decide (0x100 + 16 * n ≤ len) && decide (leNum l 0x20 1 ≤ 3) && leNum l 0x21 31 == 0 &&
  leNum l 0xC0 64 == 0

def disjoint (x y : Section) : Bool := decide (x.ofs + x.len ≤ y.ofs ∨ y.ofs + y.len ≤ x.ofs)

def allDisjoint : List Section → Bool
  | [] => true
  | x :: t => t.all (disjoint x) && allDisjoint t

/-- A section table is as R496 lays it out. -/
def tableOk (l : List Byte) : Bool :=
  let ss := sections l
  let low := 0x100 + 16 * ss.length
  ss.all (fun x => decide (1 ≤ x.ty ∧ x.ty ≤ 12) && decide (x.flags ≤ 1) && decide (low ≤ x.ofs ∧ x.ofs + x.len ≤ leNum l 8 4) &&
    (!isXo x || (x.ofs % 0x8000 == 0 && x.len % 0x8000 == 0))) &&
  allDisjoint ss && (ss.filter (fun x => x.ty == 10)).length == 1 &&
  ss.all (fun x => x.ty != 10 || x.len == 16) && ss.any (fun x => x.ty == 1)

/-- The commit word at offset 0x10 (R376, R495). -/
def committed (l : List Byte) : Bool := leNum l 0x10 16 == 0x434F4D31 * 2 ^ 96 + (2 ^ 96 - 1)

/-- The bytes of the image digest (R495). -/
def imgDigestBytes (l : List Byte) : List Byte :=
  shaBytes (l.take 0x10 ++ (l.drop 0x20).take 0x20 ++ (l.drop 0x100).take (leNum l 8 4 - 0x100))

/-- The image digest (R495). -/
def imgDigest (l : List Byte) : BitVec 256 := bytes256 (imgDigestBytes l)

def manifestOf (l : List Byte) : Section := ((sections l).find? (fun x => x.ty == 10)).getD ⟨10, 0, 0, 0, 0⟩
def manMode (l : List Byte) : Nat := leNum l (manifestOf l).ofs 1
def manSealed (l : List Byte) : Nat := leNum l ((manifestOf l).ofs + 1) 1

/-- The partitions that an image's maps name (R496). -/
def imageParts (l : List Byte) : List Nat := ((sections l).filter (fun x => decide (4 ≤ x.ty ∧ x.ty ≤ 7))).map (·.target)

/-- The manifest holds a mode and four seal bits, and every other byte is 0 (R496); a mode other than SOLO seals every partition
(R51), which is asked here of those that a map names; the rest of step 9's checks need section layouts that the spec does not
give (log 17). -/
def manifestOk (l : List Byte) : Bool :=
  decide (manMode l ≤ 3) && decide (manSealed l < 16) && leNum l ((manifestOf l).ofs + 2) 14 == 0 &&
  (manMode l == 0 || (imageParts l).all (fun p => (manSealed l).testBit p)) && Config.imageMapsOk l

/-! ## Key slots (R493) -/

def keyStatus (s : State) (k : Nat) : Option (BitVec 128) := senseData s (0x8004020 + 0x40 * k)
def slotActive (s : State) (k : Nat) : Bool :=
  keyStatus s k == some (BitVec.ofNat 128 (0x4B455931 * 2 ^ 96 + (2 ^ 96 - 1)))
def slotRevoked (s : State) (k : Nat) : Bool := keyStatus s k == some 0
def blank (s : State) : Bool := (List.range 4).all (fun k => !slotActive s k)
def slotHash (s : State) (k : Nat) : Option (BitVec 256) :=
  match senseData s (0x8004000 + 0x40 * k), senseData s (0x8004010 + 0x40 * k) with
  | some a, some b => some (a.setWidth 256 + (b.setWidth 256 <<< 128))
  | _, _ => none

/-! ## Steps 3 to 9 -/

/-- An attempt on an image (R498, steps 3 to 9): its bytes, and the failing step's code or 0. -/
def tryImage (s : State) (src : ImgSrc) (minVersion : Nat) : (List Byte × Nat) × State :=
  match imgBytes s src 0 16 with
  | ((h, 0), s) =>
    if !committed h then ((h, 0x02), s)
    else if !headerOk h then ((h, 0x03), s)
    else
      match imgBytes s src 0 (leNum h 8 4 / 16) with
      | ((l, 0), s) =>
        let k := leNum l 0x20 1
        let code :=
          if !tableOk l then 0x08
          else if !slotActive s k then 0x04
          else if slotHash s k ≠ some (sha256 ((l.drop 0x80).take 64)) then 0x05
          else if !ecdsaVerify (imgDigestBytes l) ((l.drop 0x40).take 64) ((l.drop 0x80).take 64) then 0x06
          else if leNum l 4 2 < minVersion then 0x07
          else if !manifestOk l then 0x09
          else 0
        ((l, code), s)
      | ((l, c), s) => ((l, c), s)
  | ((h, c), s) => ((h, c), s)

/-! ## The selection record (R497) -/

def selectWord (s : State) (n : Nat) : Option (BitVec 128) := senseData s (0x8000 + 16 * n)

/-- The choice that a word of the selection record holds. -/
def choiceOf (w : Option (BitVec 128)) : Option Bool :=
  match w with
  | some d => if d.toNat / 2 = 0x53454C01 * 2 ^ 95 then some (d.getLsbD 0) else none
  | none => none

/-- The flash choice: the highest-addressed valid word; A without one, or while the sector is pending. -/
def flashChoice (s : State) : Bool :=
  if s.flash.pend.contains (0, 1) then false
  else (((List.range 2048).map (fun n => choiceOf (selectWord s n))).reverse.findSome? id).getD false

/-- Append a choice: the first erased word above every other that is not erased. -/
def appendChoice (s : State) (b : Bool) : State :=
  let used := ((List.range 2048).filter (fun n => selectWord s n != some (BitVec.allOnes 128))).length
  match (List.range 2048).find? (fun n => (List.range (2048 - n)).all (fun j =>
    selectWord s (n + j) == some (BitVec.allOnes 128))) with
  | some n => if used < 2048 then
      flashWord s (0x8000 + 16 * n) (BitVec.ofNat 128 (0x53454C01 * 2 ^ 96 + (if b then 1 else 0))) else s
  | none => s

/-! ## Steps 10 and 11 -/

/-- The runs of an XO section in an area's sectors: pairs of first and last sector number in the main array. -/
def xoRuns (b : Bool) (x : Section) : List (Nat × Nat) :=
  if x.len = 0 then []
  else
    let n (o : Nat) := (areaSector b o).1 * 128 + (areaSector b o).2
    let split := if b then 120 * 0x8000 else 118 * 0x8000
    let last := x.ofs + x.len - 0x8000
    if x.ofs < split ∧ split ≤ last then [(n x.ofs, n (split - 0x8000)), (n split, n last)] else [(n x.ofs, n last)]

def setXo (s : State) (r : Nat) (fl : Nat × Nat) : State :=
  genericWrite s (A.FLC_XO r) (BitVec.ofNat 64 (2 ^ 31 + fl.2 * 2 ^ 16 + fl.1))

/-- Step 10: XO regions of a flash image, SEC_MANIFEST and the key locks. -/
def bootLocks (s : State) (src : ImgSrc) (l : List Byte) (keyOpen : Bool) : State :=
  let runs := match src with
    | .flash b => ((sections l).filter isXo).flatMap (xoRuns b)
    | _ => []
  let s := (runs.zipIdx.filter (fun x => decide (x.2 < 16))).foldl (fun s x => setXo s x.2 x.1) s
  let s := genericWrite s A.SEC_MANIFEST (BitVec.ofNat 64 (manSealed l * 2 ^ 8 + manMode l))
  let s := s.put F.SEC_LOCK_DBGKEY 1
  if keyOpen then s else s.put F.SEC_LOCK_KEYS 1

/-- What every entry to PROVISION clears in HW_SEAL_STATUS (R68). -/
def sealCleared (s : State) : State :=
  (((s.put F.HW_SEAL_STATUS_FIRST_CAUSE 0).put F.HW_SEAL_STATUS_FIRST_PART 0).put F.HW_SEAL_STATUS_VOID_COUNT 0).put
    F.HW_SEAL_STATUS_LAYBY_VOID 0

/-- SC0 starts at its entry and the device goes to PROVISION (R46). -/
def bootGo (s : State) : State :=
  let s := sealCleared ((s.put F.HW_STATE_HOST_WAIT 0).put F.HW_STATE_STATE dsProvision)
  startCore { s with boot := { s.boot with verified := false } } 256 (scEntry s 0)

/-- The tiles that the image assigns to partitions; every other tile is parked (R149). -/
def imageTiles (l : List Byte) : Tab Bool := ((List.range 256).filter (Config.imageTile l)).map (fun t => (t, true))

/-- Step 11: SYS_SC_ENTRY0, HW_IMAGE_INFO, HW_SIGNATURE and BOOTED; with WAIT, HOST_WAIT. -/
def bootFinish (s : State) (src : ImgSrc) (l : List Byte) (dcw : BitVec 128) (fallback wait : Bool) : State :=
  let s := bootLocks s src l (dcw != BitVec.allOnes 128 && dcw.getLsbD 7)
  let svc := ((sections l).find? (fun x => x.ty == 1)).getD ⟨1, 0, 0, 0, 0⟩
  let entry := imgAddr src (dcw.toNat / 2 ^ 32 % 256 * 2 ^ 24) (svc.ofs + svc.target)
  let s := s.put (F.SYS_SC_ENTRY_ADDR 0) (entry / 4)
  let other (b : Bool) := committed ((List.range 2).flatMap (fun n => (imgWord s (.flash b) (16 * n)).1.1))
  let s := (s.put F.HW_IMAGE_INFO_VERSION (leNum l 4 2)).putFlag F.HW_IMAGE_INFO_FALLBACK fallback
  let s := match src with
    | .flash b => (s.putFlag F.HW_IMAGE_INFO_SLOT b).putFlag F.HW_IMAGE_INFO_OTHER_OK (other (!b))
    | _ => s
  let s := (s.put F.HW_SIGNATURE_DIGEST ((imgDigest l).toNat % 2 ^ 32)).put F.SEC_STAT_BOOTED 1
  let s := { s with boot := { s.boot with digest := imgDigest l, image := l, tiles := imageTiles l } }
  if wait then
    let s := s.put F.HW_STATE_HOST_WAIT 1
    { s with boot := { s.boot with verified := true } }
  else bootGo s

/-- A failed boot (R499): HW_ERR records IMAGE with the first attempt's code. -/
def bootErr (s : State) (code : Nat) : State := hostErr s 13 0 code

/-! ## The sequence -/

/-- The boot ROM brings CCLK to the PLL as soon as it has locked (R501, R429). -/
def romClock (s : State) : State :=
  if s.flag F.SYS_CLK_STAT_PLL_LOCK && !s.flag F.SYS_CLK_STAT_SRC then
    (s.put F.SYS_CLK_CTL_SRC 1).put F.SYS_CLK_STAT_SWITCHING 1
  else s

/-- XSP0 as the DCW configures it for boot (R492, R382, R396): the read format of chip select 0, FH, and the port enabled with one
read-only region over its window, which is the model's choice (log 42). -/
def xspBootCfg (s : State) (dcw : BitVec 128) : State :=
  let f (hi lo : Nat) := dcw.toNat / 2 ^ lo % 2 ^ (hi + 1 - lo)
  let alen := (if f 50 50 = 1 then 2 else 1) * 2 ^ 23
  let base := f 63 56 + 2 ^ 12 + f 55 51 * 2 ^ 14 + alen
  let ddr := 0xF0000000 + 3 * 2 ^ 26 + 2 ^ 25 + 3 * 2 ^ 21 + 2 ^ 20 + 2 ^ 19
  let s := (s.setReg (A.XSP_RD_FMT 0 0) (BitVec.ofNat 64 (base + (if f 49 48 = 1 then ddr else 0)))).put (F.XSP_CLKDIV_FH 0) (f 47 44)
  let s := (s.put (F.XSP_CSCFG_TYPE 0 0) 2).put (F.XSP_CSCFG_RDS 0 0) (f 49 48)
  xspCtlWrite ((s.put (F.XSP_CSCFG_SIZE 0 0) 16).put (F.XSP_CSCFG_EN 0 0) 1) 0 (BitVec.ofNat 64 (2 ^ 31 + 2 ^ 20))

/-- Step 1: the key slots, the debug port and the level. -/
def bootStep1 (s : State) (ok : Bool) (max : Nat) : State :=
  let mask (f : Nat → Bool) := (List.range 4).foldl (fun v k => if f k then v + 2 ^ k else v) 0
  let s := (s.put F.SEC_STAT_ACTIVE (mask (slotActive s))).put F.SEC_STAT_REVOKED (mask (slotRevoked s))
  let s := (s.putFlag F.SEC_STAT_BLANK (blank s)).put F.SEC_STAT_DEBUG_MAX max
  let s := (s.putFlag F.DBG_LEVEL_BLANK (blank s)).put F.DBG_LEVEL_MAX max
  let s := s.putFlag F.HW_IMAGE_INFO_NEXT (flashChoice s)
  if ok && blank s then s.put F.DBG_LEVEL_LEVEL 2 else s

def hostWait (s : State) : State := s.put F.HW_STATE_HOST_WAIT 1

/-- An attempt on a flash image, then on the other (R499). -/
def bootFlash (s : State) (b : Bool) (dcw : BitVec 128) (minv : Nat) (wait : Bool) : State :=
  match tryImage s (.flash b) minv with
  | ((l, 0), s) => bootFinish s (.flash b) l dcw false wait
  | ((_, c), s) =>
    let s := bootErr s c
    match tryImage s (.flash (!b)) minv with
    | ((l, 0), s) => bootFinish s (.flash (!b)) l dcw true wait
    | (_, s) => hostWait s

/-- BOOT_SRC, MIN_VERSION and WAIT of a configuration word: an erased one boots from the host (R492). -/
def dcwSrc (d : BitVec 128) : Nat := if dcwErased d then 2 else d.toNat % 4
def dcwMin (d : BitVec 128) : Nat := if dcwErased d ∨ !dcwValid d then 0 else d.toNat / 2 ^ 80 % 2 ^ 16
def dcwWait (d : BitVec 128) : Bool := dcwErased d || d.getLsbD 6
def dcwMax (d : BitVec 128) : Nat := if dcwErased d then 2 else if dcwValid d then d.toNat / 2 ^ 4 % 4 else 0

/-- The boot ROM's sequence (R498, R499). -/
def bootRom (s : State) (xsp : Option (List Byte)) : State :=
  let s := romClock (startCore s 256 0xF0000000)
  match senseData s dcwAddr with
  | none => hostWait (bootErr (bootStep1 s false 0) 0x0A)
  | some d =>
    if !dcwErased d && !dcwValid d then hostWait (bootErr (bootStep1 s false 0) 0x01)
    else
      let s := bootStep1 s true (dcwMax d)
      let wait := dcwWait d || s.flag F.HW_BOOT_CFG_WAIT
      let minv := dcwMin d
      let img := s.get F.HW_BOOT_CFG_IMAGE
      if img = 1 then bootFlash s false d minv wait
      else if img = 2 then bootFlash s true d minv wait
      else if dcwSrc d = 0 then bootFlash s (flashChoice s) d minv wait
      else if dcwSrc d = 1 then
        let s := xspBootCfg s d
        match tryImage s (.xsp (xsp.getD [])) minv with
        | ((l, 0), s) => bootFinish s (.xsp (xsp.getD [])) l d false wait
        | ((_, c), s) => hostWait (bootErr s c)
      else hostWait s

/-- BOOT_ROM_ENTRY (R490, R491): SC0 after both scans, with the bytes that the octal memory delivers if it is the source; or a core
restarted under R481, which the ROM sends to its entry. -/
def execBootRomEntry (k : Fin 4) (xsp : Option (List Byte)) (s : State) : Host.Outcome State Fault Refusal :=
  if s.boot.inReset.isSome then .next s
  else if s.dev = dsBoot then
    if k = 0 ∧ s.boot.scanned ∧ !s.flag F.HW_STATE_HOST_WAIT then .next (bootRom s xsp) else .next s
  else
    let c := s.core (256 + k)
    if s.flag F.SEC_STAT_BOOTED ∧ c.run = .active ∧ c.pc = 0xF0000000 then
      let a := scEntry s k
      .next (s.onCore (256 + k) (fun c => { c with pc := a, npc := a + 4, slot := false }))
    else .next s

/-- GO_RUN while the boot ROM waits for the host (R500): it completes with result 0, then the image in the depot is tried if
BOOT_SRC is host or no image has verified, else the verified image starts. The wait is over (DEDUCED, log 42). -/
def hostGoRun (s : State) : State :=
  let s := cmdDone s 0
  let d := (senseData s dcwAddr).getD 0
  if dcwSrc d = 2 || !s.boot.verified then
    match tryImage s .depot (dcwMin d) with
    | ((l, 0), s) => bootFinish s .depot l d false false
    | ((_, c), s) => bootErr s c
  else bootGo s

/-- IMAGE_SELECT while the boot ROM waits for the host (R500); HW_IMAGE_INFO.NEXT shows the choice (R499). -/
def hostImageSelect (s : State) (b : Bool) : State :=
  let s := appendChoice s b
  cmdDone (s.putFlag F.HW_IMAGE_INFO_NEXT (flashChoice s)) 0

end Sys2Proof.Machine
end

