-- ==== Sys2Proof/Machine/Mem.lean ====
section
/-! DEFINITION. The memories of the 40-bit map as any initiator reaches them (05_tile_memory.md): tile SRAM and depot with
their ECC outcomes (R168), the flash arrays, the boot ROM and the octal windows. -/

namespace Sys2Proof.Machine

/-- How a bus access fails: a bus error, a refusal that a service core takes as PROTECTION, or an uncorrectable word. -/
inductive BusErr where
  | bus | prot | ecc
  | line   -- an uncorrectable word of a dirty data-cache line (R168)
  deriving DecidableEq, Repr

/-- What a read comes to: the bytes as a number, a failure, or a wait. -/
inductive Rd where
  | ok (v : Nat)
  | err (e : BusErr)
  | wait
  deriving DecidableEq, Repr

/-- What a write comes to. -/
inductive Wr where
  | ok
  | err
  | wait
  deriving DecidableEq, Repr

/-- The agent of service core k. -/
def scAgent (k : Nat) : Agent := .sc (Fin.ofNat 4 (k - 256))

/-- INIT of SYS_MEM_ERR (R168). -/
def memInit : Agent → Nat
  | .sc _ => 1
  | .dma _ => 2
  | .host => 3
  | .debug => 4

/-- CORE of SYS_MEM_ERR: the core's number, or the channel's. -/
def memWho : Agent → Nat
  | .sc k => 256 + k
  | .dma g => 32 + g
  | _ => 0

/-- The flash initiator of a read (R359). -/
def flashInit (fetch : Bool) : Agent → Nat
  | .sc _ => if fetch then fiFetch else fiLoad
  | .dma _ => fiDma
  | .host => fiHost
  | .debug => fiDebug

/-- The octal port's initiator codes of a read and of a write (XSP_ERR.INIT). -/
def xspInit (fetch store : Bool) : Agent → Nat
  | .sc _ => if fetch then xiFetch else if store then xiStore else xiLoad
  | .dma _ => xiDma
  | .host => xiHost
  | .debug => xiDebug

/-! ## Tile SRAM and depot -/

/-- The state of the domain of an address: 0 on, 1 ramping, 2 off; only tile windows can be off (R438). -/
def fabState (s : State) (a : Nat) : Nat :=
  if inTiles a then
    let q := (a - 0x20000000) / 0x400000
    if s.bitAt F.PWR_DOM_STAT_FAB q then 0 else if s.bitAt F.PWR_DOM_CTL_FAB_OFF q then 2 else 1
  else 0

/-- Examine the mark of a word (R168): a correctable error is counted and awaits its rewrite; an uncorrectable one is
reported. True when it is uncorrectable. -/
def eccWord (s : State) (i : Agent) (a : Nat) : Bool × State :=
  let arr := arrayCode a
  let m := s.eccOf arr (a / 8)
  if m = 0 then (false, s)
  else if m = 2 then (true, memError s arr (memInit i) (memWho i) (a / 8 * 8))
  else
    let s := countCorrected (s.setEcc arr (a / 8) 3)
    (false, match i with
      | .sc k => s.pmc (256 + k) evEccCorrected 1
      | _ => s)

/-- Examine n words from the one at an address. -/
def eccWords (s : State) (i : Agent) (a : Nat) : Nat → Bool × State
  | 0 => (false, s)
  | n + 1 =>
    let r := eccWord s i a
    let q := eccWords r.2 i (a + 8) n
    (r.1 || q.1, q.2)

/-- The words of 64 bits that n bytes at a touch. -/
def wordsOf (a n : Nat) : Nat := (a + n - 1) / 8 + 1 - a / 8

/-- A read of tile SRAM or depot. What a domain that is off reads is not stated (log 1). -/
def arrayRead (s : State) (i : Agent) (a n : Nat) : Rd × State :=
  if zeroingAt s a || fabState s a == 1 then (.wait, s)
  else if fabState s a = 2 then
    let d := s.draw (8 * n)
    (.ok d.1.toNat, d.2)
  else
    let r := eccWords s i a (wordsOf a n)
    if r.1 then (.err .ecc, r.2) else (.ok (s.bytes a n), r.2)

/-- A write of tile SRAM or depot; a domain that is off keeps nothing (R438). -/
def arrayWrite (s : State) (i : Agent) (a n v : Nat) : Wr × State :=
  if zeroingAt s a || fabState s a == 1 then (.wait, s)
  else if fabState s a = 2 then (.ok, s)
  else (.ok, storeBytes s (memInit i) (memWho i) a n v)

/-! ## Flash -/

/-- n flash words from the one at an address (R359, R360, R364, R375, R494). -/
def flashSpan (s : State) (init a : Nat) : Nat → Rd × State
  | 0 => (.ok 0, s)
  | n + 1 =>
    match flashRead s init a with
    | (.data d, s) =>
      match flashSpan s init (a + 16) n with
      | (.ok v, s) => (.ok (d.toNat + 2 ^ 128 * v), s)
      | r => r
    | (.uncorr, s) => (.err .ecc, s)
    | (.refused, s) => (.err .prot, s)
    | (.busy, s) => (.wait, s)

/-- A read of the flash main array or the info rows. A busy bank stalls a service core and a DMA channel, and fails the host
window and the debug port at once (R364). -/
def flashBytes (s : State) (i : Agent) (fetch : Bool) (a n : Nat) : Rd × State :=
  match flashSpan s (flashInit fetch i) (a / 16 * 16) ((a % 16 + n + 15) / 16) with
  | (.ok v, s) => (.ok (v / 2 ^ (8 * (a % 16)) % 2 ^ (8 * n)), s)
  | (.wait, t) =>
    match i with
    | .host => (.err .bus, t)
    | .debug => (.err .bus, t)
    | _ => (.wait, t)
  | r => r

/-! ## The octal windows -/

def agentNo : Agent → Nat
  | .sc k => k
  | .dma g => g
  | _ => 0

/-- Bytes as a number, the first the least significant (R10), and back. -/
def leBytes (l : List Byte) : Nat := leNum l 0 l.length
def toLe (v : Nat) : Nat → List Byte
  | 0 => []
  | n + 1 => BitVec.ofNat 8 v :: toLe (v / 256) n

/-- A read through an octal window: its answer, or a wait with the request made. -/
def xspBytes (s : State) (i : Agent) (fetch : Bool) (a n : Nat) : Rd × State :=
  match xspRead s (xspInit fetch false i) (agentNo i) a n with
  | (some d, _, s) => (.ok (leBytes d), s)
  | (none, true, s) => (.err .bus, s)
  | (none, false, s) => (.wait, s)

/-! ## The whole map but for the peripheral blocks -/

/-- A read of n bytes at a (R37, R41). -/
def memRead (s : State) (i : Agent) (fetch : Bool) (a n : Nat) : Rd × State :=
  if inFlash a || inInfo a then flashBytes s i fetch a n
  else if inDepot a || inTiles a then arrayRead s i a n
  else if inRom a then (.ok (s.bytes a n), s)
  else if inXsp a then xspBytes s i fetch a n
  else (.err .bus, s)

/-- A write of n bytes at a (R41, R43): the boot ROM ignores it, flash and info rows refuse it. -/
def memWrite (s : State) (i : Agent) (a n v : Nat) : Wr × State :=
  if inDepot a || inTiles a then arrayWrite s i a n v
  else if inRom a then (.ok, s)
  else if inXsp a then
    match xspAccess s a n true with
    | none => (.err, s)
    | some _ =>
      match xspWrite s (xspInit false true i) (agentNo i) a (toLe v n) with
      | (true, s) => (.ok, s)
      | (false, s) => (.wait, s)
  else (.err, s)

end Sys2Proof.Machine
end

