-- ==== Sys2Proof/Machine/Operands.lean ====
section
/-! DEFINITION. The operand forms and results of the integer instructions (R109–R114, R117): pure functions of 64-bit
words. -/

namespace Sys2Proof.Machine

/-- sext32 of R109: bit 31 extended into bits 63..32. -/
def sext32 (x : Word) : Word := (x.setWidth 32).signExtend 64

/-- An immediate of 16 bits, sign-extended or zero-extended (R110). -/
def immS (i : BitVec 16) : Word := i.signExtend 64
def immZ (i : BitVec 16) : Word := i.setWidth 64

def boolWord (b : Bool) : Word := if b then 1 else 0

/-- Shifts by the low six bits (R109). -/
def sll64 (a b : Word) : Word := a <<< (b.toNat % 64)
def srl64 (a b : Word) : Word := a >>> (b.toNat % 64)
def sra64 (a b : Word) : Word := a.sshiftRight (b.toNat % 64)

/-- 32-bit shifts by the low five bits (R109). -/
def sllw (a b : Word) : Word := ((a.setWidth 32) <<< (b.toNat % 32)).signExtend 64
def srlw (a b : Word) : Word := ((a.setWidth 32) >>> (b.toNat % 32)).signExtend 64
def sraw (a b : Word) : Word := ((a.setWidth 32).sshiftRight (b.toNat % 32)).signExtend 64

def minS (a b : Word) : Word := if a.slt b then a else b
def maxS (a b : Word) : Word := if a.slt b then b else a

/-- High products (R112). -/
def mulHS (a b : Word) : Word := BitVec.ofInt 64 (a.toInt * b.toInt / 2 ^ 64)
def mulHU (a b : Word) : Word := BitVec.ofNat 64 (a.toNat * b.toNat / 2 ^ 64)

/-- Signed division of R112 and R113: toward zero; a zero divisor gives every bit 1, and the remainder the dividend; the
most negative value by −1 gives itself, remainder 0. -/
def divS {w : Nat} (a b : BitVec w) : BitVec w := if b = 0 then BitVec.allOnes w else BitVec.ofInt w (a.toInt.tdiv b.toInt)
def remS {w : Nat} (a b : BitVec w) : BitVec w := if b = 0 then a else BitVec.ofInt w (a.toInt.tmod b.toInt)
def divU {w : Nat} (a b : BitVec w) : BitVec w := if b = 0 then BitVec.allOnes w else a / b
def remU {w : Nat} (a b : BitVec w) : BitVec w := if b = 0 then a else a % b

/-- A 32-bit operation on the low halves, its result extended (R112). -/
def on32 (f : BitVec 32 → BitVec 32 → BitVec 32) (a b : Word) : Word := (f (a.setWidth 32) (b.setWidth 32)).signExtend 64

/-- A load's value: n bytes, sign- or zero-extended to 64 bits (R114). -/
def extendLoad (signed : Bool) (n v : Nat) : Word :=
  if signed ∧ 2 ^ (8 * n - 1) ≤ v then BitVec.ofNat 64 (2 ^ 64 - 2 ^ (8 * n) + v) else BitVec.ofNat 64 v

end Sys2Proof.Machine
end

