-- ==== Sys2Proof/Machine/CoreOps.lean ====
section
/-! DEFINITION. What every instruction of a core shares (03_core_pipeline.md, 04_instruction_set.md): fetch permission,
taking a trap or an interrupt (R138, R139), the pc pair with its delay slot (R77), the memory protection unit (R162–R165),
debug comparators (R521, R522), and the wrapper that runs one instruction. -/

namespace Sys2Proof.Machine

/-! ## Trap causes (R144) -/

def tcIllegal : Nat := 0x01
def tcPrivilege : Nat := 0x02
def tcSeal : Nat := 0x03
def tcSlot : Nat := 0x04
def tcAlign : Nat := 0x05
def tcProtection : Nat := 0x06
def tcBusError : Nat := 0x07
def tcReleaseWriter : Nat := 0x08
def tcLanePort : Nat := 0x09
def tcEcc : Nat := 0x0A
def tcBrkpt : Nat := 0x0B
def tcTrap : Nat := 0x0C
def tcFetch : Nat := 0x0D

/-- What an attempt at an instruction comes to: its effect; its effect with a write of performance counter j, which does not count
the commit (R101); a trap condition with its code and address; a wait, with the event of R102 that its cycles count; or a wait
for an access that it has placed. -/
inductive Att where
  | done (s : State)
  | wrote (s : State) (j : Nat)
  | trap (s : State) (cause code addr : Nat)
  | wait (ev : Nat)
  | pend (s : State) (ev : Nat)

/-! ## Taking a trap or an interrupt -/

/-- The save area's words (R166): g1–g31, f0–f31, FPSR. -/
def saveWord (c : Core) (k i : Nat) : Word :=
  if i < 31 then c.greg (i + 1) else if i < 63 then c.freg (i - 31) else c.sreg k srFpsr

/-- The save and clear of R139. -/
def sealedSave (c : Core) (k : Nat) : Core :=
  let sv := (List.range 64).foldl (fun t i => t.write zero64 i (saveWord c k i)) c.save
  { c with save := sv, g := [], f := [] }.setSr k srFpsr 0

/-- Steps 2 and 4 of R138: TSTATUS from STATUS with SAVED the seal, and the TRAP_ registers. -/
def trapRegs (c : Core) (k : Nat) (status : Word) (cause code addr : Nat) (int : Bool) (w : Nat) : Core :=
  let c := c.setSr k srTstatus (withBits (withBits status 63 3 0) 3 3 (bitsOf status 2 2))
  let c := c.setSr k srTrapPc (c.pc.setWidth 64)
  let c := c.setSr k srTrapNpc (c.npc.setWidth 64)
  let c := c.setSr k srTrapCause (BitVec.ofNat 64
    (code % 1024 * 2 ^ 16 + (if c.slot then 2 ^ 9 else 0) + (if int then 2 ^ 8 else 0) + cause % 256))
  let c := c.setSr k srTrapAddr (BitVec.ofNat 64 (addr % 2 ^ 40))
  let c := c.setSr k srTrapInstr (BitVec.ofNat 64 (w % 2 ^ 32))
  { c with wait := 0, slotPc := if c.slot then some c.pc else if c.slotPc = some c.pc then none else c.slotPc }

/-- A service core enters its handler (R138, R139): TVEC, or TVEC + 0x100 for an interrupt; a sealed context is saved, with
fresh check bits, and cleared. -/
def enterHandler (s : State) (k : Nat) (cause code addr : Nat) (int : Bool) (w : Nat) : State :=
  let st := s.statusOf k
  let s := s.onCore k (fun c =>
    let c := trapRegs c k st cause code addr int w
    let c := c.setSr k srStatus 2
    let c := if bitsOf st 2 2 = 1 then sealedSave c k else c
    let base := bitsOf (c.sreg k srTvec) 39 8 * 256 + (if int then 0x100 else 0)
    { c with pc := BitVec.ofNat 40 base, npc := BitVec.ofNat 40 (base + 4), slot := false })
  let s := if bitsOf st 2 2 = 1 then s.clearEcc memSave (64 * (k - 256)) 64 else s
  s.pmc k evTraps 1

/-- A trap on a tile (R59, R144): the trap registers are written, the tile stops, its cluster's source pulses (R344) and
its partition takes a partition fault. -/
def tileTrap (s : State) (t : Nat) (cause code addr : Nat) (w : Nat) : State :=
  let st := s.statusOf t
  let s := s.onCore t (fun c => trapRegs c t st cause code addr false w)
  let s := s.pmc t evTraps 1
  let c := s.core t
  let s := stopTile s t
  let s := pulse s (385 + t / 4)
  match s.tilePart t with
  | none => s
  | some p =>
    let s := if cause = tcSeal then voidIfSealed s 0x01 p
      else if cause = tcReleaseWriter then voidIfSealed s 0x08 p
      else s
    partitionFault s p pfTrap (some ⟨t, c.pc.toNat, cause, addr % 2 ^ 40, c.slot⟩)

/-- Taking a trap: the one operation every trapping instruction uses. A seal violation of a sealed service-core context
is the voiding event SEAL_TRAP of that context (R59). -/
def takeTrap (s : State) (k : Nat) (cause code addr : Nat) (w : Nat) : State :=
  if isSc k then
    let s := if cause = tcSeal && s.isSealed k then voidReport s 0x01 (.sc (k - 256)) else s
    enterHandler s k cause code addr false w
  else tileTrap s k cause code addr w

/-! ## The pc pair -/

/-- The next instruction in line: the pair moves on by one word. -/
def Core.step (c : Core) : Core := { c with pc := c.npc, npc := c.npc + 4, slot := false }

/-- A branch or jump that goes to `target` next, its slot executing first or being annulled (R77). -/
def Core.branch (c : Core) (next : Addr) (slotRuns : Bool) : Core :=
  if slotRuns then { c with pc := c.pc + 4, npc := next, slot := true }
  else { c with pc := next, npc := next + 4, slot := false }

def adv (s : State) (k : Nat) : State := s.onCore k Core.step

/-! ## Memory protection (R162–R165) -/

/-- A field of MPU region r of SCk, by core number. -/
def mpuBase (s : State) (k r : Nat) : Nat := s.get (F.SYS_MPU_BASE_BASE (k - 256) r)
def mpuLimit (s : State) (k r : Nat) : Nat := s.get (F.SYS_MPU_LIMIT_LIMIT (k - 256) r)
def mpuBit (s : State) (k r b : Nat) : Bool := s.get ⟨A.SYS_MPU_ATTR (k - 256) r, b, b⟩ == 1

/-- Whether an access of n bytes at a matches region r of service core k (R162). -/
def mpuHit (s : State) (k r a n : Nat) : Bool :=
  mpuBit s k r 11 && decide (mpuBase s k r * 4096 ≤ a ∧ a + n ≤ mpuLimit s k r * 4096 + 4096) &&
  (!mpuBit s k r 10 || s.get (F.SYS_MPU_ATTR_CTXID (k - 256) r) == s.ctxid k)

/-- The lowest-numbered matching region. -/
def mpuMatch (s : State) (k a n : Nat) : Option Nat := (List.range 16).find? (fun r => mpuHit s k r a n)

inductive Acc3 where
  | load | store | fetch
  deriving DecidableEq, Repr

/-- The permission bit of a region for an access at the core's privilege. -/
def mpuPerm (s : State) (k r : Nat) (x : Acc3) : Bool :=
  mpuBit s k r ((if s.isPriv k then 3 else 0) + (match x with | .load => 0 | .store => 1 | .fetch => 2))

/-- Whether all of a tile's SRAM window word at a belongs to a parked tile (R149, R165). -/
def parkedAddr (s : State) (a : Nat) : Bool := inTiles a && (s.tilePart ((a - 0x20000000) / 0x10000)).isNone

/-- The enabled sealed regions that cover an address of a parked tile, as pairs of their service core and CTXID (R165). -/
def sealedCovers (s : State) (a : Nat) : List (Nat × Nat) :=
  if !parkedAddr s a then []
  else
    ((List.range 4).flatMap (fun j => (List.range 16).map (fun r => (256 + j, r)))).filterMap (fun kr =>
      let k := kr.1
      let r := kr.2
      if mpuBit s k r 11 && mpuBit s k r 9 &&
         decide (mpuBase s k r * 4096 ≤ a ∧ a < mpuLimit s k r * 4096 + 4096) then
        some (k, s.get (F.SYS_MPU_ATTR_CTXID (k - 256) r)) else none)

/-- The sealed regions that refuse a write by the present context of core k: all but those of its own core and CTXID while it is
sealed (R50, R165). -/
def sealedBars (s : State) (k a : Nat) : List (Nat × Nat) :=
  (sealedCovers s a).filter (fun c => !(s.isSealed k && c.1 == k && c.2 == s.ctxid k))

/-! ## Access checks of a service core -/

/-- How a permitted access is made: through the data cache, and whether it waits as R86 says. -/
structure AccAttr where
  cached : Bool
  ordered : Bool
  deriving DecidableEq, Repr

/-- The default attributes (R162). -/
def defaultAttr (a : Nat) : AccAttr :=
  let c := inFlash a || inDepot a || inRom a || inXsp a
  ⟨c, inPeri a || inTiles a || inInfo a⟩

def regionAttr (s : State) (k r a : Nat) : AccAttr :=
  ⟨mpuBit s k r 7 && !inPeri a, mpuBit s k r 8 || inPeri a⟩

/-- Whether a region with SEALED = 1 is used outside the parked tiles, where it grants nothing (R165). -/
def sealedAway (s : State) (k r a : Nat) : Bool := mpuBit s k r 9 && !parkedAddr s a

/-- The attributes of an access: those of the lowest-numbered matching region, else the default ones (R162). -/
def accAttr (s : State) (k a n : Nat) : AccAttr :=
  match mpuMatch s k a n with
  | some r => regionAttr s k r a
  | none => defaultAttr a

/-- Whether a sealed context may make a load or store (R163): through a sealed region of its own, or as a load from an enabled
constant region. -/
def sealedMay (s : State) (k : Nat) (x : Acc3) (ea n : Nat) : Bool :=
  (List.range 16).any (fun r =>
    mpuHit s k r ea n && mpuBit s k r 9 && mpuBit s k r 10 && mpuPerm s k r x && parkedAddr s ea) ||
  (x == .load && inCr s ea && inCr s (ea + n - 1))

/-- Whether the memory protection unit refuses an unsealed context's load or store (R162, R165). -/
def mpuBars (s : State) (k : Nat) (x : Acc3) (ea n : Nat) : Bool :=
  match mpuMatch s k ea n with
  | some r => !mpuPerm s k r x || sealedAway s k r ea
  | none => !s.isPriv k

/-- A store that its target's lock, or its kind of memory, refuses with a bus error (R43, R52, R165). -/
def storeBars (s : State) (k ea : Nat) : Bool :=
  inFlash ea || inInfo ea || inLockedCr s ea || !(sealedBars s k ea).isEmpty

/-- The first trap condition of a service core's load or store of n bytes at a 64-bit address, in the order of R145
(SEAL, ALIGN, PROTECTION, BUS_ERROR), or the attributes of the access. A misaligned access to the peripheral range is R12's, a bus
error (R115). -/
def scAccess (s : State) (k : Nat) (x : Acc3) (ea n : Nat) : Nat ⊕ AccAttr :=
  let sld := s.isSealed k
  let bad := ea % n != 0
  let own := x == .store && (sealedBars s k ea).any (fun c => c.1 == k)
  if sld && !sealedMay s k x ea n then .inl tcSeal
  else if bad && !inPeri ea then .inl tcAlign
  else if (!sld && mpuBars s k x ea n) || own then .inl tcProtection
  else if bad || !mapped ea || (x == .store && storeBars s k ea) then .inl tcBusError
  else .inr (accAttr s k ea n)

/-! ## Fetch -/

def iset (line : Nat) : Nat := line % 128
def noTag (_ : Nat) : Option Nat := none

/-- The instruction cache way that holds a line (R160). -/
def iWay (c : Core) (line : Nat) : Option Nat :=
  (List.range 4).find? (fun w => c.itag.read noTag (iset line * 4 + w) == some line)

/-- The instruction cache's word of way w that holds address a, in the array of R168. -/
def iMark (k a w : Nat) : Nat := (k - 256) * 4096 + (iset (a / 64) * 4 + w) * 8 + a / 8 % 8

/-- A miss fills the line in round-robin place (R160). The words themselves come with the commands (log 2), so the cache holds
only which lines are present; the fill's waits and failures are those of its reads. -/
def iFill (s : State) (k a : Nat) : Att :=
  let line := a / 64
  match memRead s (scAgent k) true (line * 64) 64 with
  | (.ok _, s) =>
    let w := (s.core k).iway.read zeroN (iset line)
    let s := s.onCore k (fun c => { c with itag := c.itag.write noTag (iset line * 4 + w) (some line),
                                           iway := c.iway.write zeroN (iset line) ((w + 1) % 4) })
    .done ((s.clearEcc memICache (iMark k (line * 64) w) 8).pmc k evIMiss 1)
  | (.err .ecc, s) => .trap s tcEcc 0 a
  | (.err _, s) => .trap s tcFetch 0 a
  | (.wait, s) => .pend s waitPlaced

/-- A fetch under an uncached attribute (R160, R162): the word's pair is read, and no line is filled. -/
def uFetch (s : State) (k a : Nat) : Att :=
  match memRead s (scAgent k) true (a / 8 * 8) 8 with
  | (.ok _, s) => .done s
  | (.err .ecc, s) => .trap s tcEcc 0 a
  | (.err _, s) => .trap s tcFetch 0 a
  | (.wait, s) => .pend s waitPlaced

/-- A fetch through the instruction cache: an error in a line is corrected, or the line refilled, and counted (R168). -/
def iFetch (s : State) (k a : Nat) : Att :=
  match iWay (s.core k) (a / 64) with
  | none => iFill s k a
  | some w =>
    match s.eccOf memICache (iMark k a w) with
    | 0 => .done s
    | 2 => iFill (((countCorrected s).pmc k evEccCorrected 1).onCore k
        (fun c => { c with itag := c.itag.write noTag (iset (a / 64) * 4 + w) none })) k a
    | _ => .done (countCorrected (s.setEcc memICache (iMark k a w) 3) |>.pmc k evEccCorrected 1)

/-- The physical address of a tile-local address of the active code bank or of the data area. -/
def tilePhys (s : State) (t a : Nat) : Nat :=
  0x20000000 + t * 0x10000 + (if a < 0x4000 then (if s.bitAt (F.WPT_BANK_BANK_B (t / 32)) (t % 32) then 0x4000 + a else a) else a)

/-- Examine the mark of an array word that core k reads (R168): a correctable error is counted and awaits its rewrite
(mark 3); an uncorrectable one is reported. The second component says that the word is uncorrectable. -/
def eccLoad (s : State) (k arr word addr : Nat) : State × Bool :=
  let m := s.eccOf arr word
  if m = 0 then (s, false)
  else if m = 2 then (memError s arr (if isSc k then 1 else 0) k addr, true)
  else ((countCorrected (s.setEcc arr word 3)).pmc k evEccCorrected 1, false)

/-- Whether a service core may fetch at an address: by its permission (R162, R165), and from memory that holds instructions. The info
rows and the peripheral blocks are taken as holding none (DESIGN CHOICE, log 62). -/
def scMayFetch (s : State) (k a : Nat) : Bool :=
  (match mpuMatch s k a 4 with
   | some r => mpuPerm s k r .fetch && !sealedAway s k r a
   | none => s.isPriv k) &&
  (inFlash a || inRom a || inXsp a || inDepot a || inTiles a)

/-- The fetch at the pc: FETCH and ECC conditions of R145, else the state with the fetch's effects. -/
def fetchAt (s : State) (k : Nat) : Att :=
  let a := (s.core k).pc.toNat
  if isSc k then
    if !scMayFetch s k a then .trap s tcFetch 0 a
    else if (accAttr s k a 4).cached then iFetch s k a
    else uFetch s k a
  else if a < 0x4000 then
    match eccLoad s k memTile (tilePhys s k a / 8) a with
    | (s, true) =>
      .trap (match s.tilePart k with
        | some p => voidIfSealed s 0x02 p
        | none => s) tcEcc 0 a
    | (s, false) => .done s
  else .trap s tcFetch 0 a

/-! ## Debug comparators (R521, R522) -/

/-- The debug level a core's run control needs: FULL for a sealed context, SERVICE otherwise (R511). -/
def dbgNeed (s : State) (k : Nat) : Nat := if s.isSealed k then 2 else 1
def dbgLevel (s : State) : Nat := s.get F.DBG_LEVEL_LEVEL
def dbgPermits (s : State) (k : Nat) : Bool := decide (dbgNeed s k ≤ dbgLevel s)

/-- The member votes or stands by, so that a halt goes by way of the shoulder (R525). -/
def isVoter (s : State) : Bool := s.get F.CVY_STATE_ROLE == roleVoter || s.get F.CVY_STATE_ROLE == roleStandby

/-- Whether a halt of core k may be requested now (R511, R525). -/
def mayHalt (s : State) (k : Nat) : Bool := dbgPermits s k && (!isVoter s || s.flag F.DBG_CTL_SHOULDER_OK)

/-- A halt request reaches core k (R514); a voter or standby goes to the shoulder first, with cause HALT (R525). -/
def requestHalt (s : State) (k reason : Nat) : State :=
  let s := if isVoter s then goShoulder s scHalt 0 else s
  if (s.core k).halted || (s.core k).run == .stopped || (isSc k && (s.core k).run == .reset) then s
  else s.onCore k (fun c => { c with haltReq := reason })

def ctxOk (s : State) (k : Nat) (ctl : Word) : Bool := bitsOf ctl 26 26 == 0 || bitsOf ctl 15 0 == s.ctxid k

/-- Whether data comparator j of core k matches an access with the given data (R521). -/
def dwHit (s : State) (k j : Nat) (data : Option Word) : Bool :=
  let c := s.core k
  let ctl := c.dreg (0x2D0 + 0x20 * j)
  match data with
  | none => false
  | some d =>
    bitsOf ctl 31 31 == 1 && ctxOk s k ctl &&
    (d &&& c.dreg (0x2C8 + 0x20 * j)) == (c.dreg (0x2C0 + 0x20 * j) &&& c.dreg (0x2C8 + 0x20 * j))

/-- Whether address comparator i of core k matches an access (R521). -/
def acHit (s : State) (k i : Nat) (x : Acc3) (a n : Nat) (data : Option Word) : Bool :=
  let c := s.core k
  let ctl := c.dreg (0x250 + 0x20 * i)
  let ty := bitsOf ctl 28 27
  let tyOk := match x with
    | .fetch => ty == 0
    | .load => ty == 1 || ty == 3
    | .store => ty == 2 || ty == 3
  bitsOf ctl 31 31 == 1 && tyOk && ctxOk s k ctl &&
  decide (a ≤ bitsOf (c.dreg (0x248 + 0x20 * i)) 39 0 ∧ bitsOf (c.dreg (0x240 + 0x20 * i)) 39 0 < a + n) &&
  (bitsOf ctl 25 25 == 0 || dwHit s k (bitsOf ctl 24 24) data)

/-- The comparator hits of an access: pairs of (MATCH bit of DBG_CSTAT, ACTION). -/
def cmpHits (s : State) (k : Nat) (x : Acc3) (a n : Nat) (data : Option Word) : List (Nat × Nat) :=
  ((List.range 4).filter (fun i => acHit s k i x a n data)).map
      (fun i => (16 + i, bitsOf ((s.core k).dreg (0x250 + 0x20 * i)) 30 29)) ++
  (if x == .fetch then [] else
    ((List.range 2).filter (fun j => dwHit s k j data)).map
      (fun j => (14 + j, bitsOf ((s.core k).dreg (0x2D0 + 0x20 * j)) 30 29)))

/-- The comparators judge an access: each match sets its MATCH bit, and a HALT action requests a halt where one is
permitted, else it acts as RECORD (R522, R525). The second component says that a halt was requested. -/
def compare (s : State) (k : Nat) (x : Acc3) (a n : Nat) (data : Option Word) : State × Bool :=
  if dbgPermits s k then
    let hits := (cmpHits s k x a n data).filter (fun h => decide (h.2 ≠ 3))
    match hits with
    | [] => (s, false)
    | _ =>
      let s := s.onCore k (fun c =>
        c.setD 0x204 (hits.foldl (fun v h => withBits v h.1 h.1 1) (c.dreg 0x204)))
      match hits.find? (fun h => h.2 == 1) with
      | some h => if mayHalt s k then (requestHalt s k (if h.1 < 16 then 4 else 3), true) else (s, false)
      | none => (s, false)
  else (s, false)

/-! ## Running one instruction -/

def coreRuns (s : State) (k : Nat) : Bool :=
  coresClocked s && (s.core k).run == .active && !(s.core k).halted

/-- A committed instruction ends its wait and a debug step (R516). -/
def commitEnd (s : State) (k : Nat) : State :=
  let s := s.waitFor k (if (s.core k).run == .waypt then evWayptWait else 0)
  if (s.core k).stepping then
    s.onCore k (fun c => ({ c with stepping := false, halted := true, haltReq := 0 }).setD 0x204
      (withBits (c.dreg 0x204) 23 20 5))
  else s

/-- A committed instruction is counted (R101). -/
def commit (s : State) (k : Nat) : State := commitEnd (s.pmc k evCommit 1) k

/-- The commit of a write of performance counter j: that counter does not count it (R101). -/
def commitBut (s : State) (k j : Nat) : State :=
  let v := (s.core k).sreg k (srPmc j)
  let o := bitsOf ((s.core k).sreg k srPmcCtl) (16 + j) (16 + j)
  commitEnd ((s.pmc k evCommit 1).onCore k (fun c =>
    (c.setSr k (srPmc j) v).setSr k srPmcCtl (withBits (c.sreg k srPmcCtl) (16 + j) (16 + j) o))) k

/-- A fed instruction (R519): it runs in the halted core's context without a fetch, a comparator or a count; DPC and DNPC do
not change, and a trap condition is noted and has no effect. -/
def runFed (s : State) (k : Nat) (body : State → Att) : State :=
  let c := s.core k
  let back (s : State) := s.onCore k (fun x => { x with pc := c.pc, npc := c.npc, slot := c.slot })
  match body s with
  | .trap _ cause _ _ => { s with dbgp := { s.dbgp with feed := some (some cause) } }
  | .wait _ => { s with dbgp := { s.dbgp with feed := none } }
  | .pend s _ => { s with dbgp := { s.dbgp with feed := none } }
  | .wrote s _ => back s
  | .done s => back s

/-- Core k waits for an access that it has placed on the interconnect or at the depot read port (R87): a stalled read is
outstanding (R364, R391). -/
def outstanding (s : State) (k : Nat) : Bool := (s.core k).wait == waitPlaced || (s.core k).wait == evDepotWait

/-- Run one instruction on core k (R72): the fetch, the instruction's own conditions, then its effect or its trap. One that waits
keeps what its fetch did. One that meets a pending halt request at its boundary changes nothing, unless it has placed an access: that
completes, and the instruction commits (R87, R145, R194). -/
def runInstr (s : State) (k : Nat) (w : Nat) (body : State → Att) : State :=
  if s.dbgp.feed.isSome then runFed s k body
  else if !coreRuns s k then s
  else
    let holds := (s.core k).haltReq != 0 && !outstanding s k
    match fetchAt s k with
    | .trap s c code a => takeTrap s k c code a 0
    | .wait _ => s
    | .pend s1 ev => if holds then s else s1.waitFor k ev
    | .wrote s _ => s
    | .done s1 =>
      let pc := (s1.core k).pc.toNat
      let (s2, hit) := if (s1.core k).stepping then (s1, false) else compare s1 k .fetch pc 4 none
      if hit then s2
      else
        match body s2 with
        | .trap s3 c code a => takeTrap s3 k c code a w
        | .wait ev => if holds then s else (if outstanding s k then s1 else s).waitFor k ev
        | .pend s3 ev => if holds then s else s3.waitFor k ev
        | .wrote s3 j => if holds then s else commitBut s3 k j
        | .done s3 => if holds then s else commit s3 k

/-- The instruction word of a command, for TRAP_INSTR. -/
def wordOf (i : Instr) : Nat := ((encodeWord i).getD 0).toNat

/-- Conditions that decode finds: a reserved encoding or an instruction the core lacks, a forbidden delay slot, a seal
violation by encoding, a privilege violation, in the order of R145. -/
def decodeTrap (s : State) (k : Nat) (illegal noSlot sealTrap privTrap : Bool) : Option Nat :=
  if illegal then some tcIllegal
  else if noSlot && (s.core k).slot then some tcSlot
  else if sealTrap && s.isSealed k then some tcSeal
  else if privTrap && !s.isPriv k then some tcPrivilege
  else none

/-- An instruction that writes a general register and moves on. -/
def writeG (s : State) (k : Nat) (d : BitVec 5) (v : Word) : State :=
  s.onCore k (fun c => (c.setG d.toNat v).step)

/-- An instruction that writes a floating-point register, ORs flags into FPSR, and moves on (R127). -/
def writeF (s : State) (k : Nat) (d : BitVec 5) (v : Word) (fl : BitVec 5) : State :=
  s.onCore k (fun c => ((c.setF d.toNat v).setSr k srFpsr (c.sreg k srFpsr ||| fl.setWidth 64)).step)

def writeGFlags (s : State) (k : Nat) (d : BitVec 5) (v : Word) (fl : BitVec 5) : State :=
  s.onCore k (fun c => ((c.setG d.toNat v).setSr k srFpsr (c.sreg k srFpsr ||| fl.setWidth 64)).step)

def greg (s : State) (k : Nat) (r : BitVec 5) : Word := (s.core k).greg r.toNat
def freg (s : State) (k : Nat) (r : BitVec 5) : Word := (s.core k).freg r.toNat

end Sys2Proof.Machine
end

