-- ==== Sys2Proof/Machine/Flags.lean ====
section
/-! DEFINITION. Floating point: IEEE 754 binary64 and binary32 as R94 and R122–R127 fix it. Values are taken apart into
exact dyadic numbers, the operation is exact, and one rounding packs the result with its flags. -/

namespace Sys2Proof.Machine

/-- The five sticky flags of FPSR: NV, DZ, OF, UF, NX from bit 4 down (04_instruction_set.md). -/
abbrev FpFlags := BitVec 5

def flagNV : FpFlags := 16#5
def flagDZ : FpFlags := 8#5
def flagOF : FpFlags := 4#5
def flagUF : FpFlags := 2#5
def flagNX : FpFlags := 1#5

/-- A format: exponent and fraction widths. P = 0 selects binary64 and P = 1 binary32 (R123). -/
structure Fmt where
  eb : Nat
  mb : Nat
  deriving DecidableEq, Repr

def Fmt.d : Fmt := ⟨11, 52⟩
def Fmt.s : Fmt := ⟨8, 23⟩
def Fmt.of (p : Bool) : Fmt := if p then .s else .d

def Fmt.bias (f : Fmt) : Int := 2 ^ (f.eb - 1) - 1
def Fmt.emin (f : Fmt) : Int := 1 - f.bias
def Fmt.maxExp (f : Fmt) : Nat := 2 ^ f.eb - 1

/-- The canonical quiet NaN of a format (R94). -/
def Fmt.nan (f : Fmt) : Nat := f.maxExp * 2 ^ f.mb + 2 ^ (f.mb - 1)
def Fmt.inf (f : Fmt) (neg : Bool) : Nat := (if neg then 2 ^ (f.eb + f.mb) else 0) + f.maxExp * 2 ^ f.mb
def Fmt.zero (f : Fmt) (neg : Bool) : Nat := if neg then 2 ^ (f.eb + f.mb) else 0

/-- A floating-point datum: a NaN (signalling or quiet), an infinity, or ±m × 2^e. -/
inductive Fp where
  | nan (signalling : Bool)
  | inf (neg : Bool)
  | fin (neg : Bool) (m : Nat) (e : Int)
  deriving DecidableEq, Repr

/-- Take a bit pattern apart; only the format's low bits are read (R94). -/
def Fmt.unpack (f : Fmt) (x : Nat) : Fp :=
  let frac := x % 2 ^ f.mb
  let ex := x / 2 ^ f.mb % 2 ^ f.eb
  let neg := x / 2 ^ (f.eb + f.mb) % 2 == 1
  if ex = f.maxExp then
    if frac = 0 then .inf neg else .nan (frac / 2 ^ (f.mb - 1) == 0)
  else if ex = 0 then .fin neg frac (f.emin - f.mb)
  else .fin neg (frac + 2 ^ f.mb) ((ex : Int) - f.bias - f.mb)

/-- Whether a truncated magnitude is rounded up: kept is the truncated integer, rem/2^sh the part cut off, sticky says
that more non-zero bits follow (R122). -/
def roundUp (rm : BitVec 3) (neg : Bool) (kept rem sh : Nat) (sticky : Bool) : Bool :=
  let half := 2 ^ sh
  let inexact := rem != 0 || sticky
  match rm.toNat with
  | 0 => decide (half < 2 * rem) || (2 * rem == half && rem != 0 && (sticky || kept % 2 == 1))
  | 1 => false
  | 2 => neg && inexact
  | 3 => !neg && inexact
  | _ => decide (half ≤ 2 * rem) && rem != 0

/-- Round m × 2^e to a multiple of 2^q: the multiple's coefficient, and whether the result is inexact. -/
def roundAt (rm : BitVec 3) (neg : Bool) (m : Nat) (e q : Int) (sticky : Bool) : Nat × Bool :=
  if q ≤ e then (m * 2 ^ (e - q).toNat, sticky)
  else
    let sh := (q - e).toNat
    let kept := m / 2 ^ sh
    let rem := m % 2 ^ sh
    (if roundUp rm neg kept rem sh sticky then kept + 1 else kept, rem != 0 || sticky)

/-- The overflow result under a rounding direction: infinity, or the largest finite number. -/
def Fmt.overflow (f : Fmt) (rm : BitVec 3) (neg : Bool) : Nat :=
  let toInf := match rm.toNat with
    | 1 => false
    | 2 => neg
    | 3 => !neg
    | _ => true
  if toInf then f.inf neg else f.inf neg - 1

/-- Round the non-zero exact value ±m × 2^e (with a sticky tail below it) into the format, correctly rounded, with
tininess detected after rounding (R94). -/
def Fmt.round (f : Fmt) (rm : BitVec 3) (neg : Bool) (m : Nat) (e : Int) (sticky : Bool) : Nat × FpFlags :=
  let top : Int := (Nat.log2 m : Int) + e
  let q : Int := max top f.emin - f.mb
  let (k, inexact) := roundAt rm neg m e q sticky
  let tiny : Bool :=
    if f.emin ≤ top then false
    else if top < f.emin - 1 then true
    else (roundAt rm neg m e (top - f.mb) sticky).1 < 2 ^ (f.mb + 1)
  let (k, q) := if k = 2 ^ (f.mb + 1) then (2 ^ f.mb, q + 1) else (k, q)
  let nx := if inexact then flagNX else 0
  let s := f.zero neg
  if k < 2 ^ f.mb then (s + k, nx ||| (if tiny && inexact then flagUF else 0))
  else
    let ex : Int := q + f.mb + f.bias
    if (f.maxExp : Int) ≤ ex then (f.overflow rm neg, flagOF ||| flagNX)
    else (s + (k - 2 ^ f.mb) + ex.toNat * 2 ^ f.mb, nx ||| (if tiny && inexact then flagUF else 0))

/-- The signed exact sum of two dyadic numbers: sign, magnitude, exponent. -/
def dyAdd (an : Bool) (am : Nat) (ae : Int) (bn : Bool) (bm : Nat) (be : Int) : Int × Int :=
  let e := min ae be
  let a : Int := (am * 2 ^ (ae - e).toNat : Nat)
  let b : Int := (bm * 2 ^ (be - e).toNat : Nat)
  ((if an then -a else a) + (if bn then -b else b), e)

/-- An exact sum rounded. A zero sum of operands of one sign keeps it; of opposite signs it is +0, or −0 under RDN
(IEEE 754). -/
def Fmt.sum (f : Fmt) (rm : BitVec 3) (an : Bool) (am : Nat) (ae : Int) (bn : Bool) (bm : Nat) (be : Int) :
    Nat × FpFlags :=
  let (v, e) := dyAdd an am ae bn bm be
  if v = 0 then (f.zero (if an = bn then an else rm == 2#3), 0)
  else f.round rm (decide (v < 0)) v.natAbs e false

def invalidNaN (f : Fmt) : Nat × FpFlags := (f.nan, flagNV)

/-- The NaN result of operands of which one is a NaN: canonical, invalid when one signals (R94). -/
def nanOf (f : Fmt) (xs : List Fp) : Nat × FpFlags :=
  (f.nan, if xs.any (fun x => x == .nan true) then flagNV else 0)

def Fp.isNaN : Fp → Bool
  | .nan _ => true
  | _ => false

def Fp.negate : Fp → Fp
  | .nan s => .nan s
  | .inf n => .inf !n
  | .fin n m e => .fin (!n) m e

/-- fa + fb (R123). -/
def Fmt.add (f : Fmt) (rm : BitVec 3) (a b : Fp) : Nat × FpFlags :=
  match a, b with
  | .fin an am ae, .fin bn bm be => f.sum rm an am ae bn bm be
  | .inf an, .inf bn => if an = bn then (f.inf an, 0) else invalidNaN f
  | .inf an, .fin _ _ _ => (f.inf an, 0)
  | .fin _ _ _, .inf bn => (f.inf bn, 0)
  | a, b => nanOf f [a, b]

/-- fa × fb (R123). -/
def Fmt.mul (f : Fmt) (rm : BitVec 3) (a b : Fp) : Nat × FpFlags :=
  match a, b with
  | .fin an am ae, .fin bn bm be =>
    if am * bm = 0 then (f.zero (an != bn), 0) else f.round rm (an != bn) (am * bm) (ae + be) false
  | .inf an, .inf bn => (f.inf (an != bn), 0)
  | .inf an, .fin bn bm _ => if bm = 0 then invalidNaN f else (f.inf (an != bn), 0)
  | .fin an am _, .inf bn => if am = 0 then invalidNaN f else (f.inf (an != bn), 0)
  | a, b => nanOf f [a, b]

/-- fa ÷ fb (R123): the quotient is taken to 3 bits below the format with a sticky remainder. -/
def Fmt.div (f : Fmt) (rm : BitVec 3) (a b : Fp) : Nat × FpFlags :=
  match a, b with
  | .fin an am ae, .fin bn bm be =>
    if bm = 0 then (if am = 0 then invalidNaN f else (f.inf (an != bn), flagDZ))
    else if am = 0 then (f.zero (an != bn), 0)
    else
      let sh := Nat.log2 bm + f.mb + 4
      let n := am * 2 ^ sh
      f.round rm (an != bn) (n / bm) (ae - be - sh) (n % bm != 0)
  | .inf _, .inf _ => invalidNaN f
  | .inf an, .fin bn _ _ => (f.inf (an != bn), 0)
  | .fin an _ _, .inf bn => (f.zero (an != bn), 0)
  | a, b => nanOf f [a, b]

/-- The integer square root of n, found bit by bit below 2^fuel. -/
def isqrt (n : Nat) : Nat → Nat → Nat
  | 0, r => r
  | i + 1, r => isqrt n i (if (r + 2 ^ i) * (r + 2 ^ i) ≤ n then r + 2 ^ i else r)

/-- √fa (R123). -/
def Fmt.sqrt (f : Fmt) (rm : BitVec 3) (a : Fp) : Nat × FpFlags :=
  match a with
  | .fin an am ae =>
    if am = 0 then (f.zero an, 0)
    else if an then invalidNaN f
    else
      -- an even exponent, and at least 2 × (mb + 4) bits of radicand
      let sh := 2 * f.mb + 8 + (ae % 2).toNat
      let n := am * 2 ^ sh
      let r := isqrt n (f.mb * 2 + 8) 0
      f.round rm false r ((ae - sh) / 2) (r * r != n)
  | .inf an => if an then invalidNaN f else (f.inf false, 0)
  | a => nanOf f [a]

/-- fa × fb + fc rounded once (R124); 0 × ∞ is invalid whatever the addend (R94). -/
def Fmt.fma (f : Fmt) (rm : BitVec 3) (a b c : Fp) : Nat × FpFlags :=
  let zeroInf := match a, b with
    | .inf _, .fin _ m _ => m == 0
    | .fin _ m _, .inf _ => m == 0
    | _, _ => false
  if zeroInf then invalidNaN f
  else if a.isNaN || b.isNaN || c.isNaN then nanOf f [a, b, c]
  else
    match a, b, c with
    | .fin an am ae, .fin bn bm be, .fin cn cm ce => f.sum rm (an != bn) (am * bm) (ae + be) cn cm ce
    | .fin _ _ _, .fin _ _ _, .inf cn => (f.inf cn, 0)
    | a, b, c =>
      let sn : Fp → Bool := fun x => match x with
        | .inf n => n
        | .fin n _ _ => n
        | .nan _ => false
      let pn := sn a != sn b
      match c with
      | .inf cn => if cn = pn then (f.inf pn, 0) else invalidNaN f
      | _ => (f.inf pn, 0)

/-- Invert the sign of a packed result that is not a NaN (FNMADD, FNMSUB of R124). -/
def Fmt.negBits (f : Fmt) (x : Nat) : Nat :=
  if (f.unpack x).isNaN then f.nan
  else if x / 2 ^ (f.eb + f.mb) % 2 = 1 then x - 2 ^ (f.eb + f.mb) else x + 2 ^ (f.eb + f.mb)

/-- The order of two numbers that are not NaNs, −0 equal to +0. -/
def Fp.lt (a b : Fp) : Bool :=
  match a, b with
  | .fin an am ae, .fin bn bm be => decide ((dyAdd an am ae (!bn) bm be).1 < 0)
  | .inf an, .inf bn => an && !bn
  | .inf an, .fin _ _ _ => an
  | .fin _ _ _, .inf bn => !bn
  | _, _ => false

def Fp.eq (a b : Fp) : Bool :=
  match a, b with
  | .fin an am ae, .fin bn bm be => (dyAdd an am ae (!bn) bm be).1 == 0
  | .inf an, .inf bn => an == bn
  | _, _ => false

/-- The comparisons of R125: FEQ raises invalid for a signalling NaN, FLT and FLE for any NaN; all return 0 then. -/
def fpEq (a b : Fp) : Bool × FpFlags :=
  (a.eq b, if a == .nan true || b == .nan true then flagNV else 0)
def fpLt (a b : Fp) : Bool × FpFlags := (a.lt b, if a.isNaN || b.isNaN then flagNV else 0)
def fpLe (a b : Fp) : Bool × FpFlags := (a.lt b || a.eq b, if a.isNaN || b.isNaN then flagNV else 0)

/-- The sign bit of a bit pattern. -/
def Fmt.signBit (f : Fmt) (x : Nat) : Bool := x / 2 ^ (f.eb + f.mb) % 2 == 1

/-- FMIN and FMAX (R125): −0 lies below +0; one NaN returns the other operand, two the canonical NaN; a signalling NaN
is invalid. -/
def Fmt.minmax (f : Fmt) (isMax : Bool) (x y : Nat) : Nat × FpFlags :=
  let a := f.unpack x
  let b := f.unpack y
  let fl := if a == .nan true || b == .nan true then flagNV else 0
  let aBelow := a.lt b || (a.eq b && f.signBit x && !f.signBit y)
  let r :=
    if a.isNaN && b.isNaN then f.nan
    else if a.isNaN then y
    else if b.isNaN then x
    else if aBelow != isMax then x else y
  (r, fl)

/-- A pattern with its sign bit replaced; a NaN becomes the canonical NaN (R125). -/
def Fmt.withSign (f : Fmt) (x : Nat) (neg : Bool) : Nat :=
  if (f.unpack x).isNaN then f.nan else x % 2 ^ (f.eb + f.mb) + f.zero neg

/-- FCLASS (R126): one bit of 0 to 9. -/
def Fmt.classBit (f : Fmt) (x : Nat) : Nat :=
  match f.unpack x with
  | .inf n => if n then 0 else 7
  | .nan s => if s then 8 else 9
  | .fin n m _ =>
    if m = 0 then (if n then 3 else 4)
    else if m < 2 ^ f.mb then (if n then 2 else 5)
    else (if n then 1 else 6)

/-- Conversion to an integer in [lo, hi] (R126): rounds under rm, saturates with invalid and no inexact; a NaN gives
the most positive value. -/
def fpToInt (rm : BitVec 3) (lo hi : Int) (a : Fp) : Int × FpFlags :=
  match a with
  | .nan _ => (hi, flagNV)
  | .inf n => (if n then lo else hi, flagNV)
  | .fin n m e =>
    let (k, inexact) := roundAt rm n m e 0 false
    let v : Int := if n then -(k : Int) else k
    if v < lo then (lo, flagNV)
    else if hi < v then (hi, flagNV)
    else (v, if inexact then flagNX else 0)

/-- Conversion from an integer (R123). -/
def Fmt.ofInt (f : Fmt) (rm : BitVec 3) (v : Int) : Nat × FpFlags :=
  if v = 0 then (0, 0) else f.round rm (decide (v < 0)) v.natAbs 0 false

/-- FCVT.P: a datum of the other precision converted (R123). -/
def Fmt.convert (f : Fmt) (rm : BitVec 3) (a : Fp) : Nat × FpFlags :=
  match a with
  | .nan _ => nanOf f [a]
  | .inf n => (f.inf n, 0)
  | .fin n m e => if m = 0 then (f.zero n, 0) else f.round rm n m e false

end Sys2Proof.Machine
end

