-- ==== Sys2Proof/Machine/Floating.lean ====
section
/-! DEFINITION. The floating-point instructions (R122–R127): operands from the f registers, rounding by the code or by
FPMODE, one rounding, flags ORed into FPSR. -/

namespace Sys2Proof.Machine

/-- The rounding direction in force: a code, or DYN for FPMODE.RM (R122). -/
def rmOf (s : State) (k : Nat) (rm : BitVec 3) : BitVec 3 := if rm = 7#3 then BitVec.ofNat 3 (s.fpmode k) else rm

/-- The pattern of an f register in the precision: binary32 reads bits 31..0 (R94). -/
def fbits (s : State) (k : Nat) (p : Bool) (r : BitVec 5) : Nat :=
  if p then (freg s k r).toNat % 2 ^ 32 else (freg s k r).toNat

def fval (s : State) (k : Nat) (p : Bool) (r : BitVec 5) : Fp := (Fmt.of p).unpack (fbits s k p r)

def fword (x : Nat) : Word := BitVec.ofNat 64 x

/-- A floating-point instruction that writes an f register: a reserved rounding code is ILLEGAL (R106, R122). -/
def fpToF (k : CoreId) (w : Nat) (rm : BitVec 3) (d : BitVec 5) (f : State → Nat × FpFlags) (s : State) : State :=
  runInstr s k w (fun s =>
    if rmOkB rm then .done ((writeF s k d (fword (f s).1) (f s).2).pmc k evFp 1) else .trap s tcIllegal 0 0)

/-- A floating-point instruction that writes a g register. -/
def fpToG (k : CoreId) (w : Nat) (rm : BitVec 3) (d : BitVec 5) (f : State → Word × FpFlags) (s : State) : State :=
  runInstr s k w (fun s =>
    if rmOkB rm then .done ((writeGFlags s k d (f s).1 (f s).2).pmc k evFp 1) else .trap s tcIllegal 0 0)

/-- A conversion to an integer as a word: 64-bit results as they stand, 32-bit results extended from bit 31 (R123). -/
def intWord (wide : Bool) (r : Int × FpFlags) : Word × FpFlags :=
  (if wide then BitVec.ofInt 64 r.1 else (BitVec.ofInt 32 r.1).signExtend 64, r.2)

def boolPair (r : Bool × FpFlags) : Word × FpFlags := (boolWord r.1, r.2)

/-- FADD (R123): Floating add. -/
def execFadd (k : CoreId) (p : Bool) (rm : BitVec 3) (d a b : BitVec 5) (s : State) : Host.Outcome State Fault Refusal :=
  .next (fpToF k (wordOf (.fadd k p rm d a b)) rm d (fun s => (Fmt.of p).add (rmOf s k rm) (fval s k p a) (fval s k p b)) s)

/-- FSUB (R123): Floating subtract. -/
def execFsub (k : CoreId) (p : Bool) (rm : BitVec 3) (d a b : BitVec 5) (s : State) : Host.Outcome State Fault Refusal :=
  .next (fpToF k (wordOf (.fsub k p rm d a b)) rm d (fun s => (Fmt.of p).add (rmOf s k rm) (fval s k p a) (fval s k p b).negate) s)

/-- FMUL (R123): Floating multiply. -/
def execFmul (k : CoreId) (p : Bool) (rm : BitVec 3) (d a b : BitVec 5) (s : State) : Host.Outcome State Fault Refusal :=
  .next (fpToF k (wordOf (.fmul k p rm d a b)) rm d (fun s => (Fmt.of p).mul (rmOf s k rm) (fval s k p a) (fval s k p b)) s)

/-- FDIV (R123): Floating divide. -/
def execFdiv (k : CoreId) (p : Bool) (rm : BitVec 3) (d a b : BitVec 5) (s : State) : Host.Outcome State Fault Refusal :=
  .next (fpToF k (wordOf (.fdiv k p rm d a b)) rm d (fun s => (Fmt.of p).div (rmOf s k rm) (fval s k p a) (fval s k p b)) s)

/-- FSQRT (R123): Floating square root. -/
def execFsqrt (k : CoreId) (p : Bool) (rm : BitVec 3) (d a : BitVec 5) (s : State) : Host.Outcome State Fault Refusal :=
  .next (fpToF k (wordOf (.fsqrt k p rm d a)) rm d (fun s => (Fmt.of p).sqrt (rmOf s k rm) (fval s k p a)) s)

/-- FMIN (R125): Floating minimum. -/
def execFmin (k : CoreId) (p : Bool) (d a b : BitVec 5) (s : State) : Host.Outcome State Fault Refusal :=
  .next (fpToF k (wordOf (.fmin k p d a b)) 0 d (fun s => (Fmt.of p).minmax false (fbits s k p a) (fbits s k p b)) s)

/-- FMAX (R125): Floating maximum. -/
def execFmax (k : CoreId) (p : Bool) (d a b : BitVec 5) (s : State) : Host.Outcome State Fault Refusal :=
  .next (fpToF k (wordOf (.fmax k p d a b)) 0 d (fun s => (Fmt.of p).minmax true (fbits s k p a) (fbits s k p b)) s)

/-- FSGNJ (R123): Copy the sign. -/
def execFsgnj (k : CoreId) (p : Bool) (d a b : BitVec 5) (s : State) : Host.Outcome State Fault Refusal :=
  .next (fpToF k (wordOf (.fsgnj k p d a b)) 0 d (fun s => ((Fmt.of p).withSign (fbits s k p a) ((Fmt.of p).signBit (fbits s k p b)), 0)) s)

/-- FSGNJN (R123): Copy the inverted sign. -/
def execFsgnjn (k : CoreId) (p : Bool) (d a b : BitVec 5) (s : State) : Host.Outcome State Fault Refusal :=
  .next (fpToF k (wordOf (.fsgnjn k p d a b)) 0 d (fun s => ((Fmt.of p).withSign (fbits s k p a) (!(Fmt.of p).signBit (fbits s k p b)), 0)) s)

/-- FSGNJX (R123): XOR the signs. -/
def execFsgnjx (k : CoreId) (p : Bool) (d a b : BitVec 5) (s : State) : Host.Outcome State Fault Refusal :=
  .next (fpToF k (wordOf (.fsgnjx k p d a b)) 0 d (fun s => ((Fmt.of p).withSign (fbits s k p a) ((Fmt.of p).signBit (fbits s k p a) != (Fmt.of p).signBit (fbits s k p b)), 0)) s)

/-- FEQ (R125): Floating equality compare. -/
def execFeq (k : CoreId) (p : Bool) (d a b : BitVec 5) (s : State) : Host.Outcome State Fault Refusal :=
  .next (fpToG k (wordOf (.feq k p d a b)) 0 d (fun s => boolPair (fpEq (fval s k p a) (fval s k p b))) s)

/-- FLT (R125): Floating less-than compare. -/
def execFlt (k : CoreId) (p : Bool) (d a b : BitVec 5) (s : State) : Host.Outcome State Fault Refusal :=
  .next (fpToG k (wordOf (.flt k p d a b)) 0 d (fun s => boolPair (fpLt (fval s k p a) (fval s k p b))) s)

/-- FLE (R125): Floating less-or-equal compare. -/
def execFle (k : CoreId) (p : Bool) (d a b : BitVec 5) (s : State) : Host.Outcome State Fault Refusal :=
  .next (fpToG k (wordOf (.fle k p d a b)) 0 d (fun s => boolPair (fpLe (fval s k p a) (fval s k p b))) s)

/-- FCLASS (R126): Class mask of fa. -/
def execFclass (k : CoreId) (p : Bool) (d a : BitVec 5) (s : State) : Host.Outcome State Fault Refusal :=
  .next (fpToG k (wordOf (.fclass k p d a)) 0 d (fun s => (1 <<< (Fmt.of p).classBit (fbits s k p a), 0)) s)

/-- FCVT_L (R126): Convert to a signed 64-bit integer. -/
def execFcvtL (k : CoreId) (p : Bool) (rm : BitVec 3) (d a : BitVec 5) (s : State) : Host.Outcome State Fault Refusal :=
  .next (fpToG k (wordOf (.fcvtL k p rm d a)) rm d (fun s => intWord true (fpToInt (rmOf s k rm) (-(2 ^ 63)) (2 ^ 63 - 1) (fval s k p a))) s)

/-- FCVT_LU (R126): Convert to an unsigned 64-bit integer. -/
def execFcvtLu (k : CoreId) (p : Bool) (rm : BitVec 3) (d a : BitVec 5) (s : State) : Host.Outcome State Fault Refusal :=
  .next (fpToG k (wordOf (.fcvtLu k p rm d a)) rm d (fun s => intWord true (fpToInt (rmOf s k rm) 0 (2 ^ 64 - 1) (fval s k p a))) s)

/-- FCVT_W (R126): Convert to a signed 32-bit integer. -/
def execFcvtW (k : CoreId) (p : Bool) (rm : BitVec 3) (d a : BitVec 5) (s : State) : Host.Outcome State Fault Refusal :=
  .next (fpToG k (wordOf (.fcvtW k p rm d a)) rm d (fun s => intWord false (fpToInt (rmOf s k rm) (-(2 ^ 31)) (2 ^ 31 - 1) (fval s k p a))) s)

/-- FCVT_WU (R126): Convert to an unsigned 32-bit integer. -/
def execFcvtWu (k : CoreId) (p : Bool) (rm : BitVec 3) (d a : BitVec 5) (s : State) : Host.Outcome State Fault Refusal :=
  .next (fpToG k (wordOf (.fcvtWu k p rm d a)) rm d (fun s => intWord false (fpToInt (rmOf s k rm) 0 (2 ^ 32 - 1) (fval s k p a))) s)

/-- FCVT_F_L (R123): Convert from a signed 64-bit integer. -/
def execFcvtFL (k : CoreId) (p : Bool) (rm : BitVec 3) (d a : BitVec 5) (s : State) : Host.Outcome State Fault Refusal :=
  .next (fpToF k (wordOf (.fcvtFL k p rm d a)) rm d (fun s => (Fmt.of p).ofInt (rmOf s k rm) (greg s k a).toInt) s)

/-- FCVT_F_LU (R123): Convert from an unsigned 64-bit integer. -/
def execFcvtFLu (k : CoreId) (p : Bool) (rm : BitVec 3) (d a : BitVec 5) (s : State) : Host.Outcome State Fault Refusal :=
  .next (fpToF k (wordOf (.fcvtFLu k p rm d a)) rm d (fun s => (Fmt.of p).ofInt (rmOf s k rm) (greg s k a).toNat) s)

/-- FCVT_F_W (R123): Convert from a signed 32-bit integer. -/
def execFcvtFW (k : CoreId) (p : Bool) (rm : BitVec 3) (d a : BitVec 5) (s : State) : Host.Outcome State Fault Refusal :=
  .next (fpToF k (wordOf (.fcvtFW k p rm d a)) rm d (fun s => (Fmt.of p).ofInt (rmOf s k rm) ((greg s k a).setWidth 32).toInt) s)

/-- FCVT_F_WU (R123): Convert from an unsigned 32-bit integer. -/
def execFcvtFWu (k : CoreId) (p : Bool) (rm : BitVec 3) (d a : BitVec 5) (s : State) : Host.Outcome State Fault Refusal :=
  .next (fpToF k (wordOf (.fcvtFWu k p rm d a)) rm d (fun s => (Fmt.of p).ofInt (rmOf s k rm) ((greg s k a).setWidth 32).toNat) s)

/-- FCVT_P (R123): Convert between precisions. P = 0 takes no rounding code. -/
def execFcvtP (k : CoreId) (p : Bool) (rm : BitVec 3) (d a : BitVec 5) (s : State) : Host.Outcome State Fault Refusal :=
  .next (fpToF k (wordOf (.fcvtP k p rm d a)) (if !p && rm != 0#3 then 5#3 else rm) d
    (fun s => (Fmt.of p).convert (rmOf s k rm) (fval s k (!p) a)) s)

/-- FMV_G_F (R123): Raw move from an f register to a g register. -/
def execFmvGF (k : CoreId) (p : Bool) (d a : BitVec 5) (s : State) : Host.Outcome State Fault Refusal :=
  .next (fpToG k (wordOf (.fmvGF k p d a)) 0 d (fun s => (fword (fbits s k p a), 0)) s)

/-- FMV_F_G (R123): Raw move from a g register to an f register. -/
def execFmvFG (k : CoreId) (p : Bool) (d a : BitVec 5) (s : State) : Host.Outcome State Fault Refusal :=
  .next (fpToF k (wordOf (.fmvFG k p d a)) 0 d (fun s => (if p then (greg s k a).toNat % 2 ^ 32 else (greg s k a).toNat, 0)) s)

/-- FMADD (R124): Fused multiply-add. -/
def execFmadd (k : CoreId) (p : Bool) (rm : BitVec 3) (d a b c : BitVec 5) (s : State) : Host.Outcome State Fault Refusal :=
  .next (fpToF k (wordOf (.fmadd k p rm d a b c)) rm d (fun s => (Fmt.of p).fma (rmOf s k rm) (fval s k p a) (fval s k p b) (fval s k p c)) s)

/-- FMSUB (R124): Fused multiply-subtract. -/
def execFmsub (k : CoreId) (p : Bool) (rm : BitVec 3) (d a b c : BitVec 5) (s : State) : Host.Outcome State Fault Refusal :=
  .next (fpToF k (wordOf (.fmsub k p rm d a b c)) rm d (fun s => (Fmt.of p).fma (rmOf s k rm) (fval s k p a) (fval s k p b) (fval s k p c).negate) s)

/-- FNMADD (R124): Negated fused multiply-add. -/
def execFnmadd (k : CoreId) (p : Bool) (rm : BitVec 3) (d a b c : BitVec 5) (s : State) : Host.Outcome State Fault Refusal :=
  .next (fpToF k (wordOf (.fnmadd k p rm d a b c)) rm d (fun s => (let r := (Fmt.of p).fma (rmOf s k rm) (fval s k p a) (fval s k p b) (fval s k p c)
      ((Fmt.of p).negBits r.1, r.2))) s)

/-- FNMSUB (R124): Negated fused multiply-subtract. -/
def execFnmsub (k : CoreId) (p : Bool) (rm : BitVec 3) (d a b c : BitVec 5) (s : State) : Host.Outcome State Fault Refusal :=
  .next (fpToF k (wordOf (.fnmsub k p rm d a b c)) rm d (fun s => (let r := (Fmt.of p).fma (rmOf s k rm) (fval s k p a) (fval s k p b) (fval s k p c).negate
      ((Fmt.of p).negBits r.1, r.2))) s)

end Sys2Proof.Machine
end

