-- ==== Sys2Proof/Machine/Integer.lean ====
section
/-! DEFINITION. The integer instructions (R109–R113): register, immediate, multiply and divide forms. -/

namespace Sys2Proof.Machine

/-- A three-register integer instruction (R109, R112). -/
def aluRR (k : CoreId) (w : Nat) (d a b : BitVec 5) (f : Word → Word → Word) (s : State) : State :=
  runInstr s k w (fun s => .done (writeG s k d (f (greg s k a) (greg s k b))))

/-- A two-register integer instruction (R109). -/
def aluR (k : CoreId) (w : Nat) (d a : BitVec 5) (f : Word → Word) (s : State) : State :=
  runInstr s k w (fun s => .done (writeG s k d (f (greg s k a))))

/-- ADD (R109): gd = ga + gb. -/
def execAdd (k : CoreId) (d a b : BitVec 5) (s : State) : Host.Outcome State Fault Refusal :=
  .next (aluRR k (wordOf (.add k d a b)) d a b (· + ·) s)

/-- SUB (R109): gd = ga − gb. -/
def execSub (k : CoreId) (d a b : BitVec 5) (s : State) : Host.Outcome State Fault Refusal :=
  .next (aluRR k (wordOf (.sub k d a b)) d a b (· - ·) s)

/-- AND (R109): Bitwise AND. -/
def execAnd (k : CoreId) (d a b : BitVec 5) (s : State) : Host.Outcome State Fault Refusal :=
  .next (aluRR k (wordOf (.and k d a b)) d a b (· &&& ·) s)

/-- OR (R109): Bitwise OR. -/
def execOr (k : CoreId) (d a b : BitVec 5) (s : State) : Host.Outcome State Fault Refusal :=
  .next (aluRR k (wordOf (.or k d a b)) d a b (· ||| ·) s)

/-- XOR (R109): Bitwise XOR. -/
def execXor (k : CoreId) (d a b : BitVec 5) (s : State) : Host.Outcome State Fault Refusal :=
  .next (aluRR k (wordOf (.xor k d a b)) d a b (· ^^^ ·) s)

/-- ANDN (R109): ga AND NOT gb. -/
def execAndn (k : CoreId) (d a b : BitVec 5) (s : State) : Host.Outcome State Fault Refusal :=
  .next (aluRR k (wordOf (.andn k d a b)) d a b (fun x y => x &&& ~~~y) s)

/-- SLL (R109): Logical left shift. -/
def execSll (k : CoreId) (d a b : BitVec 5) (s : State) : Host.Outcome State Fault Refusal :=
  .next (aluRR k (wordOf (.sll k d a b)) d a b sll64 s)

/-- SRL (R109): Logical right shift. -/
def execSrl (k : CoreId) (d a b : BitVec 5) (s : State) : Host.Outcome State Fault Refusal :=
  .next (aluRR k (wordOf (.srl k d a b)) d a b srl64 s)

/-- SRA (R109): Arithmetic right shift. -/
def execSra (k : CoreId) (d a b : BitVec 5) (s : State) : Host.Outcome State Fault Refusal :=
  .next (aluRR k (wordOf (.sra k d a b)) d a b sra64 s)

/-- SLT (R109): Signed less-than set. -/
def execSlt (k : CoreId) (d a b : BitVec 5) (s : State) : Host.Outcome State Fault Refusal :=
  .next (aluRR k (wordOf (.slt k d a b)) d a b (fun x y => boolWord (x.slt y)) s)

/-- SLTU (R109): Unsigned less-than set. -/
def execSltu (k : CoreId) (d a b : BitVec 5) (s : State) : Host.Outcome State Fault Refusal :=
  .next (aluRR k (wordOf (.sltu k d a b)) d a b (fun x y => boolWord (x.ult y)) s)

/-- SEQ (R109): Equality set. -/
def execSeq (k : CoreId) (d a b : BitVec 5) (s : State) : Host.Outcome State Fault Refusal :=
  .next (aluRR k (wordOf (.seq k d a b)) d a b (fun x y => boolWord (x == y)) s)

/-- ADDW (R109): 32-bit add, sign-extended. -/
def execAddw (k : CoreId) (d a b : BitVec 5) (s : State) : Host.Outcome State Fault Refusal :=
  .next (aluRR k (wordOf (.addw k d a b)) d a b (on32 (· + ·)) s)

/-- SUBW (R109): 32-bit subtract, sign-extended. -/
def execSubw (k : CoreId) (d a b : BitVec 5) (s : State) : Host.Outcome State Fault Refusal :=
  .next (aluRR k (wordOf (.subw k d a b)) d a b (on32 (· - ·)) s)

/-- SLLW (R109): 32-bit left shift, sign-extended. -/
def execSllw (k : CoreId) (d a b : BitVec 5) (s : State) : Host.Outcome State Fault Refusal :=
  .next (aluRR k (wordOf (.sllw k d a b)) d a b sllw s)

/-- SRLW (R109): 32-bit logical right shift, sign-extended. -/
def execSrlw (k : CoreId) (d a b : BitVec 5) (s : State) : Host.Outcome State Fault Refusal :=
  .next (aluRR k (wordOf (.srlw k d a b)) d a b srlw s)

/-- SRAW (R109): 32-bit arithmetic right shift, sign-extended. -/
def execSraw (k : CoreId) (d a b : BitVec 5) (s : State) : Host.Outcome State Fault Refusal :=
  .next (aluRR k (wordOf (.sraw k d a b)) d a b sraw s)

/-- SEXTB (R109): Sign-extend the low byte. -/
def execSextb (k : CoreId) (d a : BitVec 5) (s : State) : Host.Outcome State Fault Refusal :=
  .next (aluR k (wordOf (.sextb k d a)) d a (fun x => (x.setWidth 8).signExtend 64) s)

/-- SEXTH (R109): Sign-extend the low halfword. -/
def execSexth (k : CoreId) (d a : BitVec 5) (s : State) : Host.Outcome State Fault Refusal :=
  .next (aluR k (wordOf (.sexth k d a)) d a (fun x => (x.setWidth 16).signExtend 64) s)

/-- SEXTW (R109): Sign-extend the low word. -/
def execSextw (k : CoreId) (d a : BitVec 5) (s : State) : Host.Outcome State Fault Refusal :=
  .next (aluR k (wordOf (.sextw k d a)) d a sext32 s)

/-- ZEXTW (R109): Zero-extend the low word. -/
def execZextw (k : CoreId) (d a : BitVec 5) (s : State) : Host.Outcome State Fault Refusal :=
  .next (aluR k (wordOf (.zextw k d a)) d a (fun x => (x.setWidth 32).setWidth 64) s)

/-- MIN (R109): Signed minimum. -/
def execMin (k : CoreId) (d a b : BitVec 5) (s : State) : Host.Outcome State Fault Refusal :=
  .next (aluRR k (wordOf (.min k d a b)) d a b minS s)

/-- MAX (R109): Signed maximum. -/
def execMax (k : CoreId) (d a b : BitVec 5) (s : State) : Host.Outcome State Fault Refusal :=
  .next (aluRR k (wordOf (.max k d a b)) d a b maxS s)

/-- ADDI (R110): Add a sign-extended immediate. -/
def execAddi (k : CoreId) (d a : BitVec 5) (imm : BitVec 16) (s : State) : Host.Outcome State Fault Refusal :=
  .next (aluR k (wordOf (.addi k d a imm)) d a (· + immS imm) s)

/-- ANDI (R110): AND with a zero-extended immediate. -/
def execAndi (k : CoreId) (d a : BitVec 5) (imm : BitVec 16) (s : State) : Host.Outcome State Fault Refusal :=
  .next (aluR k (wordOf (.andi k d a imm)) d a (· &&& immZ imm) s)

/-- ORI (R110): OR with a zero-extended immediate. -/
def execOri (k : CoreId) (d a : BitVec 5) (imm : BitVec 16) (s : State) : Host.Outcome State Fault Refusal :=
  .next (aluR k (wordOf (.ori k d a imm)) d a (· ||| immZ imm) s)

/-- XORI (R110): XOR with a zero-extended immediate. -/
def execXori (k : CoreId) (d a : BitVec 5) (imm : BitVec 16) (s : State) : Host.Outcome State Fault Refusal :=
  .next (aluR k (wordOf (.xori k d a imm)) d a (· ^^^ immZ imm) s)

/-- SLTI (R110): Signed compare with an immediate. -/
def execSlti (k : CoreId) (d a : BitVec 5) (imm : BitVec 16) (s : State) : Host.Outcome State Fault Refusal :=
  .next (aluR k (wordOf (.slti k d a imm)) d a (fun x => boolWord (x.slt (immS imm))) s)

/-- SLTIU (R110): Unsigned compare with an immediate. -/
def execSltiu (k : CoreId) (d a : BitVec 5) (imm : BitVec 16) (s : State) : Host.Outcome State Fault Refusal :=
  .next (aluR k (wordOf (.sltiu k d a imm)) d a (fun x => boolWord (x.ult (immS imm))) s)

/-- SLLI (R110): Left shift by an immediate. -/
def execSlli (k : CoreId) (d a : BitVec 5) (imm : BitVec 6) (s : State) : Host.Outcome State Fault Refusal :=
  .next (aluR k (wordOf (.slli k d a imm)) d a (fun x => sll64 x (imm.setWidth 64)) s)

/-- SRLI (R110): Logical right shift by an immediate. -/
def execSrli (k : CoreId) (d a : BitVec 5) (imm : BitVec 6) (s : State) : Host.Outcome State Fault Refusal :=
  .next (aluR k (wordOf (.srli k d a imm)) d a (fun x => srl64 x (imm.setWidth 64)) s)

/-- SRAI (R110): Arithmetic right shift by an immediate. -/
def execSrai (k : CoreId) (d a : BitVec 5) (imm : BitVec 6) (s : State) : Host.Outcome State Fault Refusal :=
  .next (aluR k (wordOf (.srai k d a imm)) d a (fun x => sra64 x (imm.setWidth 64)) s)

/-- LUI (R110): Load the immediate shifted left by 16, sign-extended. -/
def execLui (k : CoreId) (d : BitVec 5) (imm : BitVec 16) (s : State) : Host.Outcome State Fault Refusal :=
  .next (runInstr s k (wordOf (.lui k d imm)) (fun s => .done (writeG s k d (sext32 (immZ imm <<< 16)))))

/-- MUL (R112): Low 64 bits of the product. -/
def execMul (k : CoreId) (d a b : BitVec 5) (s : State) : Host.Outcome State Fault Refusal :=
  .next (aluRR k (wordOf (.mul k d a b)) d a b (· * ·) s)

/-- MULH (R112): Signed high product. -/
def execMulh (k : CoreId) (d a b : BitVec 5) (s : State) : Host.Outcome State Fault Refusal :=
  .next (aluRR k (wordOf (.mulh k d a b)) d a b mulHS s)

/-- MULHU (R112): Unsigned high product. -/
def execMulhu (k : CoreId) (d a b : BitVec 5) (s : State) : Host.Outcome State Fault Refusal :=
  .next (aluRR k (wordOf (.mulhu k d a b)) d a b mulHU s)

/-- MULW (R112): 32-bit product, sign-extended. -/
def execMulw (k : CoreId) (d a b : BitVec 5) (s : State) : Host.Outcome State Fault Refusal :=
  .next (aluRR k (wordOf (.mulw k d a b)) d a b (on32 (· * ·)) s)

/-- DIV (R113): Signed 64-bit divide, which never traps. -/
def execDiv (k : CoreId) (d a b : BitVec 5) (s : State) : Host.Outcome State Fault Refusal :=
  .next (aluRR k (wordOf (.div k d a b)) d a b divS s)

/-- DIVU (R113): Unsigned 64-bit divide. -/
def execDivu (k : CoreId) (d a b : BitVec 5) (s : State) : Host.Outcome State Fault Refusal :=
  .next (aluRR k (wordOf (.divu k d a b)) d a b divU s)

/-- REM (R113): Signed 64-bit remainder. -/
def execRem (k : CoreId) (d a b : BitVec 5) (s : State) : Host.Outcome State Fault Refusal :=
  .next (aluRR k (wordOf (.rem k d a b)) d a b remS s)

/-- REMU (R113): Unsigned 64-bit remainder. -/
def execRemu (k : CoreId) (d a b : BitVec 5) (s : State) : Host.Outcome State Fault Refusal :=
  .next (aluRR k (wordOf (.remu k d a b)) d a b remU s)

/-- DIVW (R113): Signed 32-bit divide. -/
def execDivw (k : CoreId) (d a b : BitVec 5) (s : State) : Host.Outcome State Fault Refusal :=
  .next (aluRR k (wordOf (.divw k d a b)) d a b (on32 divS) s)

/-- DIVUW (R113): Unsigned 32-bit divide. -/
def execDivuw (k : CoreId) (d a b : BitVec 5) (s : State) : Host.Outcome State Fault Refusal :=
  .next (aluRR k (wordOf (.divuw k d a b)) d a b (on32 divU) s)

/-- REMW (R113): Signed 32-bit remainder. -/
def execRemw (k : CoreId) (d a b : BitVec 5) (s : State) : Host.Outcome State Fault Refusal :=
  .next (aluRR k (wordOf (.remw k d a b)) d a b (on32 remS) s)

/-- REMUW (R113): Unsigned 32-bit remainder. -/
def execRemuw (k : CoreId) (d a b : BitVec 5) (s : State) : Host.Outcome State Fault Refusal :=
  .next (aluRR k (wordOf (.remuw k d a b)) d a b (on32 remU) s)

end Sys2Proof.Machine
end

