-- ==== Sys2Proof/Machine/Power.lean ====
section
/-! DEFINITION. Power states and clocks (16_power_clocks.md): the CCLK source, operating points, power domains, sleep entry and
wake, and the temperature and supply measurement. -/

namespace Sys2Proof.Machine

/-- A refusal of a clock or power register's write (R450). -/
def pwrErr (s : State) (code off : Nat) : State :=
  recordErr s F.PWR_ERR_VALID [(F.PWR_ERR_CODE, code), (F.PWR_ERR_OFFSET, off % 4096)]

/-- No XSP frame is in progress (R436). -/
def xspIdle (s : State) : Bool := !s.flag (F.XSP_STATUS_FRAME 0) && !s.flag (F.XSP_STATUS_FRAME 1)

def anyScanning (s : State) : Bool := (List.range 4).any (fun p => s.pstate p == psScanning)

/-! ## The CCLK source (R428–R431) -/

/-- A write of SYS_CLK_CTL (R429). -/
def clkWrite (s : State) (src : Bool) : State :=
  if src && !s.flag F.SYS_CLK_STAT_PLL_LOCK then pwrErr s prNotLocked 0
  else (s.putFlag F.SYS_CLK_CTL_SRC src).putFlag F.SYS_CLK_STAT_SWITCHING (src != s.flag F.SYS_CLK_STAT_SRC)

/-- CLOCK_SOURCE_WRITE (R429). -/
def execClockSourceWrite (src : Bool) (s : State) : Host.Outcome State Fault Refusal := .next (clkWrite s src)

/-- CLOCK_SOURCE_SWITCH (R429, R436): the switch takes effect once every frame has ended and no OPP change runs. The first cycle
from the PLL carries a timebase pulse. -/
def execClockSourceSwitch (s : State) : Host.Outcome State Fault Refusal :=
  let src := s.flag F.SYS_CLK_CTL_SRC
  if s.flag F.SYS_CLK_STAT_SWITCHING && xspIdle s && !s.flag F.PWR_OPP_STAT_BUSY && (!src || s.flag F.SYS_CLK_STAT_PLL_LOCK) then
    let s := (s.put F.SYS_CLK_STAT_SWITCHING 0).putFlag F.SYS_CLK_STAT_SRC src
    .next (if src then { s with time := s.time + 1 } else s)
  else .next s

/-- PLL_LOCK (R428): the PLL runs from the release of reset while EN is 1, and not in a sleep state that switches it off. The boot
ROM, if it still runs, goes over to it (R501). -/
def execPllLock (s : State) : Host.Outcome State Fault Refusal :=
  let on := s.flag F.SYS_PLL_CTL_EN && s.boot.inReset.isNone && s.dev != dsOff && !(s.dev == dsSleep && s.pwr.mode != slDoze)
  let rom (s : State) : State := if s.dev = dsBoot ∧ (s.core 256).run ≠ .reset then romClock s else s
  .next (if on then rom (s.put F.SYS_CLK_STAT_PLL_LOCK 1) else s)

/-- CCLK falls back from the PLL to HFRC (R431): the timebase stops, a scanning partition makes it a voiding event, and in a
convoy the member's alignment fails. -/
def clockFallback (s : State) (void : Nat) : State :=
  let s := (s.put F.SYS_CLK_STAT_SRC 0).put F.SYS_CLK_STAT_SWITCHING 0
  let s := if anyScanning s then voidReport s void .device else s
  if s.role = roleIdle then s
  else
    let was := (s.flag F.CVY_ALIGN_LOCKED, s.flag F.CVY_ALIGN_FAULT)
    let s := { (s.put F.CVY_ALIGN_LOCKED 0).put F.CVY_ALIGN_FAULT 1 with cvy := { s.cvy with lockRun := 0 } }
    goShoulder (if was ≠ (false, true) then pulse s 267 else s) scAlign 0

/-- PLL_LOCK_LOSS (R431). -/
def execPllLockLoss (s : State) : Host.Outcome State Fault Refusal :=
  if !s.flag F.SYS_CLK_STAT_PLL_LOCK then .next s
  else
    let s := s.put F.SYS_CLK_STAT_PLL_LOCK 0
    if s.flag F.SYS_CLK_STAT_SRC then
      let s := (s.put F.SYS_CLK_STAT_LOCK_LOST 1).put F.PWR_IRQ_LOCK_LOST 1
      .next (clockFallback (logEvent s 9 prLockLost 0) 0x11)
    else .next s

/-- CLOCK_MONITOR_FAULT (R431). -/
def execClockMonitorFault (s : State) : Host.Outcome State Fault Refusal :=
  if s.flag F.SYS_CLK_STAT_SRC then
    let s := (s.put F.SYS_CLK_STAT_MON_FAULT 1).put F.PWR_IRQ_CLK_MON 1
    .next (clockFallback (logEvent s 9 prClockMon 0) 0x0A)
  else .next s

/-- XTAL_OK (R430). -/
def execXtalOk (s : State) : Host.Outcome State Fault Refusal := .next (s.put F.SYS_AON_CFG_XTAL_OK 1)

/-- A write of SYS_PLL_CTL (R450): EN = 0 is refused while CCLK runs from the PLL. -/
def pllWrite (s : State) (v : Word) : State :=
  if bitsOf v 31 31 = 0 ∧ s.flag F.SYS_CLK_STAT_SRC then pwrErr s prBusy 8
  else
    let s := genericWrite s A.SYS_PLL_CTL v
    if bitsOf v 31 31 = 0 then s.put F.SYS_CLK_STAT_PLL_LOCK 0 else s

/-! ## Operating points (R432–R436) -/

/-- The least VID of a point (R432). -/
def vidMin (k : Nat) : Nat :=
  match k with
  | 0 => 15
  | 1 => 22
  | 2 => 30
  | _ => 40

def oppCur (s : State) : Nat := s.get F.PWR_OPP_STAT_CUR
def oppTarget (s : State) : Nat := s.get F.PWR_OPP_CTL_TARGET

/-- VID changes to that of the target; VRDY is awaited (PHASE 1). -/
def oppVid (s : State) : State :=
  (s.put F.PWR_OPP_STAT_VID (s.get (F.PWR_VID_OPP_VID (oppTarget s)))).put F.PWR_OPP_STAT_PHASE 1

def oppEnd (s : State) : State :=
  ((s.put F.PWR_OPP_STAT_BUSY 0).put F.PWR_OPP_STAT_PHASE 0).put F.PWR_IRQ_OPP_DONE 1

/-- A write of PWR_OPP_CTL.TARGET (R433): a raise, and a change to the point in use, change VID first; a lower waits for the
divider. While CCLK runs from HFRC no divider switches, and a lower is in use at once. -/
def oppChange (s : State) (t : Nat) : State :=
  if s.flag F.PWR_OPP_STAT_BUSY then pwrErr s prBusy 0
  else
    let s := (s.put F.PWR_OPP_CTL_TARGET t).put F.PWR_OPP_STAT_BUSY 1
    if oppCur s ≤ t then oppVid s
    else if s.flag F.SYS_CLK_STAT_SRC then s.put F.PWR_OPP_STAT_PHASE 2
    else oppVid (s.put F.PWR_OPP_STAT_CUR t)

/-- OPP_CHANGE (R433). -/
def execOppChange (t : BitVec 2) (s : State) : Host.Outcome State Fault Refusal := .next (oppChange s t.toNat)

/-- VRDY_CONFIRM (R433): a raise goes on to its divider switch; every other change ends. -/
def execVrdyConfirm (s : State) : Host.Outcome State Fault Refusal :=
  if s.flag F.PWR_OPP_STAT_BUSY && s.get F.PWR_OPP_STAT_PHASE == 1 then
    if oppCur s < oppTarget s then
      if s.flag F.SYS_CLK_STAT_SRC then .next (s.put F.PWR_OPP_STAT_PHASE 2)
      else .next (oppEnd (s.put F.PWR_OPP_STAT_CUR (oppTarget s)))
    else .next (oppEnd s)
  else .next s

/-- DIVIDER_SWITCH (R433, R436): at a timebase pulse once every XSP frame has ended. A raise ends; a lower changes VID next. -/
def execDividerSwitch (s : State) : Host.Outcome State Fault Refusal :=
  if s.get F.PWR_OPP_STAT_PHASE == 2 && xspIdle s then
    let raise := decide (oppCur s < oppTarget s)
    let s := s.put F.PWR_OPP_STAT_CUR (oppTarget s)
    .next (if raise then oppEnd s else oppVid s)
  else .next s

/-- VRDY_TIMEOUT (R435). -/
def execVrdyTimeout (s : State) : Host.Outcome State Fault Refusal :=
  if s.flag F.PWR_OPP_STAT_BUSY && s.get F.PWR_OPP_STAT_PHASE == 1 then
    .next (logEvent ((oppEnd s).put F.PWR_IRQ_VRDY_TO 1) 9 prVrdyTimeout 0)
  else .next s

/-- A write of PWR_VID (R434). -/
def vidWrite (s : State) (v : Nat) : State :=
  let low := v < vidMin (oppCur s) ∨ (!s.flag F.SYS_CLK_STAT_SRC ∧ v < s.get (F.PWR_VID_OPP_VID 0))
  if low then pwrErr s prVidLow 0x20
  else if 40 < v then pwrErr s prRange 0x20
  else if s.flag F.PWR_OPP_STAT_BUSY then pwrErr s prBusy 0x20
  else (s.put F.PWR_VID_VID v).put F.PWR_OPP_STAT_VID v

/-- VID_WRITE (R434). -/
def execVidWrite (v : BitVec 32) (s : State) : Host.Outcome State Fault Refusal := .next (vidWrite s (v.toNat % 64))

/-! ## Domains (R437, R438) -/

def fabInUse (s : State) (q : Nat) : Bool :=
  s.bitAt F.WPT_PART_MAP_EN q ||
  (enabledLanes s).any (fun l => (laneSender l < 256 && laneSender l / 64 == q) || (laneDst s l < 256 && laneDst s l / 64 == q))

def anaInUse (s : State) : Bool :=
  (List.range 32).any (fun i => sliceMode s i != 0) || s.flag F.ADC_REF_EN || s.flag F.CAL_STATUS_BUSY

def linkInUse (s : State) : Bool := s.role != roleIdle || [0, 1, 2].any (fun j => s.flag (F.CVY_PORT_CTL_EN j))

/-- The contents of quadrant q's SRAMs and receive stores are lost (R438). -/
def fabLost (s : State) (q : Nat) : State :=
  let s := s.eraseBytes (0x20000000 + 0x400000 * q) 0x400000
  let mine (k : Nat) : Bool := decide (64 * q ≤ k ∧ k < 64 * q + 64)
  { s with ecc := s.ecc.filter (fun e =>
             !((e.1 / 2 ^ 40 == memTile && decide (0x20000000 + 0x400000 * q ≤ 8 * (e.1 % 2 ^ 40) ∧
                8 * (e.1 % 2 ^ 40) < 0x20400000 + 0x400000 * q)) || (e.1 / 2 ^ 40 == memStore && mine (e.1 % 2 ^ 40 / 512)))),
           cores := s.cores.filter (fun e => !mine e.1),
           mesh := { s.mesh with store := s.mesh.store.filter (fun e => !mine (e.1 / 512)),
                                       poison := s.mesh.poison.filter (fun e => !mine (e.1 / 512)) } }

/-- While ANA is off the ADC and CAL registers hold their reset values (R438). -/
def anaLost (s : State) : State :=
  let s := if s.adc.commit = 8 then setBank s 8 fsIdle else s
  { s.resetRegs (fun a => inBlock 0x40070000 a || inBlock 0x40120000 a) with adc := State.reset.adc }

/-- A write of PWR_DOM_CTL (R438): refused whole when a domain it switches off is in use. -/
def domWrite (s : State) (v : Word) : State :=
  let offs (q : Nat) : Bool := bitsOf v q q == 1 && !s.bitAt F.PWR_DOM_CTL_FAB_OFF q
  let ana := bitsOf v 5 5 == 1 && !s.flag F.PWR_DOM_CTL_ANA_OFF
  let link := bitsOf v 6 6 == 1 && !s.flag F.PWR_DOM_CTL_LINK_OFF
  if (List.range 4).any (fun q => offs q && fabInUse s q) || (ana && anaInUse s) || (link && linkInUse s) then
    pwrErr s prInUse 0x30
  else
    let s := genericWrite s A.PWR_DOM_CTL v
    let s := (List.range 4).foldl (fun s q => if offs q then (fabLost s q).putBit F.PWR_DOM_STAT_FAB q false else s) s
    let s := if ana then (anaLost s).put F.PWR_DOM_STAT_ANA 0 else s
    if link then s.put F.PWR_DOM_STAT_LINK 0 else s

/-- DOMAIN_CONTROL (R438). -/
def execDomainControl (v : BitVec 32) (s : State) : Host.Outcome State Fault Refusal := .next (domWrite s (v.setWidth 64))

/-- DOMAIN_READY (R438): domain 0–3 is FABq, 4 ANA, 5 LINK; one that is switched on has ramped, a FAB domain is zeroed, and ANA
loads its coefficients. -/
def execDomainReady (d : Fin 6) (s : State) : Host.Outcome State Fault Refusal :=
  .next (match d.val with
    | 4 => if s.flag F.PWR_DOM_CTL_ANA_OFF then s else s.put F.PWR_DOM_STAT_ANA 1
    | 5 => if s.flag F.PWR_DOM_CTL_LINK_OFF then s else s.put F.PWR_DOM_STAT_LINK 1
    | q => if s.bitAt F.PWR_DOM_CTL_FAB_OFF q then s else s.putBit F.PWR_DOM_STAT_FAB q true)

/-! ## Sleep entry (R439–R443) -/

/-- A wake source that is a level and is active: the host's chip select, and a watched pin's event not yet cleared (DEDUCED, log 47). -/
def wakeActive (s : State) : Bool :=
  (wakeEnabled s 5 && s.host.isOpen) ||
  (wakeEnabled s 3 && (List.range 320).any (fun n =>
    s.flag (F.PIN_CFG_WAKE n) && s.flag (F.PIN_CFG_EVEN n) && s.flag (F.PIN_EVCFG_PEND (s.get (F.PIN_CFG_EVLINE n)))))

/-- A request for a sleep state (R439): the power controller's own checks, the shoulder of a voter or standby, and the start of
the handshake. -/
def sleepRequest (s : State) (st : Nat) (host : Bool) : State :=
  if s.dev ≠ dsHold ∧ s.dev ≠ dsService then hsRecord s prState 0 host
  else if s.flag F.PWR_OPP_STAT_BUSY ∨ s.pwr.hs.isSome then hsRecord s prBusy 0 host
  else if st ≠ slDoze ∧ s.get F.PWR_WAKE_EN_EN = 0 then hsRecord s prNoWake 0 host
  else if wakeActive s then hsRecord s prWakePending 0 host
  else
    let s := goShoulder s scCommand 0
    { s.put F.PWR_HS_STAT_BUSY 1 with
      pwr := { s.pwr with hs := some { target := st, acked := [], delayed := [], host := host } } }

/-- A write of PWR_SLEEP_CTL. -/
def sleepCtlWrite (s : State) (v : Word) : State :=
  let st := bitsOf v 1 0
  if st = 0 then pwrErr s prRange 0x40
  else
    let s := s.put F.PWR_SLEEP_CTL_STATE st
    if bitsOf v 31 31 = 1 then sleepRequest s st false else s

/-- SLEEP_REQUEST (R439). -/
def execSleepRequest (st : BitVec 2) (s : State) : Host.Outcome State Fault Refusal :=
  .next (sleepCtlWrite s (BitVec.ofNat 64 (2 ^ 31 + st.toNat)))

/-- What a block answers (R440), by its code in PWR_HS_STAT.BLOCK. -/
inductive HsAnswer where
  | ack
  | delay
  | refuse (code : Nat)
  deriving DecidableEq, Repr

def hsRefuseIf (b : Bool) (code : Nat) : HsAnswer := if b then .refuse code else .ack
def hsDelayIf (b : Bool) : HsAnswer := if b then .delay else .ack

def inServiceAny (s : State) : Bool := !s.service.isEmpty || (List.range 4).any (fun k => s.flag (F.ICU_LATCH_VALID k))

def hsAnswer (s : State) (st b : Nat) : HsAnswer :=
  match b with
  | 1 => hsRefuseIf (flashBusy s) prFlashBusy
  | 2 => hsRefuseIf (xspBusy s 0) prXspBusy
  | 3 => hsRefuseIf (xspBusy s 1) prXspBusy
  | 4 => hsRefuseIf (st != slDoze && (List.range 128).any (fun e => engShown s e == esWaiting || engShown s e == esRunning)) prEngines
  | 5 => hsRefuseIf (st != slDoze && inServiceAny s) prInService
  | 6 =>
    if (List.range 16).any (fun g => s.flag (F.DMA_CTL_EN g)) then .refuse prDmaBusy
    else hsDelayIf (s.adc.slices.any (fun e => !e.2.ringq.isEmpty))
  | 7 => hsDelayIf (s.adc.slices.any (fun e => e.2.conv.isSome))
  | 8 => hsDelayIf (inConvoy s || [0, 1, 2].any (fun j => (s.link j).queue.any (fun f => f.ty == ftShoulder)))
  | 9 => hsRefuseIf (s.flag F.LAY_PREP_BUSY) prLaybyBusy
  | 10 => hsRefuseIf (s.cores.any (fun e => e.2.halted)) prDebug
  | 11 => hsDelayIf s.host.isOpen
  | _ => .ack

/-- Registers of the AON domain, and what the wake logic watches (R341, R437, R443). -/
def aonReg (a : Nat) : Bool :=
  a == A.HW_STATE || a == A.HW_RESET_CAUSE || a == A.HW_WAKE_CAUSE || a == A.HW_POWER_STATE || a == A.HW_BOOT_CFG ||
  a == A.HW_LAYBY_STATUS || a == A.SYS_AON_CFG || a == A.PWR_AON_CNT || a == A.PWR_AON_CMP || a == A.PWR_SLEEP_TIME ||
  a == A.PWR_WAKE_EN || a == A.PWR_RETAIN || a == A.WDG_LADDER || inBlock 0x400F0000 a ||
  [0, 1, 2].any (fun j => a == A.CVY_PORT_CTL j)

/-- The ICU state that R354 saves. -/
def icuKept (a : Nat) : Bool :=
  inBlock 0x40040000 a && (decide (a % 65536 < 0x1100) || decide (0x1300 ≤ a % 65536 ∧ a % 65536 < 0x1340) ||
    (decide (0x2000 ≤ a % 65536 ∧ a % 65536 < 0x2080) && a % 32 == 0))

/-- The pins with WAKE = 1, and PIN_CFG with the fields that R341 keeps; EVEN stands while the wake logic watches (R335), and the wake
clears it. -/
def wakePins (s : State) : List Nat := (List.range 320).filter (fun n => s.flag (F.PIN_CFG_WAKE n))
def wakeCfg (s : State) (n : Nat) : Word :=
  let v := withBits (regReset (A.PIN_CFG n)) 8 8 1
  let v := withBits v (F.PIN_CFG_PULL n).hi (F.PIN_CFG_PULL n).lo (s.get (F.PIN_CFG_PULL n))
  let v := withBits v (F.PIN_CFG_EVLINE n).hi (F.PIN_CFG_EVLINE n).lo (s.get (F.PIN_CFG_EVLINE n))
  withBits v 15 15 (s.get (F.PIN_CFG_EVEN n))

/-- The watched lines after the wake: no pin feeds them until firmware says so. -/
def wakeLines (s : State) : State :=
  let s := (wakePins s).foldl (fun s n =>
    let k := s.get (F.PIN_CFG_EVLINE n)
    ((s.put (F.PIN_CFG_EVEN n) 0).put (F.PIN_EVCFG_CONFLICT k) 0).put (F.PIN_EVCFG_PIN k) 0x1FF) s
  { s with pads := { s.pads with evPrev := [] } }

/-- A depot bank that PWR_RETAIN does not name (R156). -/
def bankLost (s : State) (a : Nat) : Bool := inDepot a && !s.bitAt F.PWR_RETAIN_BANKS ((a - 0x10000000) / 0x100000)

/-- Steps 1–4 of R443 for NAP and HIBERNATE: OPP0, the retention registers, and the loss of every domain of R437. Flash keeps its
contents; a suspended erase is abandoned (R378). What the header of a layby save names, the image digest and the member number, outlives
the sleep (R459, R461). -/
def powerDown (s : State) (nap : Bool) : State :=
  let b := State.reset
  let lock := nap && s.flag F.SYS_CLK_STAT_PLL_LOCK
  let ps := wakePins s
  let t : State := { b with
    regs := s.regs.filter (fun e => aonReg e.1)
    rwl := s.rwl.filter (fun e => aonReg (e.1 / 64))
    mem := s.mem.filter (fun e => !(inTiles e.1 || bankLost s e.1))
    ecc := s.ecc.filter (fun e => e.1 / 2 ^ 40 == memDepot && !bankLost s (8 * (e.1 % 2 ^ 40)))
    time := s.time
    pads := { s.pads with
      evPrev := s.pads.evPrev.filter (fun e => ps.any (fun n => s.get (F.PIN_CFG_EVLINE n) == e.1)), sw := [], was := [] }
    flash := { s.flash with eng := [], buf := [], pend := [], move := none }
    lay := { s.lay with scBusy := false, prepSlot := none, restore := none }
    pwr := { s.pwr with keep := s.regs.filter (fun e => icuKept e.1), keepTime := s.time }
    boot := { b.boot with digest := s.boot.digest, image := s.boot.image, zeroing := [] }
    free := s.free
    pending := s.pending }
  let t := ps.foldl (fun t n =>
    (t.setReg (A.PIN_CFG n) (wakeCfg s n)).setReg (A.PIN_EVCFG (s.get (F.PIN_CFG_EVLINE n)))
      (s.reg (A.PIN_EVCFG (s.get (F.PIN_CFG_EVLINE n))))) t
  let t := t.put F.CVY_CFG_MEMBER s.pads.mid.toNat
  if lock then t.put F.SYS_CLK_STAT_PLL_LOCK 1 else t

/-- The entry commits (R443). A host SLEEP completes without CMD_DONE (R422). -/
def sleepCommit (s : State) (h : Handshake) : State :=
  let s := s.put F.PWR_HS_STAT_BUSY 0
  let s := if h.host then ((s.put F.HW_CMD_BUSY 0).put F.HW_CMD_FW 0).put F.HW_CMD_RESULT_RESULT 0 else s
  let s := aonCount s
  let s := { s with pwr := { s.pwr with hs := none, before := s.dev, mode := h.target, waking := false,
                                        aonAt := (s.reg A.PWR_AON_CNT).setWidth 32 } }
  let s := s.put F.HW_STATE_STATE dsSleep
  if h.target = slDoze then s else powerDown s (h.target == slNap)

/-- HANDSHAKE_ANSWER (R440, R441, R443): block b (R440's table by its code) answers. -/
def execHandshakeAnswer (b : Fin 11) (s : State) : Host.Outcome State Fault Refusal :=
  match s.pwr.hs with
  | none => .next s
  | some h =>
    if h.acked.contains (b.val + 1) then .next s
    else
      match hsAnswer s h.target (b.val + 1) with
      | .refuse c => .next (hsRefuse s c (b.val + 1) h.host)
      | .delay =>
        let d := if h.delayed.contains (b.val + 1) then h.delayed else (b.val + 1) :: h.delayed
        .next { s with pwr := { s.pwr with hs := some { h with delayed := d } } }
      | .ack =>
        let h := { h with acked := (b.val + 1) :: h.acked }
        .next (if h.acked.length = 11 then sleepCommit s h else { s with pwr := { s.pwr with hs := some h } })

/-- HANDSHAKE_TIMEOUT (R441): block b has not answered by its deadline. -/
def execHandshakeTimeout (b : Fin 11) (s : State) : Host.Outcome State Fault Refusal :=
  match s.pwr.hs with
  | none => .next s
  | some h => .next (if h.acked.contains (b.val + 1) then s else hsRefuse s prTimeout (b.val + 1) h.host)

/-! ## Wake (R444–R447) -/

/-- WAKE_SOURCE (R445): source b registers; a pin source names its event line, fed by a watched pin. -/
def execWakeSource (b : Fin 7) (line : BitVec 6) (s : State) : Host.Outcome State Fault Refusal :=
  .next (wakeSource s b line.toNat)

/-- LINK_ACTIVITY_WAKE (R244): activity on port j while the LINK domain is off and the port is watched. Seen while awake it
pulses source 270. -/
def execLinkActivityWake (j : Fin 3) (s : State) : Host.Outcome State Fault Refusal :=
  let off := !s.flag F.PWR_DOM_STAT_LINK || (s.dev == dsSleep && s.pwr.mode != slDoze)
  if off && s.flag (F.CVY_PORT_CTL_WAKE_EN j) then
    .next (wakeSource (if s.dev = dsSleep then s else pulse s 270) j 0)
  else .next s

/-- AON_TIMER_MATCH (R445): PWR_AON_CNT has reached PWR_AON_CMP. -/
def execAonTimerMatch (s : State) : Host.Outcome State Fault Refusal :=
  let s := s.setReg A.PWR_AON_CNT (s.reg A.PWR_AON_CMP)
  let s := if s.dev = dsSleep ∧ s.pwr.mode ≠ slDoze then s else s.put F.PWR_IRQ_AON_CMP 1
  .next (wakeSource s 4 0)

/-- WAKE_RAMP_DONE (R447). The register file restarts from its reset values and the retention registers; FAB, ANA and LINK stay
off; SC0 fetches at the wake entry. -/
def wakeRamp (s : State) : State :=
  let nap := s.pwr.mode == slNap
  let ran := nap && s.flag F.SYS_CLK_STAT_PLL_LOCK
  let banks := ((List.range 16).filter (fun b => !s.bitAt F.PWR_RETAIN_BANKS b)).map (4 + ·)
  let s := s.pwr.keep.foldl (fun s e => s.setReg e.1 e.2) (s.resetRegs (fun a => a == A.PWR_WAKE_EN ||
    [0, 1, 2].any (fun j => a == A.CVY_PORT_CTL j)))
  let s := (s.setReg A.PWR_DOM_CTL 0x6F).setReg A.PWR_DOM_STAT 0
  let s := (s.put F.HW_STATE_STATE dsBoot).put F.HW_RESET_CAUSE_WAKE 1
  let s := (((s.putFlag F.HW_REV_HMODE s.pads.hmode).put F.HW_REV_MEMBER s.pads.mid.toNat).put F.CVY_CFG_MEMBER s.pads.mid.toNat)
  let s := { s with
    time := if ran then s.time else s.pwr.keepTime
    pwr := { s.pwr with mode := 0, waking := false, nvmOff := !nap, keep := [] }
    boot := { s.boot with zeroing := banks, scanned := true } }
  let s := startCore (refreshAll (wakeLines s)) 256 (Config.wakeEntry &&& ~~~3#40)
  if nap then flashScan s else s

/-- WAKE_RAMP_DONE (R447). -/
def execWakeRampDone (s : State) : Host.Outcome State Fault Refusal :=
  .next (if s.dev == dsSleep && s.pwr.waking then wakeRamp s else s)

/-- NVM_WAKE_DONE (R447): flash serves reads; an abandoned erase is listed pending (R378). -/
def execNvmWakeDone (s : State) : Host.Outcome State Fault Refusal :=
  .next (if s.pwr.nvmOff then flashScan { s with pwr := { s.pwr with nvmOff := false } } else s)

/-! ## The TMP block (R448, R451, R528) -/

/-- TEMP_MEASURE: a measurement of the junction temperature in 1/16 °C, VCORE in mV, VHOLD in 2 mV and the VRDY level. Where
VDDA is looked at the spec does not say (R65, R528): whether it is inside its window is a free value of the measurement (DESIGN
CHOICE, log 60). -/
def tempMeasure (s : State) (temp : BitVec 16) (vcore vhold : Nat) (vrdy : Bool) : State :=
  let vdda := (s.draw 1).1
  let s := (s.draw 1).2
  let t := temp.toInt
  let warn := (BitVec.ofNat 16 (s.get F.PWR_THERM_WARN)).toInt
  let was := s.flag F.TMP_TEMP_HOT
  let hot := if was then decide (warn - 80 < t) else decide (warn ≤ t)
  let mx := (BitVec.ofNat 16 (s.get F.TMP_PEAK_MAX)).toInt
  let mn := (BitVec.ofNat 16 (s.get F.TMP_PEAK_MIN)).toInt
  let s := ((s.put F.TMP_TEMP_VALID 1).putFlag F.TMP_TEMP_HOT hot).put F.TMP_TEMP_TEMP temp.toNat
  let s := (((s.putFlag F.TMP_SUPPLY_VRDY vrdy).put F.TMP_SUPPLY_VID (s.get F.PWR_OPP_STAT_VID)).put F.TMP_SUPPLY_VHOLD vhold).put
    F.TMP_SUPPLY_VCORE vcore
  let s := if mx < t then s.put F.TMP_PEAK_MAX temp.toNat else s
  let s := if t < mn then s.put F.TMP_PEAK_MIN temp.toNat else s
  let s := if hot && !was then logEvent (s.put F.PWR_IRQ_THERM 1) 9 prThermWarn 0 else s
  let limit := decide (2000 < t ∨ t < -640)
  let s := if limit then logEvent s 9 prThermLimit 0 else s
  let nominal := 500 + 10 * s.get (F.PWR_VID_OPP_VID (oppCur s))
  if anyScanning s && (limit || vdda == 0 || decide (vcore + 20 < nominal ∨ nominal + 40 < vcore)) then voidReport s 0x0A .device else s

/-- TEMP_MEASURE (R451). -/
def execTempMeasure (temp : BitVec 16) (vcore vhold : BitVec 12) (vrdy : Bool) (s : State) : Host.Outcome State Fault Refusal :=
  if s.boot.inReset.isSome ∨ s.dev = dsOff ∨ s.dev = dsLayby ∨ s.dev = dsSleep then .next s
  else .next (tempMeasure s temp vcore.toNat vhold.toNat vrdy)

/-- PEAK_CLR (R451). -/
def peakClr (s : State) : State := s.setReg A.TMP_PEAK (regReset A.TMP_PEAK)

/-- PEAK_CLR (R451). -/
def execPeakClr (s : State) : Host.Outcome State Fault Refusal := .next (peakClr s)

/-! ## Register writes -/

/-- A write of a PWR register (R432–R435, R438, R439). -/
def pwrRegWrite (s : State) (a : Nat) (v : Word) : State :=
  let off := a % 65536
  if a = A.PWR_OPP_CTL then oppChange s (bitsOf v 1 0)
  else if 0x10 ≤ off ∧ off < 0x20 then
    (if bitsOf v 5 0 < vidMin ((off - 0x10) / 4) ∨ 40 < bitsOf v 5 0 then pwrErr s prRange off else genericWrite s a v)
  else if a = A.PWR_VID then vidWrite s (bitsOf v 5 0)
  else if a = A.PWR_VRDY_CFG then (if bitsOf v 11 0 < 4 then pwrErr s prRange off else genericWrite s a v)
  else if a = A.PWR_DOM_CTL then domWrite s v
  else if a = A.PWR_SLEEP_CTL then sleepCtlWrite s v
  else if a = A.PWR_HS_CFG then (if bitsOf v 15 0 = 0 then pwrErr s prRange off else genericWrite s a v)
  else genericWrite s a v

end Sys2Proof.Machine
end

