-- ==== Sys2Proof/Machine/Wdg.lean ====
section
/-! DEFINITION. Milestone watchdogs (18_watchdogs.md): instances, the window, milestones and tokens, the ledger, faults and the
ladder. -/

namespace Sys2Proof.Machine

/-- Who may write instance i (R469): SCi, or any service core for a partition's instance. -/
def wdgWriter (i : Agent) (w : Nat) : Bool :=
  match i with
  | .sc k => decide (4 ≤ w) || k.val == w
  | _ => false

/-! ## Question, signature and ledger (R475–R478) -/

def nextQuestion (q : BitVec 16) : BitVec 16 :=
  let fb := (q.getLsbD 15 ^^ q.getLsbD 13) ^^ (q.getLsbD 12 ^^ q.getLsbD 10)
  (q <<< 1) ||| (if fb then 1 else 0)

def sigBit (c : BitVec 16) : BitVec 16 := if c.getLsbD 15 then (c <<< 1) ^^^ 0x1021 else c <<< 1

def sigUpdate (c : BitVec 16) (id : Byte) : BitVec 16 :=
  (List.range 8).foldl (fun c _ => sigBit c) (c ^^^ (id.setWidth 16 <<< 8))

def wdgQuestion (s : State) (i : Nat) : BitVec 16 := BitVec.ofNat 16 (s.get (F.WDG_QUESTION_QUESTION i))

/-- The expected token (R477). -/
def wdgExpected (s : State) (i : Nat) : BitVec 16 :=
  let q := wdgQuestion s i
  q.rotateLeft (q.toNat % 16) ^^^ (s.wdog i).sig

def ledgerEntries : List Nat := List.range 16

/-- The lowest-numbered enabled entry that does not match (R478). -/
def ledgerBad (s : State) (i : Nat) : Option Nat :=
  ledgerEntries.find? (fun n => s.flag (F.WDG_LEDGER_EN i n) && s.get (F.WDG_LEDGER_ACTUAL i n) != s.get (F.WDG_LEDGER_EXPECT i n))

/-- A check-in (R476, R478); it is ignored while the instance is off. -/
def wdgMilestone (s : State) (i : Nat) (id : Byte) : State :=
  if !wdgOn s i then s
  else
    let x := s.wdog i
    let s := s.setWdog i { x with sig := sigUpdate (if x.fresh then 0xFFFF else x.sig) id, fresh := false }
    let hit (n : Nat) : Bool := s.flag (F.WDG_LEDGER_EN i n) && s.get (F.WDG_LEDGER_ID i n) == id.toNat
    if ledgerEntries.any hit then
      (ledgerEntries.filter hit).foldl (fun s n => s.addSat (F.WDG_LEDGER_ACTUAL i n) 1) s
    else s.put (F.WDG_STAT_UNLISTED i) 1

/-! ## Faults and the ladder (R479–R484) -/

def wcExpiry : Nat := 1
def wcEarly : Nat := 2
def wcToken : Nat := 3
def wcLedger : Nat := 4
def wcClock : Nat := 5

/-- SCi restarts at the TVEC reset address: its registers, store buffer and caches as at reset; its halt ends; the ICU ends its
sources' service and drops its latch (R481, R517). -/
def restartSc (s : State) (k : Nat) : State :=
  let s := startCore s (256 + k) 0xF0000000
  let s := s.onCore (256 + k) (fun c => c.setD 0x204 (withBits (c.dreg 0x204) 23 20 0))
  { (s.put (F.ICU_LATCH_VALID k) 0).put (F.ICU_LATCH_ID k) 0 with
    service := s.service.filter (fun e => e.2 != k + 1)
    withdrawn := s.withdrawn.write noB' k false }

/-- The stage of a fault (R480). -/
def wdgStage (s : State) (i cause : Nat) : Nat :=
  let two := s.flag (F.WDG_STAT_FAULTED i) || (cause == wcClock && !s.flag (F.WDG_CTL_CLKSEL i))
  if !two then 1 else if s.get F.WDG_LADDER_COUNT = s.get F.WDG_LADDER_LIMIT then 3 else 2

/-- WDG_FAULT and WDG_FAULT_SIG take the first fault (R479). -/
def wdgRecord (s : State) (i cause stage : Nat) (expected written : BitVec 16) : State :=
  if s.flag (F.WDG_FAULT_VALID i) then s
  else
    let s := ((s.put (F.WDG_FAULT_VALID i) 1).put (F.WDG_FAULT_CAUSE i) cause).put (F.WDG_FAULT_STAGE i) stage
    let s := (s.put (F.WDG_FAULT_SIG_EXPECTED i) expected.toNat).put (F.WDG_FAULT_SIG_WRITTEN i) written.toNat
    let s := ((s.put (F.WDG_FAULT_UNLISTED i) 0).put (F.WDG_FAULT_ENTRY i) 0).put (F.WDG_FAULT_EXPECT i) 0
    let s := (s.put (F.WDG_FAULT_ACTUAL i) 0).put (F.WDG_FAULT_ID i) 0
    if cause ≠ wcLedger then s
    else
      match ledgerBad s i with
      | some n =>
        (((s.put (F.WDG_FAULT_ENTRY i) n).put (F.WDG_FAULT_EXPECT i) (s.get (F.WDG_LEDGER_EXPECT i n))).put
          (F.WDG_FAULT_ACTUAL i) (s.get (F.WDG_LEDGER_ACTUAL i n))).put (F.WDG_FAULT_ID i) (s.get (F.WDG_LEDGER_ID i n))
      | none => s.put (F.WDG_FAULT_UNLISTED i) 1

/-- A stage-1 action (R481). -/
def wdgStage1 (s : State) (i : Nat) : State :=
  let s := if i < 4 then restartSc s i else partitionFault s (i - 4) pfWatchdog none
  let s := (s.put (F.WDG_STAT_STAGE1 i) 1).putBit F.WDG_LADDER_STAGE1 i true
  attention (logEvent (pulse s (225 + i)) 8 1 (i - 4)) attnWdg

/-- The action of the stage (R480, R482, R483). In LAYBY a stage-3 escalation is held until the release of the reset that ends it. -/
def wdgAct (s : State) (i stage : Nat) : State :=
  match stage with
  | 1 => wdgStage1 s i
  | 2 =>
    let s := (s.addSat F.WDG_LADDER_COUNT 1).put F.WDG_LADDER_LAST2 (2 ^ i)
    raiseReset (if s.dev = dsLayby then { s with boot := { s.boot with stage := max s.boot.stage 2 } } else s) rcWdg
  | _ =>
    if s.dev = dsLayby then { s with boot := { s.boot with stage := 3 } }
    else enterRoadblock s

/-- A fault of instance i (R479). -/
def wdgFault (s : State) (i cause : Nat) (expected written : BitVec 16) : State :=
  let stage := wdgStage s i cause
  let s := wdgRestart (wdgRecord s i cause stage expected written) i
  let s := (s.put (F.WDG_STAT_UNLISTED i) 0).put (F.WDG_QUESTION_QUESTION i) (nextQuestion (wdgQuestion s i)).toNat
  wdgAct (s.put (F.WDG_STAT_FAULTED i) 1) i stage

/-- An accepted service (R473, R477, R483). -/
def wdgAccept (s : State) (i : Nat) : State :=
  let s := (wdgRestart s i).put (F.WDG_QUESTION_QUESTION i) (nextQuestion (wdgQuestion s i)).toNat
  (s.put (F.WDG_STAT_FAULTED i) 0).put F.WDG_LADDER_COUNT 0

/-- A service is judged with the count as it stands (R473, R477). -/
def wdgJudge (s : State) (i : Nat) (token : BitVec 16) : State :=
  let e := wdgExpected s i
  if s.get (F.WDG_COUNT_COUNT i) < s.get (F.WDG_OPEN_OPEN i) then wdgFault s i wcEarly e token
  else if (ledgerBad s i).isSome || s.flag (F.WDG_STAT_UNLISTED i) then wdgFault s i wcLedger e token
  else if token ≠ e then wdgFault s i wcToken e token
  else wdgAccept s i

/-- Services that reached the instance since the last step are judged in order, while the instance is on. -/
def wdgJudgeAll (s : State) (i : Nat) : List (BitVec 16) → State
  | [] => s
  | t :: ts => wdgJudgeAll (if wdgOn s i && s.dev != dsRoadblock then wdgJudge s i t else s) i ts

/-- A step of the step clock (R473). -/
def wdgStep (s : State) (i : Nat) : State :=
  if !wdgRuns s i then s
  else
    let s := s.setWdog i { s.wdog i with recent := (s.get (F.WDG_COUNT_COUNT i) :: (s.wdog i).recent).take 2 }
    match (s.wdog i).tokens with
    | t :: ts => wdgJudgeAll (s.setWdog i { s.wdog i with tokens := [] }) i (t :: ts)
    | [] =>
      let c := s.get (F.WDG_COUNT_COUNT i) + 1
      match wdgNext s i with
      | .expiry => wdgFault s i wcExpiry 0 0
      | .warn => pulse ((s.put (F.WDG_COUNT_COUNT i) c).put (F.WDG_STAT_WARN i) 1) (225 + i)
      | .count => s.put (F.WDG_COUNT_COUNT i) c

/-- WDG_STEP (R473). -/
def execWdgStep (i : Fin 8) (s : State) : Host.Outcome State Fault Refusal := .next (wdgStep s i)

/-- WDG_EARLY_WARNING (R473): the step at which the count reaches WDG_WARN. -/
def execWdgEarlyWarning (i : Fin 8) (s : State) : Host.Outcome State Fault Refusal :=
  .next (if (s.wdog i).tokens = [] ∧ wdgNext s i = .warn then wdgStep s i else s)

/-- A stage-2 fault that registers in the cycle of a reset (R484, R489): COUNT rises once in that cycle, LAST2 takes the
instance's bit, and the recorded cause is the preferred one. -/
def wdgShare (s : State) (i : Nat) : State :=
  let s := if s.get F.WDG_LADDER_LAST2 = 0 then s.addSat F.WDG_LADDER_COUNT 1 else s
  raiseReset { s.putBit F.WDG_LADDER_LAST2 i true with boot := { s.boot with wdgDue := s.boot.wdgDue.filter (· != i) } } rcWdg

/-- WDG_EXPIRY (R473): the step at which the count would pass WDG_CLOSE, also in the cycle in which a reset registers. -/
def execWdgExpiry (i : Fin 8) (s : State) : Host.Outcome State Fault Refusal :=
  .next (if s.boot.inReset.isSome ∧ i.val ∈ s.boot.wdgDue then wdgShare s i
  else if (s.wdog i).tokens = [] ∧ wdgNext s i = .expiry then wdgStep s i else s)

/-- WDG_CLOCK_STOPPED (R472): the monitor declares the step clock stopped. -/
def execWdgClockStopped (i : Fin 8) (s : State) : Host.Outcome State Fault Refusal :=
  .next (if wdgRuns s i then wdgFault s i wcClock 0 0 else s)

/-! ## Register writes -/

/-- The first write of WDG_CTL that finds a valid configuration starts and locks the instance (R470, R475). -/
def wdgStart (s : State) (i : Nat) (clk : Bool) : State :=
  let o := s.get (F.WDG_OPEN_OPEN i)
  let c := s.get (F.WDG_CLOSE_CLOSE i)
  let w := s.get (F.WDG_WARN_WARN i)
  if wdgOn s i then s
  else if ¬(1 ≤ o ∧ o ≤ c) ∨ (w ≠ 0 ∧ c < w) then s.put (F.WDG_STAT_CFG_ERR i) 1
  else
    let q := s.draw 16
    let s := ((q.2.putFlag (F.WDG_CTL_CLKSEL i) clk).put (F.WDG_CTL_ON i) 1).put (F.WDG_STAT_ON i) 1
    let s := (s.put (F.WDG_COUNT_COUNT i) 0).put (F.WDG_QUESTION_QUESTION i) (if q.1 = 0 then 0xACE1 else q.1.toNat)
    s.setWdog i (wdogReset i)

def wdgToken (s : State) (i : Nat) (v : BitVec 16) : State :=
  if wdgOn s i then s.setWdog i { s.wdog i with tokens := (s.wdog i).tokens ++ [v] } else s

/-- A write of the ladder: STAGE1 is W1C; LIMIT takes its first write after power-on, and never 0 (R483). -/
def ladderWrite (s : State) (v : Word) : State :=
  let s := s.put F.WDG_LADDER_STAGE1 (s.get F.WDG_LADDER_STAGE1 &&& (s.get F.WDG_LADDER_STAGE1 ^^^ bitsOf v 15 8))
  let key := A.WDG_LADDER * 64
  if bitsOf v 6 4 = 0 ∨ s.rwl.read noB' key then s
  else { s.put F.WDG_LADDER_LIMIT (bitsOf v 6 4) with rwl := s.rwl.write noB' key true }

/-- A write of a WDG register (R469, R470). -/
def wdgRegWrite (s : State) (i : Agent) (a : Nat) (v : Word) : State :=
  let off := a % 65536
  if a = A.WDG_LADDER then ladderWrite s v
  else if 0x800 ≤ off then s
  else
    let w := off / 0x100
    if !wdgWriter i w then s.put (F.WDG_STAT_FOREIGN w) 1
    else
      match off % 0x100 with
      | 0x00 => wdgStart s w (bitsOf v 8 8 == 1)
      | 0x14 => wdgMilestone s w (v.setWidth 8)
      | 0x18 => wdgToken s w (v.setWidth 16)
      | 0x20 => genericWrite s a v
      | 0x24 => genericWrite s a v
      | _ => if wdgOn s w then s else genericWrite s a v

/-- INSTANCE_START (R470). -/
def execInstanceStart (i : Agent) (w : Fin 8) (clk : Bool) (s : State) : Host.Outcome State Fault Refusal :=
  .next (wdgRegWrite s i (A.WDG_CTL w) (if clk then 0x100 else 0))

/-- WDG_MILESTONE (R476). -/
def execWdgMilestone (i : Agent) (w : Fin 8) (id : Byte) (s : State) : Host.Outcome State Fault Refusal :=
  .next (wdgRegWrite s i (A.WDG_MILESTONE w) (id.setWidth 64))

/-- WDG_TOKEN (R474, R477). -/
def execWdgToken (i : Agent) (w : Fin 8) (v : BitVec 16) (s : State) : Host.Outcome State Fault Refusal :=
  .next (wdgRegWrite s i (A.WDG_TOKEN w) (v.setWidth 64))

/-- WDG_COUNT as it reads: that of an instance on the WDOG oscillator lags by up to two steps (R474), by how many the spec does not
say (log 1). -/
def wdgCountRead (s : State) (i : Nat) : Word × State :=
  if wdgOn s i && s.flag (F.WDG_CTL_CLKSEL i) then
    let d := s.draw 2
    let c := s.get (F.WDG_COUNT_COUNT i)
    (BitVec.ofNat 64 ((c :: (s.wdog i).recent).getD (d.1.toNat % 3) c), d.2)
  else (s.reg (A.WDG_COUNT i), s)

/-- WDG_STAT as it reads: PAUSED while the count holds (R471). -/
def wdgStatRead (s : State) (w : Nat) : Word :=
  withBits (s.reg (A.WDG_STAT w)) 30 30 (if wdgOn s w && wdgHolds s w then 1 else 0)

end Sys2Proof.Machine
end

