-- ==== Sys2Proof/Machine/Icu.lean ====
section
/-! DEFINITION. The interrupt controller (12_interrupts.md): sources, arbitration, delivery, claim and completion. -/

namespace Sys2Proof.Machine

/-! ## Sources (R343, R345) -/

/-- Level sources, by ID. -/
def isLevel (id : Nat) : Bool :=
  decide ((1 ≤ id ∧ id ≤ 224) ∨ (233 ≤ id ∧ id ≤ 256) ∨ (289 ≤ id ∧ id ≤ 320) ∨ (449 ≤ id ∧ id ≤ 480))

/-- The bits of HST_IRQ: OUT_LOST and UNLOCK are stored, the others follow the mailboxes and HST_CMD (R427). -/
def hstIrqRead (s : State) : Word :=
  let v := withBits (s.reg A.HST_IRQ) 2 2 (if s.mbxOut.length < 16 then 1 else 0)
  let v := withBits v 1 1 (if s.mbxIn.isEmpty then 0 else 1)
  withBits v 0 0 (s.get F.HST_CMD_PENDING)

/-- The request line of a DMA channel (R28). -/
def dmaLine (s : State) (g : Nat) : Bool :=
  (s.flag (F.DMA_STAT_DONE g) && s.flag (F.DMA_CTL_IEN_DONE g)) ||
  ((s.flag (F.DMA_STAT_ERR g) || s.flag (F.DMA_STAT_MISS g)) && s.flag (F.DMA_CTL_IEN_ERR g))

/-- The request line of a level source (R28, R298, R323, R335, R381, R398, R427, R450, the LAY map). -/
def levelLine (s : State) (id : Nat) : Bool :=
  if id ≤ 128 then
    s.get (F.IOS_IEN_IEN (id - 1)) != 0 && bitsOf (iosStatRead s (id - 1)) 6 0 &&& s.get (F.IOS_IEN_IEN (id - 1)) != 0
  else if id ≤ 160 then
    s.get (F.ADC_SIEN_IEN (id - 129)) != 0 && bitsOf (sstatRead s (id - 129)) 6 0 &&& s.get (F.ADC_SIEN_IEN (id - 129)) != 0
  else if id ≤ 224 then s.flag (F.PIN_EVCFG_PEND (id - 161)) && s.flag (F.PIN_EVCFG_IEN (id - 161))
  else if 233 ≤ id ∧ id ≤ 240 then
    let b := id - 233
    s.bitAt F.FLC_IEN_IEN b && bitsOf (flcStatRead s) b b == 1
  else if 241 ≤ id ∧ id ≤ 256 then
    let x := (id - 241) / 8
    let b := (id - 241) % 8
    decide (b < 4) && s.bitAt (F.XSP_IEN_IEN x) b && bitsOf (xspStatusRead s x) b b == 1
  else if 289 ≤ id ∧ id ≤ 304 then dmaLine s (id - 289)
  else if 305 ≤ id ∧ id ≤ 308 then s.bitAt F.HST_IRQ_IEN (id - 305) && bitsOf (hstIrqRead s) (id - 305) (id - 305) == 1
  else if 449 ≤ id ∧ id ≤ 456 then s.bitAt F.PWR_IRQ_IEN (id - 449) && s.bitAt ⟨A.PWR_IRQ, 7, 0⟩ (id - 449)
  else if 465 ≤ id ∧ id ≤ 468 then s.bitAt F.LAY_IRQ_IEN (id - 465) && s.bitAt ⟨A.LAY_IRQ, 3, 0⟩ (id - 465)
  else false

/-- Whether a source is pending: a pulse's bit, or a level's line. -/
def icuPending (s : State) (id : Nat) : Bool :=
  if isLevel id then levelLine s id else s.bitAt (F.ICU_PEND_PEND (id / 32)) (id % 32)

/-! ## Arbitration (R346, R348) -/

def noService (_ : Nat) : Nat := 0
def inService (s : State) (id : Nat) : Nat := s.service.read noService id

def latchOf (s : State) (k : Nat) : Option Nat :=
  if s.flag (F.ICU_LATCH_VALID k) then some (s.get (F.ICU_LATCH_ID k)) else none

/-- Eligible for SCk, but for being latched. -/
def icuWanted (s : State) (k id : Nat) : Bool :=
  s.bitAt (F.ICU_EN_EN k (id / 32)) (id % 32) && decide (s.get (F.ICU_THR_THR k) < s.get (F.ICU_PRIO_PRIO id)) &&
  inService s id == 0 && icuPending s id

def latchedElsewhere (s : State) (k id : Nat) : Bool :=
  (List.range 4).any (fun j => j != k && latchOf s j == some id)

def eligible (s : State) (k id : Nat) : Bool := icuWanted s k id && !latchedElsewhere s k id

/-- The better of two: the higher PRIO, then the lower ID. -/
def betterId (s : State) (o : Option Nat) (id : Nat) : Option Nat :=
  match o with
  | none => some id
  | some x => if s.get (F.ICU_PRIO_PRIO x) < s.get (F.ICU_PRIO_PRIO id) then some id else some x

/-- The candidates of SC0 to SCk, in that order: a source chosen for a lower-numbered core is not eligible for a higher. -/
def candidates (s : State) : Nat → List (Option Nat)
  | 0 => []
  | k + 1 =>
    let prev := candidates s k
    prev ++ [((List.range 511).map (· + 1)).foldl
      (fun o id => if eligible s k id && !prev.contains (some id) then betterId s o id else o) none]

def candidate (s : State) (k : Nat) : Option Nat := (candidates s (k + 1)).getD k none

/-! ## Delivery and withdrawal (R349, R350) -/

def cycleCount (s : State) (k : Nat) : Nat := ((s.core (256 + k)).sreg (256 + k) srCycles).toNat

/-- The latch of SCk is dropped when its source is no longer pending, or, from cycle c + 4, no longer eligible (R350). -/
def settleOne (s : State) (k : Nat) : State :=
  match latchOf s k with
  | none => s
  | some id =>
    let late := decide (s.latchTime.read nat0 k + 4 ≤ cycleCount s k)
    if !icuPending s id || (late && !icuWanted s k id) then
      { (s.put (F.ICU_LATCH_VALID k) 0).put (F.ICU_LATCH_ID k) 0 with withdrawn := s.withdrawn.write noB' k true }
    else s

def settle (s : State) : State := (List.range 4).foldl settleOne s

/-- INTERRUPT_ENTRY (R349): at an instruction boundary with IE = 1, no access outstanding (R87), no halt pending and no debug
step. -/
def interruptEntry (s : State) (k : Nat) : State :=
  let c := s.core (256 + k)
  if !coreRuns s (256 + k) || !s.intEnabled (256 + k) || c.haltReq != 0 || c.stepping || outstanding s (256 + k) then s
  else
    match candidate s k with
    | none => s
    | some id =>
      let s := (s.put (F.ICU_LATCH_VALID k) 1).put (F.ICU_LATCH_ID k) id
      let s := { s with latchTime := s.latchTime.write nat0 k (cycleCount s k), withdrawn := s.withdrawn.write noB' k false }
      enterHandler s (256 + k) 0x40 0 0 true 0

/-- INTERRUPT_ENTRY (R349). -/
def execInterruptEntry (c : Fin 4) (s : State) : Host.Outcome State Fault Refusal := .next (interruptEntry (settle s) c)

/-! ## Claim and complete (R351–R353) -/

/-- A withdrawn claim returns 1023 (R353): outside RUN and HOLD, in a partition's recovery, or in a merge. -/
def claimSpurious (s : State) : Bool :=
  !(s.dev == dsRun || s.dev == dsHold) || (List.range 4).any (fun p => s.pstate p == psProvisioning) ||
  s.role == roleJoining || mergeBusy s

/-- The ID that a claim by SCk returns, and whether it claims it. -/
def claimId (s : State) (k : Nat) : Nat × Bool :=
  match latchOf s k with
  | some id => (id, true)
  | none =>
    if s.withdrawn.read noB' k && claimSpurious s then (1023, false)
    else
      match candidate s k with
      | some id => (id, true)
      | none => (0, false)

/-- A claim by SCk itself: the latch is emptied, the source enters service, a pulse's pending bit clears (R351). -/
def claim (s : State) (k : Nat) : Nat × State :=
  let (id, real) := claimId s k
  let s := { (s.put (F.ICU_LATCH_VALID k) 0).put (F.ICU_LATCH_ID k) 0 with withdrawn := s.withdrawn.write noB' k false }
  if real then
    let s := { s with service := s.service.write noService id (k + 1) }
    (id, if isLevel id then s else s.putBit (F.ICU_PEND_PEND (id / 32)) (id % 32) false)
  else (id, s)

/-- A read of ICU_CLAIM of SCk; any other initiator changes nothing. -/
def claimRead (s : State) (i : Agent) (k : Nat) : Nat × State :=
  match i with
  | .sc j => if j.val = k then claim s k else ((claimId s k).1, s)
  | _ => ((claimId s k).1, s)

/-- ICU_CLAIM (R351). -/
def execIcuClaim (i : Agent) (k : Fin 4) (s : State) : Host.Outcome State Fault Refusal :=
  let r := claimRead (settle s) i k
  .next { r.2 with rdata := BitVec.ofNat 64 r.1 }

def icuErr (s : State) (cause core id : Nat) : State :=
  recordErr s F.ICU_ERR_VALID [(F.ICU_ERR_CAUSE, cause), (F.ICU_ERR_CORE, core), (F.ICU_ERR_ID, id)]

/-- A write of ICU_COMPLETE of SCk by SCk (R352); another initiator's write has no effect (R15). -/
def completeWrite (s : State) (i : Agent) (k id : Nat) : State :=
  match i with
  | .sc j =>
    if j.val ≠ k ∨ id = 0 ∨ 511 < id then s
    else if inService s id = k + 1 then { s with service := s.service.write noService id 0 }
    else icuErr s 2 k id
  | _ => s

/-- ICU_COMPLETE (R352). -/
def execIcuComplete (i : Agent) (k : Fin 4) (id : BitVec 10) (s : State) : Host.Outcome State Fault Refusal :=
  .next (completeWrite (settle s) i k id.toNat)

/-! ## Threshold, enables and pending bits (R345, R347) -/

/-- ICU_THR_SET takes the larger, ICU_THR_CLR the smaller; above 8 is refused. -/
def thrWrite (s : State) (k : Nat) (up : Bool) (v : Nat) : State :=
  let t := s.get (F.ICU_THR_THR k)
  if 8 < v then icuErr s 1 k 0 else settle (s.put (F.ICU_THR_THR k) (if up then max t v else min t v))

def enWrite (s : State) (k w : Nat) (set : Bool) (v : Nat) : State :=
  let v := if w = 0 then v / 2 * 2 else v
  let e := s.get (F.ICU_EN_EN k w)
  settle (s.put (F.ICU_EN_EN k w) (if set then e ||| v else e &&& (e ^^^ v)))

/-- The pulse sources of word w: level sources and ID 0 take no writes. -/
def pulseMask (w : Nat) : Nat :=
  (List.range 32).foldl (fun m b => if isLevel (32 * w + b) || 32 * w + b == 0 then m else m + 2 ^ b) 0

def pendWrite (s : State) (w : Nat) (set : Bool) (v : Nat) : State :=
  let v := v &&& pulseMask w
  let e := s.get (F.ICU_PEND_PEND w)
  settle (s.put (F.ICU_PEND_PEND w) (if set then e ||| v else e &&& (e ^^^ v)))

/-- ICU_THR_SET (R347). -/
def execIcuThrSet (k : Fin 4) (v : BitVec 4) (s : State) : Host.Outcome State Fault Refusal := .next (thrWrite s k true v.toNat)
/-- ICU_THR_CLR (R347). -/
def execIcuThrClr (k : Fin 4) (v : BitVec 4) (s : State) : Host.Outcome State Fault Refusal := .next (thrWrite s k false v.toNat)
/-- ICU_EN_SET (R347). -/
def execIcuEnSet (k : Fin 4) (w : Fin 16) (v : BitVec 32) (s : State) : Host.Outcome State Fault Refusal :=
  .next (enWrite s k w true v.toNat)
/-- ICU_EN_CLR (R347). -/
def execIcuEnClr (k : Fin 4) (w : Fin 16) (v : BitVec 32) (s : State) : Host.Outcome State Fault Refusal :=
  .next (enWrite s k w false v.toNat)
/-- ICU_PEND_SET (R345). -/
def execIcuPendSet (w : Fin 16) (v : BitVec 32) (s : State) : Host.Outcome State Fault Refusal :=
  .next (pendWrite s w true v.toNat)
/-- ICU_PEND_CLR (R345). -/
def execIcuPendClr (w : Fin 16) (v : BitVec 32) (s : State) : Host.Outcome State Fault Refusal :=
  .next (pendWrite s w false v.toNat)

/-- A write of an ICU register. -/
def icuRegWrite (s : State) (i : Agent) (a : Nat) (v : Word) : State :=
  let off := a % 65536
  let x := bitsOf v 31 0
  if off < 0x800 then
    (if 8 < bitsOf v 3 0 then icuErr s 1 0 (off / 4) else settle (genericWrite s a v))
  else if 0x1100 ≤ off ∧ off < 0x1200 then enWrite s ((off - 0x1100) / 64) (off % 64 / 4) true x
  else if 0x1200 ≤ off ∧ off < 0x1300 then enWrite s ((off - 0x1200) / 64) (off % 64 / 4) false x
  else if 0x1340 ≤ off ∧ off < 0x1380 then pendWrite s ((off - 0x1340) / 4) true x
  else if 0x1380 ≤ off ∧ off < 0x13C0 then pendWrite s ((off - 0x1380) / 4) false x
  else if 0x2000 ≤ off ∧ off < 0x2080 then
    let k := (off - 0x2000) / 32
    match off % 32 with
    | 0x04 => thrWrite s k true (bitsOf v 3 0)
    | 0x08 => thrWrite s k false (bitsOf v 3 0)
    | 0x10 => completeWrite s i k (bitsOf v 9 0)
    | _ => s
  else genericWrite s a v

/-- The word of a 16-word array whose bit b says something of ID 32w + b. -/
def idWord (f : Nat → Bool) (w : Nat) : Word :=
  BitVec.ofNat 64 ((List.range 32).foldl (fun v b => if f (32 * w + b) then v + 2 ^ b else v) 0)

/-- A read of an ICU register. -/
def icuRegRead (s : State) (i : Agent) (a : Nat) : Word × State :=
  let off := a % 65536
  if off < 0x800 then (withBits (s.reg a) 8 8 (if isLevel (off / 4) then 1 else 0), s)
  else if 0x1300 ≤ off ∧ off < 0x1340 then (idWord (fun id => id != 0 && icuPending s id) ((off - 0x1300) / 4), s)
  else if 0x13C0 ≤ off ∧ off < 0x1400 then (idWord (fun id => inService s id != 0) ((off - 0x13C0) / 4), s)
  else if 0x2000 ≤ off ∧ off < 0x2080 ∧ off % 32 = 0x0C then
    let r := claimRead s i ((off - 0x2000) / 32)
    (BitVec.ofNat 64 r.1, r.2)
  else (s.reg a, s)

end Sys2Proof.Machine
end

