-- ==== Sys2Proof/Machine/Merge.lean ====
section
/-! DEFINITION. Merge (R264–R266): the donor's copy, the merge waypoint and the joiner's entry; and the WAYPOINT command, at
which a partition merges. -/

namespace Sys2Proof.Machine

/-! ## Granules (R265) -/

/-- The granules of a partition: 256 of each tile's SRAM, and 128 of its release storage, by address / 256. -/
def relGranule (p g : Nat) : Nat := 2 ^ 32 + 128 * p + g
def granules (s : State) (p : Nat) : List Nat :=
  (s.partTiles p).flatMap (fun t => (List.range 256).map (fun g => 0x200000 + 256 * t + g)) ++ (List.range 128).map (relGranule p)

def dirtyGranules (s : State) (p : Nat) : List Nat := (granules s p).filter (fun g => !s.cvy.clean.read noB g)

/-! ## The request (R264) -/

/-- A voter or standby place of the mode is free (R264). A standby that is unfit keeps its place until it leaves. -/
def freeSlot (s : State) : Bool :=
  decide ((membersOf (voterMask s)).length < (if convoyMode s = 1 then 2 else 3)) || joinsAsStandby s

/-- The cause that refuses a merge, 0 when none does. Whether the joiner is JOINING, whether every partition is SCANNING on the other
voters, and whether the joiner's ports to them are UP, reach this member by no frame that the spec describes: they are free (log 1). -/
def mergeCheck (s : State) (j : Nat) (joining scanning linked : Bool) : Nat :=
  if !joining || s.role != roleVoter || !scanning || (assigned s).any (fun p => s.pstate p != psScanning) then ceState
  else if !freeSlot s then ceNoSlot
  else if mergeBusy s || (List.range 4).any (fun p => s.flag (F.WPT_PSTATE_CO_PENDING p)) then ceBusy
  else match portTo s j with
    | none => ceLink
    | some q => if portState s q ≠ lsUp || !linked then ceLink else if (s.link q).digest ≠ formDigest s then ceDigest else 0

/-- The frames of the image, 32 words each, on the joiner's port (R265; DESIGN CHOICE, log 35). -/
def imageWords : List Byte → Nat → List Word
  | _, 0 => []
  | l, n + 1 => BitVec.ofNat 64 ((l.take 8).foldr (fun b v => b.toNat + 256 * v) 0) :: imageWords (l.drop 8) n

def sendImage (s : State) (j : Nat) : State :=
  let ws := imageWords s.boot.image ((s.boot.image.length + 7) / 8)
  let fs := framesOf ws (frameCount ws.length)
  (fs.zip (List.range fs.length)).foldl (fun s f => sendFrame s j ftImage 0 0 (f.2 % 128) 0 f.1) s

/-- The next partition to merge after those that have. -/
def nextMerge (s : State) : Option Nat := (assigned s).find? (fun p => !s.bitAt F.CVY_MERGE_STATUS_MERGED p)

/-- The donor turns to a partition: all of it is dirty (R265). -/
def donorTurn (s : State) : State :=
  match nextMerge s with
  | none => s
  | some p => { s with cvy := { s.cvy with mergePart := some p, mergeFrom := s.get (F.WPT_WNUM_WNUM p), clean := [] } }

/-- A merge request (R264): the donor turns to the image and the first partition; any other voter passes it to the donor in a control
frame. The second component is the cause of a refusal. -/
def mergeRequest (s : State) (j : Nat) (host : Bool) : State × Nat :=
  let d := s.draw 3
  let c := mergeCheck d.2 j (d.1.getLsbD 0) (d.1.getLsbD 1) (d.1.getLsbD 2)
  if c ≠ 0 then (cvyErr d.2 c 3 0 j, c)
  else
    let s := ((((d.2.put F.CVY_MERGE_STATUS_STATE 1).put F.CVY_MERGE_STATUS_CAUSE 0).put F.CVY_MERGE_STATUS_MERGED 0).put
      F.CVY_MERGE_STATUS_DIRTY 0).put F.CVY_MERGE_CTL_JOINER j
    let s := { s with cvy := { s.cvy with mergeHost := host } }
    (if leads s then donorTurn ((portTo s j).elim s (sendImage s))
     else sendTo s (s.get F.CVY_STATE_LEADER) Config.requestType 0 0 [BitVec.ofNat 64 j], 0)

/-- MERGE_ABORT (R266). -/
def mergeAbort (s : State) : State := if mergeBusy s then mergeRefuse s ceState else s

/-- A write of CVY_MERGE_CTL: a MINWPT below 64 is not taken; START requests, ABORT ends (R264, R266). -/
def mergeCtlWrite (s : State) (v : Word) : State :=
  let s := if bitsOf v 15 0 < 64 then s else s.put F.CVY_MERGE_CTL_MINWPT (bitsOf v 15 0)
  let s := if mergeBusy s then s else s.put F.CVY_MERGE_CTL_JOINER (bitsOf v 29 28)
  let s := if bitsOf v 31 31 = 1 then (mergeRequest s (bitsOf v 29 28) false).1 else s
  if bitsOf v 30 30 = 1 then mergeAbort s else s

/-- MERGE_START: a write of CVY_MERGE_CTL with START = 1. -/
def execMergeStart (v : BitVec 30) (s : State) : Host.Outcome State Fault Refusal :=
  .next (mergeCtlWrite s (v.setWidth 64 ||| 0x80000000#64))

/-- MERGE_ABORT (R266). -/
def execMergeAbort (s : State) : Host.Outcome State Fault Refusal := .next (mergeAbort s)

/-- A write of CVY_MERGE_LIMIT: a value not above MINWPT is refused as TIMING. -/
def mergeLimitWrite (s : State) (v : Word) : State :=
  if bitsOf v 31 0 ≤ s.get F.CVY_MERGE_CTL_MINWPT then cvyErr s ceTiming 3 0 0 else genericWrite s A.CVY_MERGE_LIMIT v

/-! ## The donor's frames (R265) -/

/-- A MERGE frame to the joiner: what its words are, and the words (DESIGN CHOICE for the place, log 35). -/
def sendMerge (s : State) (p : Nat) (pl : MergePlace) (ws : List Word) : State :=
  match portTo s (joinerOf s) with
  | some j => queueFrame s j
      { newFrame ftMerge p (s.get (F.WPT_WNUM_WNUM p)) 0 0 (ws ++ List.replicate (32 - ws.length) 0) with place := some pl }
  | none => s

/-- A granule goes out as it is now. -/
def sendGranule (p : Nat) (s : State) (g : Nat) : State :=
  if g < 2 ^ 32 then
    sendMerge s p (.sram (BitVec.ofNat 16 (g - 0x200000))) ((List.range 32).map (fun i => BitVec.ofNat 64 (s.bytes (256 * g + 8 * i) 8)))
  else
    let i := (g - relGranule p 0) % 128
    sendMerge s p (.release (Fin.ofNat 128 i)) ((List.range 32).map (fun k => relWord s p (32 * i + k)))

/-- The register block of a tile: g1–g31, f0–f31, FPSR, the pc and the active bank. -/
def regBlock (s : State) (t : Nat) : List Word :=
  let c := s.core t
  (List.range 31).map (fun i => c.greg (i + 1)) ++ (List.range 32).map c.freg ++
  [c.sreg t srFpsr, c.pc.setWidth 64, if s.bitAt (F.WPT_BANK_BANK_B (t / 32)) (t % 32) then 1 else 0]

def sendRegs (p : Nat) (s : State) (t : Nat) : State :=
  [0, 32, 64].foldl (fun s i => sendMerge s p (.regs (BitVec.ofNat 8 t) i) (((regBlock s t).drop i).take 32)) s

/-- 32 entries of a map, one to a word. -/
def sendMap (p : Nat) (rel : Bool) (s : State) (c : Nat) : State :=
  sendMerge s p (.map rel (BitVec.ofNat 12 (32 * c))) ((List.range 32).map (fun i => BitVec.ofNat 64 (mapEntry s p false rel (32 * c + i))))

/-- 32 lanes' LANE_CFG, for the lanes of p among them. -/
def sendLanes (p : Nat) (s : State) (c : Nat) : State :=
  if (partLanes s p).any (fun l => l / 32 == c) then
    sendMerge s p (.lane (Fin.ofNat 4160 (32 * c))) ((List.range 32).map (fun i => s.reg (A.LANE_CFG (32 * c + i))))
  else s

/-- The final delta (R265): the dirty granules, the registers of every tile, the maps, the lanes, and WNUM. -/
def sendDelta (s : State) (p m : Nat) : State :=
  let s := (dirtyGranules s p).foldl (sendGranule p) s
  let s := (s.partTiles p).foldl (sendRegs p) s
  let s := (List.range 128).foldl (sendMap p false) s
  let s := (List.range 128).foldl (sendMap p true) s
  let s := (List.range 130).foldl (sendLanes p) s
  sendMerge s p .wnum [BitVec.ofNat 64 m]

/-! ## The donor's arrivals (R265) -/

/-- Whether the delta of d granules fits before the output close (R265). -/
def mergeFits (s : State) (p d : Nat) : Bool :=
  let words := 32 * d + 66 * (s.partTiles p).length + 48
  let frames := frameCount words + xchgFrames s p true
  let tf := if [0, 1, 2].any (fun j => portState s j == lsDegraded) then 36 else 18
  decide (s.time.toNat + 60 + frames * tf + 300 ≤ (s.reg (A.WPT_NEXT p)).toNat)

/-- MERGE_ARRIVAL: the donor's tiles have arrived; `sent` granules went out since the last arrival, lowest first
(DESIGN CHOICE, log 35). The dirty granules are counted, and the merge waypoint is chosen, given up, or left for later (R265). The
output vector goes out after the choice, with MERGE_AT. -/
def execMergeArrival (p : Fin 4) (sent : BitVec 16) (s : State) : Host.Outcome State Fault Refusal :=
  if s.cvy.mergePart = some p.val ∧ arrived s p = true ∧ (s.cvy.mergeAt.read noRcpt p).isNone then
    let go := (dirtyGranules s p).take sent.toNat
    let s := go.foldl (sendGranule p) s
    let s := { s with cvy := { s.cvy with clean := go.foldl (fun t g => t.write noB g true) s.cvy.clean } }
    let d := (dirtyGranules s p).length
    let s := (s.put F.CVY_MERGE_STATUS_DIRTY (min 65535 d)).put F.CVY_MERGE_STATUS_STATE 2
    let n := s.get (F.WPT_WNUM_WNUM p)
    let before := decide (s.time.toNat + s.get (F.WPT_GUARD_GUARD p) ≤ (s.reg (A.WPT_NEXT p)).toNat)
    let age := n - s.cvy.mergeFrom
    if s.get F.CVY_MERGE_CTL_MINWPT ≤ age ∧ before ∧ mergeFits s p d = true then
      let s := s.put F.CVY_MERGE_STATUS_STATE 3
      let s := { s with cvy := { s.cvy with mergeAt := s.cvy.mergeAt.write noRcpt p (some (n + 1)) } }
      .next (sendDelta (sendOut s p) p (n + 1))
    else if s.get F.CVY_MERGE_LIMIT_MAXWPT ≤ age then .next (sendOut (mergeRefuse s ceNoConverge) p)
    else .next (sendOut s p)
  else .next s

/-! ## Frames to the joiner (R265) -/

/-- The frame's words from place i of a tile's register block. -/
def putRegs (s : State) (t i : Nat) : List Word → State
  | [] => s
  | w :: ws =>
    let s := s.onCore t (fun c =>
      if i < 31 then c.setG (i + 1) w
      else if i < 63 then c.setF (i - 31) w
      else if i = 63 then c.setSr t srFpsr (w &&& 0x1F)
      else if i = 64 then { c with pc := w.setWidth 40 &&& ~~~3#40, npc := (w.setWidth 40 &&& ~~~3#40) + 4 }
      else c)
    let s := if i = 65 then s.putBit (F.WPT_BANK_BANK_B (t / 32)) (t % 32) (w.getLsbD 0) else s
    putRegs s t (i + 1) ws

/-- The words of a MERGE frame are written in place. -/
def mergePut (s : State) (p : Nat) (pl : MergePlace) (ws : List Word) : State :=
  let ws := ws.take 32
  let iw := ws.zip (List.range ws.length)
  match pl with
  | .sram g =>
    let s := iw.foldl (fun s w => s.setBytes (0x20000000 + 256 * g.toNat + 8 * w.2) 8 w.1.toNat) s
    s.clearEcc memTile ((0x20000000 + 256 * g.toNat) / 8) 32
  | .release g =>
    let s := iw.foldl (fun s w => { s with wpt := { s.wpt with
      rel := s.wpt.rel.write zero64 (4096 * p + 32 * g.val + w.2) w.1
      relOut := s.wpt.relOut.write zero64 (4096 * p + 32 * g.val + w.2) w.1 } }) s
    s.clearEcc memRel (4096 * p + 32 * g.val) 32
  | .regs t i => putRegs s t.toNat i ((ws.take (66 - i)))
  | .map rel i =>
    iw.foldl (fun s w => if i.toNat + w.2 < 4096 then setMapEntry s p false rel (i.toNat + w.2) (w.1.setWidth 32) else s) s
  | .lane l =>
    iw.foldl (fun s w => if l.val + w.2 < 4160 then s.setReg (A.LANE_CFG (l.val + w.2)) (w.1 &&& 0xFFFFFFFF) else s) s
  | .wnum => { s with cvy := { s.cvy with joinWnum := s.cvy.joinWnum.write zero64 p ((ws[0]?).getD 0) } }

/-- MERGE: a frame carrying granules or the delta is received and written in place (R265). -/
def execMerge (j : Fin 3) (hd : BitVec 60) (ok : Bool) (pl : MergePlace) (ws : List Word) (s : State) :
    Host.Outcome State Fault Refusal :=
  let h := hdrOf hd
  match rxFrame s j h ok true with
  | (s, false) => .next s
  | (s, true) =>
    let s := learn s h.src true
    if s.role = roleJoining ∧ s.pstate h.part = psProvisioning then
      .next (mergePut (s.put F.CVY_MERGE_STATUS_STATE 2) h.part pl ws)
    else .next s

/-- IMAGE: an image frame of a merge (R265): the joiner, already provisioned with the same image (R264), enters the merge. -/
def execImage (j : Fin 3) (hd : BitVec 60) (ok : Bool) (s : State) : Host.Outcome State Fault Refusal :=
  let h := hdrOf hd
  match rxFrame s j h ok true with
  | (s, false) => .next s
  | (s, true) =>
    let s := learn s h.src true
    .next (if s.role = roleJoining ∧ !mergeBusy s then
      (s.put F.CVY_MERGE_STATUS_STATE 1).put F.CVY_MERGE_STATUS_MERGED 0 else s)

/-- OUT: an output-vector frame (R248). At a joiner, MERGE_AT names the waypoint at which the partition merges, which is its
next instant (R265, R246). -/
def execOut (j : Fin 3) (hd : BitVec 60) (ok : Bool) (ws : List Word) (s : State) : Host.Outcome State Fault Refusal :=
  let h := hdrOf hd
  let t := rxData s j hd ok true ws
  if s.role = roleJoining ∧ (rxFrame s j h ok true).2 = true ∧ h.src = s.get F.CVY_STATE_LEADER ∧ h.flags / 8 % 2 = 1 ∧
      s.pstate h.part = psProvisioning then
    let t := { t with cvy := { t.cvy with mergeAt := t.cvy.mergeAt.write noRcpt h.part (some h.wnum) } }
    .next (if timerOn t h.part then t else timerRun t h.part (instantFrom t h.part (t.time.toNat + 1)))
  else .next t

/-! ## The merge waypoint (R266) -/

/-- Every partition has merged: the joiner votes, or fills the standby place (R266). -/
def mergeDone (s : State) : State :=
  let j := joinerOf s
  let asStandby := joinsAsStandby s
  let mine := s.role == roleJoining
  let s := mergeEnd s 4 0
  let s := if asStandby then
      (let t := s.put F.CVY_STATE_STANDBY_FIT 1
       { t with cvy := { t.cvy with standby := some j } })
    else setVoters s (voterMask s ||| 2 ^ j)
  let s := s.put F.HW_SEAL_STATUS_AGREE_VOID 0
  if mine then (if asStandby then floatAll (setRole s roleStandby) else setRole s roleVoter) else s

/-- A voter or standby that has heard nothing of a merge but the donor's MERGE_AT takes part in it: the joiner is the lowest-numbered
member that neither votes nor stands by (DESIGN CHOICE, log 35). -/
def hearMerge (s : State) (p : Nat) : State :=
  if !mergeBusy s && (s.cpart p).merge && inConvoy s then
    match (membersOf (s.get F.CVY_CFG_MEMBERS)).find? (fun k => !takesPart s k) with
    | some j => ((s.put F.CVY_MERGE_STATUS_STATE 3).put F.CVY_MERGE_STATUS_MERGED 0).put F.CVY_MERGE_CTL_JOINER j
    | none => s
  else s

/-- p merges at W(n) on a running member: every lane of p is empty, or the merge is refused with LANE_OPEN (R191, R265). -/
def mergeAtWaypoint (s : State) (p n : Nat) : State :=
  let s := hearMerge s p
  if mergeBusy s && (s.cpart p).merge && !mergedIn s p && s.role != roleJoining then
    let s := s.onCpart p (fun c => { c with merge := false })
    if (partLanes s p).all (laneEmpty s) then
      let s := (s.putBit F.CVY_MERGE_STATUS_MERGED p true).setReg A.CVY_MERGE_WNUM (BitVec.ofNat 64 n)
      let s := { s with cvy := { s.cvy with mergePart := none, mergeAt := s.cvy.mergeAt.write noRcpt p none } }
      let s := if joinsAsStandby s then s else widenOut (joinerOf s) s p
      if (nextMerge s).isNone then mergeDone s
      else if leads s then donorTurn (s.put F.CVY_MERGE_STATUS_STATE 2)
      else s
    else mergeRefuse s ceLaneOpen
  else s

/-- The joiner's p enters SCANNING at the release cycle of W(m) (R266): its lanes are set, the function switches that waited act (R338),
it takes part in the input exchange as the standby does, and votes from the output of scan m. -/
def joinWaypoint (s : State) (p : Nat) (vhold : Bool) : State :=
  let w := (s.reg (A.WPT_NEXT p)).toNat
  let s := reach s w
  let m := (s.cvy.joinWnum.read zero64 p).toNat
  let s := (enterScanning s p).setReg (A.WPT_WNUM p) (BitVec.ofNat 64 m)
  let s := lanesReady s p
  let s := (s.partTiles p).foldl (fun s t =>
    s.onCore t (fun c => { c with run := .waypt, wait := 0, sr := c.sr.filter (fun e => decide (e.1 ≠ srCycles)) })) s
  let s := (s.putBit F.HW_SEAL_STATUS_VALUE_VOID p false).putBit F.HW_SEAL_STATUS_TIMING_VOID p false
  let s := s.put (F.CVY_OUTCOUNT_COUNT p) (outWords s p).length
  let s := iosReady (s.onPart p (fun q => { q with started := true, lastStart := some (m - 1) })) p
  let s := layArm (timerRun s p (w + s.get (F.WPT_PERIOD_PERIOD p))) vhold
  let s := s.setReg A.CVY_MERGE_WNUM (BitVec.ofNat 64 m)
  let s := { s with cvy := { s.cvy with mergeAt := s.cvy.mergeAt.write noRcpt p none } }
  let (s, ws) := latch (iosWaypoint s p) p m
  let s := openInput (beginScan (releaseSwitch s p) p m) p m ws false
  let s := openOut (s.putBit F.CVY_MERGE_STATUS_MERGED p true) p (m + 1)
  if (nextMerge s).isNone then mergeDone s else s

/-- WAYPOINT: the cycle of p's scheduled instant, with the VHOLD comparator's result (R29, R64). -/
def execWaypoint (p : Fin 4) (vhold : Bool) (s : State) : Host.Outcome State Fault Refusal :=
  if timerOn s p && s.pllClock then
    if s.pstate p = psProvisioning then .next (joinWaypoint s p vhold)
    else
      let s := waypoint s p vhold
      .next (mergeAtWaypoint s p (s.get (F.WPT_WNUM_WNUM p)))
  else .next s

end Sys2Proof.Machine
end

