-- ==== Sys2Proof/Machine/Regs.lean ====
section
/-! DEFINITION. The peripheral registers as an initiator reads and writes them (R12–R15, R42): what each read returns, its side
effects, and which rule of its block a write meets. -/

namespace Sys2Proof.Machine

/-- A bit list as a number: bit i is f i, for i below n. -/
def bitWord (n : Nat) (f : Nat → Bool) : Nat := (List.range n).foldl (fun v i => if f i then v + 2 ^ i else v) 0

/-! ## The host window registers (15_host_port.md) -/

/-- Whether attention cause c is pending (R410). -/
def attnPending (s : State) (c : Nat) : Bool :=
  if c = 1 then !s.mbxOut.isEmpty
  else if c = 2 then !s.evlog.isEmpty
  else if c = 14 then s.dev == dsRoadblock
  else s.bitAt F.HW_STATUS_PEND c

def attnShows (s : State) (c : Nat) : Bool := attnPending s c && (c == 14 || !s.bitAt F.HW_ATTN_MASK_MASK c)

/-- The attention code a reply would show: the highest-ranked cause that is pending and not masked (R410). -/
def attnCode (s : State) : Nat := ([14, 13, 9, 8, 7, 6, 5, 4, 3, 2, 1].find? (attnShows s)).getD 0

/-- The next word of an outstanding challenge on a path, 0 when there is none (R512, R513, R10). -/
def chalWord (s : State) (host : Bool) : BitVec 32 :=
  match s.dbgp.unlock.chal with
  | some c =>
    if s.dbgp.unlock.host = host ∧ s.dbgp.unlock.read < 8 then (c >>> (32 * s.dbgp.unlock.read)).setWidth 32 else 0
  | none => 0

/-- HW_FLASH_STATUS: FLC_STAT's summary and the engines' states. -/
def flashStatus (s : State) : Word :=
  let v := flcStatRead s
  let f (l : Loc) := bitsOf v l.hi l.lo * 2 ^ l.lo
  BitVec.ofNat 64 (f F.FLC_STAT_WP_N + f F.FLC_STAT_LOG_BUSY + f F.FLC_STAT_PEND_COUNT + f F.FLC_STAT_LOG +
    f F.FLC_STAT_PEND_FOUND + f F.FLC_STAT_UNCORR + f F.FLC_STAT_REFRESH +
    bitWord 9 (fun k => s.get (F.FLC_BSTAT_STATE k) != 0) * 2 ^ 8)

def calStatus (s : State) : Word :=
  BitVec.ofNat 64 (s.get F.CAL_STATUS_BUSY * 2 ^ 31 + s.get F.CAL_STATUS_RESULT * 2 ^ 24 +
    bitWord 4 (fun g => s.flag (F.CAL_GROUP_COVER g)) * 2 ^ 20 + bitWord 4 (groupFailed s) * 2 ^ 16 +
    s.get F.CAL_STATUS_USER_VALID * 32 + s.get F.CAL_STATUS_FACTORY_VALID * 16 + s.get F.CAL_STATUS_LAYER)

def partStates (s : State) : Word :=
  BitVec.ofNat 64 (s.get F.HW_PART_STATE_SEL * 2 ^ 30 + bitWord 4 s.sealedPart * 2 ^ 16 +
    s.pstate 0 + s.pstate 1 * 16 + s.pstate 2 * 256 + s.pstate 3 * 4096)

/-- A host window register as it reads, without any side effect (R427). -/
def hwView (s : State) (r : Reg) (a : Nat) : Word :=
  match r with
  | .HW_REV => withBits (s.reg a) 15 8 Config.romVersion.toNat
  | .HW_STATE => withBits (s.reg a) 21 20 (s.get F.DBG_LEVEL_LEVEL)
  | .HW_STATUS => BitVec.ofNat 64 (attnCode s * 2 ^ 28 + bitWord 15 (attnPending s))
  | .HW_MBX_IN_LEVEL => BitVec.ofNat 64 s.mbxIn.length
  | .HW_MBX_OUT_DATA => (s.mbxOut.headD 0).setWidth 64
  | .HW_MBX_OUT_LEVEL => BitVec.ofNat 64 s.mbxOut.length
  | .HW_WIN_DATA => s.host.hold.setWidth 64
  | .HW_WIN_CTL => withBits (s.reg a) 30 30 (if s.host.reading.isSome || s.host.writing.isSome then 1 else 0)
  | .HW_PART_STATE => partStates s
  | .HW_CONVOY =>
    BitVec.ofNat 64 (bitsOf (s.reg A.CVY_STATE) 31 19 * 2 ^ 19 + s.get F.CVY_CFG_MODE * 256 + s.get F.CVY_CFG_MEMBER * 16 +
      s.get F.CVY_MERGE_STATUS_STATE)
  | .HW_WPT_COUNT_LO => BitVec.ofNat 64 (bitsOf (s.reg (A.WPT_WNUM (s.get F.HW_PART_STATE_SEL))) 31 0)
  | .HW_WDG_LADDER => s.reg A.WDG_LADDER
  | .HW_LAYBY_STATUS => laybyStatusRead s
  | .HW_FLASH_STATUS => flashStatus s
  | .HW_TEMP => s.reg A.TMP_TEMP
  | .HW_SUPPLY => s.reg A.TMP_SUPPLY
  | .HW_UNLOCK_CHAL => (chalWord s true).setWidth 64
  | .HW_EVENT_LOG_DATA => (s.evlog.headD 0).setWidth 64
  | .HW_EVENT_LOG_LEVEL => withBits (s.reg a) 6 0 s.evlog.length
  | .HW_HEARTBEAT => BitVec.ofNat 64 (bitsOf (s.reg A.HST_BEAT) 15 0 * 65536 + bitsOf s.time 32 17)
  | .HW_CAL_STATUS => calStatus s
  | .HW_POWER_STATE =>
    withBits (withBits (s.reg a) 4 4 (if s.flag F.SYS_CLK_STAT_SRC then 0 else 1)) 1 0 (s.get F.PWR_OPP_STAT_CUR)
  | .HW_SEAL_STATUS => withBits (s.reg a) 3 0 (bitWord 4 s.sealedPart)
  | _ => s.reg a

/-- Whether an address of the HST block mirrors a host window register. -/
def isMirror (a : Nat) : Bool := decide (0x400D0000 ≤ a ∧ a < 0x400D00C0)

/-! ## The debug registers (20_debug.md) -/

/-- A core is halted for the debugger: by a halt, or because its partition stopped it (R515). -/
def dbgHalted (s : State) (k : Nat) : Bool := (s.core k).halted || (s.core k).run == .stopped

/-- The core of DBG_SEL. -/
def dbgSel (s : State) : Nat := s.get F.DBG_SEL_CORE

/-- DBG_CSTAT of a core (R514, R515). -/
def cstatRead (s : State) (k : Nat) : Word :=
  let c := s.core k
  let st := if c.run == .stopped then 3 else if c.halted then 2 else if c.haltReq != 0 then 1 else 0
  let reason := if c.run == .stopped then 6 else bitsOf (c.dreg 0x204) 23 20
  BitVec.ofNat 64 (st * 2 ^ 29 + (if s.isSealed k then 2 ^ 27 else 0) + (if c.slot && dbgHalted s k then 2 ^ 26 else 0) +
    reason * 2 ^ 20 + bitsOf (c.dreg 0x204) 19 14 * 2 ^ 14)

/-- A register of the DBG block as it reads. What the halt addresses of a running core read is not stated (log 1). -/
def dbgRead (s : State) (r : Reg) (a : Nat) : Word × State :=
  let off := a % 65536
  let k := dbgSel s
  match r with
  | .DBG_CHAL => ((chalWord s false).setWidth 64, s)
  | .DBG_HALTED => (BitVec.ofNat 64 (bitWord 32 (fun b =>
      decide (32 * ((off - 0xC0) / 4) + b < 260) && dbgHalted s (32 * ((off - 0xC0) / 4) + b))), s)
  | .DBG_HALT => (0, s)
  | .DBG_RESUME => (0, s)
  | .DBG_CSTAT => (cstatRead s k, s)
  | .DBG_DPC => if dbgHalted s k then ((s.core k).pc.setWidth 64, s) else s.draw 64
  | .DBG_DNPC => if dbgHalted s k then ((s.core k).npc.setWidth 64, s) else s.draw 64
  | .DBG_MEM_CTL => (withBits (s.reg a) 30 30 (if s.dbgp.mem.isSome then 1 else 0), s)
  | _ => if 0x204 ≤ off ∧ off < 0x2F4 then ((s.core k).dreg off, s) else (s.reg a, s)

/-! ## Reads -/

/-- The registers whose value follows other state, for a read that has no side effect. -/
def regView (s : State) (r : Reg) (x a : Nat) : Word :=
  match r with
  | .DMA_RW_BUSY => BitVec.ofNat 64 (bitWord 32 (fun i => !(s.slice i).ringq.isEmpty))
  | .DMA_STAT => withBits (s.reg a) 31 31 (if (s.dma.unit.read (fun _ => none) x).isSome then 1 else 0)
  | .SYS_CR_CTL => withBits (s.reg a) 30 30 (if crLocked s x then 1 else 0)
  | .SYS_SC_SEAL =>
    withBits (withBits (s.reg a) 1 1 (bitsOf ((s.core (256 + x)).sreg (256 + x) srTstatus) 3 3)) 0 0
      (if s.isSealed (256 + x) then 1 else 0)
  | .SYS_SC_START => scStartRead s
  | .WPT_PSTATE => pstateRead s x
  | .WPT_NEXT => nextRead s x
  | .ADC_SSTAT => sstatRead s x
  | .ADC_LATEST => latestRead s x
  | .IOS_STAT => iosStatRead s x
  | .IOS_FSTAT => iosFstatRead s x
  | .PIN_STAT => withBits (s.reg a) 30 30 (if (List.range 64).any (fun k => s.flag (F.PIN_EVCFG_CONFLICT k)) then 1 else 0)
  | .PIN_IN => BitVec.ofNat 64 (bankIn s x)
  | .PIN_CFG => pinCfgRead s x
  | .FLC_STAT => flcStatRead s
  | .FLC_PEND => flcPendRead s x
  | .XSP_CTL => xspCtlRead s x
  | .XSP_STATUS => xspStatusRead s x
  | .HST_IRQ => hstIrqRead s
  | .WDG_STAT => wdgStatRead s x
  | .SEC_DEVID_LO => (Config.deviceId.setWidth 32).setWidth 64
  | .SEC_DEVID_HI => ((Config.deviceId >>> 32).setWidth 32).setWidth 64
  | _ => s.reg a

/-- A read of an entry list by firmware: the oldest inbound word, 0 when empty (R415). -/
def mbxInPop (s : State) : Word × State := ((s.mbxIn.headD 0).setWidth 64, { s with mbxIn := s.mbxIn.tail })

/-- A read of a register by an initiator: what it returns, and the state with its side effects (R13, R86). -/
def regReadAt (s : State) (i : Agent) (a : Nat) (d : RegD) (x : Nat) : Word × State :=
  if isMirror a then (hwView s d.reg a, s)
  else if inBlock 0x40040000 a then icuRegRead s i a
  else if inBlock 0x400E0000 a then dbgRead s d.reg a
  else
    match d.reg with
    | .WPT_MAP_DATA => let r := mapRead s; (r.1.setWidth 64, r.2)
    | .CVY_AMAP_DATA => let r := amapRead s; (r.1.setWidth 64, r.2)
    | .CAL_COEF_DATA => let r := coefRead s; (r.1.setWidth 64, r.2)
    | .IOS_RXF => let r := rxfRead s i x; (r.1.setWidth 64, r.2)
    | .SEC_RNG_DATA => let r := rngRead s; (r.1.setWidth 64, r.2)
    | .HST_MBX_IN => mbxInPop s
    | .WDG_COUNT => wdgCountRead s x
    | .PWR_AON_CNT => ((aonCount s).reg A.PWR_AON_CNT, aonCount s)
    | r => (regView s r x a, clearRc s a d.fields)

/-- A read of a peripheral address; an offset at which no register is defined reads 0 (R42). -/
def regRead (s : State) (i : Agent) (a : Nat) : Word × State :=
  match regAt a with
  | some (d, x, _) => regReadAt s i a d x
  | none => (0, s)

/-- Whether an access has a size and an alignment that R12 allows: 8 bytes for a register of 64 bits, 4 elsewhere. -/
def periOk (a n : Nat) : Bool :=
  match regAt a with
  | some (d, _, _) => if d.wide then n == 8 else n == 4
  | none =>
    n == 4 && a % 4 == 0 && !(match regAt (a - 4) with
      | some (d, _, _) => d.wide
      | none => false)

def wideAt (a : Nat) : Bool :=
  match regAt a with
  | some (d, _, _) => d.wide
  | none => false

/-! ## DMA registers (R25, R26) -/

def dmaErr (s : State) (cause g off : Nat) : State :=
  recordErr s F.DMA_ERR_VALID [(F.DMA_ERR_CAUSE, cause), (F.DMA_ERR_CHANNEL, 32 + g), (F.DMA_ERR_OFFSET, off % 4096)]

def narrowReg (a : Nat) : Bool := inPeri a && !wideAt a

/-- The cause that refuses a start with a value of DMA_CTL, or 0: 2 RANGE, 3 ALIGN (R25). -/
def dmaCheck (s : State) (g : Nat) (v : Word) : Nat :=
  let size := if bitsOf v 0 0 = 1 then 8 else 4
  let len := s.get (F.DMA_LEN_LEN g)
  let src := (s.reg (A.DMA_SRC g)).toNat
  let dst := (s.reg (A.DMA_DST g)).toNat
  let pace := bitsOf v 27 26
  let sel := bitsOf v 22 16
  if len = 0 ∨ len % size ≠ 0 then 2
  else if src % size ≠ 0 ∨ dst % size ≠ 0 then 3
  else if size = 8 ∧ (narrowReg src || narrowReg dst) then 3
  else if ((pace = 1 ∨ pace = 2) ∧ 127 < sel) ∨ (pace = 3 ∧ 3 < sel) then 2
  else 0

def noUnit (_ : Nat) : Option (Option Word) := none

/-- A write of DMA_CTL with EN = 1 (R25). -/
def dmaStart (s : State) (g : Nat) (v : Word) : State :=
  if s.flag (F.DMA_CTL_EN g) then dmaErr s 1 g (0x114 + 0x40 * g)
  else
    let c := dmaCheck s g v
    if c ≠ 0 then dmaErr s c g (0x114 + 0x40 * g)
    else { genericWrite s (A.DMA_CTL g) v with
           dma := { s.dma with trig := s.dma.trig.write noB g false, stopping := s.dma.stopping.write noB g false } }

/-- A write of DMA_CTL with EN = 0: a running channel stops once its unit in progress has completed (R26). -/
def dmaStop (s : State) (g : Nat) : State :=
  if (s.dma.unit.read noUnit g).isSome then
    { s with dma := { s.dma with stopping := s.dma.stopping.write noB g true } }
  else s.put (F.DMA_CTL_EN g) 0

def dmaRegWrite (s : State) (r : Reg) (g a : Nat) (v : Word) : State :=
  match r with
  | .DMA_CTL =>
    if bitsOf v 31 31 = 1 then dmaStart s g v
    else if s.flag (F.DMA_CTL_EN g) then dmaStop s g
    else genericWrite s a v
  | .DMA_SRC => if s.flag (F.DMA_CTL_EN g) then dmaErr s 1 g (a % 65536) else genericWrite s a v
  | .DMA_DST => if s.flag (F.DMA_CTL_EN g) then dmaErr s 1 g (a % 65536) else genericWrite s a v
  | .DMA_LEN => if s.flag (F.DMA_CTL_EN g) then dmaErr s 1 g (a % 65536) else genericWrite s a v
  | _ => genericWrite s a v

/-! ## SYS registers -/

/-- A write of SYS_TILE_CFG (R502): RM and KEEP outside their ranges are ignored. -/
def tileCfgWrite (s : State) (t : Nat) (v : Word) : State :=
  let ok := match s.tilePart t with
    | some p => s.pstate p == psProvisioning
    | none => s.dev == dsProvision
  if !ok then s
  else
    let s := s.put (F.SYS_TILE_CFG_CTXID t) (bitsOf v 31 16)
    let s := if 4 < bitsOf v 10 8 then s else s.put (F.SYS_TILE_CFG_RM t) (bitsOf v 10 8)
    if 8 < bitsOf v 3 0 then s else s.put (F.SYS_TILE_CFG_KEEP t) (bitsOf v 3 0)

/-- The MPU registers of SCk: a write is refused but for a privileged context of SCk (R164). -/
def mpuRefused (i : Agent) (priv : Bool) (a : Nat) : Bool :=
  decide (0x40001000 ≤ a ∧ a < 0x40001400) &&
  (match regAt a with
   | some (_, k, _) => !(priv && (match i with
      | .sc j => j.val == k
      | _ => false))
   | none => false)

/-- While SCk is sealed or holds a saved context, its sealed regions do not change (R164). -/
def mpuWrite (s : State) (k r a : Nat) (v : Word) : State :=
  let held := s.isSealed (256 + k) || bitsOf ((s.core (256 + k)).sreg (256 + k) srTstatus) 3 3 == 1
  if held && mpuBit s (256 + k) r 9 then s else genericWrite s a v

def sysRegWrite (s : State) (i : Agent) (priv : Bool) (r : Reg) (x y a : Nat) (v : Word) : State :=
  match r with
  | .SYS_CLK_CTL => clkWrite s (bitsOf v 0 0 == 1)
  | .SYS_PLL_CTL => pllWrite s v
  | .SYS_CR_PAGE => if crLocked s x then s else genericWrite s a v
  | .SYS_CR_VIEW => if crLocked s x then s else genericWrite s a v
  | .SYS_CR_CTL => if crLocked s x then s else genericWrite s a v
  | .SYS_TILE_CFG => tileCfgWrite s x v
  | .SYS_SC_START => scStart s (bitsOf v 3 0)
  | _ => if mpuRefused i priv a then s
         else if 0x40001000 ≤ a ∧ a < 0x40001400 then mpuWrite s x y a v
         else genericWrite s a v

/-! ## HST registers (R415, R416, R425, R427) -/

/-- HST_MBX_OUT: a push; when the mailbox is full it is lost and OUT_LOST set. -/
def mbxOutPush (s : State) (v : BitVec 32) : State :=
  if s.mbxOut.length < 16 then { s with mbxOut := s.mbxOut ++ [v] } else s.put F.HST_IRQ_OUT_LOST 1

/-- HST_DONE: an FW command completes with the written result (R425). -/
def hstDone (s : State) (v : BitVec 32) : State :=
  if s.flag F.HST_CMD_PENDING then cmdDone (s.put F.HST_CMD_PENDING 0) v.toNat else s

/-- HST_LOG: an entry of class 15 with the written CODE and PART. -/
def hstLog (s : State) (v : BitVec 32) : State := logEvent s 15 (v.toNat / 2 ^ 20 % 256) (v.toNat / 2 ^ 18 % 4)

def hstRegWrite (s : State) (r : Reg) (a : Nat) (v : Word) : State :=
  match r with
  | .HST_MBX_OUT => mbxOutPush s (v.setWidth 32)
  | .HST_DONE => hstDone s (v.setWidth 32)
  | .HST_LOG => hstLog s (v.setWidth 32)
  | .HW_SCRATCH => genericWrite s a v
  | _ => if isMirror a then s else genericWrite s a v

/-! ## The other blocks' writes -/

def wptBlockWrite (s : State) (r : Reg) (p a : Nat) (v : Word) : State :=
  match r with
  | .WPT_PERIOD => wptCfgWrite s p 0x00 v
  | .WPT_PHASE => wptCfgWrite s p 0x04 v
  | .WPT_GUARD => wptCfgWrite s p 0x08 v
  | .WPT_POLICY => wptCfgWrite s p 0x0C v
  | .WPT_SNAP_LEN => wptCfgWrite s p 0x10 v
  | .WPT_PCMD => pcmdWrite s p v
  | .WPT_CO_CTL => coCtlWrite s p v
  | .WPT_CO_WNUM => wptRegWrite s p 0x68 v
  | .WPT_CO_LANES => wptRegWrite s p 0x70 v
  | .WPT_CO_TILES => wptRegWrite s p (a % 256) v
  | .WPT_PART_MAP => partMapWrite s v
  | .WPT_MAP_DATA => mapWrite s (v.setWidth 32)
  | .WPT_STAGE_CTL => stageCtlWrite s v
  | _ => genericWrite s a v

def laneBlockWrite (s : State) (r : Reg) (l a : Nat) (v : Word) : State :=
  match r with
  | .LANE_CFG => laneCfgWrite s l (v.setWidth 32)
  | .LANE_AUDIT_CTL =>
    if bitsOf v 31 31 = 1 then (auditStart (genericWrite s a v) (bitsOf v 1 0) false).1 else genericWrite s a v
  | .LANE_CLEAR =>
    if bitsOf v 31 31 = 1 then laneClearStart (genericWrite s a v) (bitsOf v 1 0) else genericWrite s a v
  | _ => genericWrite s a v

def flcBlockWrite (s : State) (r : Reg) (x a : Nat) (v : Word) : State :=
  match r with
  | .FLC_CMD => flcCommand s (bitsOf v 31 24) (bitsOf v 3 0) (bitsOf v 11 8) (bitsOf v 12 12 == 1)
  | .FLC_REFRESH => flcRefreshWrite s v
  | .FLC_BUF => flcBufWrite s x (v.setWidth 32)
  | _ => genericWrite s a v

def adcBlockWrite (s : State) (r : Reg) (x a : Nat) (v : Word) : State :=
  if anaOff s then s
  else
    match r with
    | .ADC_REF => refWrite s v
    | .ADC_TRIGCFG => trgWrite s x 0 v
    | .ADC_TRIGLEAD => trgWrite s x 4 v
    | .ADC_TRIGDIV => trgWrite s x 8 v
    | .ADC_TRIGSW => if bitsOf v 0 0 = 1 then fireWrite s x else s
    | .ADC_SCFG => scfgWrite s x v
    | .ADC_SSEQ => sseqWrite s x v
    | .ADC_RCTL => rctlWrite s x v
    | .ADC_RRPTR => rrptrWrite s x (bitsOf v 31 0)
    | .CAL_CTL => calCtlWrite s v
    | .CAL_CMD => calCmdWrite s v
    | _ => adcRegWrite s a v

def iosBlockWrite (s : State) (i : Agent) (r : Reg) (x a : Nat) (v : Word) : State :=
  match r with
  | .IOS_CTL => iosCtlWrite s x v
  | .IOS_FSTAT => fstatWrite s x (bitsOf v 31 31 == 1) (bitsOf v 30 30 == 1)
  | .IOS_TXF => txfWrite s i x (v.setWidth 32)
  | .IOS_RXF => s
  | .IOS_GO => iosGo s x (bitsOf v 31 0)
  | .IOS_ERR => genericWrite s a v
  | .IOS_FLAGS => genericWrite s a v
  | .IOS_FLAGSET => flagWrite s x (bitsOf v 31 0) true
  | .IOS_FLAGCLR => flagWrite s x (bitsOf v 31 0) false
  | _ => iosRegWrite s x (a % 256) v

def pinBlockWrite (s : State) (i : Agent) (r : Reg) (x a : Nat) (v : Word) : State :=
  match r with
  | .PIN_CFG => pinCfgWrite s i x v
  | .PIN_OUT_LO => pinWrite s (.agent i) x false false (bitsOf v 31 0)
  | .PIN_OUT_HI => pinWrite s (.agent i) x true false (bitsOf v 31 0)
  | .PIN_DIR_LO => pinWrite s (.agent i) x false true (bitsOf v 31 0)
  | .PIN_DIR_HI => pinWrite s (.agent i) x true true (bitsOf v 31 0)
  | .PIN_EVCFG => evcfgWrite s i x v
  | _ => genericWrite s a v

def xspBlockWrite (s : State) (r : Reg) (x y a : Nat) (v : Word) : State :=
  match r with
  | .XSP_CTL => xspCtlWrite s x v
  | .XSP_MAN_CTL => manCtlWrite s x v
  | .XSP_CSCFG => cscfgWrite s x y v
  | _ => xspRegWrite s x (a % 65536) v

def cvyBlockWrite (s : State) (r : Reg) (x a : Nat) (v : Word) : State :=
  match r with
  | .CVY_CFG => cvyCfgWrite s v
  | .CVY_CTL => cvyCtlWrite s v
  | .CVY_ALIGN => cvyAlignWrite s v
  | .CVY_PORT_CTL => portCtlWrite s x v
  | .CVY_INWIN => inwinWrite s x v
  | .CVY_AMAP_DATA => amapWrite s (v.setWidth 32)
  | .CVY_MERGE_CTL => mergeCtlWrite s v
  | .CVY_MERGE_LIMIT => mergeLimitWrite s v
  | _ => genericWrite s a v

/-- A write of a register by an initiator, privileged or not, under the rules of its block. -/
def regWriteAt (s : State) (i : Agent) (priv : Bool) (a : Nat) (v : Word) (d : RegD) (x y : Nat) : State :=
  match a / 65536 with
  | 0x4000 => sysRegWrite s i priv d.reg x y a v
  | 0x4001 => pwrRegWrite s a v
  | 0x4002 => wptBlockWrite s d.reg x a v
  | 0x4003 => laneBlockWrite s d.reg x a v
  | 0x4004 => icuRegWrite s i a v
  | 0x4005 => wdgRegWrite s i a v
  | 0x4006 => flcBlockWrite s d.reg x a v
  | 0x4007 => adcBlockWrite s d.reg x a v
  | 0x4008 => iosBlockWrite s i d.reg x a v
  | 0x4009 => pinBlockWrite s i d.reg x a v
  | 0x400A => xspBlockWrite s d.reg x y a v
  | 0x400B => xspBlockWrite s d.reg x y a v
  | 0x400C => cvyBlockWrite s d.reg x a v
  | 0x400D => hstRegWrite s d.reg a v
  | 0x400E => s
  | 0x400F => layRegWrite s a v
  | 0x4010 => secWrite s i priv a v
  | 0x4011 => dmaRegWrite s d.reg x a v
  | 0x4012 => adcBlockWrite s d.reg x a v
  | _ => if d.reg = .TMP_CTL then (if bitsOf v 0 0 = 1 then peakClr s else s) else genericWrite s a v

/-- A write of a peripheral address; an offset at which no register is defined ignores it (R42). -/
def regWrite (s : State) (i : Agent) (priv : Bool) (a : Nat) (v : Word) : State :=
  match regAt a with
  | some (d, x, y) => regWriteAt s i priv a v d x y
  | none => s

end Sys2Proof.Machine
end

