-- ==== Sys2Proof/Machine/Bus.lean ====
section
/-! DEFINITION. The system interconnect: an access of one initiator to the 40-bit map (R12, R22, R37, R41–R44, R50, R52). -/

namespace Sys2Proof.Machine

/-- A read of n bytes at an address by an initiator. -/
def busRead (s : State) (i : Agent) (a n : Nat) : Rd × State :=
  if inPeri a then
    if periOk a n then
      let r := regRead s i a
      (.ok r.1.toNat, settle r.2)
    else (.err .bus, s)
  else memRead s i false a n

/-- The voiding event of a write to the SRAM of a tile of a sealed partition that is provisioned (R44, R65, R147, R540):
FOREIGN_WRITE. -/
def foreignWrite (s : State) (a : Nat) : State :=
  if inTiles a then
    match s.tilePart ((a - 0x20000000) / 0x10000) with
    | some p => voidIfSealed s 0x06 p
    | none => s
  else s

/-- A write that the locks of constant and sealed regions refuse (R52, R165). -/
def writeLocked (s : State) (a : Nat) : Bool := inLockedCr s a || !(sealedCovers s a).isEmpty

/-- A write of n bytes at an address by an initiator, past the locks. -/
def busWriteFree (s : State) (i : Agent) (priv : Bool) (a n v : Nat) : Wr × State :=
  if inPeri a then
    if !periOk a n || mpuRefused i priv a then (.err, s)
    else (.ok, settle (regWrite s i priv a (BitVec.ofNat 64 v)))
  else
    match memWrite s i a n v with
    | (.ok, s) => (.ok, foreignWrite s a)
    | r => r

/-- A write of n bytes at an address by an initiator. -/
def busWrite (s : State) (i : Agent) (priv : Bool) (a n v : Nat) : Wr × State :=
  if writeLocked s a then (.err, s) else busWriteFree s i priv a n v

/-! ## What each initiator reaches (R22) -/

def keyRow (a : Nat) : Bool := decide (0x8004000 ≤ a ∧ a < 0x8005000)

/-- Whether the SEC block admits a host window access (R503). -/
def hostAdmits (s : State) (a : Nat) : Bool :=
  if inRom a || keyRow a then false
  else if s.get F.DBG_LEVEL_LEVEL = 2 then true
  else if s.dev = dsBoot then s.flag F.HW_STATE_HOST_WAIT && inDepot a
  else
    (inFlash a && s.flag F.SEC_HOSTWIN_FLASH) || (inInfo a && s.flag F.SEC_HOSTWIN_INFO) ||
    (inDepot a && s.flag F.SEC_HOSTWIN_DEPOT) || (inTiles a && s.flag F.SEC_HOSTWIN_TILE) ||
    (inPeri a && s.flag F.SEC_HOSTWIN_PERIPH) || (inXsp a && s.flag F.SEC_HOSTWIN_XSP)

/-- The registers a general DMA channel may name (R24). -/
def dmaReg (a : Nat) : Bool :=
  match regAt a with
  | some (d, _, _) =>
    d.reg == .ADC_LATEST || d.reg == .IOS_TXF || d.reg == .IOS_RXF || d.reg == .PIN_OUT_LO || d.reg == .PIN_OUT_HI ||
    d.reg == .PIN_DIR_LO || d.reg == .PIN_DIR_HI || d.reg == .PIN_IN
  | none => false

/-- The release mirror, which DMA channels read (R209). -/
def inMirror (a : Nat) : Bool :=
  match regAt a with
  | some (d, _, _) => d.reg == .WPT_MIRROR
  | none => false

/-- What a general channel may write, and what it may read (R24). -/
def dmaWrites (a : Nat) : Bool := inDepot a || inTiles a || inXsp a || dmaReg a
def dmaReads (a : Nat) : Bool := dmaWrites a || inFlash a || inInfo a || inMirror a

/-- Whether an initiator may write an address. -/
def mayWrite (s : State) (i : Agent) (a : Nat) : Bool :=
  match i with
  | .sc _ => true
  | .dma _ => dmaWrites a
  | .host => hostAdmits s a
  | .debug => decide (1 ≤ s.get F.DBG_LEVEL_LEVEL)

/-! ## Read-clear registers: each read returns the field and clears it (R13) -/

/-- A read of a register by firmware: what it returns is kept for its initiator. -/
def readReg (s : State) (a : Nat) : State :=
  let r := regRead s (.sc 0) a
  { r.2 with rdata := r.1 }

/-- SYS_ECC_CORR_READ (R168). -/
def execSysEccCorrRead (s : State) : Host.Outcome State Fault Refusal := .next (readReg s A.SYS_ECC_CORR)
/-- LANE_FAULT_COUNT_READ (R196). -/
def execLaneFaultCountRead (s : State) : Host.Outcome State Fault Refusal := .next (readReg s A.LANE_FAULT_COUNT)
/-- LANE_ECC_READ (R198). -/
def execLaneEccRead (s : State) : Host.Outcome State Fault Refusal := .next (readReg s A.LANE_ECC)
/-- WPT_LATE_COUNT_READ (R214). -/
def execWptLateCountRead (p : Fin 4) (s : State) : Host.Outcome State Fault Refusal := .next (readReg s (A.WPT_LATE_COUNT p))
/-- WPT_SKIPPED_READ (R213). -/
def execWptSkippedRead (p : Fin 4) (s : State) : Host.Outcome State Fault Refusal := .next (readReg s (A.WPT_SKIPPED p))
/-- CVY_SHOULDER_COUNT_READ (R262). -/
def execCvyShoulderCountRead (s : State) : Host.Outcome State Fault Refusal := .next (readReg s A.CVY_SHOULDER_COUNT)
/-- CVY_PORT_ERR_READ (R241). -/
def execCvyPortErrRead (j : Fin 3) (s : State) : Host.Outcome State Fault Refusal := .next (readReg s (A.CVY_PORT_ERR j))
/-- CVY_PORT_DOWNS_READ (R242). -/
def execCvyPortDownsRead (j : Fin 3) (s : State) : Host.Outcome State Fault Refusal := .next (readReg s (A.CVY_PORT_DOWNS j))
/-- CVY_IN_DIS_READ (R252). -/
def execCvyInDisRead (p : Fin 4) (s : State) : Host.Outcome State Fault Refusal := .next (readReg s (A.CVY_IN_DIS p))
/-- CVY_NOMAJ_READ (R252). -/
def execCvyNomajRead (p : Fin 4) (s : State) : Host.Outcome State Fault Refusal := .next (readReg s (A.CVY_NOMAJ p))
/-- ADC_RDROP_READ (R285). -/
def execAdcRdropRead (i : Fin 32) (s : State) : Host.Outcome State Fault Refusal := .next (readReg s (A.ADC_RDROP i))
/-- PIN_NOWN_COUNT_READ (R329). -/
def execPinNownCountRead (s : State) : Host.Outcome State Fault Refusal := .next (readReg s A.PIN_NOWN_COUNT)
/-- FLC_CORR_READ (R379). -/
def execFlcCorrRead (s : State) : Host.Outcome State Fault Refusal := .next (readReg s A.FLC_CORR)

/-! ## HST accesses by firmware (R415, R416, R425) -/

/-- HST_MBX_IN_POP: the oldest inbound word, 0 when empty. -/
def execHstMbxInPop (s : State) : Host.Outcome State Fault Refusal := .next (readReg s A.HST_MBX_IN)
/-- HST_MBX_OUT_PUSH: a push, or OUT_LOST when the mailbox is full. -/
def execHstMbxOutPush (v : BitVec 32) (s : State) : Host.Outcome State Fault Refusal := .next (mbxOutPush s v)
/-- HST_DONE: an FW command completes with the written result; ignored while none is pending. -/
def execHstDone (r : BitVec 32) (s : State) : Host.Outcome State Fault Refusal := .next (hstDone s r)
/-- HST_LOG: an entry of class 15. -/
def execHstLog (v : BitVec 32) (s : State) : Host.Outcome State Fault Refusal := .next (hstLog s v)

end Sys2Proof.Machine
end

