-- ==== Sys2Proof/Machine/LoadStore.lean ====
section
/-! DEFINITION. Loads and stores of the cores (R86–R91, R114–R116, R152–R154, R160–R168): the tile local view, the data cache
of a service core, forwarding, and the store buffer's drain. -/

namespace Sys2Proof.Machine

/-- What a load comes to: its bytes, a trap condition, or a wait. -/
inductive Ld where
  | val (v : Nat) (s : State)
  | trap (s : State) (cause : Nat)
  | wait (s : State) (ev : Nat)

/-! ## The data cache (R160) -/

def noLine (_ : Nat) : Option DLine := none
def dset (line : Nat) : Nat := line % 128

/-- The slot of a service core's data cache that holds a line. -/
def dFind (c : Core) (line : Nat) : Option Nat :=
  ((List.range 4).map (fun w => dset line * 4 + w)).find? (fun x => match c.dline.read noLine x with
    | some l => l.line == line
    | none => false)

/-- The data cache's word w of a slot, in the array of R168. -/
def dMark (k slot w : Nat) : Nat := (k - 256) * 4096 + slot * 8 + w

def dDrop (s : State) (k slot : Nat) : State :=
  (s.onCore k (fun c => { c with dline := c.dline.write noLine slot none })).clearEcc memDCache (dMark k slot 0) 8

/-- Write a dirty line back. One that holds an uncorrectable word is lost, and the error reported (R168); a line of an octal
window is handed to its port (R391). -/
def dWriteBack (s : State) (k slot : Nat) : State :=
  match (s.core k).dline.read noLine slot with
  | none => s
  | some l =>
    if !l.dirty then s
    else
      let a := l.line * 64
      let clean (s : State) := s.onCore k (fun c => { c with dline := c.dline.write noLine slot (some { l with dirty := false }) })
      let fixed := s.countMarks memDCache (dMark k slot 0) 8
      let s := if fixed = 0 then s else s.addSat F.SYS_ECC_CORR_COUNT fixed
      if s.anyUncorr memDCache (dMark k slot 0) 8 then dDrop (memError s memDCache 1 k a) k slot
      else if inXsp a then
        match xspAccess s a 64 true with
        | some c => xspRequest (clean s) ⟨xiStore, k - 256, a, 64, toLe l.data.toNat 64, true, c, false, 0, false⟩ (portOf a)
        | none => clean s
      else foreignWrite (memWrite (clean s) (scAgent k) a 64 l.data.toNat).2 a

/-- Fill a line in round-robin place of its set, its victim written back first (R160). -/
def dFill (s : State) (k line : Nat) : Rd × State :=
  match memRead s (scAgent k) false (line * 64) 64 with
  | (.ok v, s) =>
    let w := (s.core k).dway.read zeroN (dset line)
    let slot := dset line * 4 + w
    let s := dDrop (dWriteBack s k slot) k slot
    let s := s.onCore k (fun c => { c with dline := c.dline.write noLine slot (some ⟨line, false, BitVec.ofNat 512 v⟩),
                                           dway := c.dway.write zeroN (dset line) ((w + 1) % 4) })
    (.ok slot, s.pmc k evDMiss 1)
  | r => r

/-- The slot of the line of an address whose word may be read: a bad word of a clean line is refilled and counted as
corrected, one of a dirty line loses the line (R168). -/
def dSlot (s : State) (k a : Nat) : Rd × State :=
  match dFind (s.core k) (a / 64) with
  | none => dFill s k (a / 64)
  | some x =>
    let key := dMark k x (a / 8 % 8)
    match s.eccOf memDCache key with
    | 0 => (.ok x, s)
    | 2 =>
      if (match (s.core k).dline.read noLine x with
          | some l => l.dirty
          | none => false) then (.err .line, dDrop (memError s memDCache 1 k a) k x)
      else dFill ((dDrop (countCorrected s) k x).pmc k evEccCorrected 1) k (a / 64)
    | _ => (.ok x, (countCorrected (s.setEcc memDCache key 3)).pmc k evEccCorrected 1)

def dBytes (s : State) (k x : Nat) : Nat :=
  match (s.core k).dline.read noLine x with
  | some l => l.data.toNat
  | none => 0

/-- A load through the data cache. -/
def dLoad (s : State) (k a n : Nat) : Rd × State :=
  match dSlot s k a with
  | (.ok x, s) => (.ok (dBytes s k x / 2 ^ (8 * (a % 64)) % 2 ^ (8 * n)), s)
  | r => r

/-- A store into the data cache, which allocates the line. Where the fill meets an uncorrectable word the store goes to memory: a
whole word repairs it, a narrower one is not written (R168). A narrow store that meets an uncorrectable word of a dirty line: the
line is lost and reported, and the store goes to memory (DESIGN CHOICE, log 53). -/
def dStore (s : State) (k a n v : Nat) : Wr × State :=
  let s := if n = 8 then (match dFind (s.core k) (a / 64) with
    | some x => s.clearEcc memDCache (dMark k x (a / 8 % 8)) 1
    | none => s) else s
  match dSlot s k a with
  | (.ok x, s) =>
    let d := dBytes s k x
    let sh := 2 ^ (8 * (a % 64))
    let d' := d - d / sh % 2 ^ (8 * n) * sh + v % 2 ^ (8 * n) * sh
    (.ok, s.onCore k (fun c => { c with dline := c.dline.write noLine x (some ⟨a / 64, true, BitVec.ofNat 512 d'⟩) }))
  | (.wait, s) => (.wait, s)
  | (.err .ecc, s) => busWriteFree s (scAgent k) (s.isPriv k) a n v
  | (.err .line, s) => busWriteFree s (scAgent k) (s.isPriv k) a n v
  | (.err _, s) => (.ok, s)

/-! ## Forwarding (R90) -/

def overlaps (e : SbEntry) (a n : Nat) : Bool := decide (a < e.addr + e.size ∧ e.addr < a + n)

/-- The youngest older store that overlaps a load. -/
def youngest (c : Core) (a n : Nat) : Option SbEntry := (c.sb.filter (fun e => overlaps e a n)).getLast?

/-! ## The tile local view (R152–R154) -/

/-- What a tile address names. -/
inductive Spot where
  | code | shadow | data | snap | rel | const | peri | other
  deriving DecidableEq, Repr

def spotOf (a : Nat) : Spot :=
  if a < 0x4000 then .code
  else if a < 0x8000 then .shadow
  else if a < 0x10000 then .data
  else if a < 0x18000 then .snap
  else if a < 0x20000 then .other
  else if a < 0x28000 then .rel
  else if 0x100000 ≤ a ∧ a < 0x1100000 then .const
  else if 0x40000000 ≤ a ∧ a < 0x40140000 then .peri
  else .other

/-- Every byte of a constant-view access lies in an enabled region of the partition. -/
def inView (s : State) (t a n : Nat) : Bool :=
  match s.tilePart t with
  | some p => (crMap s p a).isSome && (crMap s p (a + n - 1)).isSome
  | none => false

/-- The release map entry of a word: the tile that may store to it (R154, R208). -/
def relWriter (s : State) (p i : Nat) : Option Nat :=
  let e := mapEntry s p false true i
  if e / 2 ^ 27 % 2 = 1 then some (e / 2 ^ 16 % 256) else none

/-- The first trap condition of a tile's access, in the order of R145, or none. -/
def tileCheck (s : State) (t : Nat) (store : Bool) (a n : Nat) : Option Nat :=
  let sp := spotOf a
  let sealBad := match sp with
    | .snap => store
    | .const => store || !inView s t a n
    | .peri => true
    | _ => false
  let protBad := sealBad || (match sp with
    | .code => store
    | .shadow => true
    | .other => true
    | _ => false)
  if sealBad && s.isSealed t then some tcSeal
  else if a % n ≠ 0 then some tcAlign
  else if protBad then some tcProtection
  else if store && sp == .rel && (match s.tilePart t with
      | some p => relWriter s p ((a - 0x20000) / 8) != some t
      | none => true) then some tcReleaseWriter
  else none

/-- A voiding event of a tile's partition that voids only the value guarantee (R65). -/
def voidTile (s : State) (t code : Nat) : State :=
  match s.tilePart t with
  | some p => voidIfSealed s code p
  | none => s

/-- ECC_DEPOT for every sealed partition of a region's PART mask, one voiding event each (R65, R168; DESIGN CHOICE, log 64). -/
def voidDepot (s : State) (ps : List Nat) : State := ps.foldl (fun s p => voidIfSealed s 0x03 p) s

/-- The partitions of a region's PART mask. -/
def regionParts (s : State) (n : Nat) : List Nat := (List.range 4).filter (fun p => s.bitAt (F.SYS_CR_CTL_PART n) p)

/-- The partitions of the enabled constant regions that cover a depot address. -/
def crParts (s : State) (a : Nat) : List Nat :=
  (List.range 4).filter (fun p => (List.range 8).any (fun n => crCovers s n a && s.bitAt (F.SYS_CR_CTL_PART n) p))

/-- The bytes n at a of a 64-bit word. -/
def partOf (w a n : Nat) : Nat := w / 2 ^ (8 * (a % 8)) % 2 ^ (8 * n)

/-- The snapshot buffer the tiles of p see (R30). -/
def seenSnap (s : State) (p : Nat) : Nat × Nat := (if (s.part p).vis then 1 else 0, (2 * p + (if (s.part p).vis then 1 else 0)) * 4096)

/-- A load from the snapshot (R153, R204): a word not yet filled is awaited, one beyond the length reads 0. -/
def snapLoad (s : State) (t p a n : Nat) : Ld :=
  let i := (a - 0x10000) / 8
  let b := seenSnap s p
  if snapLen s p ≤ i then .val 0 s
  else if (s.part p).fill.read nat0 b.1 ≤ i then .wait s evDepotWait
  else
    match eccLoad s t memSnap (b.2 + i) a with
    | (s, true) => .trap (voidIfSealed s 0x05 p) tcEcc
    | (s, false) => .val (partOf ((s.wpt.snap.read zero64 (b.2 + i)).toNat) a n) s

/-- A load from the depot constant view (R158). -/
def constLoad (s : State) (t p a n : Nat) : Ld :=
  match crRegion s p a with
  | none => .trap s tcProtection
  | some (n', d) =>
    if zeroingAt s d then .wait s evDepotWait
    else
      match eccLoad s t memDepot (d / 8) a with
      | (s, true) => .trap (voidDepot s (regionParts s n')) tcEcc
      | (s, false) => .val (s.bytes d n) s

/-- A load from the tile's own SRAM. -/
def ownLoad (s : State) (t a n : Nat) : Ld :=
  let d := tilePhys s t a
  match eccLoad s t memTile (d / 8) a with
  | (s, true) => .trap (voidTile s t 0x02) tcEcc
  | (s, false) => .val (s.bytes d n) s

def tileLoad (s : State) (t a n : Nat) : Ld :=
  match tileCheck s t false a n with
  | some c => .trap s c
  | none =>
    if spotOf a = .rel then .val 0 s
    else
      match youngest (s.core t) a n with
      | some e =>
        if e.addr = a ∧ e.size = n then .val e.data.toNat (s.pmc t evForwarded 1) else .wait s evOverlap
      | none =>
        match spotOf a, s.tilePart t with
        | .snap, some p => snapLoad s t p a n
        | .const, some p => constLoad s t p a n
        | .snap, none => .val 0 s
        | _, _ => ownLoad s t a n

/-! ## A service core's load -/

/-- The outcome of a bus or cache read as a load of SCk (R168, R360, R375, R390, R494). -/
def scResult (k a : Nat) (r : Rd × State) : Ld :=
  match r with
  | (.ok v, s) => .val v s
  | (.wait, s) => .wait s waitPlaced
  | (.err .bus, s) => .trap s tcBusError
  | (.err .prot, s) => .trap s tcProtection
  | (.err .line, s) => .trap s tcEcc
  | (.err .ecc, s) =>
    if inTiles a then
      (if s.isSealed k then .trap (voidReport s 0x02 (.sc (k - 256))) tcEcc else .trap s tcBusError)
    else if inDepot a && s.isSealed k && inCr s a then .trap (voidDepot s (crParts s a)) tcEcc
    else .trap s tcEcc

def scLoad (s : State) (k a n : Nat) : Ld :=
  match scAccess s k .load a n with
  | .inl c => .trap s c
  | .inr attr =>
    if attr.ordered && !(s.core k).sb.isEmpty then .wait s 0
    else
      match youngest (s.core k) a n with
      | some e =>
        if e.addr = a ∧ e.size = n then .val e.data.toNat (s.pmc k evForwarded 1) else .wait s evOverlap
      | none => scResult k a (if attr.cached then dLoad s k a n else busRead s (scAgent k) a n)

def coreLoad (s : State) (k a n : Nat) : Ld := if isSc k then scLoad s k a n else tileLoad s k a n

/-! ## Loads (R114) -/

/-- The effective address ga + imm. -/
def effAddr (s : State) (k : Nat) (a : BitVec 5) (imm : BitVec 16) : Nat := (greg s k a + immS imm).toNat

/-- The comparators judge a data access, but not one of a fed instruction. -/
def compareData (s : State) (k : Nat) (x : Acc3) (a n v : Nat) : State :=
  if s.dbgp.feed.isSome then s else (compare s k x a n (some (BitVec.ofNat 64 v))).1

/-- A load of n bytes (R114): the value goes to its register through `wr`. -/
def loadInstr (k : CoreId) (w : Nat) (a : BitVec 5) (imm : BitVec 16) (n : Nat) (wr : Nat → Core → Core) (s : State) : State :=
  runInstr s k w (fun s =>
    let ea := effAddr s k a imm
    match coreLoad s k ea n with
    | .val v s => .done (compareData (s.onCore k (fun c => (wr v c).step)) k .load ea n v)
    | .trap s c => .trap s c 0 ea
    | .wait s ev => .pend s ev)

def toG (d : BitVec 5) (signed : Bool) (n : Nat) (v : Nat) (c : Core) : Core := c.setG d.toNat (extendLoad signed n v)
def toF (d : BitVec 5) (v : Nat) (c : Core) : Core := c.setF d.toNat (BitVec.ofNat 64 v)

/-- LDB (R114): a byte, sign-extended. -/
def execLdb (k : CoreId) (d a : BitVec 5) (imm : BitVec 16) (s : State) : Host.Outcome State Fault Refusal :=
  .next (loadInstr k (wordOf (.ldb k d a imm)) a imm 1 (toG d true 1) s)

/-- LDBU (R114): a byte, zero-extended. -/
def execLdbu (k : CoreId) (d a : BitVec 5) (imm : BitVec 16) (s : State) : Host.Outcome State Fault Refusal :=
  .next (loadInstr k (wordOf (.ldbu k d a imm)) a imm 1 (toG d false 1) s)

/-- LDH (R114): a halfword, sign-extended. -/
def execLdh (k : CoreId) (d a : BitVec 5) (imm : BitVec 16) (s : State) : Host.Outcome State Fault Refusal :=
  .next (loadInstr k (wordOf (.ldh k d a imm)) a imm 2 (toG d true 2) s)

/-- LDHU (R114): a halfword, zero-extended. -/
def execLdhu (k : CoreId) (d a : BitVec 5) (imm : BitVec 16) (s : State) : Host.Outcome State Fault Refusal :=
  .next (loadInstr k (wordOf (.ldhu k d a imm)) a imm 2 (toG d false 2) s)

/-- LDW (R114): 4 bytes, sign-extended. -/
def execLdw (k : CoreId) (d a : BitVec 5) (imm : BitVec 16) (s : State) : Host.Outcome State Fault Refusal :=
  .next (loadInstr k (wordOf (.ldw k d a imm)) a imm 4 (toG d true 4) s)

/-- LDWU (R114): 4 bytes, zero-extended. -/
def execLdwu (k : CoreId) (d a : BitVec 5) (imm : BitVec 16) (s : State) : Host.Outcome State Fault Refusal :=
  .next (loadInstr k (wordOf (.ldwu k d a imm)) a imm 4 (toG d false 4) s)

/-- LDD (R114): 8 bytes. -/
def execLdd (k : CoreId) (d a : BitVec 5) (imm : BitVec 16) (s : State) : Host.Outcome State Fault Refusal :=
  .next (loadInstr k (wordOf (.ldd k d a imm)) a imm 8 (toG d false 8) s)

/-- FLDS (R114, R116): 4 bytes to fd[31:0], fd[63:32] set to 0. -/
def execFlds (k : CoreId) (d a : BitVec 5) (imm : BitVec 16) (s : State) : Host.Outcome State Fault Refusal :=
  .next (loadInstr k (wordOf (.flds k d a imm)) a imm 4 (toF d) s)

/-- FLDD (R114, R116): 8 bytes to fd. -/
def execFldd (k : CoreId) (d a : BitVec 5) (imm : BitVec 16) (s : State) : Host.Outcome State Fault Refusal :=
  .next (loadInstr k (wordOf (.fldd k d a imm)) a imm 8 (toF d) s)

/-! ## Stores (R89, R114) -/

/-- A store's commit: it enters the store buffer. -/
def sbPush (s : State) (k a n : Nat) (v : Word) (cached : Bool) : State :=
  let p := s.isPriv k
  s.onCore k (fun c => { c with sb := c.sb ++ [⟨a, n, BitVec.ofNat 64 (v.toNat % 2 ^ (8 * n)), p, cached⟩] })

/-- The trap condition of a service core's store that its target names (R12, R164, R390), after those of `scAccess`. -/
def scStoreBad (s : State) (k a n : Nat) : Bool :=
  (inPeri a && (!periOk a n || mpuRefused (scAgent k) (s.isPriv k) a)) || (inXsp a && (xspAccess s a n true).isNone)

/-- A register of the memory protection units, whose write takes effect for every younger instruction (R142, R164). -/
def isMpuReg (a : Nat) : Bool := decide (0x40001000 ≤ a ∧ a < 0x40001400)

/-- A store of n bytes of v at a by core k: its trap condition, a wait, or its entry into the store buffer. A store to the boot ROM is
ignored (R43), and one to a register of the memory protection unit acts at its commit (R164). -/
def coreStore (s : State) (k a n : Nat) (v : Word) : Att :=
  let full := decide (8 ≤ (s.core k).sb.length)
  if isSc k then
    match scAccess s k .store a n with
    | .inl c => .trap s c 0 a
    | .inr attr =>
      if scStoreBad s k a n then .trap s tcBusError 0 a
      else if full then .wait evSbFull
      else if attr.ordered && !(s.core k).sb.isEmpty then .wait 0
      else if inRom a then .done s
      else if isMpuReg a then .done (busWriteFree s (scAgent k) (s.isPriv k) a n (v.toNat % 2 ^ (8 * n))).2
      else .done (sbPush s k a n v attr.cached)
  else
    match tileCheck s k true a n with
    | some c => .trap s c 0 (if c = tcReleaseWriter then 0 else a)
    | none => if full then .wait evSbFull else .done (sbPush s k a n v false)

def storeInstr (k : CoreId) (w : Nat) (a : BitVec 5) (imm : BitVec 16) (n : Nat) (rd : State → Word) (s : State) : State :=
  runInstr s k w (fun s =>
    let ea := effAddr s k a imm
    match coreStore s k ea n (rd s) with
    | .done t => .done (compareData (adv t k) k .store ea n ((rd s).toNat % 2 ^ (8 * n)))
    | r => r)

/-- STB (R114): gs[7:0]. -/
def execStb (k : CoreId) (d a : BitVec 5) (imm : BitVec 16) (s : State) : Host.Outcome State Fault Refusal :=
  .next (storeInstr k (wordOf (.stb k d a imm)) a imm 1 (fun s => greg s k d) s)

/-- STH (R114): gs[15:0]. -/
def execSth (k : CoreId) (d a : BitVec 5) (imm : BitVec 16) (s : State) : Host.Outcome State Fault Refusal :=
  .next (storeInstr k (wordOf (.sth k d a imm)) a imm 2 (fun s => greg s k d) s)

/-- STW (R114): gs[31:0]. -/
def execStw (k : CoreId) (d a : BitVec 5) (imm : BitVec 16) (s : State) : Host.Outcome State Fault Refusal :=
  .next (storeInstr k (wordOf (.stw k d a imm)) a imm 4 (fun s => greg s k d) s)

/-- STD (R114): gs. -/
def execStd (k : CoreId) (d a : BitVec 5) (imm : BitVec 16) (s : State) : Host.Outcome State Fault Refusal :=
  .next (storeInstr k (wordOf (.std k d a imm)) a imm 8 (fun s => greg s k d) s)

/-- FSTS (R114, R116): fs[31:0]. -/
def execFsts (k : CoreId) (d a : BitVec 5) (imm : BitVec 16) (s : State) : Host.Outcome State Fault Refusal :=
  .next (storeInstr k (wordOf (.fsts k d a imm)) a imm 4 (fun s => freg s k d) s)

/-- FSTD (R114, R116): fs. -/
def execFstd (k : CoreId) (d a : BitVec 5) (imm : BitVec 16) (s : State) : Host.Outcome State Fault Refusal :=
  .next (storeInstr k (wordOf (.fstd k d a imm)) a imm 8 (fun s => freg s k d) s)

/-! ## The drain (R89, R91, R154, R168, R206) -/

/-- The bytes of a word replaced by n bytes of v at its byte offset. -/
def mergeWord (w : Word) (a n v : Nat) : Word :=
  let sh := 2 ^ (8 * (a % 8))
  BitVec.ofNat 64 (w.toNat - w.toNat / sh % 2 ^ (8 * n) * sh + v % 2 ^ (8 * n) * sh)

/-- A drain into the release storage: only the store's own bytes of the word change (R154). -/
def relDrain (s : State) (p : Nat) (e : SbEntry) : State :=
  let i := (e.addr - 0x20000) / 8
  let key := 4096 * p + i
  let s := { s with wpt := { s.wpt with rel := s.wpt.rel.write zero64 key (mergeWord (s.wpt.rel.read zero64 key) e.addr e.size e.data.toNat) },
                    cvy := { s.cvy with clean := s.cvy.clean.drop (relGranule p (i / 32)) } }
  if e.size = 8 then s.clearEcc memRel key 1 else s

/-- A narrow drain over an uncorrectable word (R168): the word is not written; while the partition scans, the tile stops and
the partition faults. -/
def badDrain (s : State) (t : Nat) (e : SbEntry) : State :=
  let s := voidTile (memError s memTile 0 t e.addr) t 0x02
  match s.tilePart t with
  | some p =>
    if s.pstate p = psScanning ∧ (s.core t).run ≠ .stopped then
      let c := s.core t
      partitionFault (stopTile s t) p pfTrap (some ⟨t, c.pc.toNat, tcEcc, e.addr, c.slot⟩)
    else s
  | none => s

def tileDrain (s : State) (t : Nat) (e : SbEntry) : State :=
  if spotOf e.addr = .rel then
    match s.tilePart t with
    | some p => relDrain s p e
    | none => s
  else
    let a := tilePhys s t e.addr
    if e.size < 8 ∧ s.eccOf memTile (a / 8) = 2 then badDrain s t e
    else storeBytes s 0 t a e.size e.data.toNat

/-- The oldest entry of a core's store buffer drains; true when it has. -/
def drainOne (s : State) (k : Nat) : Bool × State :=
  match (s.core k).sb with
  | [] => (false, s)
  | e :: rest =>
    let pop (s : State) := s.onCore k (fun c => { c with sb := rest })
    if isSc k then
      match (if e.cached then dStore s k e.addr e.size e.data.toNat
             else busWriteFree s (scAgent k) e.priv e.addr e.size e.data.toNat) with
      | (.wait, s) => (false, s)
      | (_, s) => (true, pop s)
    else (true, tileDrain (pop s) k e)

/-- The feed of a core that had stores to drain ends (R519). -/
def feedDrained (s : State) (k : Nat) : State :=
  if (s.core k).sb.isEmpty && bitsOf ((s.core k).dreg 0x22C) 31 31 == 1 then
    s.onCore k (fun c => c.setD 0x22C (withBits (withBits (c.dreg 0x22C) 31 31 0) 30 30 1))
  else s

/-- STORE_DRAIN (R89): the oldest store of a core drains to memory, the release storage or the interconnect. -/
def execStoreDrain (k : CoreId) (s : State) : Host.Outcome State Fault Refusal :=
  if coresClocked s then .next (feedDrained (drainOne s k).2 k) else .next s

/-- ECC_REWRITE (R168): an array rewrites a corrected word. -/
def execEccRewrite (arr : Fin 8) (word : Nat) (s : State) : Host.Outcome State Fault Refusal :=
  .next (if s.eccOf arr word = 3 ∧ arr.val ≠ memSave then s.clearEcc arr word 1 else s)

end Sys2Proof.Machine
end

