-- ==== Sys2Proof/Machine/System.lean ====
section
/-! DEFINITION. Lane, waypoint and system instructions (R128–R143), trap entry and halt entry (R138, R514). -/

namespace Sys2Proof.Machine

/-! ## Lanes (R95, R96, R128–R130) -/

/-- The first trap condition of a lane instruction on a port, with its code: a reserved port, then a port with no lane
(R128, R129). -/
def lanePortTrap (port : Nat) (lane : Option Nat) : Option (Nat × Nat) :=
  if 16 ≤ port then some (tcIllegal, 0) else if lane.isNone then some (tcLanePort, port) else none

/-- LSEND and LSENDF (R96): the word enters the port once it holds a toll. -/
def laneSend (k : CoreId) (w : Nat) (port : BitVec 5) (rd : State → Word) (s : State) : State :=
  runInstr s k w (fun s =>
    let l := outLane s k port.toNat
    match lanePortTrap port.toNat l, l with
    | some t, _ => .trap s t.1 t.2 0
    | none, none => .wait 0
    | none, some l => if canSend s k l then .done (adv (sendWord s l (rd s)) k) else .wait evSendWait)

/-- LSEND (R96): ga. -/
def execLsend (k : CoreId) (port a : BitVec 5) (s : State) : Host.Outcome State Fault Refusal :=
  .next (laneSend k (wordOf (.lsend k port a)) port (fun s => greg s k a) s)

/-- LSENDF (R96): the bits of fa. -/
def execLsendf (k : CoreId) (port a : BitVec 5) (s : State) : Host.Outcome State Fault Refusal :=
  .next (laneSend k (wordOf (.lsendf k port a)) port (fun s => freg s k a) s)

/-- LRECV and LRECVF (R95, R129): the word at the read pointer; a poisoned one traps with ECC (R198). -/
def laneRecv (k : CoreId) (w : Nat) (port : BitVec 5) (wr : Word → Core → Core) (s : State) : State :=
  runInstr s k w (fun s =>
    let l := inLane s k port.toNat
    match lanePortTrap port.toNat l, l with
    | some t, _ => .trap s t.1 t.2 0
    | none, none => .wait 0
    | none, some l =>
      if portHeld s k port.toNat = 0 || auditHolds s k l then .wait evRecvWait
      else
        let i := ringRead s k port.toNat
        match eccLoad s k memStore i (8 * i) with
        | (s, true) => .trap (match laneOwner s l with
            | some p => if s.mesh.poison.read noB i then s else voidIfSealed s 0x04 p
            | none => s) tcEcc 0 0
        | (s, false) =>
          let v := s.mesh.store.read zero64 i
          .done ((recvWord s k port.toNat l).onCore k (fun c => (wr v c).step)))

/-- LRECV (R95). -/
def execLrecv (k : CoreId) (d port : BitVec 5) (s : State) : Host.Outcome State Fault Refusal :=
  .next (laneRecv k (wordOf (.lrecv k d port)) port (fun v c => c.setG d.toNat v) s)

/-- LRECVF (R95). -/
def execLrecvf (k : CoreId) (d port : BitVec 5) (s : State) : Host.Outcome State Fault Refusal :=
  .next (laneRecv k (wordOf (.lrecvf k d port)) port (fun v c => c.setF d.toNat v) s)

/-- LPROBE (R130): the words held beyond the read pointer, or the tolls held, once the store buffer is empty (R86). -/
def execLprobe (k : CoreId) (d port : BitVec 5) (out : Bool) (s : State) : Host.Outcome State Fault Refusal :=
  .next (runInstr s k (wordOf (.lprobe k d port out)) (fun s =>
    match decodeTrap s k (decide (16 ≤ port.toNat)) false true false with
    | some t => .trap s t 0 0
    | none =>
      match if out then outLane s k port.toNat else inLane s k port.toNat with
      | none => .trap s tcLanePort port.toNat 0
      | some l =>
        if !(s.core k).sb.isEmpty then .wait 0
        else .done (writeG s k d (BitVec.ofNat 64 (if out then portTolls s l else portHeld s k port.toNat)))))

/-! ## WAYPT (R97, R131) -/

/-- The commit of WAYPT on tile k: the keep copy, the wait, and with the last tile the output vector. -/
def arrive (s : State) (k : Nat) : State :=
  let s := (adv (layCopy s k) k).onCore k (fun c => { c with run := .waypt })
  match s.tilePart k with
  | none => s
  | some p => if arrived s p && s.cvy.mergePart != some p then sendOut s p else s

/-- WAYPT (R97, R131). -/
def execWaypt (k : CoreId) (s : State) : Host.Outcome State Fault Refusal :=
  .next (runInstr s k (wordOf (.waypt k)) (fun s =>
    match decodeTrap s k (isSc k) true false false with
    | some t => .trap s t 0 0
    | none => if !(s.core k).sb.isEmpty then .wait 0 else .done (arrive s k)))

/-! ## SYNC, BRKPT, TRAP (R133) -/

/-- A store of SCk that an octal port has not yet accepted at its device (R133, R391). -/
def storesWaiting (s : State) (k : Nat) : Bool :=
  s.xsp.any (fun e => (e.2.queue ++ e.2.req.toList).any (fun r => r.init == xiStore && r.who == k - 256))

/-- SYNC (R133): it completes when every older store has drained and has been accepted. -/
def execSync (k : CoreId) (s : State) : Host.Outcome State Fault Refusal :=
  .next (runInstr s k (wordOf (.sync k)) (fun s =>
    if !(s.core k).sb.isEmpty || (isSc k && storesWaiting s k) then .wait 0 else .done (adv s k)))

/-- BRKPT (R133, R514, R525): a halt request before it executes, else a trap. -/
def execBrkpt (k : CoreId) (code : BitVec 10) (s : State) : Host.Outcome State Fault Refusal :=
  .next (runInstr s k (wordOf (.brkpt k code)) (fun s =>
    match decodeTrap s k false true false false with
    | some t => .trap s t 0 0
    | none =>
      if s.flag F.DBG_CTL_SWBRK && mayHalt s k then .pend (requestHalt s k 2) 0
      else .trap s tcBrkpt code.toNat 0))

/-- TRAP (R133). -/
def execTrap (k : CoreId) (code : BitVec 10) (s : State) : Host.Outcome State Fault Refusal :=
  .next (runInstr s k (wordOf (.trap k code)) (fun s =>
    match decodeTrap s k false true false false with
    | some t => .trap s t 0 0
    | none => .trap s tcTrap code.toNat 0))

/-! ## RFE (R140) -/

/-- The registers restored from the save area (R139, R140). -/
def sealedRestore (c : Core) (k : Nat) : Core :=
  let c := (List.range 31).foldl (fun c i => c.setG (i + 1) (c.save.read zero64 i)) c
  let c := (List.range 32).foldl (fun c i => c.setF i (c.save.read zero64 (31 + i))) c
  c.setSr k srFpsr (c.save.read zero64 63)

/-- The return itself: STATUS from TSTATUS, the pc pair from TRAP_PC and TRAP_NPC. TRAP_PC is an executed slot when TRAP_NPC is
not its successor, or when a trap in a slot left that TRAP_PC (DEDUCED from R141, log 46). -/
def returnTo (c : Core) (k : Nat) : Core :=
  let pc : Addr := (c.sreg k srTrapPc).setWidth 40
  let npc : Addr := (c.sreg k srTrapNpc).setWidth 40
  { c.setSr k srStatus (BitVec.ofNat 64 (bitsOf (c.sreg k srTstatus) 2 0)) with
      pc := pc, npc := npc, slot := npc != pc + 4 || c.slotPc == some pc, slotPc := if c.slotPc = some pc then none else c.slotPc }

/-- The first save-area word of SCk that carries an uncorrectable error. -/
def badSave (s : State) (k : Nat) : Option Nat := (List.range 64).find? (fun i => s.eccOf memSave (64 * (k - 256) + i) == 2)

/-- The words of SCk's save area that a restore corrects are counted; they are not rewritten (R168). -/
def countSave (s : State) (k : Nat) : State :=
  s.addSat F.SYS_ECC_CORR_COUNT ((List.range 64).countP (fun i => s.eccOf memSave (64 * (k - 256) + i) % 2 == 1))

/-- The return from a handler: restoring where TSTATUS says saved and sealed, clearing the save area where it says saved and
not sealed. -/
def handlerReturn (s : State) (k : Nat) : Att :=
  let ts := (s.core k).sreg k srTstatus
  if bitsOf ts 3 3 = 1 ∧ bitsOf ts 2 2 = 1 then
    match badSave s k with
    | some i => .trap (voidReport (memError s memSave 1 k (64 * (k - 256) + i)) 0x02 (.sc (k - 256))) tcEcc 0 0
    | none => .done ((countSave s k).onCore k (fun c => returnTo (sealedRestore c k) k))
  else if bitsOf ts 3 3 = 1 then
    .done ((s.clearEcc memSave (64 * (k - 256)) 64).onCore k (fun c => returnTo { c with save := [] } k))
  else .done (s.onCore k (fun c => returnTo c k))

/-- RFE (R140). -/
def execRfe (k : CoreId) (s : State) : Host.Outcome State Fault Refusal :=
  .next (runInstr s k (wordOf (.rfe k)) (fun s =>
    match decodeTrap s k (!isSc k) true true true with
    | some t => .trap s t 0 0
    | none => handlerReturn s k))

/-! ## System registers (R142, R143) -/

def srListed (n : Nat) : Bool :=
  decide (n ≤ 0xB) || n == 0x10 || n == 0x11 || (decide (0x20 ≤ n) && decide (n ≤ 0x22)) || (decide (0x28 ≤ n) && decide (n ≤ 0x37))

/-- Traps with PRIVILEGE at user level. -/
def srPrivOnly (n : Nat) : Bool := decide (1 ≤ n ∧ n ≤ 9)

/-- Permitted in a sealed context: CTXID, FPSR and FPMODE. -/
def srSealedOk (n : Nat) : Bool := n == 0xA || n == 0x10 || n == 0x11

/-- Waits for an empty store buffer (R142). -/
def srWaits (n : Nat) : Bool := n == 0x20 || n == 0x21 || decide (0x30 ≤ n ∧ n ≤ 0x37)

/-- What system register n of core k reads. -/
def srRead (s : State) (k n : Nat) : Word :=
  if n = srStatus then s.statusOf k
  else if n = srCtxid then BitVec.ofNat 64 (s.ctxid k)
  else if n = srFpmode then BitVec.ofNat 64 (s.fpmode k)
  else if n = srTime then s.time
  else (s.core k).sreg k n

/-- The writable bits of a system register that is a plain store. -/
def srMask (n : Nat) : Word :=
  if n = srTstatus then 0xF
  else if n = srTrapPc ∨ n = srTrapNpc then 0xFFFFFFFFFC
  else if n = srTrapCause then 0x3FF03FF
  else if n = srTrapAddr then 0xFFFFFFFFFF
  else if n = srTrapInstr then 0xFFFFFFFF
  else if n = srTvec then 0xFFFFFFFF00
  else if n = srCtxid then 0xFFFF
  else if n = srFpsr then 0x1F
  else if 0x28 ≤ n ∧ n ≤ 0x2F then 0xFFFF01FF
  else 0xFFFFFFFFFFFFFFFF

/-- A write of PMC_CTL: EN is stored, OVF clears where 1, CLR sets counters to 0. -/
def pmcCtlWrite (c : Core) (k : Nat) (v : Word) : Core :=
  let old := c.sreg k srPmcCtl
  let c := c.setSr k srPmcCtl (withBits (withBits old 7 0 (bitsOf v 7 0)) 23 16 (bitsOf old 23 16 &&& (255 - bitsOf v 23 16)))
  (List.range 8).foldl (fun c j => if bitsOf v (8 + j) (8 + j) = 1 then c.setSr k (srPmc j) 0 else c) c

/-- A write of system register n of core k, by its fields; the registers that are read-only everywhere, and a tile's CTXID
and FPMODE, ignore it. -/
def srWrite (s : State) (k n : Nat) (v : Word) : State :=
  if n = srStatus then
    (if isSc k then s.onCore k (fun c => c.setSr k srStatus (withBits (c.sreg k srStatus) 0 0 (bitsOf v 0 0))) else s)
  else if n = srCoreid ∨ n = srCycles ∨ n = srTime then s
  else if n = srPmcCtl then s.onCore k (fun c => pmcCtlWrite c k v)
  else if !isSc k && (n == srCtxid || n == srFpmode) then s
  else if n = srFpmode then
    (if 5 ≤ bitsOf v 2 0 then s else s.onCore k (fun c => c.setSr k n (BitVec.ofNat 64 (bitsOf v 2 0))))
  else s.onCore k (fun c => c.setSr k n (v &&& srMask n))

/-- Whether a write of system register n at the core's level acts: FPSR always, the others only privileged and unsealed. -/
def srWritable (s : State) (k n : Nat) : Bool := n == srFpsr || (s.isPriv k && !s.isSealed k)

/-- The trap condition of MFSR and MTSR (R143). -/
def srTrap (s : State) (k n : Nat) : Option Nat := decodeTrap s k (!srListed n) false (!srSealedOk n) (srPrivOnly n)

/-- MFSR (R142, R143). -/
def execMfsr (k : CoreId) (d : BitVec 5) (sr : BitVec 10) (s : State) : Host.Outcome State Fault Refusal :=
  .next (runInstr s k (wordOf (.mfsr k d sr)) (fun s =>
    match srTrap s k sr.toNat with
    | some t => .trap s t 0 0
    | none => if srWaits sr.toNat && !(s.core k).sb.isEmpty then .wait 0 else .done (writeG s k d (srRead s k sr.toNat))))

/-- The performance counter that a system register number names. -/
def pmcOf (n : Nat) : Option Nat := if 0x30 ≤ n ∧ n ≤ 0x37 then some (n - 0x30) else none

/-- MTSR (R142, R143); a write of a performance counter takes effect over the count of its own commit (R101). -/
def execMtsr (k : CoreId) (a : BitVec 5) (sr : BitVec 10) (s : State) : Host.Outcome State Fault Refusal :=
  .next (runInstr s k (wordOf (.mtsr k a sr)) (fun s =>
    match srTrap s k sr.toNat with
    | some t => .trap s t 0 0
    | none =>
      if srWaits sr.toNat && !(s.core k).sb.isEmpty then .wait 0
      else if srWritable s k sr.toNat then
        let t := adv (srWrite s k sr.toNat (greg s k a)) k
        match pmcOf sr.toNat with
        | some j => .wrote t j
        | none => .done t
      else .done (adv s k)))

/-! ## SEAL and WFI (R135, R137) -/

/-- The context of SCk becomes sealed: its record names it and, where no save is pending, starts anew (R65). -/
def sealContext (s : State) (k : Nat) : State :=
  let saved := bitsOf ((s.core k).sreg k srTstatus) 3 3
  let s := s.onCore k (fun c => c.setSr k srStatus (withBits (c.sreg k srStatus) 2 2 1))
  let s := s.put (F.SYS_SC_SEAL_CTXID (k - 256)) (s.ctxid k)
  if saved = 0 then (s.put (F.SYS_SC_SEAL_VOID (k - 256)) 0).put (F.SYS_SC_SEAL_CAUSE (k - 256)) 0 else s

/-- SEAL (R137). -/
def execSeal (k : CoreId) (s : State) : Host.Outcome State Fault Refusal :=
  .next (runInstr s k (wordOf (.seal k)) (fun s =>
    match decodeTrap s k (!isSc k) true true true with
    | some t => .trap s t 0 0
    | none => .done (adv (sealContext s k) k)))

/-- WFI with no halt request: it completes once an interrupt stands above the threshold. -/
def wfiAt (s : State) (k : CoreId) (halting : Bool) : State :=
  runInstr s k (wordOf (.wfi k)) (fun s =>
    match decodeTrap s k (!isSc k) true true true with
    | some t => .trap s t 0 0
    | none => if halting || (candidate s (k.val - 256)).isSome then .done (adv s k) else .wait 0)

/-- WFI (R135): a halt request completes it and is then taken at the next boundary. -/
def execWfi (k : CoreId) (s : State) : Host.Outcome State Fault Refusal :=
  let r := (s.core k).haltReq
  .next (if r ≠ 0 && isSc k then
      (wfiAt (s.onCore k (fun c => { c with haltReq := 0 })) k true).onCore k (fun c => { c with haltReq := r })
    else wfiAt s k false)

/-! ## CACHE (R134) -/

/-- A cache operation: its conditions, then its effect, which acts after every older store. -/
def cacheInstr (k : CoreId) (w : Nat) (op : State → State) (s : State) : State :=
  runInstr s k w (fun s =>
    match decodeTrap s k (!isSc k) false true true with
    | some t => .trap s t 0 0
    | none => if !(s.core k).sb.isEmpty then .wait 0 else .done (adv (op s) k))

/-- The line of address ga. -/
def lineOf (s : State) (k : Nat) (a : BitVec 5) : Nat := (greg s k a).toNat / 64

def iInvalLine (s : State) (k line : Nat) : State :=
  match iWay (s.core k) line with
  | some w => s.onCore k (fun c => { c with itag := c.itag.write noTag (iset line * 4 + w) none })
  | none => s

/-- Act on the data cache slot that holds a line, if one does. -/
def onLine (s : State) (k line : Nat) (f : State → Nat → State) : State :=
  match dFind (s.core k) line with
  | some x => f s x
  | none => s

/-- CACHE op 0: invalidate an instruction cache line. -/
def execCacheInvalIline (k : CoreId) (a : BitVec 5) (s : State) : Host.Outcome State Fault Refusal :=
  .next (cacheInstr k (wordOf (.cacheInvalIline k a)) (fun s => iInvalLine s k (lineOf s k a)) s)

/-- CACHE op 1: write back a data cache line if dirty. -/
def execCacheWbDline (k : CoreId) (a : BitVec 5) (s : State) : Host.Outcome State Fault Refusal :=
  .next (cacheInstr k (wordOf (.cacheWbDline k a)) (fun s => onLine s k (lineOf s k a) (fun s x => dWriteBack s k x)) s)

/-- CACHE op 2: invalidate a data cache line, its dirty data discarded. -/
def execCacheInvalDline (k : CoreId) (a : BitVec 5) (s : State) : Host.Outcome State Fault Refusal :=
  .next (cacheInstr k (wordOf (.cacheInvalDline k a)) (fun s => onLine s k (lineOf s k a) (fun s x => dDrop s k x)) s)

/-- CACHE op 3: write back, then invalidate, a data cache line. -/
def execCacheWbInvalDline (k : CoreId) (a : BitVec 5) (s : State) : Host.Outcome State Fault Refusal :=
  .next (cacheInstr k (wordOf (.cacheWbInvalDline k a))
    (fun s => onLine s k (lineOf s k a) (fun s x => dDrop (dWriteBack s k x) k x)) s)

/-- CACHE op 4: invalidate the whole instruction cache. -/
def execCacheInvalIcache (k : CoreId) (a : BitVec 5) (s : State) : Host.Outcome State Fault Refusal :=
  .next (cacheInstr k (wordOf (.cacheInvalIcache k a)) (fun s => s.onCore k (fun c => { c with itag := [] })) s)

/-- CACHE op 5: write back, then invalidate, the whole data cache. -/
def execCacheWbInvalDcache (k : CoreId) (a : BitVec 5) (s : State) : Host.Outcome State Fault Refusal :=
  .next (cacheInstr k (wordOf (.cacheWbInvalDcache k a))
    (fun s => ((s.core k).dline.map (fun e => e.1)).foldl (fun s x => dDrop (dWriteBack s k x) k x) s) s)

/-! ## Trap entry and halt entry -/

/-- TRAP_ENTRY (R138): the word at the pc raises a trap condition that no instruction command carries: a fetch that fails or
a reserved encoding. -/
def execTrapEntry (k : CoreId) (w : BitVec 32) (s : State) : Host.Outcome State Fault Refusal :=
  .next (if s.dbgp.feed.isSome then s
    else runInstr s k w.toNat (fun s => if (decodeWord k w).isNone then .trap s tcIllegal 0 0 else .wait (s.core k).wait))

/-- A halt ends a merge of which this member is the joiner or the donor (R266, R525). -/
def haltEndsMerge (s : State) : State :=
  if s.role = roleJoining then cvyAbort s
  else if mergeBusy s && s.cvy.mergePart.isSome then mergeRefuse s ceState
  else s

/-- HALT_ENTRY (R514): a registered request is taken and the core's clock stops, once an access that the core has placed has
completed (R87). -/
def haltEntry (s : State) (k : Nat) : State :=
  let c := s.core k
  if c.haltReq = 0 || c.halted || !coresClocked s || c.run == .stopped || (isSc k && c.run == .reset) || outstanding s k then s
  else
    let s := s.pmc k evTraps 1
    let s := s.onCore k (fun x => ({ x with
        halted := true, haltReq := 0, stepping := false, wait := if x.run == RunState.waypt then x.wait else 0 }).setD 0x204
      (withBits (x.dreg 0x204) 23 20 c.haltReq))
    haltEndsMerge s

/-- HALT_ENTRY (R514). -/
def execHaltEntry (k : CoreId) (s : State) : Host.Outcome State Fault Refusal := .next (haltEntry s k)

end Sys2Proof.Machine
end

