-- ==== Sys2Proof/Machine/Feed.lean ====
section
/-! DEFINITION. The instructions that the debug port may feed to a halted core (R519). -/

namespace Sys2Proof.Machine

/-- Whether a word is one of the instructions that may not be fed: branches, J, JAL, JALR, WAYPT, RFE, TRAP, BRKPT, SEAL, WFI,
and LANE fn 0x00–0x03. -/
def feedBarred (w : BitVec 32) : Bool :=
  let op := w.toNat / 2 ^ 26
  let fn := w.toNat % 64
  op == 7 || decide (0x20 ≤ op ∧ op ≤ 0x25) || op == 0x28 || op == 0x29 || (op == 5 && decide (fn < 4)) ||
  (op == 6 && (fn == 1 || fn == 3 || fn == 4 || fn == 5 || fn == 8 || fn == 9))

/-- Whether a fed word writes a register other than g0, or memory (R520), by its opcode: stores, MTSR, the floating-point
instructions, which write an f register or FPSR, but for the raw move and the class mask to g0; else a d other than g0. -/
def feedWrites (w : BitVec 32) : Bool :=
  let op := w.toNat / 2 ^ 26
  let fn := w.toNat % 64
  let d := w.toNat / 2 ^ 21 % 32
  if (0x18 ≤ op ∧ op ≤ 0x1F) ∨ op = 4 then true
  else if op = 3 then !((fn == 0x17 || fn == 0x0D) && d == 0)
  else if op = 6 then fn == 7 || (fn == 6 && d != 0)
  else d != 0

/-- The effect of a fed instruction. -/
def fedExec (i : Instr) (s : State) : Host.Outcome State Fault Refusal :=
  match i with
  | .add k d a b => execAdd k d a b s
  | .sub k d a b => execSub k d a b s
  | .and k d a b => execAnd k d a b s
  | .or k d a b => execOr k d a b s
  | .xor k d a b => execXor k d a b s
  | .andn k d a b => execAndn k d a b s
  | .sll k d a b => execSll k d a b s
  | .srl k d a b => execSrl k d a b s
  | .sra k d a b => execSra k d a b s
  | .slt k d a b => execSlt k d a b s
  | .sltu k d a b => execSltu k d a b s
  | .seq k d a b => execSeq k d a b s
  | .addw k d a b => execAddw k d a b s
  | .subw k d a b => execSubw k d a b s
  | .sllw k d a b => execSllw k d a b s
  | .srlw k d a b => execSrlw k d a b s
  | .sraw k d a b => execSraw k d a b s
  | .sextb k d a => execSextb k d a s
  | .sexth k d a => execSexth k d a s
  | .sextw k d a => execSextw k d a s
  | .zextw k d a => execZextw k d a s
  | .min k d a b => execMin k d a b s
  | .max k d a b => execMax k d a b s
  | .addi k d a imm => execAddi k d a imm s
  | .andi k d a imm => execAndi k d a imm s
  | .ori k d a imm => execOri k d a imm s
  | .xori k d a imm => execXori k d a imm s
  | .slti k d a imm => execSlti k d a imm s
  | .sltiu k d a imm => execSltiu k d a imm s
  | .slli k d a imm => execSlli k d a imm s
  | .srli k d a imm => execSrli k d a imm s
  | .srai k d a imm => execSrai k d a imm s
  | .lui k d imm => execLui k d imm s
  | .mul k d a b => execMul k d a b s
  | .mulh k d a b => execMulh k d a b s
  | .mulhu k d a b => execMulhu k d a b s
  | .mulw k d a b => execMulw k d a b s
  | .div k d a b => execDiv k d a b s
  | .divu k d a b => execDivu k d a b s
  | .rem k d a b => execRem k d a b s
  | .remu k d a b => execRemu k d a b s
  | .divw k d a b => execDivw k d a b s
  | .divuw k d a b => execDivuw k d a b s
  | .remw k d a b => execRemw k d a b s
  | .remuw k d a b => execRemuw k d a b s
  | .ldb k d a imm => execLdb k d a imm s
  | .ldbu k d a imm => execLdbu k d a imm s
  | .ldh k d a imm => execLdh k d a imm s
  | .ldhu k d a imm => execLdhu k d a imm s
  | .ldw k d a imm => execLdw k d a imm s
  | .ldwu k d a imm => execLdwu k d a imm s
  | .ldd k d a imm => execLdd k d a imm s
  | .stb k d a imm => execStb k d a imm s
  | .sth k d a imm => execSth k d a imm s
  | .stw k d a imm => execStw k d a imm s
  | .std k d a imm => execStd k d a imm s
  | .flds k d a imm => execFlds k d a imm s
  | .fldd k d a imm => execFldd k d a imm s
  | .fsts k d a imm => execFsts k d a imm s
  | .fstd k d a imm => execFstd k d a imm s
  | .fadd k p rm d a b => execFadd k p rm d a b s
  | .fsub k p rm d a b => execFsub k p rm d a b s
  | .fmul k p rm d a b => execFmul k p rm d a b s
  | .fdiv k p rm d a b => execFdiv k p rm d a b s
  | .fsqrt k p rm d a => execFsqrt k p rm d a s
  | .fmin k p d a b => execFmin k p d a b s
  | .fmax k p d a b => execFmax k p d a b s
  | .fsgnj k p d a b => execFsgnj k p d a b s
  | .fsgnjn k p d a b => execFsgnjn k p d a b s
  | .fsgnjx k p d a b => execFsgnjx k p d a b s
  | .feq k p d a b => execFeq k p d a b s
  | .flt k p d a b => execFlt k p d a b s
  | .fle k p d a b => execFle k p d a b s
  | .fclass k p d a => execFclass k p d a s
  | .fcvtL k p rm d a => execFcvtL k p rm d a s
  | .fcvtLu k p rm d a => execFcvtLu k p rm d a s
  | .fcvtW k p rm d a => execFcvtW k p rm d a s
  | .fcvtWu k p rm d a => execFcvtWu k p rm d a s
  | .fcvtFL k p rm d a => execFcvtFL k p rm d a s
  | .fcvtFLu k p rm d a => execFcvtFLu k p rm d a s
  | .fcvtFW k p rm d a => execFcvtFW k p rm d a s
  | .fcvtFWu k p rm d a => execFcvtFWu k p rm d a s
  | .fcvtP k p rm d a => execFcvtP k p rm d a s
  | .fmvGF k p d a => execFmvGF k p d a s
  | .fmvFG k p d a => execFmvFG k p d a s
  | .fmadd k p rm d a b c => execFmadd k p rm d a b c s
  | .fmsub k p rm d a b c => execFmsub k p rm d a b c s
  | .fnmadd k p rm d a b c => execFnmadd k p rm d a b c s
  | .fnmsub k p rm d a b c => execFnmsub k p rm d a b c s
  | .lprobe k d port out => execLprobe k d port out s
  | .sync k => execSync k s
  | .mfsr k d sr => execMfsr k d sr s
  | .mtsr k a sr => execMtsr k a sr s
  | .cacheInvalIline k a => execCacheInvalIline k a s
  | .cacheWbDline k a => execCacheWbDline k a s
  | .cacheInvalDline k a => execCacheInvalDline k a s
  | .cacheWbInvalDline k a => execCacheWbInvalDline k a s
  | .cacheInvalIcache k a => execCacheInvalIcache k a s
  | .cacheWbInvalDcache k a => execCacheWbInvalDcache k a s
  | _ => .next s

end Sys2Proof.Machine
end

