-- ==== Sys2Proof/Machine/Host.lean ====
section
/-! DEFINITION. The host port (15_host_port.md): accesses in both modes, the status field, the window, the commands and the
unlock engine that the host and the debug path share (R512, R513). -/

namespace Sys2Proof.Machine

/-! ## The unlock engine (R512, R513) -/

/-- The commands within 100 ms of a failed response: 10,000,000 ticks. TIME stands still while the timebase does not run, so
then the spec does not say (log 1). -/
def lockout (s : State) : Bool × State :=
  match s.dbgp.unlock.failed with
  | none => (false, s)
  | some t =>
    if t + 10000000 ≤ s.time.toNat then (false, s)
    else if s.pllClock then (true, s)
    else
      let d := s.draw 1
      (d.1 == 1, d.2)

/-- A challenge write for a level on a path: true when the engine draws a fresh challenge, false when it refuses with AUTH. -/
def challenge (s : State) (host : Bool) (level : Nat) : Bool × State :=
  let r := lockout s
  if s.get F.DBG_LEVEL_MAX < level ∨ !s.flag F.SEC_RNG_STAT_READY ∨ r.1 then (false, r.2)
  else
    let d := r.2.draw 256
    (true, { d.2 with dbgp := { d.2.dbgp with unlock :=
      { d.2.dbgp.unlock with chal := some d.1, host := host, level := level, read := 0, resp := [], checking := false } } })

/-- A read of the next challenge word on a path moves on to the one after. -/
def chalRead (s : State) (host : Bool) : BitVec 32 × State :=
  let u := s.dbgp.unlock
  (chalWord s host,
   if u.chal.isSome && u.host == host then { s with dbgp := { s.dbgp with unlock := { u with read := min 8 (u.read + 1) } } } else s)

/-- A response word; the eighth starts the check. One on the other path, or with no challenge outstanding, is not taken. -/
def respWrite (s : State) (host : Bool) (v : BitVec 32) : State :=
  let u := s.dbgp.unlock
  if u.chal.isSome && u.host == host && !u.checking then
    let r := u.resp ++ [v]
    { s with dbgp := { s.dbgp with unlock := { u with resp := r, checking := decide (8 ≤ r.length) } } }
  else s

/-- The bytes of a 256-bit number whose byte 0 is the least significant (R513, R10). -/
def keyBytes (s : State) : List Byte := (List.range 32).map (fun i => s.byte (0x8004800 + i))

/-- The expected response (R513): its word j holds bytes 4j to 4j + 3. -/
def expected (s : State) (c : BitVec 256) (level : Nat) : BitVec 256 :=
  hmacSha256 (keyBytes s) (toLe c.toNat 32 ++ [BitVec.ofNat 8 level] ++ toLe Config.deviceId.toNat 8)

/-- The given response as a number, word 0 lowest. -/
def respNum : List (BitVec 32) → Nat
  | [] => 0
  | w :: ws => w.toNat + 2 ^ 32 * respNum ws

/-- DBG_ERR takes a refusal while it holds no record. -/
def dbgRecord (s : State) (cause off : Nat) : State :=
  recordErr s F.DBG_ERR_VALID [(F.DBG_ERR_CAUSE, cause), (F.DBG_ERR_PATH, if s.pads.fiveWire then 0 else 1),
    (F.DBG_ERR_OFFSET, off % 65536)]

/-- A refusal on the debug port: recorded, and the access answers ERR. -/
def dbgErr (s : State) (cause off : Nat) : State :=
  let s := dbgRecord s cause off
  { s with dbgp := { s.dbgp with status := 2, data := 0 } }

/-- UNLOCK_CHECK_DONE (R513): the check ends, and the reply to the eighth write carries its outcome. -/
def unlockDone (s : State) : State :=
  let u := s.dbgp.unlock
  match u.checking, u.chal with
  | true, some c =>
    let s := { s with dbgp := { s.dbgp with unlock := { u with chal := none, checking := false, resp := [] } } }
    let s := s.put F.HST_IRQ_UNLOCK 1
    if respNum u.resp = (expected s c u.level).toNat then
      let s := s.put F.DBG_LEVEL_LEVEL u.level
      if u.host then s else { s with dbgp := { s.dbgp with status := 0, data := 0 } }
    else
      let s := { s with dbgp := { s.dbgp with unlock := { s.dbgp.unlock with failed := some s.time.toNat } } }
      if u.host then
        (let t := hostErr s 12 0 0
         { t with host := { t.host with lastStatus := 0xA } })
      else dbgErr s 6 0x14
  | _, _ => s

/-- UNLOCK_CHECK_DONE (R513). -/
def execUnlockCheckDone (s : State) : Host.Outcome State Fault Refusal := .next (unlockDone s)

/-! ## Commands (R420–R425) -/

def cmdArg0 (s : State) : Nat := s.get F.HW_CMD_ARG0_ARG
def cmdArg1 (s : State) : Nat := s.get F.HW_CMD_ARG1_ARG

/-- Whether a command is legal in the device state (R421). -/
def cmdLegal (s : State) (code : Nat) : Bool :=
  let d := s.dev
  let w := d == dsBoot && s.flag F.HW_STATE_HOST_WAIT
  let prov := d == dsProvision
  let run := d == dsRun
  let hold := d == dsHold
  let serv := d == dsService
  match code with
  | 0x01 => d == dsBoot || prov || run || hold || serv || d == dsRoadblock
  | 0x02 => w || prov || hold || serv
  | 0x03 => run
  | 0x04 => prov || run || hold
  | 0x05 => run
  | 0x06 => run
  | 0x07 => run
  | 0x08 => run
  | 0x09 => run || hold
  | 0x0A => prov || run || hold || serv
  | 0x0B => prov || run || hold || serv
  | 0x0C => prov || serv
  | 0x0D => d == dsRoadblock && decide (1 ≤ s.get F.DBG_LEVEL_LEVEL)
  | 0x0E => d == dsBoot || prov || run || hold || serv
  | 0x0F => hold || serv
  | 0x10 => w || prov || serv
  | _ => run || hold || serv

/-- Whether the arguments are well formed (R189, R219, R226, R264, R421). -/
def cmdArgsOk (s : State) (code : Nat) : Bool :=
  let a := cmdArg0 s
  (code == 0x07 || cmdArg1 s == 0) &&
  (match code with
   | 0x05 => a % 256 / 4 == 0 && decide (a < 512)
   | 0x06 => decide (a < 4)
   | 0x07 => decide (a < 4)
   | 0x08 => decide (a < 4)
   | 0x0F => decide (1 ≤ a ∧ a ≤ 3)
   | 0x10 => decide (a < 2)
   | 0x11 => decide (a < 4)
   | _ => a == 0)

/-- An accepted command: CODE and BUSY. -/
def cmdAccept (s : State) (code : Nat) : State := (s.put F.HW_CMD_CODE code).put F.HW_CMD_BUSY 1

/-- A refusal with cause BLOCK and the block's own cause code (R424). -/
def cmdBlock (s : State) (code sub : Nat) : Bool × State := (false, hostErr s 5 code sub)

/-- A refusal by a condition of R421, for which no block's code stands in SUB (log 1). -/
def cmdBlockFree (s : State) (code : Nat) : Bool × State :=
  let d := s.draw 8
  cmdBlock d.2 code d.1.toNat

/-- An FW command waits for firmware (R425). -/
def cmdForFw (s : State) (code : Nat) : State :=
  ((((cmdAccept s code).put F.HW_CMD_FW 1).put F.HST_CMD_PENDING 1).put F.HST_CMD_CODE code)

/-- The device enters PROVISION (R46, R68, R219): every partition is provisioned anew. -/
def devProvision (s : State) : State :=
  let s := s.put F.HW_STATE_STATE dsProvision
  let s := (List.range 4).foldl (fun s p => if s.pstate p = psNone then s else enterProvisioning s p) s
  sealCleared s

/-- GO_RUN from HOLD (R221, R258): a held partition captures at the first tick after; in a convoy the leader names the instant. -/
def resumeHeld (s : State) (p : Nat) : State :=
  if s.pstate p = psHeld then
    if inConvoy s then jointRequest s p 2
    else
      let s := enterScanning s p
      timerRun (s.onPart p (fun q => { q with goRun := true, held := false })) p (s.time.toNat + 1)
  else if s.pstate p = psStopped ∨ s.pstate p = psFaulted then timerResume s p
  else s

def goRunHold (s : State) : State := (List.range 4).foldl resumeHeld (s.put F.HW_STATE_STATE dsRun)

/-- GO_HOLD (R46, R219, R221). -/
def goHold (s : State) : State :=
  let s := (List.range 4).foldl (fun s p => if s.pstate p = psScanning then s.put (F.WPT_PSTATE_HOLD_PENDING p) 1 else s) s
  holdCheck { s with wpt := { s.wpt with holdReq := true } }

/-- GO_SERVICE (R46, R219, R258): a voter or standby goes to the shoulder first. The timers that a hold stopped run again (R200). -/
def goService (s : State) : State :=
  let s := if isVoter s then goShoulder s scCommand 0 else s
  let s := { s.put F.HW_STATE_STATE dsService with wpt := { s.wpt with holdReq := false } }
  (List.range 4).foldl (fun s p => if s.pstate p = psScanning ∨ s.pstate p = psHeld then stopNow s p
    else if s.pstate p = psStopped ∨ s.pstate p = psFaulted then timerResume s p else s) s

/-- CHANGEOVER (R226): w is the smallest number above WNUM with the low 32 bits of ARG1. -/
def hostChangeover (s : State) : Bool × State :=
  let p := cmdArg0 s % 4
  let n := (s.reg (A.WPT_WNUM p)).toNat + 1
  let w := n + (cmdArg1 s + 2 ^ 32 - n % 2 ^ 32) % 2 ^ 32
  let t := if s.flag (F.WPT_PSTATE_CO_PENDING p) then s else s.setReg (A.WPT_CO_WNUM p) (BitVec.ofNat 64 w)
  let r := coRequest t p w
  if r.2 = 0 then (true, (cmdAccept r.1 0x07).onPart p (fun q => { q with coHost := true })) else cmdBlock r.1 0x07 r.2

/-- The effect of a command that passes R420; false when its block refuses it at once (R424). -/
def cmdRun (s : State) (code : Nat) : Bool × State :=
  let a := cmdArg0 s
  let p := a % 4
  match code with
  | 0x02 =>
    if s.dev = dsBoot then (true, hostGoRun (cmdAccept s code))
    else if s.dev = dsHold then (true, cmdDone (goRunHold (cmdAccept s code)) 0)
    else (true, cmdForFw (if s.dev = dsService then devProvision s else s) code)
  | 0x03 => (true, cmdDone (goHold (cmdAccept s code)) 0)
  | 0x04 => (true, cmdDone (goService (cmdAccept s code)) 0)
  | 0x05 =>
    let now := decide (256 ≤ a)
    let stop (s : State) := if now then cmdStopNow s p else cmdStop s p
    if s.pstate p = psScanning then (true, cmdDone (stop (cmdAccept s code)) 0) else cmdBlock (stop s) code weState
  | 0x06 =>
    if startLegal s p then (true, cmdDone (cmdStart (cmdAccept s code) p) 0) else cmdBlock (cmdStart s p) code weState
  | 0x07 => hostChangeover s
  | 0x08 =>
    let r := mergeRequest s p true
    if r.2 = 0 then (true, cmdAccept r.1 code) else cmdBlock r.1 code r.2
  | 0x09 => if isVoter s then (true, cmdDone (goShoulder (cmdAccept s code) scCommand 0) 0) else cmdBlockFree s code
  | 0x0A => if s.flag F.CAL_STATUS_BUSY then cmdBlock s code 1 else (true, restoreFactory (cmdAccept s code) true)
  | 0x0B => if s.flag F.CAL_STATUS_BUSY then cmdBlock s code 1 else (true, commitUser (cmdAccept s code) true)
  | 0x0C =>
    if s.flag F.HW_LAYBY_STATUS_OFFERED then (true, cmdForFw ((layDiscard s).putBit F.HW_STATUS_PEND attnLayby false) code)
    else cmdBlockFree s code
  | 0x0D => (true, resetTo s rcRoadblock)
  | 0x0E =>
    let s := cmdAccept s code
    (true, { s with host := { s.host with chipReset := true } })
  | 0x0F =>
    let s := cmdAccept s code
    (true, { s with host := { s.host with sleep := some p } })
  | 0x10 => if s.dev = dsBoot then (true, hostImageSelect (cmdAccept s code) (a == 1)) else (true, cmdForFw s code)
  | 0x11 =>
    match auditStart s p true with
    | (t, none) => (true, cmdAccept t code)
    | (t, some c) => cmdBlock t code c
  | _ => (true, cmdDone (cmdAccept s code) 0)

/-- A write of HW_CMD.CODE (R420): the checks in order, then the command. False when it is refused. -/
def hostCommand (s : State) (code : Nat) : Bool × State :=
  if code = 0 ∨ 0x11 < code then (false, hostErr s 2 code 0)
  else if s.flag F.HW_CMD_BUSY ∧ code ≠ 0x0E ∧ code ≠ 0x0D then (false, hostErr s 4 code 0)
  else if !cmdLegal s code then (false, hostErr s 1 code 0)
  else if !cmdArgsOk s code then (false, hostErr s 3 code 0)
  else cmdRun s code

/-! ## The window (R417–R419) -/

def winBusy (s : State) : Bool := s.host.reading.isSome || s.host.writing.isSome
def winAddr (s : State) : Nat := s.get F.HW_WIN_ADDR_HI_ADDR * 2 ^ 32 + s.get F.HW_WIN_ADDR_LO_ADDR * 4

/-- INC advances the address by 4, with the carry into HI. -/
def winAdvance (s : State) : State :=
  if s.flag F.HW_WIN_CTL_INC then
    let a := (winAddr s + 4) % 2 ^ 40
    (s.put F.HW_WIN_ADDR_HI_ADDR (a / 2 ^ 32)).put F.HW_WIN_ADDR_LO_ADDR (a % 2 ^ 32 / 4)
  else s

/-- A failed window access (R418): the next reply carries ACCESS_ERR. -/
def winFail (s : State) (r a : Nat) : State :=
  let s := (hostErr s 7 r (a / 2 ^ 32 % 256)).setReg A.HW_ERR_ADDR (BitVec.ofNat 64 (a % 2 ^ 32))
  let s := s.put F.HW_WIN_CTL_ERR 1
  { s with host := { s.host with winFailed := true } }

/-- A window access forgets the words that the one before held (R419). -/
def winForget (s : State) : State := { s with host := { s.host with upper := none, low := none } }

/-- A failed window read leaves the holding register at 0 (R418). -/
def winReadFail (s : State) (a : Nat) : State :=
  let s := winFail (winForget s) 0x13 a
  { s with host := { s.host with hold := 0 } }

/-- The read that the window makes at an address; true when it has ended. -/
def winRead (s : State) (a : Nat) : Bool × State :=
  if !hostAdmits s a then (true, winReadFail s a)
  else if inPeri a && wideAt (a - 4) then
    match s.host.upper with
    | some (b, w) =>
      if b = a then
        (let t := winForget s
         (true, { t with host := { t.host with hold := w } }))
      else (true, winReadFail s a)
    | none => (true, winReadFail s a)
  else
    let wide := inPeri a && wideAt a
    match busRead s .host a (if wide then 8 else 4) with
    | (.ok v, s) =>
      let t := winForget s
      (true, { t with host := { t.host with
        hold := BitVec.ofNat 32 v, upper := if wide then some (a + 4, BitVec.ofNat 32 (v / 2 ^ 32)) else none } })
    | (.err _, s) => (true, winReadFail s a)
    | (.wait, s) => (false, s)

/-- The write that the window makes at an address; true when it has ended. -/
def winWrite (s : State) (a : Nat) (v : BitVec 32) : Bool × State :=
  if !hostAdmits s a then (true, winFail (winForget s) 0x12 a)
  else if inPeri a && wideAt a then
    let t := winForget s
    (true, winAdvance { t with host := { t.host with low := some (a, v) } })
  else
    let wide := inPeri a && wideAt (a - 4)
    let half := match s.host.low with
      | some (b, l) => if b + 4 = a then some l else none
      | none => none
    match wide, half with
    | true, none => (true, winFail (winForget s) 0x12 a)
    | _, _ =>
      let r := if wide then busWrite s .host false (a - 4) 8 ((half.getD 0).toNat + 2 ^ 32 * v.toNat) else busWrite s .host false a 4 v.toNat
      match r with
      | (.ok, s) => (true, winAdvance (winForget s))
      | (.err, s) => (true, winFail (winForget s) 0x12 a)
      | (.wait, s) => (false, s)

/-- A window read starts; its end is WINDOW_READ_DONE. -/
def winStart (s : State) : State := { s with host := { s.host with reading := some (winAddr s) } }

/-- The window access in progress ends, if its target lets it. -/
def winDone (s : State) : State :=
  match s.host.reading, s.host.writing with
  | some a, _ =>
    match winRead s a with
    | (true, s) => { s with host := { s.host with reading := none } }
    | (false, s) => s
  | none, some (a, v, _) =>
    match winWrite s a (v.setWidth 32) with
    | (true, s) => { s with host := { s.host with writing := none } }
    | (false, s) => s
  | none, none => s

/-- A write of HW_WIN_DATA: it ends at once, or the window stays busy with it. -/
def winDataWrite (s : State) (v : BitVec 32) : State :=
  match winWrite s (winAddr s) v with
  | (true, s) => s
  | (false, s) => { s with host := { s.host with writing := some (winAddr s, v.setWidth 64, 4) } }

/-- A read of HW_WIN_DATA while the window is idle: the holding register, then INC and AUTO. -/
def winDataRead (s : State) : BitVec 32 × State :=
  let v := s.host.hold
  let s := winAdvance s
  (v, if s.flag F.HW_WIN_CTL_INC && s.flag F.HW_WIN_CTL_AUTO then winStart s else s)

/-! ## Register accesses: the per-access code is 0, 0xA REFUSED or 0xB ACCESS_ERR -/

/-- Clear latched attention causes (R410, R411). -/
def attnClear (s : State) (v : Nat) : State :=
  s.put F.HW_STATUS_PEND (s.get F.HW_STATUS_PEND &&& (65535 - v % 65536))

def refusedIf (r : Bool × State) : Nat × State := (if r.1 then 0 else 0xA, r.2)

/-- A write of a host register; none while HRDY stays low. -/
def hostWrite (s : State) (ser : Bool) (a : Nat) (v : BitVec 32) : Option (Nat × State) :=
  let x : Word := v.setWidth 64
  let addr := 0x400D0000 + 4 * a
  match a with
  | 0x04 => some (0, s.put F.HW_ATTN_MASK_MASK (x &&& 0x23FE).toNat)
  | 0x05 => some (0, attnClear s v.toNat)
  | 0x06 => some (refusedIf (hostCommand s (bitsOf x 7 0)))
  | 0x0C =>
    if s.mbxIn.length < 16 then some (0, { s with mbxIn := s.mbxIn ++ [v] }) else some (0xA, hostErr s 10 a 0)
  | 0x10 => if winBusy s then some (0xA, hostErr s 4 a 0) else some (0, genericWrite s addr x)
  | 0x11 => if winBusy s then some (0xA, hostErr s 4 a 0) else some (0, genericWrite s addr x)
  | 0x12 =>
    if winBusy s then (if ser then some (0xA, hostErr s 4 a 0) else none) else some (0, winDataWrite s v)
  | 0x13 =>
    if bitsOf x 31 31 = 1 then
      (if winBusy s then some (0xA, hostErr s 4 a 0) else some (0, winStart (genericWrite s addr x)))
    else some (0, genericWrite s addr x)
  | 0x19 => some (0, s.put F.WDG_LADDER_STAGE1 (s.get F.WDG_LADDER_STAGE1 &&& (255 - bitsOf x 15 8)))
  | 0x1F =>
    let l := bitsOf x 1 0
    if l = 1 ∨ l = 2 then
      (match challenge s true l with
       | (true, s) => some (0, s)
       | (false, s) => some (0xA, hostErr s 12 0 0))
    else some (0xA, hostErr s 3 0 0)
  | 0x20 => some (0, respWrite s true v)
  | 0x25 => if bitsOf x 2 1 = 3 then some (0xA, hostErr s 3 0 0) else some (0, genericWrite s addr x)
  | _ => if 0x30 ≤ a then some (0xB, hostErr s 6 a 0) else some (0, genericWrite s addr x)

/-- A pop of a list by the host: an empty one returns 0 with ACCESS_ERR and EMPTY (R415, R416). -/
def hostPop (s : State) (a : Nat) (l : List (BitVec 32)) (rest : State) : Nat × BitVec 32 × State :=
  match l with
  | [] => (0xB, 0, hostErr s 9 a 0)
  | w :: _ => (0, w, rest)

/-- A read of a host register (R402, R407, R426); none while HRDY stays low. -/
def hostRead (s : State) (ser : Bool) (a : Nat) : Option (Nat × BitVec 32 × State) :=
  let addr := 0x400D0000 + 4 * a
  match a with
  | 0x0E => some (hostPop s a s.mbxOut { s with mbxOut := s.mbxOut.tail })
  | 0x27 => some (hostPop s a s.evlog { s with evlog := s.evlog.tail })
  | 0x12 =>
    if winBusy s then (if ser then some (0xB, 0, hostErr s 4 a 0) else none) else some (0, winDataRead s)
  | 0x16 =>
    let w := s.reg (A.WPT_WNUM (s.get F.HW_PART_STATE_SEL))
    some (0, w.setWidth 32, s.setReg A.HW_WPT_COUNT_HI ((w >>> 32).setWidth 32 |>.setWidth 64))
  | 0x1F => some (0, chalRead s true)
  | _ =>
    if 0x30 ≤ a then some (0xB, 0, hostErr s 6 a 0)
    else
      match regAt addr with
      | some (d, _, _) => some (0, (hwView s d.reg addr).setWidth 32, clearRc s addr d.fields)
      | none => some (0, 0, s)

/-! ## Accesses -/

/-- Whether the device drives nothing on the host port (R400, R412). -/
def hostSilent (s : State) : Bool :=
  s.boot.inReset.isSome || s.dev == dsOff || s.dev == dsLayby || (s.dev == dsSleep && s.pwr.mode != slDoze)

/-- A reply (R402, R406, R410): the status code by rank. -/
def reply (s : State) (acc : Nat) (d : BitVec 32) : State :=
  let code :=
    if s.host.frameAborted then 0xC
    else if s.host.winFailed ∨ acc = 0xB then 0xB
    else if acc = 0xA then 0xA
    else attnCode s
  { s with host := { s.host with frameAborted := false, winFailed := false, lastStatus := BitVec.ofNat 4 code,
                                 lastState := BitVec.ofNat 4 s.dev, lastData := d } }

/-- NOT_READY: no access performed. The host's chip select is a wake source in SLEEP (R412, R413, R445). -/
def notReady (s : State) : State :=
  let s := { s with host := { s.host with lastStatus := 0xF, lastState := 0xF, lastData := 0 } }
  if s.dev = dsSleep ∧ s.boot.inReset.isNone then wakeSource s 5 0 else s

/-- An access in the mode that HMODE chose, with its reply. -/
def hostAccess (s : State) (ser rd : Bool) (f : State → Option (Nat × BitVec 32 × State)) : State :=
  if s.pads.hmode ≠ ser then s
  else if hostSilent s || s.dev == dsSleep then notReady s
  else
    let t := { s with host := { s.host with isOpen := true, reads := rd && !ser } }
    match f t with
    | none => t
    | some (c, d, u) => settle (reply u c d)

def writeAccess (s : State) (ser : Bool) (a : Nat) (v : BitVec 32) : State :=
  hostAccess s ser false (fun s => match hostWrite s ser a v with
    | some (c, s) => some (c, 0, s)
    | none => none)

def readAccess (s : State) (ser : Bool) (a : Nat) : State := hostAccess s ser true (fun s => hostRead s ser a)

/-- A framing error (R402, R408). -/
def frameErr (s : State) : State := hostErr s 11 0 0

/-- PARALLEL_READ (R402): `both` is a cycle with HOE_N and HWE_N low together. -/
def execParallelRead (a : BitVec 6) (both : Bool) (s : State) : Host.Outcome State Fault Refusal :=
  .next (if both then (if s.pads.hmode || hostSilent s || s.dev == dsSleep then s else frameErr s)
    else readAccess s false a.toNat)

/-- PARALLEL_WRITE (R402). -/
def execParallelWrite (a : BitVec 6) (v : BitVec 32) (s : State) : Host.Outcome State Fault Refusal :=
  .next (writeAccess s false a.toNat v)

/-- The address of word unit w of a serial frame, and whether INC carried it past 0x2F (R409). -/
def unitAddr (s : State) (a w : Nat) : Nat × Bool :=
  if s.flag F.HW_BURST_CTL_INC ∧ a < 0x30 then (a + w, decide (0x30 ≤ a + w)) else (a, false)

/-- One word unit, or its refusal with OVERRUN. -/
def unitAccess (s : State) (a w : Nat) (f : State → Nat → State) : State :=
  let u := unitAddr s a w
  if u.2 then hostAccess s true false (fun s => some (0xB, 0, hostErr s 8 u.1 0)) else f s u.1

/-- The word units of a frame: one while HW_BURST_CTL.EN is 0 (R409). A write of HW_BURST_CTL acts from the next frame. -/
def unitCount (s : State) (n : Nat) : Nat := if s.flag F.HW_BURST_CTL_EN then n else min n 1

/-- HW_BURST_CTL as the frame began with it. -/
def withBurst (s : State) (v : Word) (f : State → State) : State :=
  let now := s.reg A.HW_BURST_CTL
  let t := f (s.setReg A.HW_BURST_CTL v)
  if t.reg A.HW_BURST_CTL = v then t.setReg A.HW_BURST_CTL now else t

/-- A frame's units in turn. -/
def unitsFrom (s : State) (v : Word) (a : Nat) (f : State → Nat → State) : Nat → Nat → State
  | _, 0 => s
  | w, n + 1 => unitsFrom (withBurst s v (fun s => unitAccess s a w f)) v a f (w + 1) n

/-- A frame whose command byte is neither READ nor WRITE is discarded (R408). -/
def frameAbort (s : State) : State :=
  let s := frameErr s
  { s with host := { s.host with frameAborted := true } }

/-- SERIAL_READ (R405): a frame with the given command byte; n word units complete. -/
def execSerialRead (cmd a : Byte) (n : Nat) (s : State) : Host.Outcome State Fault Refusal :=
  .next (if !s.pads.hmode || hostSilent s || s.dev == dsSleep then (if s.pads.hmode then notReady s else s)
    else if cmd ≠ 3 ∧ cmd ≠ 2 then frameAbort { s with host := { s.host with isOpen := true } }
    else if cmd = 2 then s
    else unitsFrom s (s.reg A.HW_BURST_CTL) a.toNat (fun s b => readAccess s true b) 0 (unitCount s n))

/-- The words of a WRITE frame in turn. -/
def writeUnits (s : State) (v : Word) (a : Nat) : Nat → List (BitVec 32) → State
  | _, [] => s
  | w, x :: xs => writeUnits (withBurst s v (fun s => unitAccess s a w (fun s b => writeAccess s true b x))) v a (w + 1) xs

/-- SERIAL_WRITE (R405). -/
def execSerialWrite (a : Byte) (ws : List (BitVec 32)) (s : State) : Host.Outcome State Fault Refusal :=
  .next (if !s.pads.hmode then s
    else if hostSilent s || s.dev == dsSleep then notReady s
    else writeUnits s (s.reg A.HW_BURST_CTL) a.toNat 0 (ws.take (unitCount s ws.length)))

/-- The host ends its access (R402, R408): a pending CHIP_RESET or SLEEP acts (R423, R439). -/
def endAccess (s : State) : State :=
  let s := { s with host := { s.host with isOpen := false, reads := false } }
  if s.host.chipReset then raiseReset s rcChip
  else
    match s.host.sleep with
    | some st => sleepRequest { s with host := { s.host with sleep := none } } st true
    | none => s

/-- FRAME_ABORT (R408): HSS_N rises before a word is complete. -/
def execFrameAbort (s : State) : Host.Outcome State Fault Refusal :=
  .next (if !s.pads.hmode || hostSilent s || s.dev == dsSleep then s else endAccess (frameAbort s))

/-- HOST_WAKE_ACCESS (R413): an access in DOZE wakes the device and is not performed. -/
def execHostWakeAccess (s : State) : Host.Outcome State Fault Refusal :=
  .next (if s.dev = dsSleep ∧ s.pwr.mode = slDoze then notReady s else s)

/-- HOST_ENDS_ACCESS (R423). -/
def execHostEndsAccess (s : State) : Host.Outcome State Fault Refusal := .next (if s.host.isOpen then endAccess s else s)

/-! ## Accesses that have a row of their own, in the mode in force -/

def hostSet (s : State) (a : Nat) (v : BitVec 32) : State := writeAccess s s.pads.hmode a v
def hostGet (s : State) (a : Nat) : State := readAccess s s.pads.hmode a

/-- NOP (R421). -/
def execNop (s : State) : Host.Outcome State Fault Refusal := .next (hostSet s 0x06 0x01)
/-- GO_RUN (R46, R221, R425). -/
def execGoRun (s : State) : Host.Outcome State Fault Refusal := .next (hostSet s 0x06 0x02)
/-- GO_HOLD (R46, R221). -/
def execGoHold (s : State) : Host.Outcome State Fault Refusal := .next (hostSet s 0x06 0x03)
/-- GO_SERVICE (R46, R219). -/
def execGoService (s : State) : Host.Outcome State Fault Refusal := .next (hostSet s 0x06 0x04)
/-- PARTITION_STOP (R219). -/
def execPartitionStop (s : State) : Host.Outcome State Fault Refusal := .next (hostSet s 0x06 0x05)
/-- PARTITION_START (R219). -/
def execPartitionStart (s : State) : Host.Outcome State Fault Refusal := .next (hostSet s 0x06 0x06)
/-- CHANGEOVER (R226). -/
def execChangeover (s : State) : Host.Outcome State Fault Refusal := .next (hostSet s 0x06 0x07)
/-- CONVOY_MERGE (R264). -/
def execConvoyMerge (s : State) : Host.Outcome State Fault Refusal := .next (hostSet s 0x06 0x08)
/-- CONVOY_SHOULDER (R257). -/
def execConvoyShoulder (s : State) : Host.Outcome State Fault Refusal := .next (hostSet s 0x06 0x09)
/-- CAL_RESTORE_FACTORY (R294). -/
def execCalRestoreFactory (s : State) : Host.Outcome State Fault Refusal := .next (hostSet s 0x06 0x0A)
/-- CAL_COMMIT_USER (R295). -/
def execCalCommitUser (s : State) : Host.Outcome State Fault Refusal := .next (hostSet s 0x06 0x0B)
/-- LAYBY_DISCARD (R468). -/
def execLaybyDiscard (s : State) : Host.Outcome State Fault Refusal := .next (hostSet s 0x06 0x0C)
/-- ROADBLOCK_CLEAR (R46, R421). -/
def execRoadblockClear (s : State) : Host.Outcome State Fault Refusal := .next (hostSet s 0x06 0x0D)
/-- CHIP_RESET (R423). -/
def execChipReset (s : State) : Host.Outcome State Fault Refusal := .next (hostSet s 0x06 0x0E)
/-- SLEEP (R439). -/
def execSleep (s : State) : Host.Outcome State Fault Refusal := .next (hostSet s 0x06 0x0F)
/-- IMAGE_SELECT (R497). -/
def execImageSelect (s : State) : Host.Outcome State Fault Refusal := .next (hostSet s 0x06 0x10)
/-- AUDIT_TOLLS (R189). -/
def execAuditTolls (s : State) : Host.Outcome State Fault Refusal := .next (hostSet s 0x06 0x11)
/-- HW_ATTN_CLR (R411). -/
def execHwAttnClr (v : BitVec 16) (s : State) : Host.Outcome State Fault Refusal := .next (hostSet s 0x05 (v.setWidth 32))
/-- MAILBOX_PUSH (R415). -/
def execMailboxPush (v : BitVec 32) (s : State) : Host.Outcome State Fault Refusal := .next (hostSet s 0x0C v)
/-- MAILBOX_POP (R415). -/
def execMailboxPop (s : State) : Host.Outcome State Fault Refusal := .next (hostGet s 0x0E)
/-- EVENT_LOG_POP (R416). -/
def execEventLogPop (s : State) : Host.Outcome State Fault Refusal := .next (hostGet s 0x27)
/-- WINDOW_READ (R417): a write of HW_WIN_CTL with READ = 1. -/
def execWindowRead (v : BitVec 31) (s : State) : Host.Outcome State Fault Refusal :=
  .next (hostSet s 0x13 (v.setWidth 32 ||| 0x80000000#32))
/-- WINDOW_READ_DONE (R417). -/
def execWindowReadDone (s : State) : Host.Outcome State Fault Refusal := .next (winDone s)
/-- WINDOW_DATA_READ (R417). -/
def execWindowDataRead (s : State) : Host.Outcome State Fault Refusal := .next (hostGet s 0x12)
/-- WINDOW_WRITE (R417, R419). -/
def execWindowWrite (v : BitVec 32) (s : State) : Host.Outcome State Fault Refusal := .next (hostSet s 0x12 v)
/-- WPT_COUNT_LO_READ (R426): it latches the upper half. -/
def execWptCountLoRead (s : State) : Host.Outcome State Fault Refusal := .next (hostGet s 0x16)
/-- HW_WPT_LATE_READ (R214). -/
def execHwWptLateRead (s : State) : Host.Outcome State Fault Refusal := .next (hostGet s 0x18)
/-- EVENT_LOG_LEVEL_READ (R416). -/
def execEventLogLevelRead (s : State) : Host.Outcome State Fault Refusal := .next (hostGet s 0x28)

end Sys2Proof.Machine
end

