-- ==== Sys2Proof/Machine/Debug.lean ====
section
/-! DEFINITION. Debug and run control (20_debug.md): the ports, levels, halt and resume, registers, the instruction feed,
freezing and memory access. -/

namespace Sys2Proof.Machine

/-- Whether the debug port answers (R510). -/
def dbgUp (s : State) : Bool :=
  s.boot.inReset.isNone && s.dev != dsOff && s.dev != dsLayby && !(s.dev == dsSleep && s.pwr.mode != slDoze)

def dbgOk (s : State) (v : BitVec 32) : State := { s with dbgp := { s.dbgp with status := 0, data := v } }
def dbgWait (s : State) : State := { s with dbgp := { s.dbgp with status := 1, data := 0 } }

/-! ## Resume, step and drop (R511, R516) -/

/-- A halted core resumes; a tile whose partition does not scan returns to STOPPED (R516). -/
def resumeCore (s : State) (k : Nat) : State :=
  if !(s.core k).halted then s
  else
    let scans := match s.tilePart k with
      | some p => s.pstate p == psScanning
      | none => false
    s.onCore k (fun c => { c with halted := false, stepping := false,
                                  run := if isSc k || scans || c.run == .reset then c.run else .stopped })

/-- The level returns to CLOSED (R511): halts, steps and pending requests end. -/
def dropLevel (s : State) : State :=
  let s := s.put F.DBG_LEVEL_LEVEL 0
  let ks := (s.cores.filter (fun e => e.2.halted || e.2.haltReq != 0 || e.2.stepping)).map (fun e => e.1)
  ks.foldl (fun s k => resumeCore (s.onCore k (fun c => { c with haltReq := 0, stepping := false })) k) s

/-- A write of DBG_HALT word w (R514, R525). -/
def haltWrite (s : State) (w : Nat) (v : BitVec 32) : State :=
  let off := 0x40 + 4 * w
  let ks := (List.range 32).filterMap (fun b => if v.getLsbD b && decide (32 * w + b < 260) then some (32 * w + b) else none)
  if ks.any (fun k => !dbgPermits s k) then dbgErr s 1 off
  else if !ks.isEmpty && isVoter s && !s.flag F.DBG_CTL_SHOULDER_OK then dbgErr s 2 off
  else dbgOk (ks.foldl (fun s k => requestHalt s k 1) s) 0

/-- A write of DBG_RESUME word w (R516). -/
def resumeWrite (s : State) (w : Nat) (v : BitVec 32) : State :=
  let ks := (List.range 32).filterMap (fun b => if v.getLsbD b && decide (32 * w + b < 260) then some (32 * w + b) else none)
  if ks.any (fun k => !dbgPermits s k) then dbgErr s 1 (0x80 + 4 * w)
  else dbgOk (ks.foldl resumeCore s) 0

/-- DBG_CSTAT: the MATCH bits clear where 1; STEP resumes the halted core for one committed instruction; a
stopped tile stays STOPPED (R516). -/
def cstatWrite (s : State) (k : Nat) (v : BitVec 32) : State :=
  let x : Word := v.setWidth 64
  if bitsOf x 28 28 = 1 ∧ dbgHalted s k = false then dbgErr s 7 0x204
  else
    let s := s.onCore k (fun c => c.setD 0x204 (withBits (c.dreg 0x204) 19 14 (bitsOf (c.dreg 0x204) 19 14 &&& (63 - bitsOf x 19 14))))
    if bitsOf x 28 28 = 0 then dbgOk s 0
    else
      let s := resumeCore s k
      dbgOk (if (s.core k).run == .stopped then s else s.onCore k (fun c => { c with stepping := true })) 0

/-! ## Registers of a halted core (R518, R520) -/

/-- DEBUG_WRITE on a sealed core: the voiding event 0x07 (R65, R520). -/
def debugVoid (s : State) (k : Nat) : State :=
  if isSc k then (if s.isSealed k then voidReport s 0x07 (.sc (k - 256)) else s) else voidTile s k 0x07

/-- The refusal of an access to the selected register, or 0: 1 LEVEL, 7 NOT_HALTED, 8 RANGE. -/
def regSelErr (s : State) (k cls num : Nat) : Nat :=
  if !dbgPermits s k then 1
  else if !dbgHalted s k then 7
  else if cls = 3 then (if !isSc k ∨ 63 < num then 8 else if dbgLevel s < 2 then 1 else 0)
  else if cls = 2 then (if srListed num then 0 else 8)
  else if 31 < num then 8
  else 0

def coreReg (s : State) (k cls num : Nat) : Word :=
  match cls with
  | 0 => (s.core k).greg num
  | 1 => (s.core k).freg num
  | 2 => srRead s k num
  | _ => (s.core k).save.read zero64 num

/-- A write of a register of a halted core, and its report; g0, and a tile's CTXID and FPMODE, ignore it, and so does the save
area, which a debug access only reads (R166). -/
def coreRegSet (s : State) (k cls num : Nat) (v : Word) : State :=
  match cls with
  | 0 => if num = 0 then s else debugVoid (s.onCore k (fun c => c.setG num v)) k
  | 1 => debugVoid (s.onCore k (fun c => c.setF num v)) k
  | 2 => if !isSc k ∧ (num = srCtxid ∨ num = srFpmode) then s else debugVoid (srWrite s k num v) k
  | _ => s

def selClass (s : State) (k : Nat) : Nat := bitsOf ((s.core k).dreg 0x218) 17 16
def selNum (s : State) (k : Nat) : Nat := bitsOf ((s.core k).dreg 0x218) 9 0

/-- One 32-bit half of a word, and the word with a half replaced (R506). -/
def halfOf (v : Word) (hi : Bool) : BitVec 32 := if hi then (v >>> 32).setWidth 32 else v.setWidth 32
def setHalf (v : Word) (hi : Bool) (d : BitVec 32) : Word := if hi then withBits v 63 32 d.toNat else withBits v 31 0 d.toNat

def regDataRead (s : State) (hi : Bool) : State :=
  let k := dbgSel s
  let c := selClass s k
  let n := selNum s k
  let e := regSelErr s k c n
  if e ≠ 0 then dbgErr s e (if hi then 0x224 else 0x220) else dbgOk s (halfOf (coreReg s k c n) hi)

def regDataWrite (s : State) (hi : Bool) (d : BitVec 32) : State :=
  let k := dbgSel s
  let c := selClass s k
  let n := selNum s k
  let e := regSelErr s k c n
  if e ≠ 0 then dbgErr s e (if hi then 0x224 else 0x220)
  else dbgOk (coreRegSet s k c n (setHalf (coreReg s k c n) hi d)) 0

/-! ## The instruction feed (R519, R520) -/

/-- The stores of a fed core drain as far as their targets let them. -/
def drainAll (s : State) (k : Nat) : Nat → State
  | 0 => s
  | n + 1 =>
    match drainOne s k with
    | (true, s) => drainAll s k n
    | (false, s) => s

/-- The feed ends: DONE once the core's stores have drained, else BUSY until they have (R519). -/
def feedEnd (s : State) (k : Nat) (trap : Option Nat) : State :=
  let s := s.onCore k (fun c =>
    let v := c.dreg 0x22C
    let v := match trap with
      | some t => withBits (withBits v 29 29 1) 7 0 t
      | none => withBits v 7 0 0
    c.setD 0x22C (withBits v 31 31 1))
  feedDrained (drainAll s k 9) k

/-- Core k executes the fed word. One that waits is executed again at each tick, with BUSY set, until it ends. -/
def feedRun (s : State) (k : Nat) (w : BitVec 32) : State :=
  let s := { s with dbgp := { s.dbgp with word := none } }
  match decodeWord (Fin.ofNat 260 k) w with
  | none => feedEnd s k (some tcIllegal)
  | some i =>
    match fedExec i { s with dbgp := { s.dbgp with feed := some none } } with
    | .next t =>
      let done (s : State) : State := { s with dbgp := { s.dbgp with feed := none } }
      (match t.dbgp.feed with
       | none => { t.onCore k (fun c => c.setD 0x22C (withBits (c.dreg 0x22C) 31 31 1)) with
                   dbgp := { t.dbgp with word := some (k, w) } }
       | some (some c) => feedEnd (done t) k (some c)
       | some none => feedEnd (if feedWrites w then debugVoid (done t) k else done t) k none)
    | _ => s

/-- The feed that waits goes on at a tick; it ends with nothing done on a core that is halted no more. -/
def feedRetry (s : State) : State :=
  match s.dbgp.word with
  | none => s
  | some (k, w) =>
    if dbgHalted s k then feedRun s k w
    else { s.onCore k (fun c => c.setD 0x22C (withBits (c.dreg 0x22C) 31 31 0)) with dbgp := { s.dbgp with word := none } }

/-- A write of DBG_FEED. -/
def feedWrite (s : State) (w : BitVec 32) : State :=
  let k := dbgSel s
  if !dbgPermits s k then dbgErr s 1 0x228
  else if !dbgHalted s k then dbgErr s 7 0x228
  else if bitsOf ((s.core k).dreg 0x22C) 31 31 = 1 ∨ s.dbgp.word.isSome then dbgErr s 3 0x228
  else if (decodeWord (Fin.ofNat 260 k) w).isSome && feedBarred w then dbgErr s 4 0x228
  else dbgOk (feedRun s k w) 0

/-! ## Freezing (R523) -/

/-- A write of a freeze register: 0–3 the engines', 4 the slices', 5 the units'. The watchdog bits are changed at FULL only. -/
def freezeWrite (s : State) (i : Nat) (v : BitVec 32) : State :=
  let x : Word := v.setWidth 64
  let off := if i < 4 then 0x100 + 4 * i else if i = 4 then 0x110 else 0x114
  let a := 0x400E0000 + off
  if i = 5 ∧ bitsOf x 15 8 ≠ s.get F.DBG_FRZ_UNIT_WDG ∧ dbgLevel s < 2 then dbgErr s 1 off
  else dbgOk (genericWrite s a x) 0

/-! ## Memory access (R524) -/

def dmemAddr (s : State) : Nat := (s.reg A.DBG_MEM_ADDR).toNat
def dmemSize (s : State) : Nat := if s.flag F.DBG_MEM_CTL_SIZE then 8 else 4

/-- A write of DBG_MEM_CTL, which may start a read. -/
def memCtlWrite (s : State) (v : BitVec 32) : State :=
  let s := genericWrite s A.DBG_MEM_CTL (v.setWidth 64)
  if !v.getLsbD 31 then dbgOk s 0
  else if dmemAddr s % dmemSize s ≠ 0 then dbgErr s 8 0x410
  else dbgOk { s with dbgp := { s.dbgp with mem := some (dmemAddr s, none) } } 0

/-- The report that an override write owes: none where none is needed (R524); a sealed region's one names its service cores. -/
inductive Guarded where
  | no
  | tile (t p : Nat)
  | const
  | sealed (ks : List Nat)

/-- What guards an address against a debug write. -/
def guardOf (s : State) (a : Nat) : Guarded :=
  match (sealedCovers s a).map (fun c => c.1 - 256) with
  | k :: ks => .sealed (k :: ks).eraseDups
  | [] =>
    if inLockedCr s a then .const
    else if inTiles a then
      match s.tilePart ((a - 0x20000000) / 0x10000) with
      | some p => if s.sealedPart p then .tile ((a - 0x20000000) / 0x10000) p else .no
      | none => .no
    else .no

/-- The report of an override write (R65, R524). -/
def overrideReport (s : State) (a : Nat) : Guarded → State
  | .no => s
  | .tile t p => voidIfSealed s (if dbgHalted s t then 0x07 else 0x06) p
  | .const => (crParts s a).foldl (fun s p => voidIfSealed s 0x07 p) s
  | .sealed ks => ks.foldl (fun s k => voidReport s 0x07 (.sc k)) s

def isGuarded : Guarded → Bool
  | .no => false
  | _ => true

/-- The last data word of a write: it starts, or is refused with LEVEL. -/
def memDataWrite (s : State) (hi : Bool) (d : BitVec 32) : State :=
  let s := s.setReg A.DBG_MEM_DATA (setHalf (s.reg A.DBG_MEM_DATA) hi d)
  if hi ≠ s.flag F.DBG_MEM_CTL_SIZE then dbgOk s 0
  else
    let a := dmemAddr s
    let off := if hi then 0x40C else 0x408
    if a % dmemSize s ≠ 0 then dbgErr s 8 off
    else if isGuarded (guardOf s a) ∧ ¬(s.flag F.DBG_MEM_CTL_OVERRIDE ∧ dbgLevel s = 2) then dbgErr s 1 off
    else dbgOk { s with dbgp := { s.dbgp with mem := some (a, some (s.reg A.DBG_MEM_DATA)) } } 0

/-- A read of a word of DBG_MEM_DATA advances nothing; INC follows each access. -/
def dmemAdvance (s : State) : State :=
  let s := { s with dbgp := { s.dbgp with mem := none } }
  if s.flag F.DBG_MEM_CTL_INC then s.setReg A.DBG_MEM_ADDR (BitVec.ofNat 64 ((dmemAddr s + dmemSize s) % 2 ^ 40)) else s

/-- A failed access: ERR, and cause ACCESS. -/
def dmemFail (s : State) : State :=
  dbgRecord ({ s.put F.DBG_MEM_CTL_ERR 1 with dbgp := { s.dbgp with mem := none } }) 5 0x410

/-- An access to the memory registers while a memory access runs returns WAIT and is performed at its end (R506). -/
def dbgHold (s : State) (x : Bool × Nat × BitVec 32) : State :=
  { s with dbgp := { s.dbgp with status := 1, data := 0, held := if s.dbgp.held.isSome then s.dbgp.held else some x } }

/-- The memory access in progress ends (R524). -/
def memDone (s : State) : State :=
  match s.dbgp.mem with
  | none => s
  | some (a, none) =>
    match busRead s .debug a (dmemSize s) with
    | (.ok v, s) => dmemAdvance (s.setReg A.DBG_MEM_DATA (BitVec.ofNat 64 v))
    | (.err _, s) => dmemFail s
    | (.wait, s) => s
  | some (a, some v) =>
    let g := guardOf s a
    let n := dmemSize s
    match if isGuarded g then memWrite s .debug a n (v.toNat % 2 ^ (8 * n)) else busWrite s .debug false a n (v.toNat % 2 ^ (8 * n)) with
    | (.ok, s) => dmemAdvance (overrideReport s a g)
    | (.err, s) => dmemFail s
    | (.wait, s) => s

/-! ## Accesses of the DBG block (R506, R511) -/

/-- Whether an offset is answered at level CLOSED. -/
def dbgOpen (off : Nat) : Bool := off == 0 || off == 4 || off == 0xC || off == 0x10 || off == 0x14

/-- The registers of the selected core (R526), which need the level its run control needs; its run state is shown at SERVICE. -/
def perCore (off : Nat) : Bool := decide (0x204 ≤ off ∧ off < 0x2F4)

/-- Offsets of the second word of a 64-bit register. -/
def upperHalf (off : Nat) : Bool := wideAt (0x400E0000 + off - 4) && decide (4 ≤ off)

/-- The refusal that the level gives an access at an offset. -/
def dbgDenied (s : State) (off : Nat) (write : Bool) : Bool :=
  if dbgOpen off then false
  else if dbgLevel s = 0 then true
  else perCore off && !(off == 0x204 && !write) && !dbgPermits s (dbgSel s)

/-- A challenge on the debug path (R512). -/
def dbgChal (s : State) (d : BitVec 32) : State :=
  let l := bitsOf (d.setWidth 64) 1 0
  if l = 1 ∨ l = 2 then
    match challenge s false l with
    | (true, s) => dbgOk s 0
    | (false, s) => dbgErr s 6 0x10
  else dbgErr s 8 0x10

/-- A read of a DBG register. An offset that no 32-bit access has is refused as RANGE (R12; DESIGN CHOICE for the cause, log 44). -/
def dbgReadAt (s : State) (off : Nat) : State :=
  if dbgDenied s off false then dbgErr s 1 off
  else if off % 4 ≠ 0 then dbgErr s 8 off
  else if off = 0x10 then
    let r := chalRead s false
    dbgOk r.2 r.1
  else if off = 0x220 ∨ off = 0x224 then regDataRead s (off == 0x224)
  else if s.dbgp.mem.isSome && decide (0x400 ≤ off ∧ off < 0x410) then dbgHold s (false, off, 0)
  else
    let hi := upperHalf off
    match regAt (0x400E0000 + off - (if hi then 4 else 0)) with
    | some (d, _, _) =>
      let r := dbgRead s d.reg (0x400E0000 + off - (if hi then 4 else 0))
      dbgOk r.2 (halfOf r.1 hi)
    | none => dbgOk s 0

/-- A write of DBG_CTL (R511, R526): RESET acts when the access ends, which this model takes as its effect. -/
def dbgCtlWrite (s : State) (d : BitVec 32) : State :=
  let s := dbgOk (genericWrite s A.DBG_CTL (d.setWidth 64)) 0
  let s := if d.getLsbD 30 then dropLevel s else s
  if d.getLsbD 31 then raiseReset s rcDebug else s

/-- The plain stores of a core's own registers, by offset: comparators (R521), DBG_REG_SEL, and the halt addresses, which are
written while the core is halted. -/
def coreOwnWrite (s : State) (k off : Nat) (d : BitVec 32) : State :=
  let hi := upperHalf off
  let base := off - (if hi then 4 else 0)
  let x : Word := d.setWidth 64
  let store (m : Word) : State := dbgOk (s.onCore k (fun c => c.setD base (setHalf (c.dreg base) hi d &&& m))) 0
  if base = 0x208 ∨ base = 0x210 then
    if !dbgHalted s k then dbgErr s 7 off
    else
      let put (a : Addr) : Addr := (setHalf (a.setWidth 64) hi d &&& 0xFFFFFFFFFC).setWidth 40
      dbgOk (s.onCore k (fun c => if base = 0x208 then { c with pc := put c.pc } else { c with npc := put c.npc })) 0
  else if base = 0x218 then store 0x303FF
  else if base = 0x22C then
    dbgOk (s.onCore k (fun c => c.setD base (withBits (c.dreg base) 30 29 (bitsOf (c.dreg base) 30 29 &&& (3 - bitsOf x 30 29))))) 0
  else if 0x240 ≤ base ∧ base < 0x2C0 then
    let r := (base - 0x240) % 0x20
    if r = 0x10 then (if bitsOf x 30 29 = 3 then dbgErr s 8 off else store 0xFF00FFFF)
    else if r = 0 ∨ r = 8 then store 0xFFFFFFFFFF
    else dbgOk s 0
  else if 0x2C0 ≤ base ∧ base < 0x2F4 then
    let r := (base - 0x2C0) % 0x20
    if r = 0x10 then (if bitsOf x 30 29 = 3 then dbgErr s 8 off else store 0xE400FFFF)
    else if r = 0 ∨ r = 8 then store 0xFFFFFFFFFFFFFFFF
    else dbgOk s 0
  else dbgOk s 0

/-- A write of a DBG register. -/
def dbgWriteAt (s : State) (off : Nat) (d : BitVec 32) : State :=
  let k := dbgSel s
  if dbgDenied s off true then dbgErr s 1 off
  else if off % 4 ≠ 0 then dbgErr s 8 off
  else if off = 0x08 then dbgCtlWrite s d
  else if off = 0x0C then dbgOk (genericWrite s A.DBG_ERR (d.setWidth 64)) 0
  else if off = 0x10 then dbgChal s d
  else if off = 0x14 then
    let t := respWrite s false d
    if t.dbgp.unlock.checking then dbgWait t else dbgOk t 0
  else if 0x40 ≤ off ∧ off < 0x64 ∧ off % 4 = 0 then haltWrite s ((off - 0x40) / 4) d
  else if 0x80 ≤ off ∧ off < 0xA4 ∧ off % 4 = 0 then resumeWrite s ((off - 0x80) / 4) d
  else if 0x100 ≤ off ∧ off < 0x118 ∧ off % 4 = 0 then freezeWrite s ((off - 0x100) / 4) d
  else if off = 0x200 then
    if 260 ≤ bitsOf (d.setWidth 64) 8 0 then dbgErr s 8 off else dbgOk (genericWrite s A.DBG_SEL (d.setWidth 64)) 0
  else if off = 0x204 then cstatWrite s k d
  else if off = 0x220 ∨ off = 0x224 then regDataWrite s (off == 0x224) d
  else if off = 0x228 then feedWrite s d
  else if perCore off then coreOwnWrite s k off d
  else if s.dbgp.mem.isSome && decide (0x400 ≤ off ∧ off < 0x414) then dbgHold s (true, off, d)
  else if off = 0x400 ∨ off = 0x404 then
    dbgOk (s.setReg A.DBG_MEM_ADDR (setHalf (s.reg A.DBG_MEM_ADDR) (off == 0x404) d &&& 0xFFFFFFFFFC)) 0
  else if off = 0x408 ∨ off = 0x40C then memDataWrite s (off == 0x40C) d
  else if off = 0x410 then memCtlWrite s d
  else dbgOk s 0

/-- A freeze that ends with the access (R307, R541). -/
def thaw (old s : State) : State := wptThaw old (iosThaw old s)

/-- MEM_ACCESS_DONE (R524): the access ends, and the one that it held off is performed. -/
def memEnd (s : State) : State :=
  let t := memDone s
  match t.dbgp.mem, t.dbgp.held with
  | none, some (w, off, d) =>
    let t := { t with dbgp := { t.dbgp with held := none } }
    if w then dbgWriteAt t off d else dbgReadAt t off
  | _, _ => t

/-- MEM_ACCESS_DONE (R524). -/
def execMemAccessDone (s : State) : Host.Outcome State Fault Refusal := .next (settle (thaw s (memEnd s)))

/-- An access through the port: its operation (R506). A one-wire frame whose check fails does nothing. -/
def dbgAccess (s : State) (crc : Bool) (f : State → State) : State :=
  if !dbgUp s then s
  else if !crc && !s.pads.fiveWire then { s with dbgp := { s.dbgp with status := 3 } }
  else settle (thaw s (f s))

/-! ## The rows of the debug port -/

/-- DEBUG_NOP (R506): the result of the access before is collected. -/
def execDebugNop (crc : Bool) (s : State) : Host.Outcome State Fault Refusal := .next (dbgAccess s crc id)
/-- DEBUG_READ (R506). -/
def execDebugRead (crc : Bool) (off : BitVec 16) (s : State) : Host.Outcome State Fault Refusal :=
  .next (dbgAccess s crc (fun s => dbgReadAt s off.toNat))
/-- DEBUG_WRITE (R506). -/
def execDebugWrite (crc : Bool) (off : BitVec 16) (d : BitVec 32) (s : State) : Host.Outcome State Fault Refusal :=
  .next (dbgAccess s crc (fun s => dbgWriteAt s off.toNat d))
/-- DBG_HALT (R514). -/
def execDbgHalt (w : Fin 9) (v : BitVec 32) (s : State) : Host.Outcome State Fault Refusal :=
  .next (dbgAccess s true (fun s => dbgWriteAt s (0x40 + 4 * w) v))
/-- DBG_RESUME (R516). -/
def execDbgResume (w : Fin 9) (v : BitVec 32) (s : State) : Host.Outcome State Fault Refusal :=
  .next (dbgAccess s true (fun s => dbgWriteAt s (0x80 + 4 * w) v))
/-- STEP (R516). -/
def execStep (s : State) : Host.Outcome State Fault Refusal :=
  .next (dbgAccess s true (fun s => dbgWriteAt s 0x204 0x10000000#32))
/-- DEBUG_RESET (R526): a write of DBG_CTL that changes no other field. -/
def execDebugReset (s : State) : Host.Outcome State Fault Refusal :=
  .next (dbgAccess s true (fun s => dbgWriteAt s 0x08 (((s.reg A.DBG_CTL).setWidth 32 &&& 0xE#32) ||| 0x80000000#32)))
/-- DROP (R511): a write of DBG_CTL that changes no other field. -/
def execDrop (s : State) : Host.Outcome State Fault Refusal :=
  .next (dbgAccess s true (fun s => dbgWriteAt s 0x08 (((s.reg A.DBG_CTL).setWidth 32 &&& 0xE#32) ||| 0x40000000#32)))
/-- DBG_FEED (R519). -/
def execDbgFeed (w : BitVec 32) (s : State) : Host.Outcome State Fault Refusal :=
  .next (dbgAccess s true (fun s => dbgWriteAt s 0x228 w))
/-- REG_DATA_READ (R518). -/
def execRegDataRead (hi : Bool) (s : State) : Host.Outcome State Fault Refusal :=
  .next (dbgAccess s true (fun s => dbgReadAt s (if hi then 0x224 else 0x220)))
/-- REG_DATA_WRITE (R518, R520). -/
def execRegDataWrite (hi : Bool) (d : BitVec 32) (s : State) : Host.Outcome State Fault Refusal :=
  .next (dbgAccess s true (fun s => dbgWriteAt s (if hi then 0x224 else 0x220) d))
/-- MEM_READ (R524): a write of DBG_MEM_CTL with READ = 1. -/
def execMemRead (v : BitVec 31) (s : State) : Host.Outcome State Fault Refusal :=
  .next (dbgAccess s true (fun s => dbgWriteAt s 0x410 (v.setWidth 32 ||| 0x80000000#32)))
/-- MEM_WRITE (R524). -/
def execMemWrite (hi : Bool) (d : BitVec 32) (s : State) : Host.Outcome State Fault Refusal :=
  .next (dbgAccess s true (fun s => dbgWriteAt s (if hi then 0x40C else 0x408) d))
/-- FREEZE_WRITE (R523). -/
def execFreezeWrite (i : Fin 6) (v : BitVec 32) (s : State) : Host.Outcome State Fault Refusal :=
  .next (dbgAccess s true (fun s => dbgWriteAt s (0x100 + 4 * i) v))

/-- UNLOCK_CHALLENGE (R512) on the host path or the debug path. -/
def execUnlockChallenge (host : Bool) (v : BitVec 32) (s : State) : Host.Outcome State Fault Refusal :=
  .next (if host then hostSet s 0x1F v else dbgAccess s true (fun s => dbgWriteAt s 0x10 v))
/-- CHALLENGE_READ (R512). -/
def execChallengeRead (host : Bool) (s : State) : Host.Outcome State Fault Refusal :=
  .next (if host then hostGet s 0x1F else dbgAccess s true (fun s => dbgReadAt s 0x10))
/-- UNLOCK_RESPONSE (R513). -/
def execUnlockResponse (host : Bool) (v : BitVec 32) (s : State) : Host.Outcome State Fault Refusal :=
  .next (if host then hostSet s 0x20 v else dbgAccess s true (fun s => dbgWriteAt s 0x14 v))

/-! ## The test access port (R507, R508) -/

/-- An instruction of the five-wire port: its code, and the boundary scan it puts in force. -/
def tapTo (s : State) (ir : Nat) (scan : Nat) : State :=
  if dbgUp s && s.pads.fiveWire then { s with dbgp := { s.dbgp with ir := BitVec.ofNat 5 ir, scan := scan } } else s

/-- Whether EXTEST and HIGHZ act now; otherwise they behave as BYPASS (R508). -/
def scanActs (s : State) : Bool :=
  s.get F.DBG_LEVEL_LEVEL == 2 && (s.dev == dsBoot || s.dev == dsProvision || s.dev == dsService)

/-- The levels that the boundary cells sample: 320 pins, WP_N, HMODE, MID0, MID1. -/
def sampled (s : State) : BitVec 324 :=
  BitVec.ofNat 324 ((List.range 320).foldl (fun v n => if pinLevel s n then v + 2 ^ n else v) 0 +
    (if s.pads.wpN then 2 ^ 320 else 0) + (if s.pads.hmode then 2 ^ 321 else 0) + s.pads.mid.toNat * 2 ^ 322)

/-- Capture and update of the boundary-scan register. -/
def scanCells (s : State) (out oe : BitVec 320) : State :=
  if dbgUp s && s.pads.fiveWire then { s with dbgp := { s.dbgp with bsIn := sampled s, bsOut := out, bsEn := oe } } else s

/-- TAP_RESET (R507). -/
def execTapReset (s : State) : Host.Outcome State Fault Refusal := .next (tapTo s 0x01 0)
/-- EXTEST (R508). -/
def execExtest (out oe : BitVec 320) (s : State) : Host.Outcome State Fault Refusal :=
  .next (if scanActs s then tapTo (scanCells s out oe) 0x00 1 else tapTo s 0x00 0)
/-- IDCODE (R507): 0x1256_4A7B is shifted out. -/
def execIdcode (s : State) : Host.Outcome State Fault Refusal :=
  .next (if dbgUp s && s.pads.fiveWire then { tapTo s 0x01 0 with rdata := 0x12564A7B } else s)
/-- SAMPLE_PRELOAD (R507). -/
def execSamplePreload (out oe : BitVec 320) (s : State) : Host.Outcome State Fault Refusal :=
  .next (tapTo (scanCells s out oe) 0x02 0)
/-- HIGHZ (R508). -/
def execHighz (s : State) : Host.Outcome State Fault Refusal := .next (tapTo s 0x03 (if scanActs s then 2 else 0))
/-- BYPASS (R507). -/
def execBypass (s : State) : Host.Outcome State Fault Refusal := .next (tapTo s 0x1F 0)

/-- DBGACC (R507): Capture-DR returns the status and data of the access before, Update-DR starts the shifted one. -/
def execDbgacc (op : BitVec 2) (off : BitVec 16) (d : BitVec 32) (s : State) : Host.Outcome State Fault Refusal :=
  .next (if dbgUp s && s.pads.fiveWire then
      let s := { tapTo s 0x08 0 with rdata := BitVec.ofNat 64 (s.dbgp.status.toNat * 2 ^ 48 + s.dbgp.data.toNat) }
      dbgAccess s true (fun s => if op = 1 then dbgReadAt s off.toNat else if op = 2 then dbgWriteAt s off.toNat d else s)
    else s)

end Sys2Proof.Machine
end

