-- ==== Sys2Proof/Machine/Dma.lean ====
section
/-! DEFINITION. The general DMA channels G0–G15 (R23–R28): start, stop and the units. -/

namespace Sys2Proof.Machine

/-- A channel stops with BUS at an address (R27): ERR is set, its address recorded if no record is held. -/
def dmaFail (s : State) (g a : Nat) : State :=
  let s := if s.flag F.DMA_ERR_VALID then s else s.setReg A.DMA_ERR_ADDR (BitVec.ofNat 64 (a % 2 ^ 40))
  let s := dmaErr s 4 g 0
  let s := (s.put (F.DMA_CTL_EN g) 0).put (F.DMA_STAT_ERR g) 1
  { s with dma := { s.dma with unit := s.dma.unit.write noUnit g none, trig := s.dma.trig.write noB g false,
                               stopping := s.dma.stopping.write noB g false } }

/-- The end of a unit of n bytes (R25, R26): the pointers advance; at length 0 the channel ends with DONE, and a stopped one
ends without. A stopped unit that brings the length to 0 sets DONE: the spec does not rank R25 and R26 (DESIGN CHOICE, log 55). -/
def dmaAdvance (s : State) (g n : Nat) : State :=
  let len := s.get (F.DMA_LEN_LEN g) - n
  let s := if s.flag (F.DMA_CTL_SRC_INC g) then s.setReg (A.DMA_SRC g) (BitVec.ofNat 64 (((s.reg (A.DMA_SRC g)).toNat + n) % 2 ^ 40)) else s
  let s := if s.flag (F.DMA_CTL_DST_INC g) then s.setReg (A.DMA_DST g) (BitVec.ofNat 64 (((s.reg (A.DMA_DST g)).toNat + n) % 2 ^ 40)) else s
  let s := s.put (F.DMA_LEN_LEN g) len
  let s :=
    if len = 0 then (s.put (F.DMA_CTL_EN g) 0).put (F.DMA_STAT_DONE g) 1
    else if s.dma.stopping.read noB g then s.put (F.DMA_CTL_EN g) 0
    else s
  { s with dma := { s.dma with unit := s.dma.unit.write noUnit g none, stopping := s.dma.stopping.write noB g false } }

def setUnit (s : State) (g : Nat) (u : Option (Option Word)) : State :=
  { s with dma := { s.dma with unit := s.dma.unit.write noUnit g u } }

/-- A unit that its target refuses (R27): an engine's FIFO (R318), or pins none of which accept the channel (R327). -/
def dmaRefused (s : State) (g : Fin 16) (a v : Nat) : Bool :=
  match regAt a with
  | some (d, x, _) =>
    let pins (base : Nat) (dir : Bool) :=
      let js := (List.range 16).filter (fun j => v / 2 ^ (16 + j) % 2 == 1)
      !js.isEmpty && js.all (fun j => !pinAccepts s (.agent (.dma g)) (32 * x + base + j) dir)
    match d.reg with
    | .IOS_TXF => !fifoAccepts s (.dma g) x
    | .IOS_RXF => !fifoAccepts s (.dma g) x
    | .PIN_OUT_LO => pins 0 false
    | .PIN_OUT_HI => pins 16 false
    | .PIN_DIR_LO => pins 0 true
    | .PIN_DIR_HI => pins 16 true
    | _ => false
  | none => false

/-- The write of a unit. The first component says that the unit has ended. -/
def unitWrite (s : State) (g : Fin 16) (v : Nat) : Bool × State :=
  let n := if s.flag (F.DMA_CTL_SIZE g) then 8 else 4
  let a := (s.reg (A.DMA_DST g)).toNat
  if !dmaWrites a then (true, dmaFail s g a)
  else
    let bad := dmaRefused s g a v
    match busWrite s (.dma g) false a n v with
    | (.ok, s) => (true, if bad then dmaFail s g a else dmaAdvance s g n)
    | (.err, s) => (true, dmaFail s g a)
    | (.wait, s) => (false, setUnit s g (some (some (BitVec.ofNat 64 v))))

/-- One attempt at a channel's unit: its read, then its write (R25). -/
def unitTry (s : State) (g : Fin 16) : Bool × State :=
  match s.dma.unit.read noUnit g with
  | some (some v) => unitWrite s g v.toNat
  | _ =>
    let n := if s.flag (F.DMA_CTL_SIZE g) then 8 else 4
    let a := (s.reg (A.DMA_SRC g)).toNat
    if !dmaReads a then (true, dmaFail s g a)
    else
      let bad := dmaRefused s g a 0
      match busRead s (.dma g) a n with
      | (.ok v, s) => if bad then (true, dmaFail s g a) else unitWrite s g v
      | (.err _, s) => (true, dmaFail s g a)
      | (.wait, s) => (false, setUnit s g (some none))

/-- Whether a channel may start a unit under its pace (R26). -/
def dmaReady (s : State) (g : Nat) : Bool :=
  let e := s.get (F.DMA_CTL_SEL g)
  s.flag (F.DMA_CTL_EN g) && (s.dma.unit.read noUnit g).isNone &&
  (match s.get (F.DMA_CTL_PACE g) with
   | 0 => true
   | 1 => decide ((s.engine e).tx.length < fifoDepth)
   | 2 => !(s.engine e).rx.isEmpty
   | _ => s.dma.trig.read noB g)

/-- The units in progress go on, one after another, until one ends; true when one has. -/
def unitsGoOn (s : State) : List Nat → Bool × State
  | [] => (false, s)
  | g :: gs =>
    if (s.dma.unit.read noUnit g).isSome then
      match unitTry s (Fin.ofNat 16 g) with
      | (true, t) => (true, t)
      | (false, t) => unitsGoOn t gs
    else unitsGoOn s gs

/-- A new unit starts (R26): ring writers that hold entries come first, a frozen block starts none (R523). -/
def unitStart (s : State) : State :=
  if dmaFrozen s || (List.range 32).any (fun i => !(s.slice i).ringq.isEmpty) then s
  else
    match roundRobin 16 s.dma.last (dmaReady s) with
    | none => s
    | some g =>
      (unitTry { s with dma := { s.dma with last := g, trig := s.dma.trig.write noB g false } } (Fin.ofNat 16 g)).2

/-- DMA_UNIT (R26): a unit in progress completes, or else a channel wins arbitration and its unit begins. -/
def dmaUnit (s : State) : State :=
  if !coresClocked s then s
  else
    match unitsGoOn s (List.range 16) with
    | (true, t) => settle t
    | (false, t) => settle (unitStart t)

/-- DMA_START (R25): a write of DMA_CTL with EN = 1. -/
def execDmaStart (g : Fin 16) (v : BitVec 31) (s : State) : Host.Outcome State Fault Refusal :=
  .next (dmaStart s g (v.setWidth 64 ||| 0x80000000))

/-- DMA_STOP (R26): a write of DMA_CTL with EN = 0. -/
def execDmaStop (g : Fin 16) (s : State) : Host.Outcome State Fault Refusal :=
  .next (if s.flag (F.DMA_CTL_EN g) then dmaStop s g else s)

/-- DMA_UNIT (R26). -/
def execDmaUnit (s : State) : Host.Outcome State Fault Refusal := .next (dmaUnit s)

end Sys2Proof.Machine
end

