-- ==== Sys2Proof/Machine/Access.lean ====
section
/-! DEFINITION. A register write that names its initiator (R12, R13, R22). -/

namespace Sys2Proof.Machine

/-- What becomes of an access that is not performed (R12, R24, R27, R418, R524): a service core that runs takes a bus error trap, a
DMA channel stops with BUS, the host's next reply carries ACCESS_ERR, and the debug port reports LEVEL or ACCESS. The word that
TRAP_INSTR then holds no command carries: it is free (log 1). -/
def accessFails (s : State) (i : Agent) (a : Nat) : State :=
  match i with
  | .sc k =>
    let d := s.draw 32
    if coreRuns s (256 + k) then takeTrap d.2 (256 + k) tcBusError 0 a d.1.toNat else s
  | .dma g => dmaFail s g a
  | .host => winFail (winForget s) 0x12 a
  | .debug => if dbgLevel s = 0 then dbgErr s 1 0x408 else dmemFail s

/-- REGISTER_WRITE (R13): a write of a peripheral register by an initiator under its access codes and the rules of its block;
`wide` gives the size of the access. An access that R12, R22 or the level does not allow is not performed. -/
def execRegisterWrite (i : Agent) (a : Addr) (wide : Bool) (v : Word) (s : State) : Host.Outcome State Fault Refusal :=
  let n := if wide then 8 else 4
  let priv := match i with
    | .sc k => s.isPriv (256 + k)
    | _ => false
  if !inPeri a.toNat then .next s
  else if !mayWrite s i a.toNat then .next (accessFails s i a.toNat)
  else
    match busWriteFree s i priv a.toNat n (v.toNat % 2 ^ (8 * n)) with
    | (.ok, s) => .next s
    | (_, s) => .next (accessFails s i a.toNat)

end Sys2Proof.Machine
end

