-- ==== Sys2Proof/Machine/Control.lean ====
section
/-! DEFINITION. Branches and jumps (R117–R120) with their delay slot (R77, R78). -/

namespace Sys2Proof.Machine

/-- Count the slot of a branch as annulled (R78). -/
def countAnnul (s : State) (k : Nat) (runs : Bool) : State := if runs then s else s.pmc k evAnnulled 1

/-- A conditional branch (R117): the target is the branch's address plus 4 × disp. With the annul bit clear the slot
always executes, with it set only when the branch is taken (R77). In a delay slot it raises SLOT (R120). -/
def branchIf (k : CoreId) (w : Nat) (a b : BitVec 5) (annul : Bool) (disp : BitVec 15) (f : Word → Word → Bool)
    (s : State) : State :=
  runInstr s k w (fun s =>
    match decodeTrap s k false true false false with
    | some t => .trap s t 0 0
    | none =>
      let taken := f (greg s k a) (greg s k b)
      let pc := (s.core k).pc
      let next := if taken then pc + (disp.signExtend 40 <<< 2) else pc + 8
      let runs := !annul || taken
      .done (countAnnul (s.onCore k (fun c => c.branch next runs)) k runs))

/-- An unconditional jump (R118): with the annul bit set its slot never executes (R77). -/
def jumpTo (s : State) (k : Nat) (next : Addr) (annul : Bool) : State :=
  countAnnul (s.onCore k (fun c => c.branch next (!annul))) k (!annul)

/-- The link value: the address of the jump plus 8 (R118). -/
def linkOf (s : State) (k : Nat) : Word := ((s.core k).pc + 8).setWidth 64

/-- J and JAL (R118): a PC-relative jump, with the link in g31 for JAL. -/
def jumpRel (k : CoreId) (w : Nat) (annul link : Bool) (disp : BitVec 25) (s : State) : State :=
  runInstr s k w (fun s =>
    match decodeTrap s k false true false false with
    | some t => .trap s t 0 0
    | none =>
      let next := (s.core k).pc + (disp.signExtend 40 <<< 2)
      let l := linkOf s k
      let s := jumpTo s k next annul
      .done (if link then s.onCore k (fun c => c.setG 31 l) else s))

/-- BEQ (R117): Branch if equal. -/
def execBeq (k : CoreId) (a b : BitVec 5) (annul : Bool) (disp : BitVec 15) (s : State) : Host.Outcome State Fault Refusal :=
  .next (branchIf k (wordOf (.beq k a b annul disp)) a b annul disp (· == ·) s)

/-- BNE (R117): Branch if not equal. -/
def execBne (k : CoreId) (a b : BitVec 5) (annul : Bool) (disp : BitVec 15) (s : State) : Host.Outcome State Fault Refusal :=
  .next (branchIf k (wordOf (.bne k a b annul disp)) a b annul disp (· != ·) s)

/-- BLT (R117): Branch if less, signed. -/
def execBlt (k : CoreId) (a b : BitVec 5) (annul : Bool) (disp : BitVec 15) (s : State) : Host.Outcome State Fault Refusal :=
  .next (branchIf k (wordOf (.blt k a b annul disp)) a b annul disp BitVec.slt s)

/-- BGE (R117): Branch if greater or equal, signed. -/
def execBge (k : CoreId) (a b : BitVec 5) (annul : Bool) (disp : BitVec 15) (s : State) : Host.Outcome State Fault Refusal :=
  .next (branchIf k (wordOf (.bge k a b annul disp)) a b annul disp (fun x y => !x.slt y) s)

/-- BLTU (R117): Branch if less, unsigned. -/
def execBltu (k : CoreId) (a b : BitVec 5) (annul : Bool) (disp : BitVec 15) (s : State) : Host.Outcome State Fault Refusal :=
  .next (branchIf k (wordOf (.bltu k a b annul disp)) a b annul disp BitVec.ult s)

/-- BGEU (R117): Branch if greater or equal, unsigned. -/
def execBgeu (k : CoreId) (a b : BitVec 5) (annul : Bool) (disp : BitVec 15) (s : State) : Host.Outcome State Fault Refusal :=
  .next (branchIf k (wordOf (.bgeu k a b annul disp)) a b annul disp (fun x y => !x.ult y) s)

/-- J (R118): PC-relative jump. -/
def execJ (k : CoreId) (annul : Bool) (disp : BitVec 25) (s : State) : Host.Outcome State Fault Refusal :=
  .next (jumpRel k (wordOf (.j k annul disp)) annul false disp s)

/-- JAL (R118): PC-relative jump that writes the link to g31. -/
def execJal (k : CoreId) (annul : Bool) (disp : BitVec 25) (s : State) : Host.Outcome State Fault Refusal :=
  .next (jumpRel k (wordOf (.jal k annul disp)) annul true disp s)

/-- JALR (R118, R119): a register-indirect jump. The target is read before the link is written; a target with bits
[1:0] set raises ALIGN and neither jumps nor writes. -/
def execJalr (k : CoreId) (d a : BitVec 5) (annul : Bool) (s : State) : Host.Outcome State Fault Refusal :=
  .next (runInstr s k (wordOf (.jalr k d a annul)) (fun s =>
    match decodeTrap s k false true false false with
    | some t => .trap s t 0 0
    | none =>
      let x := greg s k a
      if bitsOf x 1 0 ≠ 0 then .trap s tcAlign 0 x.toNat
      else
        let l := linkOf s k
        .done ((jumpTo s k (x.setWidth 40) annul).onCore k (fun c => c.setG d.toNat l))))

end Sys2Proof.Machine
end

