-- ==== Sys2Proof/Machine/Dispatch.lean ====
section
/-! DEFINITION. One arm per command: a direct call of its meaning, or a refusal by name. -/

namespace Sys2Proof.Machine

/-- The effect of a command on everything but the queue of waiting commands. -/
def exec (i : Instr) (s : State) : Host.Outcome State Fault Refusal :=
  match i with
  | .vcoreLoss => Sys2Proof.Machine.execVcoreLoss s
  | .resetNAssert => Sys2Proof.Machine.execResetNAssert s
  | .resetRelease hmode mid => Sys2Proof.Machine.execResetRelease hmode mid s
  | .zeroingDone a => Sys2Proof.Machine.execZeroingDone a s
  | .calLoadDone => Sys2Proof.Machine.execCalLoadDone s
  | .flashLogScanDone => Sys2Proof.Machine.execFlashLogScanDone s
  | .bootRomEntry k xsp => Sys2Proof.Machine.execBootRomEntry k xsp s
  | .rngReady => Sys2Proof.Machine.execRngReady s
  | .rngTestFail => Sys2Proof.Machine.execRngTestFail s
  | .rngRead => Sys2Proof.Machine.execRngRead s
  | .scStart v => Sys2Proof.Machine.execScStart v s
  | .registerWrite agent a wide v => Sys2Proof.Machine.execRegisterWrite agent a wide v s
  | .dmaStart g v => Sys2Proof.Machine.execDmaStart g v s
  | .dmaStop g => Sys2Proof.Machine.execDmaStop g s
  | .dmaUnit => Sys2Proof.Machine.execDmaUnit s
  | .waypoint p vhold => Sys2Proof.Machine.execWaypoint p vhold s
  | .scKeepCopyDone => Sys2Proof.Machine.execScKeepCopyDone s
  | .snapshotFill p => Sys2Proof.Machine.execSnapshotFill p s
  | .guardTest p => Sys2Proof.Machine.execGuardTest p s
  | .provision p => Sys2Proof.Machine.execProvision p s
  | .ready p => Sys2Proof.Machine.execReady p s
  | .start p => Sys2Proof.Machine.execStart p s
  | .stop p => Sys2Proof.Machine.execStop p s
  | .stopNow p => Sys2Proof.Machine.execStopNow p s
  | .partitionStop => Sys2Proof.Machine.execPartitionStop s
  | .partitionStart => Sys2Proof.Machine.execPartitionStart s
  | .goRun => Sys2Proof.Machine.execGoRun s
  | .goHold => Sys2Proof.Machine.execGoHold s
  | .goService => Sys2Proof.Machine.execGoService s
  | .wptConfigWrite p r v => Sys2Proof.Machine.execWptConfigWrite p r v s
  | .partMapWrite v => Sys2Proof.Machine.execPartMapWrite v s
  | .mapDataWrite v => Sys2Proof.Machine.execMapDataWrite v s
  | .mapDataRead => Sys2Proof.Machine.execMapDataRead s
  | .stageStart t => Sys2Proof.Machine.execStageStart t s
  | .stageCopyDone => Sys2Proof.Machine.execStageCopyDone s
  | .changeoverRequest p v => Sys2Proof.Machine.execChangeoverRequest p v s
  | .changeover => Sys2Proof.Machine.execChangeover s
  | .changeoverSwitch p => Sys2Proof.Machine.execChangeoverSwitch p s
  | .changeoverDone p => Sys2Proof.Machine.execChangeoverDone p s
  | .trapEntry k w => Sys2Proof.Machine.execTrapEntry k w s
  | .interruptEntry c => Sys2Proof.Machine.execInterruptEntry c s
  | .haltEntry k => Sys2Proof.Machine.execHaltEntry k s
  | .storeDrain k => Sys2Proof.Machine.execStoreDrain k s
  | .eccRewrite arr word => Sys2Proof.Machine.execEccRewrite arr word s
  | .add k d a b => Sys2Proof.Machine.execAdd k d a b s
  | .sub k d a b => Sys2Proof.Machine.execSub k d a b s
  | .and k d a b => Sys2Proof.Machine.execAnd k d a b s
  | .or k d a b => Sys2Proof.Machine.execOr k d a b s
  | .xor k d a b => Sys2Proof.Machine.execXor k d a b s
  | .andn k d a b => Sys2Proof.Machine.execAndn k d a b s
  | .sll k d a b => Sys2Proof.Machine.execSll k d a b s
  | .srl k d a b => Sys2Proof.Machine.execSrl k d a b s
  | .sra k d a b => Sys2Proof.Machine.execSra k d a b s
  | .slt k d a b => Sys2Proof.Machine.execSlt k d a b s
  | .sltu k d a b => Sys2Proof.Machine.execSltu k d a b s
  | .seq k d a b => Sys2Proof.Machine.execSeq k d a b s
  | .addw k d a b => Sys2Proof.Machine.execAddw k d a b s
  | .subw k d a b => Sys2Proof.Machine.execSubw k d a b s
  | .sllw k d a b => Sys2Proof.Machine.execSllw k d a b s
  | .srlw k d a b => Sys2Proof.Machine.execSrlw k d a b s
  | .sraw k d a b => Sys2Proof.Machine.execSraw k d a b s
  | .sextb k d a => Sys2Proof.Machine.execSextb k d a s
  | .sexth k d a => Sys2Proof.Machine.execSexth k d a s
  | .sextw k d a => Sys2Proof.Machine.execSextw k d a s
  | .zextw k d a => Sys2Proof.Machine.execZextw k d a s
  | .min k d a b => Sys2Proof.Machine.execMin k d a b s
  | .max k d a b => Sys2Proof.Machine.execMax k d a b s
  | .addi k d a imm => Sys2Proof.Machine.execAddi k d a imm s
  | .andi k d a imm => Sys2Proof.Machine.execAndi k d a imm s
  | .ori k d a imm => Sys2Proof.Machine.execOri k d a imm s
  | .xori k d a imm => Sys2Proof.Machine.execXori k d a imm s
  | .slti k d a imm => Sys2Proof.Machine.execSlti k d a imm s
  | .sltiu k d a imm => Sys2Proof.Machine.execSltiu k d a imm s
  | .slli k d a imm => Sys2Proof.Machine.execSlli k d a imm s
  | .srli k d a imm => Sys2Proof.Machine.execSrli k d a imm s
  | .srai k d a imm => Sys2Proof.Machine.execSrai k d a imm s
  | .lui k d imm => Sys2Proof.Machine.execLui k d imm s
  | .mul k d a b => Sys2Proof.Machine.execMul k d a b s
  | .mulh k d a b => Sys2Proof.Machine.execMulh k d a b s
  | .mulhu k d a b => Sys2Proof.Machine.execMulhu k d a b s
  | .mulw k d a b => Sys2Proof.Machine.execMulw k d a b s
  | .div k d a b => Sys2Proof.Machine.execDiv k d a b s
  | .divu k d a b => Sys2Proof.Machine.execDivu k d a b s
  | .rem k d a b => Sys2Proof.Machine.execRem k d a b s
  | .remu k d a b => Sys2Proof.Machine.execRemu k d a b s
  | .divw k d a b => Sys2Proof.Machine.execDivw k d a b s
  | .divuw k d a b => Sys2Proof.Machine.execDivuw k d a b s
  | .remw k d a b => Sys2Proof.Machine.execRemw k d a b s
  | .remuw k d a b => Sys2Proof.Machine.execRemuw k d a b s
  | .ldb k d a imm => Sys2Proof.Machine.execLdb k d a imm s
  | .ldbu k d a imm => Sys2Proof.Machine.execLdbu k d a imm s
  | .ldh k d a imm => Sys2Proof.Machine.execLdh k d a imm s
  | .ldhu k d a imm => Sys2Proof.Machine.execLdhu k d a imm s
  | .ldw k d a imm => Sys2Proof.Machine.execLdw k d a imm s
  | .ldwu k d a imm => Sys2Proof.Machine.execLdwu k d a imm s
  | .ldd k d a imm => Sys2Proof.Machine.execLdd k d a imm s
  | .stb k d a imm => Sys2Proof.Machine.execStb k d a imm s
  | .sth k d a imm => Sys2Proof.Machine.execSth k d a imm s
  | .stw k d a imm => Sys2Proof.Machine.execStw k d a imm s
  | .std k d a imm => Sys2Proof.Machine.execStd k d a imm s
  | .flds k d a imm => Sys2Proof.Machine.execFlds k d a imm s
  | .fldd k d a imm => Sys2Proof.Machine.execFldd k d a imm s
  | .fsts k d a imm => Sys2Proof.Machine.execFsts k d a imm s
  | .fstd k d a imm => Sys2Proof.Machine.execFstd k d a imm s
  | .beq k a b annul disp => Sys2Proof.Machine.execBeq k a b annul disp s
  | .bne k a b annul disp => Sys2Proof.Machine.execBne k a b annul disp s
  | .blt k a b annul disp => Sys2Proof.Machine.execBlt k a b annul disp s
  | .bge k a b annul disp => Sys2Proof.Machine.execBge k a b annul disp s
  | .bltu k a b annul disp => Sys2Proof.Machine.execBltu k a b annul disp s
  | .bgeu k a b annul disp => Sys2Proof.Machine.execBgeu k a b annul disp s
  | .j k annul disp => Sys2Proof.Machine.execJ k annul disp s
  | .jal k annul disp => Sys2Proof.Machine.execJal k annul disp s
  | .jalr k d a annul => Sys2Proof.Machine.execJalr k d a annul s
  | .fadd k p rm d a b => Sys2Proof.Machine.execFadd k p rm d a b s
  | .fsub k p rm d a b => Sys2Proof.Machine.execFsub k p rm d a b s
  | .fmul k p rm d a b => Sys2Proof.Machine.execFmul k p rm d a b s
  | .fdiv k p rm d a b => Sys2Proof.Machine.execFdiv k p rm d a b s
  | .fsqrt k p rm d a => Sys2Proof.Machine.execFsqrt k p rm d a s
  | .fmin k p d a b => Sys2Proof.Machine.execFmin k p d a b s
  | .fmax k p d a b => Sys2Proof.Machine.execFmax k p d a b s
  | .fsgnj k p d a b => Sys2Proof.Machine.execFsgnj k p d a b s
  | .fsgnjn k p d a b => Sys2Proof.Machine.execFsgnjn k p d a b s
  | .fsgnjx k p d a b => Sys2Proof.Machine.execFsgnjx k p d a b s
  | .feq k p d a b => Sys2Proof.Machine.execFeq k p d a b s
  | .flt k p d a b => Sys2Proof.Machine.execFlt k p d a b s
  | .fle k p d a b => Sys2Proof.Machine.execFle k p d a b s
  | .fclass k p d a => Sys2Proof.Machine.execFclass k p d a s
  | .fcvtL k p rm d a => Sys2Proof.Machine.execFcvtL k p rm d a s
  | .fcvtLu k p rm d a => Sys2Proof.Machine.execFcvtLu k p rm d a s
  | .fcvtW k p rm d a => Sys2Proof.Machine.execFcvtW k p rm d a s
  | .fcvtWu k p rm d a => Sys2Proof.Machine.execFcvtWu k p rm d a s
  | .fcvtFL k p rm d a => Sys2Proof.Machine.execFcvtFL k p rm d a s
  | .fcvtFLu k p rm d a => Sys2Proof.Machine.execFcvtFLu k p rm d a s
  | .fcvtFW k p rm d a => Sys2Proof.Machine.execFcvtFW k p rm d a s
  | .fcvtFWu k p rm d a => Sys2Proof.Machine.execFcvtFWu k p rm d a s
  | .fcvtP k p rm d a => Sys2Proof.Machine.execFcvtP k p rm d a s
  | .fmvGF k p d a => Sys2Proof.Machine.execFmvGF k p d a s
  | .fmvFG k p d a => Sys2Proof.Machine.execFmvFG k p d a s
  | .fmadd k p rm d a b c => Sys2Proof.Machine.execFmadd k p rm d a b c s
  | .fmsub k p rm d a b c => Sys2Proof.Machine.execFmsub k p rm d a b c s
  | .fnmadd k p rm d a b c => Sys2Proof.Machine.execFnmadd k p rm d a b c s
  | .fnmsub k p rm d a b c => Sys2Proof.Machine.execFnmsub k p rm d a b c s
  | .lsend k port a => Sys2Proof.Machine.execLsend k port a s
  | .lsendf k port a => Sys2Proof.Machine.execLsendf k port a s
  | .lrecv k d port => Sys2Proof.Machine.execLrecv k d port s
  | .lrecvf k d port => Sys2Proof.Machine.execLrecvf k d port s
  | .lprobe k d port out => Sys2Proof.Machine.execLprobe k d port out s
  | .waypt k => Sys2Proof.Machine.execWaypt k s
  | .sync k => Sys2Proof.Machine.execSync k s
  | .brkpt k code => Sys2Proof.Machine.execBrkpt k code s
  | .trap k code => Sys2Proof.Machine.execTrap k code s
  | .rfe k => Sys2Proof.Machine.execRfe k s
  | .mfsr k d sr => Sys2Proof.Machine.execMfsr k d sr s
  | .mtsr k a sr => Sys2Proof.Machine.execMtsr k a sr s
  | .seal k => Sys2Proof.Machine.execSeal k s
  | .wfi k => Sys2Proof.Machine.execWfi k s
  | .cacheInvalIline k a => Sys2Proof.Machine.execCacheInvalIline k a s
  | .cacheWbDline k a => Sys2Proof.Machine.execCacheWbDline k a s
  | .cacheInvalDline k a => Sys2Proof.Machine.execCacheInvalDline k a s
  | .cacheWbInvalDline k a => Sys2Proof.Machine.execCacheWbInvalDline k a s
  | .cacheInvalIcache k a => Sys2Proof.Machine.execCacheInvalIcache k a s
  | .cacheWbInvalDcache k a => Sys2Proof.Machine.execCacheWbInvalDcache k a s
  | .laneEnable l v => Sys2Proof.Machine.execLaneEnable l v s
  | .laneDisable l v => Sys2Proof.Machine.execLaneDisable l v s
  | .laneDisableDone l => Sys2Proof.Machine.execLaneDisableDone l s
  | .dataFlitLaunch k => Sys2Proof.Machine.execDataFlitLaunch k s
  | .tollLaunch k => Sys2Proof.Machine.execTollLaunch k s
  | .flitHop j out toll => Sys2Proof.Machine.execFlitHop j out toll s
  | .dataFlitLand k => Sys2Proof.Machine.execDataFlitLand k s
  | .tollLand k => Sys2Proof.Machine.execTollLand k s
  | .laneAuditStart p => Sys2Proof.Machine.execLaneAuditStart p s
  | .auditTolls => Sys2Proof.Machine.execAuditTolls s
  | .auditStuck => Sys2Proof.Machine.execAuditStuck s
  | .auditDone => Sys2Proof.Machine.execAuditDone s
  | .laneClearStart p => Sys2Proof.Machine.execLaneClearStart p s
  | .laneClearDone => Sys2Proof.Machine.execLaneClearDone s
  | .form => Sys2Proof.Machine.execForm s
  | .formLinkTimeout => Sys2Proof.Machine.execFormLinkTimeout s
  | .formationComplete ofs ph0 ph1 ph2 ph3 => Sys2Proof.Machine.execFormationComplete ofs ph0 ph1 ph2 ph3 s
  | .cvyCtlShoulder => Sys2Proof.Machine.execCvyCtlShoulder s
  | .convoyShoulder => Sys2Proof.Machine.execConvoyShoulder s
  | .join => Sys2Proof.Machine.execJoin s
  | .abort => Sys2Proof.Machine.execAbort s
  | .retrain j => Sys2Proof.Machine.execRetrain j s
  | .sendWake j => Sys2Proof.Machine.execSendWake j s
  | .snap j h ok ws => Sys2Proof.Machine.execSnap j h ok ws s
  | .out j h ok ws => Sys2Proof.Machine.execOut j h ok ws s
  | .verdict j h ok fault => Sys2Proof.Machine.execVerdict j h ok fault s
  | .receipt j h ok w => Sys2Proof.Machine.execReceipt j h ok w s
  | .shoulder j h ok cause => Sys2Proof.Machine.execShoulder j h ok cause s
  | .time j h ok t1 t2 t3 t4 ofs ph0 ph1 ph2 ph3 => Sys2Proof.Machine.execTime j h ok t1 t2 t3 t4 ofs ph0 ph1 ph2 ph3 s
  | .merge j h ok pl ws => Sys2Proof.Machine.execMerge j h ok pl ws s
  | .image j h ok => Sys2Proof.Machine.execImage j h ok s
  | .nak j h ok seq => Sys2Proof.Machine.execNak j h ok seq s
  | .train j member port digest => Sys2Proof.Machine.execTrain j member port digest s
  | .jointStartFrame p named => Sys2Proof.Machine.execJointStartFrame p named s
  | .frameResendTimeout j => Sys2Proof.Machine.execFrameResendTimeout j s
  | .pairLockLoss j pair => Sys2Proof.Machine.execPairLockLoss j pair s
  | .signalReturn j => Sys2Proof.Machine.execSignalReturn j s
  | .linkActivityWake j => Sys2Proof.Machine.execLinkActivityWake j s
  | .timeExchange => Sys2Proof.Machine.execTimeExchange s
  | .inputClose p => Sys2Proof.Machine.execInputClose p s
  | .inputDecision p => Sys2Proof.Machine.execInputDecision p s
  | .convoyScanStart p => Sys2Proof.Machine.execConvoyScanStart p s
  | .outputClose p => Sys2Proof.Machine.execOutputClose p s
  | .outputDecision p => Sys2Proof.Machine.execOutputDecision p s
  | .convoyMerge => Sys2Proof.Machine.execConvoyMerge s
  | .mergeStart v => Sys2Proof.Machine.execMergeStart v s
  | .mergeAbort => Sys2Proof.Machine.execMergeAbort s
  | .mergeArrival p sent => Sys2Proof.Machine.execMergeArrival p sent s
  | .amapDataWrite v => Sys2Proof.Machine.execAmapDataWrite v s
  | .amapDataRead => Sys2Proof.Machine.execAmapDataRead s
  | .conversionStart agent => Sys2Proof.Machine.execConversionStart agent s
  | .conversionEnd agent raw rawSp => Sys2Proof.Machine.execConversionEnd agent raw rawSp s
  | .resultVisible agent => Sys2Proof.Machine.execResultVisible agent s
  | .triggerTick agent => Sys2Proof.Machine.execTriggerTick agent s
  | .fire agent => Sys2Proof.Machine.execFire agent s
  | .sliceConfigWrite agent seq v => Sys2Proof.Machine.execSliceConfigWrite agent seq v s
  | .refWrite en sel => Sys2Proof.Machine.execRefWrite en sel s
  | .refSettled => Sys2Proof.Machine.execRefSettled s
  | .ringEntryWrite agent => Sys2Proof.Machine.execRingEntryWrite agent s
  | .rrptrWrite agent v => Sys2Proof.Machine.execRrptrWrite agent v s
  | .ringEnable agent size thr => Sys2Proof.Machine.execRingEnable agent size thr s
  | .overlapInEnd g => Sys2Proof.Machine.execOverlapInEnd g s
  | .calibrateEnd g m => Sys2Proof.Machine.execCalibrateEnd g m s
  | .overlapOutEnd g => Sys2Proof.Machine.execOverlapOutEnd g s
  | .spareSelfEnd g m => Sys2Proof.Machine.execSpareSelfEnd g m s
  | .restoreFactory => Sys2Proof.Machine.execRestoreFactory s
  | .calRestoreFactory => Sys2Proof.Machine.execCalRestoreFactory s
  | .restoreFactoryDone => Sys2Proof.Machine.execRestoreFactoryDone s
  | .commitUser => Sys2Proof.Machine.execCommitUser s
  | .calCommitUser => Sys2Proof.Machine.execCalCommitUser s
  | .commitUserDone ok => Sys2Proof.Machine.execCommitUserDone ok s
  | .clearFailed mask => Sys2Proof.Machine.execClearFailed mask s
  | .coefDataRead => Sys2Proof.Machine.execCoefDataRead s
  | .engineEnable e sync start => Sys2Proof.Machine.execEngineEnable e sync start s
  | .engineDisable e => Sys2Proof.Machine.execEngineDisable e s
  | .iosGo k v => Sys2Proof.Machine.execIosGo k v s
  | .iosNone e => Sys2Proof.Machine.execIosNone e s
  | .iosSend e => Sys2Proof.Machine.execIosSend e s
  | .iosSample e => Sys2Proof.Machine.execIosSample e s
  | .iosXfer e => Sys2Proof.Machine.execIosXfer e s
  | .iosTake e => Sys2Proof.Machine.execIosTake e s
  | .iosGive e => Sys2Proof.Machine.execIosGive e s
  | .loadc e => Sys2Proof.Machine.execLoadc e s
  | .reloadc e => Sys2Proof.Machine.execReloadc e s
  | .accInc e => Sys2Proof.Machine.execAccInc e s
  | .accDec e => Sys2Proof.Machine.execAccDec e s
  | .accGive e => Sys2Proof.Machine.execAccGive e s
  | .accClr e => Sys2Proof.Machine.execAccClr e s
  | .flagSet e => Sys2Proof.Machine.execFlagSet e s
  | .flagClr e => Sys2Proof.Machine.execFlagClr e s
  | .raise e => Sys2Proof.Machine.execRaise e s
  | .drive e => Sys2Proof.Machine.execDrive e s
  | .engineHaltReserved e => Sys2Proof.Machine.execEngineHaltReserved e s
  | .txfPush agent e w => Sys2Proof.Machine.execTxfPush agent e w s
  | .rxfPop agent e => Sys2Proof.Machine.execRxfPop agent e s
  | .txClr e => Sys2Proof.Machine.execTxClr e s
  | .rxClr e => Sys2Proof.Machine.execRxClr e s
  | .iosFlagset k v => Sys2Proof.Machine.execIosFlagset k v s
  | .iosFlagclr k v => Sys2Proof.Machine.execIosFlagclr k v s
  | .pinOutWrite agent b hi v => Sys2Proof.Machine.execPinOutWrite agent b hi v s
  | .pinDirWrite agent b hi v => Sys2Proof.Machine.execPinDirWrite agent b hi v s
  | .pinCfgWrite agent n v => Sys2Proof.Machine.execPinCfgWrite agent n v s
  | .pinEvent n outside => Sys2Proof.Machine.execPinEvent n outside s
  | .bankSupplyLost b => Sys2Proof.Machine.execBankSupplyLost b s
  | .pinLock k b v => Sys2Proof.Machine.execPinLock k b v s
  | .icuClaim agent k => Sys2Proof.Machine.execIcuClaim agent k s
  | .icuComplete agent k id => Sys2Proof.Machine.execIcuComplete agent k id s
  | .icuThrSet k v => Sys2Proof.Machine.execIcuThrSet k v s
  | .icuThrClr k v => Sys2Proof.Machine.execIcuThrClr k v s
  | .icuEnSet k w v => Sys2Proof.Machine.execIcuEnSet k w v s
  | .icuEnClr k w v => Sys2Proof.Machine.execIcuEnClr k w v s
  | .icuPendSet w v => Sys2Proof.Machine.execIcuPendSet w v s
  | .icuPendClr w v => Sys2Proof.Machine.execIcuPendClr w v s
  | .prog key => Sys2Proof.Machine.execProg key s
  | .burst key => Sys2Proof.Machine.execBurst key s
  | .progDone k ok => Sys2Proof.Machine.execProgDone k ok s
  | .erase key layby => Sys2Proof.Machine.execErase key layby s
  | .logMoveDone ok => Sys2Proof.Machine.execLogMoveDone ok s
  | .eraseMarkerDone k => Sys2Proof.Machine.execEraseMarkerDone k s
  | .eraseEnd k ok => Sys2Proof.Machine.execEraseEnd k ok s
  | .eraseMarkerCleared k => Sys2Proof.Machine.execEraseMarkerCleared k s
  | .suspend key bank => Sys2Proof.Machine.execSuspend key bank s
  | .resume key bank => Sys2Proof.Machine.execResume key bank s
  | .autoSuspend k => Sys2Proof.Machine.execAutoSuspend k s
  | .minrunElapsed k => Sys2Proof.Machine.execMinrunElapsed k s
  | .suspendDone k => Sys2Proof.Machine.execSuspendDone k s
  | .autoSuspendEnd k => Sys2Proof.Machine.execAutoSuspendEnd k s
  | .wpChange level => Sys2Proof.Machine.execWpChange level s
  | .xspReadFrame x => Sys2Proof.Machine.execXspReadFrame x s
  | .xspMemoryWrite x => Sys2Proof.Machine.execXspMemoryWrite x s
  | .flashWriteTranslate x => Sys2Proof.Machine.execFlashWriteTranslate x s
  | .pollStatus x status => Sys2Proof.Machine.execPollStatus x status s
  | .busyTimeout x => Sys2Proof.Machine.execBusyTimeout x s
  | .readyStall x => Sys2Proof.Machine.execReadyStall x s
  | .readyTimeout x => Sys2Proof.Machine.execReadyTimeout x s
  | .frameEnd x d => Sys2Proof.Machine.execFrameEnd x d s
  | .manualFrame x start v => Sys2Proof.Machine.execManualFrame x start v s
  | .csEnable x c v => Sys2Proof.Machine.execCsEnable x c v s
  | .csDisableDone x c => Sys2Proof.Machine.execCsDisableDone x c s
  | .parallelRead a both => Sys2Proof.Machine.execParallelRead a both s
  | .parallelWrite a v => Sys2Proof.Machine.execParallelWrite a v s
  | .serialRead cmd a n => Sys2Proof.Machine.execSerialRead cmd a n s
  | .serialWrite a ws => Sys2Proof.Machine.execSerialWrite a ws s
  | .frameAbort => Sys2Proof.Machine.execFrameAbort s
  | .hostWakeAccess => Sys2Proof.Machine.execHostWakeAccess s
  | .nop => Sys2Proof.Machine.execNop s
  | .hstDone r => Sys2Proof.Machine.execHstDone r s
  | .chipReset => Sys2Proof.Machine.execChipReset s
  | .roadblockClear => Sys2Proof.Machine.execRoadblockClear s
  | .imageSelect => Sys2Proof.Machine.execImageSelect s
  | .sleep => Sys2Proof.Machine.execSleep s
  | .laybyDiscard => Sys2Proof.Machine.execLaybyDiscard s
  | .hwAttnClr v => Sys2Proof.Machine.execHwAttnClr v s
  | .mailboxPush v => Sys2Proof.Machine.execMailboxPush v s
  | .mailboxPop => Sys2Proof.Machine.execMailboxPop s
  | .hstMbxInPop => Sys2Proof.Machine.execHstMbxInPop s
  | .hstMbxOutPush v => Sys2Proof.Machine.execHstMbxOutPush v s
  | .eventLogPop => Sys2Proof.Machine.execEventLogPop s
  | .hstLog v => Sys2Proof.Machine.execHstLog v s
  | .windowRead v => Sys2Proof.Machine.execWindowRead v s
  | .windowReadDone => Sys2Proof.Machine.execWindowReadDone s
  | .windowDataRead => Sys2Proof.Machine.execWindowDataRead s
  | .windowWrite v => Sys2Proof.Machine.execWindowWrite v s
  | .wptCountLoRead => Sys2Proof.Machine.execWptCountLoRead s
  | .unlockChallenge host v => Sys2Proof.Machine.execUnlockChallenge host v s
  | .challengeRead host => Sys2Proof.Machine.execChallengeRead host s
  | .unlockResponse host v => Sys2Proof.Machine.execUnlockResponse host v s
  | .unlockCheckDone => Sys2Proof.Machine.execUnlockCheckDone s
  | .clockSourceWrite src => Sys2Proof.Machine.execClockSourceWrite src s
  | .clockSourceSwitch => Sys2Proof.Machine.execClockSourceSwitch s
  | .pllLock => Sys2Proof.Machine.execPllLock s
  | .pllLockLoss => Sys2Proof.Machine.execPllLockLoss s
  | .clockMonitorFault => Sys2Proof.Machine.execClockMonitorFault s
  | .oppChange t => Sys2Proof.Machine.execOppChange t s
  | .vrdyConfirm => Sys2Proof.Machine.execVrdyConfirm s
  | .dividerSwitch => Sys2Proof.Machine.execDividerSwitch s
  | .vrdyTimeout => Sys2Proof.Machine.execVrdyTimeout s
  | .vidWrite v => Sys2Proof.Machine.execVidWrite v s
  | .domainControl v => Sys2Proof.Machine.execDomainControl v s
  | .domainReady d => Sys2Proof.Machine.execDomainReady d s
  | .sleepRequest st => Sys2Proof.Machine.execSleepRequest st s
  | .handshakeAnswer b => Sys2Proof.Machine.execHandshakeAnswer b s
  | .handshakeTimeout b => Sys2Proof.Machine.execHandshakeTimeout b s
  | .wakeSource b line => Sys2Proof.Machine.execWakeSource b line s
  | .wakeRampDone => Sys2Proof.Machine.execWakeRampDone s
  | .nvmWakeDone => Sys2Proof.Machine.execNvmWakeDone s
  | .aonTimerMatch => Sys2Proof.Machine.execAonTimerMatch s
  | .tempMeasure temp vcore vhold vrdy => Sys2Proof.Machine.execTempMeasure temp vcore vhold vrdy s
  | .peakClr => Sys2Proof.Machine.execPeakClr s
  | .sag => Sys2Proof.Machine.execSag s
  | .laybySaveComplete recovered => Sys2Proof.Machine.execLaybySaveComplete recovered s
  | .vholdFloor => Sys2Proof.Machine.execVholdFloor s
  | .prepStart j => Sys2Proof.Machine.execPrepStart j s
  | .prepDone => Sys2Proof.Machine.execPrepDone s
  | .restoreStart sc parts => Sys2Proof.Machine.execRestoreStart sc parts s
  | .restoreDone => Sys2Proof.Machine.execRestoreDone s
  | .discard => Sys2Proof.Machine.execDiscard s
  | .instanceStart agent w clk => Sys2Proof.Machine.execInstanceStart agent w clk s
  | .wdgMilestone agent w id => Sys2Proof.Machine.execWdgMilestone agent w id s
  | .wdgToken agent w v => Sys2Proof.Machine.execWdgToken agent w v s
  | .wdgStep agent => Sys2Proof.Machine.execWdgStep agent s
  | .wdgEarlyWarning agent => Sys2Proof.Machine.execWdgEarlyWarning agent s
  | .wdgExpiry agent => Sys2Proof.Machine.execWdgExpiry agent s
  | .wdgClockStopped agent => Sys2Proof.Machine.execWdgClockStopped agent s
  | .tapReset => Sys2Proof.Machine.execTapReset s
  | .extest out oe => Sys2Proof.Machine.execExtest out oe s
  | .idcode => Sys2Proof.Machine.execIdcode s
  | .samplePreload out oe => Sys2Proof.Machine.execSamplePreload out oe s
  | .highz => Sys2Proof.Machine.execHighz s
  | .bypass => Sys2Proof.Machine.execBypass s
  | .dbgacc op off d => Sys2Proof.Machine.execDbgacc op off d s
  | .debugNop crc => Sys2Proof.Machine.execDebugNop crc s
  | .debugRead crc off => Sys2Proof.Machine.execDebugRead crc off s
  | .debugWrite crc off d => Sys2Proof.Machine.execDebugWrite crc off d s
  | .dbgHalt w v => Sys2Proof.Machine.execDbgHalt w v s
  | .dbgResume w v => Sys2Proof.Machine.execDbgResume w v s
  | .step => Sys2Proof.Machine.execStep s
  | .debugReset => Sys2Proof.Machine.execDebugReset s
  | .drop => Sys2Proof.Machine.execDrop s
  | .dbgFeed w => Sys2Proof.Machine.execDbgFeed w s
  | .regDataRead hi => Sys2Proof.Machine.execRegDataRead hi s
  | .regDataWrite hi d => Sys2Proof.Machine.execRegDataWrite hi d s
  | .memRead v => Sys2Proof.Machine.execMemRead v s
  | .memWrite hi d => Sys2Proof.Machine.execMemWrite hi d s
  | .memAccessDone => Sys2Proof.Machine.execMemAccessDone s
  | .freezeWrite agent v => Sys2Proof.Machine.execFreezeWrite agent v s
  | .sysEccCorrRead => Sys2Proof.Machine.execSysEccCorrRead s
  | .laneFaultCountRead => Sys2Proof.Machine.execLaneFaultCountRead s
  | .laneEccRead => Sys2Proof.Machine.execLaneEccRead s
  | .wptLateCountRead p => Sys2Proof.Machine.execWptLateCountRead p s
  | .wptSkippedRead p => Sys2Proof.Machine.execWptSkippedRead p s
  | .hwWptLateRead => Sys2Proof.Machine.execHwWptLateRead s
  | .cvyShoulderCountRead => Sys2Proof.Machine.execCvyShoulderCountRead s
  | .cvyPortErrRead j => Sys2Proof.Machine.execCvyPortErrRead j s
  | .cvyPortDownsRead j => Sys2Proof.Machine.execCvyPortDownsRead j s
  | .cvyInDisRead p => Sys2Proof.Machine.execCvyInDisRead p s
  | .cvyNomajRead p => Sys2Proof.Machine.execCvyNomajRead p s
  | .adcRdropRead agent => Sys2Proof.Machine.execAdcRdropRead agent s
  | .pinNownCountRead => Sys2Proof.Machine.execPinNownCountRead s
  | .flcCorrRead => Sys2Proof.Machine.execFlcCorrRead s
  | .eventLogLevelRead => Sys2Proof.Machine.execEventLogLevelRead s
  | .bankSupplyReturn b cls => Sys2Proof.Machine.execBankSupplyReturn b cls s
  | .readyLineRise x => Sys2Proof.Machine.execReadyLineRise x s
  | .hostEndsAccess => Sys2Proof.Machine.execHostEndsAccess s
  | .xtalOk => Sys2Proof.Machine.execXtalOk s
  | .rngWordProduced w => Sys2Proof.Machine.execRngWordProduced w s

end Sys2Proof.Machine
end

