-- ==== Sys2Proof/Machine/Tick.lean ====
section
/-! DEFINITION. What passes with the clock when no command waits (R33, R34, R99, R100, R350, R444). -/

namespace Sys2Proof.Machine

/-- Whether the timebase produces pulses (R34, R444): CCLK comes from the PLL; in NAP, the PLL is locked. -/
def timebaseRuns (s : State) : Bool :=
  if s.dev = dsSleep ∧ s.pwr.mode ≠ slDoze then s.flag F.SYS_CLK_STAT_PLL_LOCK else s.pllClock

/-- In reset only the cycle in which it registered passes. Else one tick of the timebase, or one cycle of HFRC while it stands
still; then a fed instruction that waits is tried again (R519), the pads show what has become of them, the ports send what waits
(R243), and the interrupt latches settle (R350). -/
def tick (s : State) : State :=
  if s.boot.inReset.isSome || s.dev == dsOff then { s with boot := { s.boot with newReset := false, wdgDue := [] } }
  else if timebaseRuns s then settle (linksSend (padsSettle (feedRetry (passTicks s 1))))
  else if coresClocked s then settle (padsSettle (feedRetry (passCycles s 1)))
  else s

end Sys2Proof.Machine
end

