-- ==== Sys2Proof/Machine/Step.lean ====
section
/-! DEFINITION. One step: the command at the front of the queue, or a tick of the clock when none waits. -/

namespace Sys2Proof.Machine

/-- The command at the front of the queue takes its effect, with the rest of the queue left; on an empty queue one tick of the
clock passes (DESIGN CHOICE, log 4: the table has no row for it). -/
def step (s : State) : Host.Outcome State Fault Refusal :=
  match s.pending with
  | c :: rest => exec c { s with pending := rest }
  | [] => .next (tick s)

/-- s with the command that a word spells put at the front of its queue. No row of the table gives bits, so a word spells none and
s is unchanged. -/
def State.withFetchWord (s : State) (nbits w : Nat) : State :=
  match Sys2Proof.decodeTableWord nbits w with
  | some c => { s with pending := c :: s.pending }
  | none => s

end Sys2Proof.Machine
end

