-- ==== Sys2Proof/Safety.lean ====
section
/-! DEFINITION. What claims are stated in: the canonical form of the memory and of the register file, an aligned core, and a
run that no command stops. -/

namespace Sys2Proof.Machine

/-- The memory is in its canonical form: addresses strictly rising, no entry equal to what an unlisted byte reads. -/
def Memory.wf (m : List Host.Cell) : Bool := Tab.wf memReset m

/-- The register file is in its canonical form. -/
def Registers.wf (t : Tab Word) : Bool := Tab.wf regReset t

/-- The addresses of a core are word-aligned: the pc and the next pc (R72, R141). -/
def Core.aligned (c : Core) : Bool := c.pc.toNat % 4 == 0 && c.npc.toNat % 4 == 0

/-- Every core's addresses are word-aligned. -/
def Aligned (s : State) : Prop := ∀ k : Nat, (s.core k).aligned = true

/-- A run of n steps from s reaches t: no step faults, no step is refused. -/
def reaches (s t : State) : Nat → Prop
  | 0 => s = t
  | n + 1 => ∃ u, step s = .next u ∧ reaches u t n

/-- A state is safe when the next step answers a state. -/
def Safe (s : State) : Prop := ∃ t, step s = .next t

/-! ## What running an instruction is stated in -/

/-- The performance counters' own system registers: PMC_CTL and PMC0–7 (R143). -/
def pmcNumber (n : Nat) : Bool := n == srPmcCtl || (decide (srPmc 0 ≤ n) && decide (n ≤ srPmc 7))

/-- Core k may run the instruction at its pc: it executes, nothing is fed, no halt request stops it (R87, R514), the fetch
meets no condition of R145 and no comparator halts it. u is the state after the fetch, which the instruction reads. -/
def Fetches (s : State) (k : Nat) (u : State) : Prop :=
  s.dbgp.feed = none ∧ coreRuns s k = true ∧ ((s.core k).haltReq = 0 ∨ outstanding s k = true) ∧
  ∃ v, fetchAt s k = .done v ∧
    (if (v.core k).stepping then (v, false) else compare v k .fetch (v.core k).pc.toNat 4 none) = (u, false)

/-- Core d is core c but for the performance counters and what the end of a debug step sets (R101, R516). -/
structure SameCore (k : Nat) (c d : Core) : Prop where
  run : d.run = c.run
  pc : d.pc = c.pc
  npc : d.npc = c.npc
  slot : d.slot = c.slot
  slotPc : d.slotPc = c.slotPc
  g : d.g = c.g
  f : d.f = c.f
  sb : d.sb = c.sb
  save : d.save = c.save
  caches : d.itag = c.itag ∧ d.iway = c.iway ∧ d.dline = c.dline ∧ d.dway = c.dway
  sreg : ∀ n, pmcNumber n = false → d.sreg k n = c.sreg k n
  debug : c.stepping = false → d.halted = c.halted ∧ d.haltReq = c.haltReq ∧ d.dbg = c.dbg ∧ d.stepping = false

/-- An instruction of core k has committed: the core is c but for its counters, and nothing else of the machine changed. -/
def Retires (u t : State) (k : Nat) (c : Core) : Prop :=
  t = { u with cores := t.cores } ∧ (∀ j, j ≠ k → t.core j = u.core j) ∧ SameCore k c (t.core k)

end Sys2Proof.Machine
end

