-- ==== Sys2Proof/WellFormed.lean ====
section
/-! DEFINITION. Well-formed commands. A command's operands are bounded by their types; what remains are the fields of
instruction words that the spec reserves within an instruction of its own name. -/

namespace Sys2Proof

/-- A port of a lane instruction: 0 to 15 (R128). -/
def portOk (port : BitVec 5) : Bool := decide (port.toNat < 16)

/-- A command is well formed: rounding codes are not reserved (R122), FCVT.P to binary64 has rm 0 (R123), and a lane port is one of
16 (R128). Every other operand of every command is admitted whole. -/
def wellFormed : Instr → Bool
  | .fadd _ _ rm _ _ _ => rmOkB rm
  | .fsub _ _ rm _ _ _ => rmOkB rm
  | .fmul _ _ rm _ _ _ => rmOkB rm
  | .fdiv _ _ rm _ _ _ => rmOkB rm
  | .fsqrt _ _ rm _ _ => rmOkB rm
  | .fcvtL _ _ rm _ _ => rmOkB rm
  | .fcvtLu _ _ rm _ _ => rmOkB rm
  | .fcvtW _ _ rm _ _ => rmOkB rm
  | .fcvtWu _ _ rm _ _ => rmOkB rm
  | .fcvtFL _ _ rm _ _ => rmOkB rm
  | .fcvtFLu _ _ rm _ _ => rmOkB rm
  | .fcvtFW _ _ rm _ _ => rmOkB rm
  | .fcvtFWu _ _ rm _ _ => rmOkB rm
  | .fcvtP _ p rm _ _ => rmOkB rm && (p || rm == 0#3)
  | .fmadd _ _ rm _ _ _ _ => rmOkB rm
  | .fmsub _ _ rm _ _ _ _ => rmOkB rm
  | .fnmadd _ _ rm _ _ _ _ => rmOkB rm
  | .fnmsub _ _ rm _ _ _ _ => rmOkB rm
  | .lsend _ port _ => portOk port
  | .lsendf _ port _ => portOk port
  | .lrecv _ _ port => portOk port
  | .lrecvf _ _ port => portOk port
  | .lprobe _ _ port _ => portOk port
  | _ => true

end Sys2Proof
end

