-- ==== Sys2Proof/Certificates/Slice0/Obligations.lean ====
section
/-! DEFINITION. The statements for the provers. Each is about every state and every operand that meets its hypotheses; where a
clause rests on a choice of the model, its docstring names the log entry. -/

open Sys2Proof Sys2Proof.Machine

namespace Sys2Proof.Machine

/-- The command answers a next state of which P holds. -/
def Gives (c : Instr) (s : State) (P : State → Prop) : Prop := ∃ t, exec c s = .next t ∧ P t

/-- Nothing but the register file changed, and in it only the registers whose addresses satisfy p. -/
def OnlyRegs (s t : State) (p : Nat → Prop) : Prop := t = { s with regs := t.regs } ∧ ∀ a, ¬ p a → t.reg a = s.reg a

/-! ### Results of the integer instructions, from the tables of R109, R110, R112 and R113 -/

/-- A 32-bit result extended from bit 31 (sext32 of R109). -/
def ext32 (x : BitVec 32) : Word := BitVec.ofInt 64 x.toInt

def low32 (x : Word) : BitVec 32 := x.setWidth 32

/-- 1 when a condition holds, else 0. -/
def oneIf (p : Prop) [Decidable p] : Word := if p then 1 else 0

/-- What an INT or immediate instruction writes: its core, gd, and the value of R109 and R110. -/
def intResult (g : BitVec 5 → Word) : Instr → Option (CoreId × BitVec 5 × Word)
  | .add k d a b => some (k, d, g a + g b)
  | .sub k d a b => some (k, d, g a - g b)
  | .and k d a b => some (k, d, g a &&& g b)
  | .or k d a b => some (k, d, g a ||| g b)
  | .xor k d a b => some (k, d, g a ^^^ g b)
  | .andn k d a b => some (k, d, g a &&& ~~~g b)
  | .sll k d a b => some (k, d, g a <<< ((g b).toNat % 64))
  | .srl k d a b => some (k, d, g a >>> ((g b).toNat % 64))
  | .sra k d a b => some (k, d, (g a).sshiftRight ((g b).toNat % 64))
  | .slt k d a b => some (k, d, oneIf ((g a).toInt < (g b).toInt))
  | .sltu k d a b => some (k, d, oneIf ((g a).toNat < (g b).toNat))
  | .seq k d a b => some (k, d, oneIf (g a = g b))
  | .addw k d a b => some (k, d, ext32 (low32 (g a) + low32 (g b)))
  | .subw k d a b => some (k, d, ext32 (low32 (g a) - low32 (g b)))
  | .sllw k d a b => some (k, d, ext32 (low32 (g a) <<< ((g b).toNat % 32)))
  | .srlw k d a b => some (k, d, ext32 (low32 (g a) >>> ((g b).toNat % 32)))
  | .sraw k d a b => some (k, d, ext32 ((low32 (g a)).sshiftRight ((g b).toNat % 32)))
  | .sextb k d a => some (k, d, BitVec.ofInt 64 ((g a).setWidth 8).toInt)
  | .sexth k d a => some (k, d, BitVec.ofInt 64 ((g a).setWidth 16).toInt)
  | .sextw k d a => some (k, d, ext32 (low32 (g a)))
  | .zextw k d a => some (k, d, BitVec.ofNat 64 ((g a).toNat % 2 ^ 32))
  | .min k d a b => some (k, d, if (g a).toInt ≤ (g b).toInt then g a else g b)
  | .max k d a b => some (k, d, if (g a).toInt ≤ (g b).toInt then g b else g a)
  | .addi k d a imm => some (k, d, g a + BitVec.ofInt 64 imm.toInt)
  | .andi k d a imm => some (k, d, g a &&& BitVec.ofNat 64 imm.toNat)
  | .ori k d a imm => some (k, d, g a ||| BitVec.ofNat 64 imm.toNat)
  | .xori k d a imm => some (k, d, g a ^^^ BitVec.ofNat 64 imm.toNat)
  | .slti k d a imm => some (k, d, oneIf ((g a).toInt < imm.toInt))
  | .sltiu k d a imm => some (k, d, oneIf ((g a).toNat < (BitVec.ofInt 64 imm.toInt).toNat))
  | .slli k d a imm => some (k, d, g a <<< imm.toNat)
  | .srli k d a imm => some (k, d, g a >>> imm.toNat)
  | .srai k d a imm => some (k, d, (g a).sshiftRight imm.toNat)
  | .lui k d imm => some (k, d, BitVec.ofInt 64 (imm.toInt * 2 ^ 16))
  | _ => none

/-- What a MULDIV instruction writes (R112, R113): a zero divisor gives every bit 1 and leaves the dividend as remainder, and
the most negative value by −1 gives itself with remainder 0, as the division toward zero cut to the width does. -/
def mulDivResult (g : BitVec 5 → Word) : Instr → Option (CoreId × BitVec 5 × Word)
  | .mul k d a b => some (k, d, BitVec.ofNat 64 ((g a).toNat * (g b).toNat))
  | .mulh k d a b => some (k, d, BitVec.ofInt 64 ((g a).toInt * (g b).toInt / 2 ^ 64))
  | .mulhu k d a b => some (k, d, BitVec.ofNat 64 ((g a).toNat * (g b).toNat / 2 ^ 64))
  | .mulw k d a b => some (k, d, ext32 (low32 (g a) * low32 (g b)))
  | .div k d a b => some (k, d, if g b = 0 then -1 else BitVec.ofInt 64 ((g a).toInt.tdiv (g b).toInt))
  | .divu k d a b => some (k, d, if g b = 0 then -1 else BitVec.ofNat 64 ((g a).toNat / (g b).toNat))
  | .rem k d a b => some (k, d, if g b = 0 then g a else BitVec.ofInt 64 ((g a).toInt.tmod (g b).toInt))
  | .remu k d a b => some (k, d, if g b = 0 then g a else BitVec.ofNat 64 ((g a).toNat % (g b).toNat))
  | .divw k d a b =>
    some (k, d, if low32 (g b) = 0 then -1 else ext32 (BitVec.ofInt 32 ((low32 (g a)).toInt.tdiv (low32 (g b)).toInt)))
  | .divuw k d a b =>
    some (k, d, if low32 (g b) = 0 then -1 else ext32 (BitVec.ofNat 32 ((low32 (g a)).toNat / (low32 (g b)).toNat)))
  | .remw k d a b =>
    some (k, d, if low32 (g b) = 0 then ext32 (low32 (g a)) else
      ext32 (BitVec.ofInt 32 ((low32 (g a)).toInt.tmod (low32 (g b)).toInt)))
  | .remuw k d a b =>
    some (k, d, if low32 (g b) = 0 then ext32 (low32 (g a)) else
      ext32 (BitVec.ofNat 32 ((low32 (g a)).toNat % (low32 (g b)).toNat)))
  | _ => none

/-- General register r of core k. -/
def gr (s : State) (k : CoreId) (r : BitVec 5) : Word := (s.core k).greg r.toNat
def fr (s : State) (k : CoreId) (r : BitVec 5) : Word := (s.core k).freg r.toNat

/-- The core after writing v to g register d and moving on to the next instruction. -/
def wroteG (c : Core) (d : BitVec 5) (v : Word) : Core := (c.setG d.toNat v).step

/-- The core after writing v to f register d, with flags ORed into FPSR, and moving on. -/
def wroteF (c : Core) (k : CoreId) (d : BitVec 5) (v : Word) (fl : BitVec 5) : Core :=
  ((c.setF d.toNat v).setSr k srFpsr (c.sreg k srFpsr ||| fl.setWidth 64)).step

/-- The core after writing v to g register d, with flags ORed into FPSR, and moving on. -/
def wroteGFlags (c : Core) (k : CoreId) (d : BitVec 5) (v : Word) (fl : BitVec 5) : Core :=
  ((c.setG d.toNat v).setSr k srFpsr (c.sreg k srFpsr ||| fl.setWidth 64)).step

/-! ### Results of the floating-point instructions -/

/-- Format, operand and rounding of a floating-point instruction of core k. -/
def opnd (s : State) (k : CoreId) (p : Bool) (r : BitVec 5) : Fp := (Fmt.of p).unpack (fbits s k p r)

/-- The arithmetic instructions of R123 and R124: core, rounding code, fd, and result with flags under direction r. -/
def fpResult (s : State) : Instr → Option (CoreId × BitVec 3 × BitVec 5 × (BitVec 3 → Nat × FpFlags))
  | .fadd k p rm d a b => some (k, rm, d, fun r => (Fmt.of p).add r (opnd s k p a) (opnd s k p b))
  | .fsub k p rm d a b => some (k, rm, d, fun r => (Fmt.of p).add r (opnd s k p a) (opnd s k p b).negate)
  | .fmul k p rm d a b => some (k, rm, d, fun r => (Fmt.of p).mul r (opnd s k p a) (opnd s k p b))
  | .fdiv k p rm d a b => some (k, rm, d, fun r => (Fmt.of p).div r (opnd s k p a) (opnd s k p b))
  | .fsqrt k p rm d a => some (k, rm, d, fun r => (Fmt.of p).sqrt r (opnd s k p a))
  | .fmadd k p rm d a b c => some (k, rm, d, fun r => (Fmt.of p).fma r (opnd s k p a) (opnd s k p b) (opnd s k p c))
  | .fmsub k p rm d a b c => some (k, rm, d, fun r => (Fmt.of p).fma r (opnd s k p a) (opnd s k p b) (opnd s k p c).negate)
  | .fnmadd k p rm d a b c => some (k, rm, d, fun r =>
      let x := (Fmt.of p).fma r (opnd s k p a) (opnd s k p b) (opnd s k p c)
      ((Fmt.of p).negBits x.1, x.2))
  | .fnmsub k p rm d a b c => some (k, rm, d, fun r =>
      let x := (Fmt.of p).fma r (opnd s k p a) (opnd s k p b) (opnd s k p c).negate
      ((Fmt.of p).negBits x.1, x.2))
  | .fcvtP k p rm d a => if p = true ∨ rm = 0 then some (k, rm, d, fun r => (Fmt.of p).convert r (opnd s k (!p) a)) else none
  | .fcvtFL k p rm d a => some (k, rm, d, fun r => (Fmt.of p).ofInt r (gr s k a).toInt)
  | .fcvtFLu k p rm d a => some (k, rm, d, fun r => (Fmt.of p).ofInt r (gr s k a).toNat)
  | .fcvtFW k p rm d a => some (k, rm, d, fun r => (Fmt.of p).ofInt r (low32 (gr s k a)).toInt)
  | .fcvtFWu k p rm d a => some (k, rm, d, fun r => (Fmt.of p).ofInt r (low32 (gr s k a)).toNat)
  | _ => none

/-- The rounding direction of a code: FPMODE.RM for DYN (R122). -/
def direction (s : State) (k : CoreId) (rm : BitVec 3) : BitVec 3 := if rm = 7 then BitVec.ofNat 3 (s.fpmode k) else rm

/-- A conversion to an integer in [lo, hi] with NV outside it, its result extended from bit 31 when it is 32 bits wide (R126). -/
def toIntResult (s : State) : Instr → Option (CoreId × BitVec 3 × BitVec 5 × (BitVec 3 → Word × FpFlags))
  | .fcvtL k p rm d a => some (k, rm, d, fun r =>
      let x := fpToInt r (-(2 ^ 63)) (2 ^ 63 - 1) (opnd s k p a); (BitVec.ofInt 64 x.1, x.2))
  | .fcvtLu k p rm d a => some (k, rm, d, fun r =>
      let x := fpToInt r 0 (2 ^ 64 - 1) (opnd s k p a); (BitVec.ofInt 64 x.1, x.2))
  | .fcvtW k p rm d a => some (k, rm, d, fun r =>
      let x := fpToInt r (-(2 ^ 31)) (2 ^ 31 - 1) (opnd s k p a); (ext32 (BitVec.ofInt 32 x.1), x.2))
  | .fcvtWu k p rm d a => some (k, rm, d, fun r =>
      let x := fpToInt r 0 (2 ^ 32 - 1) (opnd s k p a); (ext32 (BitVec.ofInt 32 x.1), x.2))
  | _ => none

/-- A conditional branch: core, operands, annul bit, displacement and condition (R117). -/
def branchOf (g : BitVec 5 → Word) : Instr → Option (CoreId × Bool × BitVec 15 × Bool)
  | .beq k a b n disp => some (k, n, disp, decide (g a = g b))
  | .bne k a b n disp => some (k, n, disp, decide (g a ≠ g b))
  | .blt k a b n disp => some (k, n, disp, decide ((g a).toInt < (g b).toInt))
  | .bge k a b n disp => some (k, n, disp, decide ((g b).toInt ≤ (g a).toInt))
  | .bltu k a b n disp => some (k, n, disp, decide ((g a).toNat < (g b).toNat))
  | .bgeu k a b n disp => some (k, n, disp, decide ((g b).toNat ≤ (g a).toNat))
  | _ => none

/-- The core after a transfer to `next`: the slot runs first and is marked as one, or is annulled (R77). -/
def wentTo (c : Core) (next : Addr) (slotRuns : Bool) : Core :=
  if slotRuns then { c with pc := c.pc + 4, npc := next, slot := true } else { c with pc := next, npc := next + 4, slot := false }

/-- The byte distance of a displacement counted in words. -/
def words {n : Nat} (disp : BitVec n) : Addr := BitVec.ofInt 40 (4 * disp.toInt)

/-- A load: core, base register, immediate, width in bytes, and what it does to the core with the bytes it gets (R114, R116). -/
def loadForm : Instr → Option (CoreId × BitVec 5 × BitVec 16 × Nat × (Nat → Core → Core))
  | .ldb k d a imm => some (k, a, imm, 1, fun v c => wroteG c d (BitVec.ofInt 64 (BitVec.ofNat 8 v).toInt))
  | .ldbu k d a imm => some (k, a, imm, 1, fun v c => wroteG c d (BitVec.ofNat 64 v))
  | .ldh k d a imm => some (k, a, imm, 2, fun v c => wroteG c d (BitVec.ofInt 64 (BitVec.ofNat 16 v).toInt))
  | .ldhu k d a imm => some (k, a, imm, 2, fun v c => wroteG c d (BitVec.ofNat 64 v))
  | .ldw k d a imm => some (k, a, imm, 4, fun v c => wroteG c d (BitVec.ofInt 64 (BitVec.ofNat 32 v).toInt))
  | .ldwu k d a imm => some (k, a, imm, 4, fun v c => wroteG c d (BitVec.ofNat 64 v))
  | .ldd k d a imm => some (k, a, imm, 8, fun v c => wroteG c d (BitVec.ofNat 64 v))
  | .flds k d a imm => some (k, a, imm, 4, fun v c => (c.setF d.toNat (BitVec.ofNat 64 v)).step)
  | .fldd k d a imm => some (k, a, imm, 8, fun v c => (c.setF d.toNat (BitVec.ofNat 64 v)).step)
  | _ => none

/-- A store: core, base register, immediate, width and the data register's word (R114, R116). -/
def storeForm (g f : BitVec 5 → Word) : Instr → Option (CoreId × BitVec 5 × BitVec 16 × Nat × Word)
  | .stb k d a imm => some (k, a, imm, 1, g d)
  | .sth k d a imm => some (k, a, imm, 2, g d)
  | .stw k d a imm => some (k, a, imm, 4, g d)
  | .std k d a imm => some (k, a, imm, 8, g d)
  | .fsts k d a imm => some (k, a, imm, 4, f d)
  | .fstd k d a imm => some (k, a, imm, 8, f d)
  | _ => none

/-- The effective address ga + sign-extended immediate, modulo 2^64 (R114). -/
def eaOf (g : BitVec 5 → Word) (a : BitVec 5) (imm : BitVec 16) : Nat := (g a + BitVec.ofInt 64 imm.toInt).toNat

/-- A tile address of its own SRAM: the active code bank or the data area (R152). -/
abbrev ownData (a : Nat) : Prop := a < 0x4000 ∨ (0x8000 ≤ a ∧ a < 0x10000)

/-- Core k's core after a store of n bytes of x at ea has entered the store buffer, youngest last (R89). -/
def stored (u : State) (k : CoreId) (ea n : Nat) (x : Word) (cached : Bool) : Core :=
  { (u.core k).step with sb := (u.core k).sb ++ [⟨ea, n, BitVec.ofNat 64 (x.toNat % 2 ^ (8 * n)), u.isPriv k, cached⟩] }

/-- Core k is a service core with a privileged context that is not sealed. -/
abbrev privileged (u : State) (k : CoreId) : Prop := 256 ≤ k.val ∧ u.isSealed k = false ∧ u.isPriv k = true

/-- The debug level is CLOSED, so that no comparator acts. -/
abbrev closed (s : State) : Prop := s.get F.DBG_LEVEL_LEVEL = 0

/-- The fields of the configuration register that operand r of WPT_CONFIG_WRITE names. -/
def wptFields (p : Nat) (r : Fin 5) : List Loc :=
  match r.val with
  | 0 => [F.WPT_PERIOD_PERIOD p]
  | 1 => [F.WPT_PHASE_PHASE p]
  | 2 => [F.WPT_GUARD_GUARD p]
  | 3 => [F.WPT_POLICY_K p, F.WPT_POLICY_FAULT_ON_LATE p, F.WPT_POLICY_FAULT_PINS p]
  | _ => [F.WPT_SNAP_LEN_LEN p]

/-- Engine e steps on a slot whose action is `code`, and no lower-numbered engine of its group has still to test the same flag. -/
abbrev Steps (s : State) (e code : Nat) : Prop :=
  engSteps s e = true ∧ engReserved (engWord s e) = false ∧ wAct (engWord s e) = code ∧ flagRivals s e = []

/-- The condition of the slot, judged after the step has sampled its watch slot (R309, R310). -/
def slotCond (s : State) (e : Nat) : Bool := engCond (engBegin s e) e (engWord s e)

/-- CNT as the action of code `code` leaves it. -/
def cntAfter (s : State) (e code : Nat) : Nat :=
  if code = 6 then wArg (engWord s e) else if code = 7 then s.get (F.IOS_RELOAD_VALUE e) else s.get (F.IOS_CNT_VALUE e)

/-- What every step leaves (R304, R312): the engine RUNNING, the tick recorded, the control pins of CMASK at their levels of CVAL, and
every other engine, the memory, the cores and TIME as they were. -/
def Stepped (s t : State) (e : Nat) : Prop :=
  let m := BitVec.ofNat 4 (wCmask (engWord s e))
  engState t e = esRunning ∧ (t.engine e).lastStep = some s.time.toNat ∧
  (t.engine e).ctrl = ((s.engine e).ctrl &&& ~~~m) ||| (BitVec.ofNat 4 (wCval (engWord s e)) &&& m) ∧
  (∀ d, d ≠ e → t.engine d = s.engine d) ∧ t.mem = s.mem ∧ t.cores = s.cores ∧ t.time = s.time

/-- The PC and CNT of a step that acts, under its FLOW (R308). -/
def Flows (s t : State) (e code : Nat) : Prop :=
  let w := engWord s e
  let n := cntAfter s e code
  let nxt := (s.get (F.IOS_PC_PC e) + 1) % 32
  t.get (F.IOS_CNT_VALUE e) = (if wFlow w = 4 then (if n = 0 then s.get (F.IOS_RELOAD_VALUE e) else n - 1) else n) ∧
  t.get (F.IOS_PC_PC e) = (match wFlow w with
    | 1 => if slotCond s e then wTarget w else nxt
    | 2 => if slotCond s e then nxt else wTarget w
    | 4 => if n = 0 then nxt else wTarget w
    | _ => nxt)

/-- SEND's word (R311): the next w of q bits of the transmit word; a position outside the word reads as 0. -/
def sentBits (s : State) (e : Nat) : Nat :=
  let w := (outSlots s e).length
  let q := s.get (F.IOS_BITS_SND e)
  let len := s.get (F.IOS_OPT_SNDLEN e)
  let v := s.get (F.IOS_SND_VALUE e) % 2 ^ len
  (if s.flag (F.IOS_OPT_SND_LSB e) then v / 2 ^ (len - q) else if w ≤ q then v / 2 ^ (q - w) else v * 2 ^ (w - q)) % 2 ^ w

/-- What SEND leaves: its word at the output group and its count down by the group's width, or neither changed by an empty group. -/
def Sent (s t : State) (e : Nat) : Prop :=
  let w := (outSlots s e).length
  t.get (F.IOS_BITS_SND e) = s.get (F.IOS_BITS_SND e) - w ∧ t.get (F.IOS_SND_VALUE e) = s.get (F.IOS_SND_VALUE e) ∧
  ((t.engine e).outv = if w = 0 then (s.engine e).outv else BitVec.ofNat 8 (sentBits s e))

/-- What SAMPLE leaves: the group's levels in CAP, its count up by the group's width to 32 at most, or neither changed by an empty group. -/
def Sampled (s t : State) (e : Nat) : Prop :=
  let v := (inSlots s e).length
  let c := s.get (F.IOS_BITS_CAP e)
  let cap := s.get (F.IOS_CAP_VALUE e)
  let a := engSamples s e
  t.get (F.IOS_BITS_CAP e) = (if v = 0 then c else min (c + v) 32) ∧
  t.get (F.IOS_CAP_VALUE e) =
    (if v = 0 then cap else (if s.flag (F.IOS_OPT_CAP_LSB e) then cap ||| (a * 2 ^ c) else (cap * 2 ^ v) ||| a) % 2 ^ 32)

/-- The engine's FIFOs and its output are as they were. -/
def SameLines (s t : State) (e : Nat) : Prop :=
  (t.engine e).tx = (s.engine e).tx ∧ (t.engine e).rx = (s.engine e).rx ∧ (t.engine e).drive = (s.engine e).drive ∧
  (t.engine e).outv = (s.engine e).outv

/-- A word pushed to the receive FIFO (R313, R317): it is last, or a full FIFO keeps its words and sets OVERRUN. -/
def Pushed (s t : State) (e : Nat) (w : BitVec 32) : Prop :=
  let rx := (s.engine e).rx
  if rx.length < 4 then (t.engine e).rx = rx ++ [w] else (t.engine e).rx = rx ∧ t.flag (F.IOS_STAT_OVERRUN e) = true

/-- The slice and the phase of group g after a step of its rotation (R287): the next step's, or IDLE where it does not go on. -/
def nextStep (s : State) (g : Nat) : Nat × Nat :=
  let m := (calSlice s g + 1) % 9
  if rotates s g then (m, if m = 8 then 4 else if sliceMode s (8 * g + m) = 0 then 2 else 1) else (calSlice s g, 0)

/-- Whether the overlap that ends compares results: of a slice in use, or of one under cover (R289, R290). -/
def compares (s : State) (g : Nat) : Bool := sliceMode s (8 * g + calSlice s g) != 0 || s.flag (F.CAL_GROUP_COVER g)

/-- The frames that a port keeps without an ACK have different sequence numbers (R240, R241). -/
def seqsDiffer (s : State) (j : Nat) : Bool := decide ((((s.link j).window.filter (fun f => !f.acked)).map (·.seq)).Nodup)

/-- No frame that a port keeps without an ACK has been resent seven times, so the next resend takes no port DOWN (R241). -/
def fewTries (s : State) (j : Nat) : Bool := (s.link j).window.all (fun f => f.acked || decide (f.tries < 7))

/-- The frame of a given SEQ that a port keeps without an ACK. -/
def unacked (s : State) (j seq : Nat) : Option LinkFrame := (s.link j).window.find? (fun f => f.seq == seq && !f.acked)

/-- The word that one, two or three voters agree on (R256): the only one, one that both have, or one that two of three have. -/
def votedWord : List Word → Option Word
  | [a] => some a
  | [a, b] => if a = b then some a else none
  | [a, b, c] => if a = b ∨ a = c then some a else if b = c then some b else none
  | _ => none

/-- A frame as the port sends it (R382): one whose format has DATA_EN = 0 has no data phase. -/
def sentAs (f : XFrame) : XFrame := { f with out := if f.fmt.getLsbD 12 then f.out else [], inLen := if f.fmt.getLsbD 12 then f.inLen else 0 }

/-- The port serves a request with a frame that has begun. -/
def Begun (t : State) (x : Nat) (r : XReq) (f : XFrame) : Prop :=
  (t.xport x).req = some r ∧ (t.xport x).frame = some (sentAs f) ∧ t.flag (F.XSP_STATUS_FRAME x) = true

/-- The request in service has ended with an answer d; a manual frame answers through MAN_DONE and its BUSY. -/
def Served (s t : State) (x : Nat) (r : XReq) (d : Option (List Byte)) : Prop :=
  (t.xport x).req = none ∧ (t.xport x).frame = none ∧ t.flag (F.XSP_STATUS_FRAME x) = false ∧
  (t.xport x).answers = (s.xport x).answers ++ (if r.reply then [(r, d)] else []) ∧
  (r.init = xiManual → t.flag (F.XSP_STATUS_MAN_DONE x) = true ∧ t.flag (F.XSP_MAN_CTL_BUSY x) = false)

/-- A refused register write: XSP_ERR records its cause unless a record is held, and nothing else changes. -/
def XspRefused (s t : State) (x cause : Nat) : Prop :=
  OnlyRegs s t (· = A.XSP_ERR x) ∧ t.flag (F.XSP_ERR_VALID x) = true ∧
  (s.flag (F.XSP_ERR_VALID x) = false → t.get (F.XSP_ERR_CAUSE x) = cause)

/-- The command of HW_CMD that a row issues (R421). -/
def hostCode : Instr → Option Nat
  | .nop => some 0x01
  | .goRun => some 0x02
  | .goHold => some 0x03
  | .goService => some 0x04
  | .partitionStop => some 0x05
  | .partitionStart => some 0x06
  | .changeover => some 0x07
  | .convoyMerge => some 0x08
  | .convoyShoulder => some 0x09
  | .calRestoreFactory => some 0x0A
  | .calCommitUser => some 0x0B
  | .laybyDiscard => some 0x0C
  | .roadblockClear => some 0x0D
  | .chipReset => some 0x0E
  | .sleep => some 0x0F
  | .imageSelect => some 0x10
  | .auditTolls => some 0x11
  | _ => none

/-- The host port answers (R400, R412, R413). -/
abbrev hostUp (s : State) : Prop := hostSilent s = false ∧ s.dev ≠ dsSleep

/-- A command is taken: nothing busy, legal in the device state, and well-formed arguments (R420). -/
abbrev takes (s : State) (code : Nat) : Prop :=
  hostUp s ∧ s.flag F.HW_CMD_BUSY = false ∧ cmdLegal s code = true ∧ cmdArgsOk s code = true

/-- HW_ERR holds a cause, and the reply shows a code for it, unless an earlier failure is still to be shown in its place (R406). -/
def replies (s t : State) (code : BitVec 4) (cause : Nat) : Prop :=
  t.flag F.HW_ERR_VALID = true ∧ t.get F.HW_ERR_CAUSE = cause ∧
  (s.host.frameAborted = false → s.host.winFailed = false → t.host.lastStatus = code)

/-- A refused access: REFUSED, and no command ran. -/
def refusedWith (s t : State) (cause : Nat) : Prop :=
  replies s t 0xA cause ∧ t.reg A.HW_CMD = s.reg A.HW_CMD ∧ t.dev = s.dev ∧ t.mem = s.mem ∧ t.cores = s.cores

/-- Nothing has changed but the record, the host port's own reply, and the latches of the interrupt controller (R350). -/
def onlyRecord (s t : State) : Prop :=
  t = { s with regs := t.regs, host := t.host, withdrawn := t.withdrawn } ∧
  ∀ a, a ≠ A.HW_ERR → inBlock 0x40040000 a = false → t.reg a = s.reg a

/-- A failed access: ACCESS_ERR with data 0. -/
def accessErr (s t : State) (cause : Nat) : Prop := replies s t 0xB cause ∧ t.host.lastData = 0

/-- A command has ended with a result, and CMD_DONE is pending (R424). -/
def ended (t : State) (result : Nat) : Prop :=
  t.flag F.HW_CMD_BUSY = false ∧ t.get F.HW_CMD_RESULT_RESULT = result ∧ t.bitAt F.HW_STATUS_PEND 3 = true

/-- A command waits for firmware (R425). -/
def forFirmware (t : State) (code : Nat) : Prop :=
  t.flag F.HW_CMD_BUSY = true ∧ t.flag F.HW_CMD_FW = true ∧ t.flag F.HST_CMD_PENDING = true ∧ t.get F.HST_CMD_CODE = code

/-- The reply of an access past the host window: ACCESS_ERR with data 0 and cause ADDR. -/
def pastWindow (s t : State) : Prop := accessErr s t 6 ∧ onlyRecord s t

/-- The field that a read-clear row reads (R168, R196, R198, R213, R214, R241, R242, R252, R262, R285, R329, R379). -/
def rcField : Instr → List Loc
  | .sysEccCorrRead => [F.SYS_ECC_CORR_COUNT]
  | .laneFaultCountRead => [⟨A.LANE_FAULT_COUNT, 31, 0⟩]
  | .laneEccRead => [⟨A.LANE_ECC, 31, 16⟩, ⟨A.LANE_ECC, 15, 0⟩]
  | .wptLateCountRead p => [F.WPT_LATE_COUNT_COUNT p]
  | .wptSkippedRead p => [⟨A.WPT_SKIPPED p, 31, 0⟩]
  | .cvyShoulderCountRead => [⟨A.CVY_SHOULDER_COUNT, 31, 0⟩]
  | .cvyPortErrRead j => [⟨A.CVY_PORT_ERR j, 31, 16⟩, ⟨A.CVY_PORT_ERR j, 15, 0⟩]
  | .cvyPortDownsRead j => [⟨A.CVY_PORT_DOWNS j, 15, 0⟩]
  | .cvyInDisRead p => [⟨A.CVY_IN_DIS p, 31, 24⟩, ⟨A.CVY_IN_DIS p, 23, 16⟩, ⟨A.CVY_IN_DIS p, 15, 8⟩, ⟨A.CVY_IN_DIS p, 7, 0⟩]
  | .cvyNomajRead p => [⟨A.CVY_NOMAJ p, 31, 16⟩, ⟨A.CVY_NOMAJ p, 15, 0⟩]
  | .adcRdropRead i => [⟨A.ADC_RDROP i, 31, 0⟩]
  | .pinNownCountRead => [⟨A.PIN_NOWN_COUNT, 31, 0⟩]
  | .flcCorrRead => [⟨A.FLC_CORR, 31, 16⟩, ⟨A.FLC_CORR, 15, 0⟩]
  | _ => []

/-- A write of a clock or power register is turned away with its code (R450), and only PWR_ERR says so. -/
def powerRefuses (i : Instr) (s : State) (code : Nat) : Prop :=
  s.flag F.PWR_ERR_VALID = false → Gives i s (fun t => t.get F.PWR_ERR_CODE = code ∧ OnlyRegs s t (· = A.PWR_ERR))

/-- No domain that a value of PWR_DOM_CTL switches off is in use (R438). -/
abbrev domainsFree (s : State) (v : BitVec 32) : Prop :=
  (∀ q, q < 4 → v.getLsbD q = true → s.bitAt F.PWR_DOM_CTL_FAB_OFF q = false → fabInUse s q = false) ∧
  (v.getLsbD 5 = true → s.flag F.PWR_DOM_CTL_ANA_OFF = false → anaInUse s = false) ∧
  (v.getLsbD 6 = true → s.flag F.PWR_DOM_CTL_LINK_OFF = false → linkInUse s = false)

/-- The debug port answers and the level is at least SERVICE (R510, R511). -/
abbrev dbgServes (s : State) : Prop := dbgUp s = true ∧ 1 ≤ s.get F.DBG_LEVEL_LEVEL

/-- The port takes a frame: it answers, and the frame's check holds or the port has none (R506, R509, R510). -/
abbrev heard (s : State) (crc : Bool) : Prop := dbgUp s = true ∧ (crc = true ∨ s.pads.fiveWire = true)

/-- The port answers ERR and DBG_ERR, if it was empty, holds the cause (R526). -/
def dbgRefused (s t : State) (cause : Nat) : Prop :=
  t.dbgp.status = 2 ∧ (s.flag F.DBG_ERR_VALID = false → t.get F.DBG_ERR_CAUSE = cause) ∧ t.cores = s.cores ∧ t.mem = s.mem

/-- The port answers OK with data, and no core and no byte changes. -/
def dbgAnswers (s t : State) (d : BitVec 32) : Prop :=
  t.dbgp.status = 0 ∧ t.dbgp.data = d ∧ t.cores = s.cores ∧ t.mem = s.mem

/-- The rows of the debug port that are reads or writes of one offset: the word written, or none for a read. -/
def portRow : Instr → Option (Nat × Option (BitVec 32))
  | .dbgHalt w v => some (0x40 + 4 * w, some v)
  | .dbgResume w v => some (0x80 + 4 * w, some v)
  | .step => some (0x204, some 0x10000000)
  | .dbgFeed w => some (0x228, some w)
  | .regDataRead hi => some (if hi then 0x224 else 0x220, none)
  | .regDataWrite hi d => some (if hi then 0x224 else 0x220, some d)
  | .memRead v => some (0x410, some (v.setWidth 32 ||| 0x80000000))
  | .memWrite hi d => some (if hi then 0x40C else 0x408, some d)
  | .freezeWrite i v => some (0x100 + 4 * i, some v)
  | _ => none

/-- The fed word has ended without a trap: DONE, not BUSY, cause 0 (R519). -/
def fedDone (t : State) (k : Nat) : Prop :=
  bitsOf ((t.core k).dreg 0x22C) 31 30 = 1 ∧ bitsOf ((t.core k).dreg 0x22C) 7 0 = 0

/-- The fed word has met a trap condition: DONE and TRAPPED, with the trap's cause (R519). -/
def fedTrapped (t : State) (k cause : Nat) : Prop :=
  bitsOf ((t.core k).dreg 0x22C) 31 29 = 3 ∧ bitsOf ((t.core k).dreg 0x22C) 7 0 = cause

end Sys2Proof.Machine

/-- A step takes the command at the front of the queue and runs it with the rest of the queue left. -/
def Obligations.StepRunsFrontCommand : Prop :=
  ∀ (c : Instr) (rest : List Instr) (s : State), s.pending = c :: rest → step s = exec c { s with pending := rest }

/-- Every step takes one command: it answers a next state, and the queue of that state is the rest of the queue before. No
command stops the machine, and none puts a command into the queue. With no command waiting the step answers a state, and it is
one in which TIME has not gone back and no command has appeared (the tick of log 4, the model's choice). -/
def Obligations.EveryStepTakesOneCommand : Prop :=
  (∀ s : State, ∃ t, step s = .next t ∧ t.pending = s.pending.tail) ∧
  (∀ s : State, s.pending = [] → ∃ t, step s = .next t ∧ t.pending = [] ∧ (t.time = s.time ∨ t.time = s.time + 1))

/-- The memory stays in its canonical form: addresses strictly rising, no entry equal to what an unlisted byte reads, after
every step of every command and every tick. -/
def Obligations.MemoryStaysCanonical : Prop :=
  ∀ s t : State, Memory.wf s.mem = true → step s = .next t → Memory.wf t.mem = true

/-- Words written out from the encodings of 04_instruction_set.md, its worked examples among them, decode to the instructions
they stand for. -/
def Obligations.WorkedExampleWordsDecode : Prop :=
  ∀ k : CoreId,
    decodeWord k 0x20A50001#32 = some (.addi k 5 5 1) ∧
    decodeWord k 0x58A80000#32 = some (.ldd k 5 8 0) ∧
    decodeWord k 0x6CA80000#32 = some (.std k 5 8 0) ∧
    decodeWord k 0x50E80004#32 = some (.ldw k 7 8 4) ∧
    decodeWord k 0x14401803#32 = some (.lrecvf k 2 3) ∧
    decodeWord k 0x00000000#32 = none ∧ decodeWord k 0xFFFFFFFF#32 = none

/-- Every well-formed core instruction decodes from its encoding to itself, every operand at every value it admits (R105–R133).
A word has one meaning: an instruction that decodes from a word encodes to that word. -/
def Obligations.DecodeAndEncodeAgree : Prop :=
  (∀ (i : Instr) (w : BitVec 32), wellFormed i = true → encodeWord i = some w → ∃ k : CoreId, decodeWord k w = some i) ∧
  (∀ (k : CoreId) (w : BitVec 32) (i : Instr), decodeWord k w = some i → encodeWord i = some w)

/-- g0 reads 0 and discards writes; every other general register and every f register reads what was last written to it, and no
other register with it. -/
def Obligations.RegisterZeroDiscardsWrites : Prop :=
  ∀ (c : Core) (n m : Nat) (v : Word),
    c.greg 0 = 0 ∧ (c.setG 0 v).greg m = c.greg m ∧
    (n ≠ 0 → (c.setG n v).greg n = v) ∧ (m ≠ n → (c.setG n v).greg m = c.greg m) ∧ (c.setG n v).freg m = c.freg m ∧
    (c.setF n v).freg n = v ∧ (m ≠ n → (c.setF n v).freg m = c.freg m) ∧ (c.setF n v).greg m = c.greg m

/-- Every INT and immediate instruction that a core runs completes: gd takes the value of R109 or R110 (g0 discards it), the pc
pair moves on, and no other register, no memory byte and nothing else of the machine changes. Every MULDIV instruction that a
core runs completes with the result of R112 and R113, and division never traps. -/
def Obligations.IntegerInstructionsComplete : Prop :=
  (∀ (i : Instr) (k : CoreId) (d : BitVec 5) (v : Word) (s u : State),
     Fetches s k u → intResult (gr u k) i = some (k, d, v) →
     Gives i s (fun t => Retires u t k (wroteG (u.core k) d v))) ∧
  (∀ (i : Instr) (k : CoreId) (d : BitVec 5) (v : Word) (s u : State),
     Fetches s k u → mulDivResult (gr u k) i = some (k, d, v) →
     Gives i s (fun t => Retires u t k (wroteG (u.core k) d v)))

/-- The floating-point arithmetic and integer-to-float instructions with a rounding code that is not reserved write fd, OR their
flags into FPSR and leave everything else alone. A conversion to an integer writes gd and ORs its flags into FPSR. -/
def Obligations.FloatArithmeticCompletes : Prop :=
  (∀ (i : Instr) (k : CoreId) (rm : BitVec 3) (d : BitVec 5) (f : BitVec 3 → Nat × FpFlags) (s u : State),
     Fetches s k u → fpResult u i = some (k, rm, d, f) → rm ≠ 5 → rm ≠ 6 →
     Gives i s (fun t => Retires u t k
       (wroteF (u.core k) k d (BitVec.ofNat 64 (f (direction u k rm)).1) (f (direction u k rm)).2))) ∧
  (∀ (i : Instr) (k : CoreId) (rm : BitVec 3) (d : BitVec 5) (f : BitVec 3 → Word × FpFlags) (s u : State),
     Fetches s k u → toIntResult u i = some (k, rm, d, f) → rm ≠ 5 → rm ≠ 6 →
     Gives i s (fun t => Retires u t k
       (wroteGFlags (u.core k) k d (f (direction u k rm)).1 (f (direction u k rm)).2)))

/-- The sign, minimum, maximum, compare, class and raw move instructions complete: FEQ, FLT and FLE give 1 or 0, the raw moves
copy the pattern, and a compare never writes an f register. -/
def Obligations.FloatMovesAndComparesComplete : Prop :=
  ∀ (k : CoreId) (p : Bool) (d a b : BitVec 5) (s u : State), Fetches s k u →
    let fm := Fmt.of p
    let x := fbits u k p a
    let y := fbits u k p b
    Gives (.fsgnj k p d a b) s (fun t => Retires u t k (wroteF (u.core k) k d (BitVec.ofNat 64 (fm.withSign x (fm.signBit y))) 0)) ∧
    Gives (.fsgnjn k p d a b) s (fun t => Retires u t k (wroteF (u.core k) k d (BitVec.ofNat 64 (fm.withSign x (!fm.signBit y))) 0)) ∧
    Gives (.fsgnjx k p d a b) s (fun t => Retires u t k
      (wroteF (u.core k) k d (BitVec.ofNat 64 (fm.withSign x (fm.signBit x != fm.signBit y))) 0)) ∧
    Gives (.fmin k p d a b) s (fun t => Retires u t k
      (wroteF (u.core k) k d (BitVec.ofNat 64 (fm.minmax false x y).1) (fm.minmax false x y).2)) ∧
    Gives (.fmax k p d a b) s (fun t => Retires u t k
      (wroteF (u.core k) k d (BitVec.ofNat 64 (fm.minmax true x y).1) (fm.minmax true x y).2)) ∧
    Gives (.feq k p d a b) s (fun t => Retires u t k
      (wroteGFlags (u.core k) k d (oneIf ((fpEq (fm.unpack x) (fm.unpack y)).1 = true)) (fpEq (fm.unpack x) (fm.unpack y)).2)) ∧
    Gives (.flt k p d a b) s (fun t => Retires u t k
      (wroteGFlags (u.core k) k d (oneIf ((fpLt (fm.unpack x) (fm.unpack y)).1 = true)) (fpLt (fm.unpack x) (fm.unpack y)).2)) ∧
    Gives (.fle k p d a b) s (fun t => Retires u t k
      (wroteGFlags (u.core k) k d (oneIf ((fpLe (fm.unpack x) (fm.unpack y)).1 = true)) (fpLe (fm.unpack x) (fm.unpack y)).2)) ∧
    Gives (.fclass k p d a) s (fun t => Retires u t k (wroteGFlags (u.core k) k d (1 <<< fm.classBit x) 0)) ∧
    Gives (.fmvGF k p d a) s (fun t => Retires u t k (wroteGFlags (u.core k) k d (BitVec.ofNat 64 x) 0)) ∧
    Gives (.fmvFG k p d a) s (fun t => Retires u t k
      (wroteF (u.core k) k d (BitVec.ofNat 64 (if p then (gr u k a).toNat % 2 ^ 32 else (gr u k a).toNat)) 0))

/-- A conditional branch outside a delay slot completes: taken, the next address is the branch's own plus 4 × disp, else the one
after the slot; the slot runs when the annul bit is clear or the branch is taken. No register changes. -/
def Obligations.ConditionalBranchesComplete : Prop :=
  ∀ (i : Instr) (k : CoreId) (annul taken : Bool) (disp : BitVec 15) (s u : State),
    Fetches s k u → (u.core k).slot = false → branchOf (gr u k) i = some (k, annul, disp, taken) →
    Gives i s (fun t => Retires u t k
      (wentTo (u.core k) (if taken then (u.core k).pc + words disp else (u.core k).pc + 8) (!annul || taken)))

/-- J, JAL and JALR outside a delay slot complete; JAL and JALR write the address of the jump plus 8, JALR after it has read its
target, and with the annul bit set the slot never runs. A JALR target with bits [1:0] set raises ALIGN (0x05) instead. -/
def Obligations.JumpsComplete : Prop :=
  ∀ (k : CoreId) (annul : Bool) (disp : BitVec 25) (d a : BitVec 5) (s u : State),
    Fetches s k u → (u.core k).slot = false →
    let c := u.core k
    let link : Word := (c.pc + 8).setWidth 64
    Gives (.j k annul disp) s (fun t => Retires u t k (wentTo c (c.pc + words disp) (!annul))) ∧
    Gives (.jal k annul disp) s (fun t => Retires u t k ((wentTo c (c.pc + words disp) (!annul)).setG 31 link)) ∧
    ((gr u k a).toNat % 4 = 0 →
      Gives (.jalr k d a annul) s (fun t => Retires u t k ((wentTo c ((gr u k a).setWidth 40) (!annul)).setG d.toNat link))) ∧
    ((gr u k a).toNat % 4 ≠ 0 → ∃ w, exec (.jalr k d a annul) s = .next (takeTrap u k 0x05 0 (gr u k a).toNat w))

/-- A branch, a jump, WAYPT on a tile, TRAP, BRKPT, and RFE, SEAL or WFI on a service core, that executes in a delay slot raises
SLOT (0x04) and has no other effect. -/
def Obligations.TransfersInADelaySlotTrap : Prop :=
  ∀ (i : Instr) (k : CoreId) (s u : State), Fetches s k u → (u.core k).slot = true →
    ((∃ annul disp taken, branchOf (gr u k) i = some (k, annul, disp, taken)) ∨
     (∃ annul disp, i = .j k annul disp ∨ i = .jal k annul disp) ∨ (∃ d a annul, i = .jalr k d a annul) ∨
     (∃ code, i = .trap k code ∨ i = .brkpt k code) ∨ (i = .waypt k ∧ k.val < 256) ∨
     ((i = .rfe k ∨ i = .seal k ∨ (i = .wfi k ∧ (s.core k).haltReq = 0)) ∧ 256 ≤ k.val)) →
    ∃ w, exec i s = .next (takeTrap u k 0x04 0 0 w)

/-- An integer instruction, a branch or a jump that completes as above leaves an aligned core aligned: pc and next pc stay
multiples of 4. -/
def Obligations.AlignedCoreStaysAligned : Prop :=
  ∀ (i : Instr) (k : CoreId) (s u t : State), Fetches s k u → (u.core k).aligned = true → (u.core k).slot = false →
    ((∃ d v, intResult (gr u k) i = some (k, d, v) ∨ mulDivResult (gr u k) i = some (k, d, v)) ∨
     (∃ annul disp taken, branchOf (gr u k) i = some (k, annul, disp, taken)) ∨
     (∃ annul disp, i = .j k annul disp ∨ i = .jal k annul disp) ∨
     (∃ d a annul, i = .jalr k d a annul ∧ (gr u k a).toNat % 4 = 0)) →
    exec i s = .next t → (t.core k).aligned = true

/-- A tile's aligned load completes with the little-endian bytes, extended as R114 says, in the destination, and everything else
stays: from its own SRAM with no error in the word; from a filled word of the snapshot, or 0 beyond its length; from a mapped
word of the depot constant view with no error; and 0 from the release storage. No older store to those bytes waits. A load that
an older store of the same address and size precedes takes that store's data (R90), of any size and to either register file; one
that the store overlaps in part waits. A load of any core that its checks admit and that need not wait completes with what it
reads: a service core's through the data cache or uncached from the interconnect. One that a check refuses takes that trap with
its address. -/
def Obligations.LoadsComplete : Prop :=
  (∀ (i : Instr) (k : CoreId) (a : BitVec 5) (imm : BitVec 16) (n : Nat) (wr : Nat → Core → Core) (s u : State),
     Fetches s k u → closed u → k.val < 256 → loadForm i = some (k, a, imm, n, wr) →
     let ea := eaOf (gr u k) a imm
     ea % n = 0 → youngest (u.core k) ea n = none →
     (ownData ea → u.eccOf memTile (tilePhys u k ea / 8) = 0 →
       Gives i s (fun t => Retires u t k (wr (u.bytes (tilePhys u k ea) n) (u.core k)))) ∧
     (∀ p, 0x10000 ≤ ea → ea < 0x18000 → u.tilePart k = some p →
       let x := (ea - 0x10000) / 8
       (snapLen u p ≤ x → Gives i s (fun t => Retires u t k (wr 0 (u.core k)))) ∧
       (x < snapLen u p → x < (u.part p).fill.read nat0 (seenSnap u p).1 → u.eccOf memSnap ((seenSnap u p).2 + x) = 0 →
         Gives i s (fun t => Retires u t k (wr
           ((u.wpt.snap.read zero64 ((seenSnap u p).2 + x)).toNat / 2 ^ (8 * (ea % 8)) % 2 ^ (8 * n)) (u.core k))))) ∧
     (∀ p r d, 0x100000 ≤ ea → ea < 0x1100000 → u.tilePart k = some p → inView u k ea n = true → crRegion u p ea = some (r, d) →
       zeroingAt u d = false → u.eccOf memDepot (d / 8) = 0 →
       Gives i s (fun t => Retires u t k (wr (u.bytes d n) (u.core k)))) ∧
     (0x20000 ≤ ea → ea < 0x28000 → Gives i s (fun t => Retires u t k (wr 0 (u.core k))))) ∧
  (∀ (i : Instr) (k : CoreId) (a : BitVec 5) (imm : BitVec 16) (n : Nat) (wr : Nat → Core → Core) (s u : State) (e : SbEntry),
     Fetches s k u → closed u → k.val < 256 → loadForm i = some (k, a, imm, n, wr) →
     let ea := eaOf (gr u k) a imm
     0x8000 ≤ ea → ea < 0x10000 → ea % n = 0 → youngest (u.core k) ea n = some e →
     (e.addr = ea → e.size = n → e.data.toNat < 2 ^ (8 * n) → Gives i s (fun t => Retires u t k (wr e.data.toNat (u.core k)))) ∧
     (e.addr ≠ ea ∨ e.size ≠ n → (s.core k).haltReq = 0 → exec i s = .next (u.waitFor k evOverlap))) ∧
  (∀ (i : Instr) (k : CoreId) (a : BitVec 5) (imm : BitVec 16) (n : Nat) (wr : Nat → Core → Core) (s u w : State) (attr : AccAttr) (v c : Nat),
     Fetches s k u → closed w → loadForm i = some (k, a, imm, n, wr) →
     let ea := eaOf (gr u k) a imm
     (256 ≤ k.val → scAccess u k .load ea n = .inr attr → (attr.ordered = true → (u.core k).sb = []) →
       youngest (u.core k) ea n = none → v < 2 ^ (8 * n) →
       (attr.cached = false → busRead u (scAgent k) ea n = (.ok v, w) → Gives i s (fun t => Retires w t k (wr v (w.core k)))) ∧
       (attr.cached = true → dLoad u k ea n = (.ok v, w) → Gives i s (fun t => Retires w t k (wr v (w.core k))))) ∧
     (256 ≤ k.val → scAccess u k .load ea n = .inl c → ∃ x, exec i s = .next (takeTrap u k c 0 ea x)) ∧
     (k.val < 256 → tileCheck u k false ea n = some c → ∃ x, exec i s = .next (takeTrap u k c 0 ea x)) ∧
     (coreLoad u k ea n = .val v w → v < 2 ^ (8 * n) → Gives i s (fun t => Retires w t k (wr v (w.core k)))))

/-- A store that meets no condition of R145, with a place in the store buffer, completes: it enters the buffer, youngest last,
and no byte of memory changes before it drains. So does a tile's to its data area or to a release word of its own, and a service
core's to any address but two: one to the boot ROM is ignored, and one to a register of the memory protection unit acts as it
commits. STORE_DRAIN takes the oldest entry from the buffer. A tile's store to its data area, which no staging copy is reading:
its bytes hold its data, and every byte outside them reads as before. A tile's store to the release storage replaces its bytes
of the word and no byte of memory. A service core's uncached store does what the interconnect makes of it. -/
def Obligations.StoresEnterTheBufferAndDrain : Prop :=
  (∀ (i : Instr) (k : CoreId) (a : BitVec 5) (imm : BitVec 16) (n : Nat) (x : Word) (attr : AccAttr) (s u : State),
     Fetches s k u → closed u → storeForm (gr u k) (fr u k) i = some (k, a, imm, n, x) → (u.core k).sb.length < 8 →
     let ea := eaOf (gr u k) a imm
     (k.val < 256 → 0x8000 ≤ ea → ea < 0x10000 → ea % n = 0 → Gives i s (fun t => Retires u t k (stored u k ea n x false))) ∧
     (k.val < 256 → tileCheck u k true ea n = none → Gives i s (fun t => Retires u t k (stored u k ea n x false))) ∧
     (256 ≤ k.val → scAccess u k .store ea n = .inr attr → scStoreBad u k ea n = false → (attr.ordered = true → (u.core k).sb = []) →
       (inRom ea = false → isMpuReg ea = false → Gives i s (fun t => Retires u t k (stored u k ea n x attr.cached))) ∧
       (inRom ea = true → Gives i s (fun t => Retires u t k (u.core k).step)) ∧
       (isMpuReg ea = true →
         let w := (busWriteFree u (scAgent k) (u.isPriv k) ea n (x.toNat % 2 ^ (8 * n))).2
         closed w → Gives i s (fun t => Retires w t k (w.core k).step)))) ∧
  (∀ (k : CoreId) (e : SbEntry) (rest : List SbEntry) (s : State),
     coresClocked s = true → (s.core k).sb = e :: rest → (e.size = 1 ∨ e.size = 2 ∨ e.size = 4 ∨ e.size = 8) → e.addr % e.size = 0 →
     let a := tilePhys s k e.addr
     (k.val < 256 → 0x8000 ≤ e.addr → e.addr < 0x10000 → (e.size < 8 → s.eccOf memTile (a / 8) ≠ 2) →
       (s.flag F.WPT_STAGE_CTL_BUSY = true → ¬(s.wpt.stage.2 ≤ a ∧ a < s.wpt.stage.2 + 0x4000)) →
       Gives (.storeDrain k) s (fun t => (t.core k).sb = rest ∧ t.bytes a e.size = e.data.toNat % 2 ^ (8 * e.size) ∧
         ∀ b : Nat, (b < a ∨ a + e.size ≤ b) → t.byte b = s.byte b)) ∧
     (∀ p, k.val < 256 → 0x20000 ≤ e.addr → e.addr < 0x28000 → s.tilePart k = some p →
       let key := 4096 * p + (e.addr - 0x20000) / 8
       Gives (.storeDrain k) s (fun t => (t.core k).sb = rest ∧ t.mem = s.mem ∧
         t.wpt.rel.read zero64 key = mergeWord (s.wpt.rel.read zero64 key) e.addr e.size e.data.toNat ∧
         ∀ j : Nat, j ≠ key → t.wpt.rel.read zero64 j = s.wpt.rel.read zero64 j)) ∧
     (∀ w, 256 ≤ k.val → e.cached = false → busWriteFree s (scAgent k) e.priv e.addr e.size e.data.toNat = (.ok, w) →
       Gives (.storeDrain k) s (fun t => (t.core k).sb = rest ∧ t.mem = w.mem ∧ t.regs = w.regs)))

/-- A lane instruction that names a port with no lane raises LANE_PORT (0x09) at once, and TRAP_CAUSE.CODE holds the port.
LPROBE does so in a context that is not sealed (in a sealed one it is a seal violation first, R145). -/
def Obligations.LanePortTraps : Prop :=
  ∀ (i : Instr) (k : CoreId) (port : BitVec 5) (s u : State), Fetches s k u → port.toNat < 16 →
    (((∃ a, i = .lsend k port a ∨ i = .lsendf k port a) ∧ outLane u k port.toNat = none) ∨
     ((∃ d, i = .lrecv k d port ∨ i = .lrecvf k d port) ∧ inLane u k port.toNat = none) ∨
     ((∃ d, i = .lprobe k d port false) ∧ inLane u k port.toNat = none ∧ u.isSealed k = false) ∨
     ((∃ d, i = .lprobe k d port true) ∧ outLane u k port.toNat = none ∧ u.isSealed k = false)) →
    ∃ w, exec i s = .next (takeTrap u k 0x09 port.toNat 0 w) ∧
      bitsOf (((takeTrap u k 0x09 port.toNat 0 w).core k).sreg k srTrapCause) 25 16 = port.toNat

/-- A trap of a service core: TSTATUS takes STATUS, TRAP_PC and TRAP_NPC the pc pair, TRAP_CAUSE the cause, the code and the
slot bit, TRAP_ADDR and TRAP_INSTR the address and the word; STATUS becomes privileged with interrupts off, and execution goes
to TVEC; every other core and memory stay. An unsealed context keeps its registers; a sealed one has g1–g31, f0–f31 and FPSR
saved and cleared. A trap on a tile stops it with its trap registers written, its general registers and memory kept; in a
partition that scans, the partition is FAULTED. -/
def Obligations.TrapEntryCompletes : Prop :=
  (∀ (k : CoreId) (cause code addr w : Nat) (s : State), 256 ≤ k.val → cause < 256 → code < 1024 → addr < 2 ^ 40 → w < 2 ^ 32 →
     let c := s.core k
     let t := takeTrap s k cause code addr w
     let d := t.core k
     (d.sreg k srTrapPc = c.pc.setWidth 64 ∧ d.sreg k srTrapNpc = c.npc.setWidth 64 ∧
       (d.sreg k srTrapCause).toNat = code * 65536 + (if c.slot then 512 else 0) + cause ∧
       (d.sreg k srTrapAddr).toNat = addr ∧ (d.sreg k srTrapInstr).toNat = w ∧ d.sreg k srStatus = 2 ∧
       bitsOf (d.sreg k srTstatus) 2 0 = bitsOf (c.sreg k srStatus) 2 0 ∧
       bitsOf (d.sreg k srTstatus) 3 3 = bitsOf (c.sreg k srStatus) 2 2 ∧
       d.pc.toNat = bitsOf (c.sreg k srTvec) 39 8 * 256 ∧ d.npc = d.pc + 4 ∧ d.slot = false ∧
       (∀ j, j ≠ k.val → t.core j = s.core j) ∧ t.mem = s.mem) ∧
     (s.isSealed k = false → (∀ r, d.greg r = c.greg r) ∧ (∀ r, d.freg r = c.freg r) ∧ ∀ a, t.reg a = s.reg a) ∧
     (s.isSealed k = true → (∀ r, r < 31 → d.save.read zero64 r = c.greg (r + 1)) ∧
       (∀ r, r < 32 → d.save.read zero64 (31 + r) = c.freg r) ∧ d.save.read zero64 63 = c.sreg k srFpsr ∧
       (∀ r, d.greg r = 0) ∧ (∀ r, d.freg r = 0) ∧ d.sreg k srFpsr = 0)) ∧
  (∀ (k : CoreId) (cause code addr w : Nat) (s : State), k.val < 256 → cause < 256 →
     let c := s.core k
     let t := takeTrap s k cause code addr w
     let d := t.core k
     (s.tilePart k = none → d.run = .stopped ∧ d.sreg k srTrapPc = c.pc.setWidth 64 ∧ d.sreg k srTrapNpc = c.npc.setWidth 64 ∧
       bitsOf (d.sreg k srTrapCause) 7 0 = cause ∧ d.pc = c.pc ∧ (∀ r, d.greg r = c.greg r) ∧ t.mem = s.mem) ∧
     (∀ p, s.tilePart k = some p → s.pstate p = psScanning → inConvoy s = false →
       d.run = .stopped ∧ d.sreg k srTrapPc = c.pc.setWidth 64 ∧ (∀ r, d.greg r = c.greg r) ∧ t.pstate p = psFaulted ∧ t.mem = s.mem))

/-- TRAP and BRKPT outside a delay slot take the trap of their cause, 0x0C and 0x0B, with their code; BRKPT does so unless a
debugger that may halt the core has claimed it: then it requests a halt and does not execute. A reserved rounding code raises
ILLEGAL and the instruction has no effect of its own: the trap of cause 0x01 is taken. FCVT.P to binary64 takes no rounding
code, and any but 0 is reserved. A misaligned load or store raises ALIGN (0x05) with the address, and neither writes a register
nor enters the buffer: a tile's to its data area, and an unsealed service core's anywhere but in the peripheral range.
TRAP_ENTRY: a word that decodes to nothing raises ILLEGAL (0x01) with the word in TRAP_INSTR. -/
def Obligations.InstructionTraps : Prop :=
  (∀ (k : CoreId) (code : BitVec 10) (s u : State), Fetches s k u → (u.core k).slot = false →
     (∃ w, exec (.trap k code) s = .next (takeTrap u k 0x0C code.toNat 0 w)) ∧
     (u.flag F.DBG_CTL_SWBRK = false ∨ mayHalt u k = false → ∃ w, exec (.brkpt k code) s = .next (takeTrap u k 0x0B code.toNat 0 w)) ∧
     (u.flag F.DBG_CTL_SWBRK = true → mayHalt u k = true → isVoter u = false → (s.core k).haltReq = 0 → (u.core k).halted = false →
       (u.core k).run = .active →
       Gives (.brkpt k code) s (fun t => (t.core k).haltReq = 2 ∧ (t.core k).pc = (u.core k).pc ∧
         (∀ r, (t.core k).greg r = (u.core k).greg r) ∧ t.mem = u.mem))) ∧
  (∀ (i : Instr) (k : CoreId) (rm : BitVec 3) (d : BitVec 5) (f : BitVec 3 → Nat × FpFlags) (s u : State),
     Fetches s k u →
     (fpResult u i = some (k, rm, d, f) ∧ (rm = 5 ∨ rm = 6)) ∨ (∃ a, i = .fcvtP k false rm d a ∧ rm ≠ 0) →
     ∃ w, exec i s = .next (takeTrap u k 0x01 0 0 w)) ∧
  (∀ (i : Instr) (k : CoreId) (a : BitVec 5) (imm : BitVec 16) (n : Nat) (s u : State),
     Fetches s k u →
     ((∃ wr, loadForm i = some (k, a, imm, n, wr)) ∨ (∃ x, storeForm (gr u k) (fr u k) i = some (k, a, imm, n, x))) →
     let ea := eaOf (gr u k) a imm
     ea % n ≠ 0 →
     (k.val < 256 → 0x8000 ≤ ea → ea < 0x10000 → ∃ w, exec i s = .next (takeTrap u k 0x05 0 ea w)) ∧
     (256 ≤ k.val → u.isSealed k = false → inPeri ea = false → ∃ w, exec i s = .next (takeTrap u k 0x05 0 ea w))) ∧
  (∀ (k : CoreId) (w : BitVec 32) (s u : State), Fetches s k u → decodeWord k w = none →
     exec (.trapEntry k w) s = .next (takeTrap u k 0x01 0 0 w.toNat))

/-- RFE of a privileged, unsealed service core: STATUS from TSTATUS, the pc pair from TRAP_PC and TRAP_NPC; where TSTATUS says
saved and sealed and no word of the save area is bad, the registers from the save area; where it says saved and not sealed, the
save area cleared. Outside a delay slot RFE is ILLEGAL on a tile, a seal violation in a sealed context (0x03), and PRIVILEGE
(0x02) of an unprivileged core. -/
def Obligations.ReturnFromException : Prop :=
  ∀ (k : CoreId) (s u : State), Fetches s k u →
    let c := u.core k
    let ts := c.sreg k srTstatus
    (privileged u k → c.slot = false →
      (bitsOf ts 3 3 = 0 →
        Gives (.rfe k) s (fun t =>
          (t.core k).pc = (c.sreg k srTrapPc).setWidth 40 ∧ (t.core k).npc = (c.sreg k srTrapNpc).setWidth 40 ∧
          (t.core k).sreg k srStatus = BitVec.ofNat 64 (bitsOf ts 2 0) ∧ (∀ r, (t.core k).greg r = c.greg r) ∧ t.mem = u.mem)) ∧
      (bitsOf ts 3 3 = 1 → bitsOf ts 2 2 = 1 → badSave u k = none →
        Gives (.rfe k) s (fun t =>
          (t.core k).pc = (c.sreg k srTrapPc).setWidth 40 ∧ (t.core k).npc = (c.sreg k srTrapNpc).setWidth 40 ∧
          (t.core k).sreg k srStatus = BitVec.ofNat 64 (bitsOf ts 2 0) ∧
          (∀ r, r < 31 → (t.core k).greg (r + 1) = c.save.read zero64 r) ∧
          (∀ r, r < 32 → (t.core k).freg r = c.save.read zero64 (31 + r)) ∧
          (t.core k).sreg k srFpsr = c.save.read zero64 63 ∧ t.mem = u.mem)) ∧
      (bitsOf ts 3 3 = 1 → bitsOf ts 2 2 = 0 →
        Gives (.rfe k) s (fun t => (t.core k).save = [] ∧ (t.core k).pc = (c.sreg k srTrapPc).setWidth 40 ∧
          (∀ r, (t.core k).greg r = c.greg r) ∧ t.mem = u.mem))) ∧
    (k.val < 256 → ∃ w, exec (.rfe k) s = .next (takeTrap u k 0x01 0 0 w)) ∧
    (256 ≤ k.val → c.slot = false → u.isSealed k = true → ∃ w, exec (.rfe k) s = .next (takeTrap u k 0x03 0 0 w)) ∧
    (256 ≤ k.val → c.slot = false → u.isSealed k = false → u.isPriv k = false → ∃ w, exec (.rfe k) s = .next (takeTrap u k 0x02 0 0 w))

/-- MFSR and MTSR of any core. Where R143 gives a trap they take it and access nothing. Else, once the store buffer is empty
where R142 asks it, MFSR writes gd with what the register reads; MTSR by a core that may write writes the register's fields, and
by one that may not, or to COREID, CYCLES or TIME, or of a tile's CTXID and FPMODE, changes no register. -/
def Obligations.SystemRegisterAccess : Prop :=
  ∀ (k : CoreId) (d a : BitVec 5) (n : BitVec 10) (s u : State), Fetches s k u →
    let c := u.core k
    let v := gr u k a
    (∀ x, srTrap u k n.toNat = some x → (∃ w, exec (.mfsr k d n) s = .next (takeTrap u k x 0 0 w)) ∧
      ∃ w, exec (.mtsr k a n) s = .next (takeTrap u k x 0 0 w)) ∧
    (srTrap u k n.toNat = none → (srWaits n.toNat = true → c.sb = []) →
      Gives (.mfsr k d n) s (fun t => Retires u t k (wroteG c d (srRead u k n.toNat))) ∧
      (srWritable u k n.toNat = false ∨ n = 0x00B ∨ n = 0x020 ∨ n = 0x021 ∨ (k.val < 256 ∧ n ≠ 0x010) →
        Gives (.mtsr k a n) s (fun t => Retires u t k c.step)) ∧
      (srWritable u k n.toNat = true → Gives (.mtsr k a n) s (fun t =>
        let w := (t.core k).sreg k n.toNat
        (n = 0x000 → 256 ≤ k.val → w = withBits (c.sreg k srStatus) 0 0 (bitsOf v 0 0)) ∧
        (n = 0x001 → w = v &&& 0xF) ∧ (n = 0x002 ∨ n = 0x003 → w = v &&& 0xFFFFFFFFFC) ∧ (n = 0x004 → w = v &&& 0x3FF03FF) ∧
        (n = 0x005 → w = v &&& 0xFFFFFFFFFF) ∧ (n = 0x006 → w = v &&& 0xFFFFFFFF) ∧ (n = 0x007 → w = v &&& 0xFFFFFFFF00) ∧
        (n = 0x00A → 256 ≤ k.val → w = v &&& 0xFFFF) ∧ (n = 0x010 → w = v &&& 0x1F) ∧
        (n = 0x011 → 256 ≤ k.val → bitsOf v 2 0 < 5 → w = BitVec.ofNat 64 (bitsOf v 2 0)) ∧
        (n = 0x022 → bitsOf w 7 0 = bitsOf v 7 0) ∧ (0x28 ≤ n.toNat → n.toNat ≤ 0x2F → w = v &&& 0xFFFF01FF) ∧
        (0x30 ≤ n.toNat → n.toNat ≤ 0x37 → w = v) ∧
        (t.core k).pc = c.npc ∧ (∀ r, (t.core k).greg r = c.greg r) ∧ t = { u with cores := t.cores } ∧
        ∀ j, j ≠ k.val → t.core j = u.core j)))

/-- SYNC with an empty store buffer, and on a service core every store accepted, completes; SEAL of a privileged, unsealed
service core sets STATUS.SEALED and keeps its registers; WFI completes once an interrupt stands above the threshold, and waits
before; WAYPT of a tile completes into its wait. On the other kind of core, in a sealed context, and unprivileged these trap.
The six CACHE operations of a privileged, unsealed service core with an empty store buffer complete: an invalidated line is in
its cache no more, a written-back one is where the write-back leaves it, one that is not in the cache changes nothing, and the
registers stay. On a tile they are ILLEGAL. -/
def Obligations.SystemInstructionsComplete : Prop :=
  (∀ (k : CoreId) (s u : State), Fetches s k u →
     let c := u.core k
     (c.sb = [] → (256 ≤ k.val → storesWaiting u k = false) → Gives (.sync k) s (fun t => Retires u t k c.step)) ∧
     (c.slot = false →
       (privileged u k → Gives (.seal k) s (fun t => bitsOf ((t.core k).sreg k srStatus) 2 2 = 1 ∧ (t.core k).pc = c.npc ∧
         (∀ r, (t.core k).greg r = c.greg r) ∧ t.mem = u.mem)) ∧
       (privileged u k → (candidate u (k.val - 256)).isSome = true → (s.core k).haltReq = 0 → Gives (.wfi k) s (fun t => Retires u t k c.step)) ∧
       (privileged u k → (candidate u (k.val - 256)).isSome = false → (s.core k).haltReq = 0 → outstanding s k = false →
         exec (.wfi k) s = .next (s.waitFor k 0)) ∧
       (k.val < 256 → c.sb = [] → Gives (.waypt k) s (fun t => (t.core k).run = .waypt ∧ (t.core k).pc = c.npc ∧
         (∀ r, (t.core k).greg r = c.greg r) ∧ t.mem = u.mem)) ∧
       (256 ≤ k.val → u.isSealed k = true → (s.core k).haltReq = 0 → (∃ w, exec (.seal k) s = .next (takeTrap u k 0x03 0 0 w)) ∧
         ∃ w, exec (.wfi k) s = .next (takeTrap u k 0x03 0 0 w)) ∧
       (256 ≤ k.val → u.isSealed k = false → u.isPriv k = false → (s.core k).haltReq = 0 →
         (∃ w, exec (.seal k) s = .next (takeTrap u k 0x02 0 0 w)) ∧ ∃ w, exec (.wfi k) s = .next (takeTrap u k 0x02 0 0 w))) ∧
     (k.val < 256 → (∃ w, exec (.seal k) s = .next (takeTrap u k 0x01 0 0 w)) ∧ ∃ w, exec (.wfi k) s = .next (takeTrap u k 0x01 0 0 w)) ∧
     (256 ≤ k.val → ∃ w, exec (.waypt k) s = .next (takeTrap u k 0x01 0 0 w))) ∧
  (∀ (k : CoreId) (a : BitVec 5) (s u : State), Fetches s k u →
     let c := u.core k
     let line := (gr u k a).toNat / 64
     (privileged u k → c.sb = [] →
       (iWay c line = none → Gives (.cacheInvalIline k a) s (fun t => Retires u t k c.step)) ∧
       (∀ x, iWay c line = some x → Gives (.cacheInvalIline k a) s (fun t =>
         (t.core k).itag.read noTag (line % 128 * 4 + x) = none ∧ (t.core k).pc = c.npc ∧ t.mem = u.mem)) ∧
       (dFind c line = none →
         Gives (.cacheWbDline k a) s (fun t => Retires u t k c.step) ∧
         Gives (.cacheInvalDline k a) s (fun t => Retires u t k c.step) ∧
         Gives (.cacheWbInvalDline k a) s (fun t => Retires u t k c.step)) ∧
       (∀ x, dFind c line = some x →
         (let w := dWriteBack u k x
          Gives (.cacheWbDline k a) s (fun t => Retires w t k (w.core k).step) ∧
          Gives (.cacheWbInvalDline k a) s (fun t => (t.core k).dline.read noLine x = none ∧ t.mem = w.mem)) ∧
         Gives (.cacheInvalDline k a) s (fun t => (t.core k).dline.read noLine x = none ∧ t.mem = u.mem)) ∧
       Gives (.cacheInvalIcache k a) s (fun t => (t.core k).itag = [] ∧ t.mem = u.mem) ∧
       (let w := (c.dline.map (fun e => e.1)).foldl (fun s x => dDrop (dWriteBack s k x) k x) u
        Gives (.cacheWbInvalDcache k a) s (fun t => Retires w t k (w.core k).step))) ∧
     (∀ i, k.val < 256 → (i = .cacheInvalIline k a ∨ i = .cacheWbDline k a ∨ i = .cacheInvalDline k a ∨ i = .cacheWbInvalDline k a ∨
         i = .cacheInvalIcache k a ∨ i = .cacheWbInvalDcache k a) → ∃ w, exec i s = .next (takeTrap u k 0x01 0 0 w)))

/-- LSEND and LSENDF on a port that holds a toll and an empty launch register complete: the word waits in the launch register,
the books count it in flight and one toll less. Without a toll they wait and change nothing else. LPROBE of an output port
counts its tolls; in a sealed context it is a seal violation (0x03). A reserved port is ILLEGAL. LRECV and LRECVF on a port that
holds a word complete: the word at the read pointer goes to the destination, the port holds one word less and its toll joins the
return queue. A word with an uncorrectable error raises ECC (0x0A) instead. Without a word they wait and change nothing else.
LPROBE of an input port counts its words. -/
def Obligations.LaneInstructionsComplete : Prop :=
  (∀ (k : CoreId) (port a : BitVec 5) (s u : State), Fetches s k u →
     (∀ l, port.toNat < 16 → outLane u k port.toNat = some l →
       (canSend u k l = true →
         Gives (.lsend k port a) s (fun t => t.mesh.launch.read noFlit l = some ⟨l, gr u k a, 0, 0⟩ ∧
           portTolls t l = portTolls u l - 1 ∧ (t.core k).pc = (u.core k).npc ∧ t.mem = u.mem) ∧
         Gives (.lsendf k port a) s (fun t => t.mesh.launch.read noFlit l = some ⟨l, fr u k a, 0, 0⟩ ∧
           portTolls t l = portTolls u l - 1 ∧ (t.core k).pc = (u.core k).npc ∧ t.mem = u.mem)) ∧
       (canSend u k l = false → outstanding s k = false →
         exec (.lsend k port a) s = .next (s.waitFor k evSendWait) ∧ exec (.lsendf k port a) s = .next (s.waitFor k evSendWait)) ∧
       (u.isSealed k = false → (u.core k).sb = [] → ∀ d : BitVec 5,
         Gives (.lprobe k d port true) s (fun t => Retires u t k (wroteG (u.core k) d (BitVec.ofNat 64 (portTolls u l)))))) ∧
     (port.toNat < 16 → u.isSealed k = true → ∀ (d : BitVec 5) (out : Bool),
       ∃ w, exec (.lprobe k d port out) s = .next (takeTrap u k 0x03 0 0 w)) ∧
     (16 ≤ port.toNat → (∃ w, exec (.lsend k port a) s = .next (takeTrap u k 0x01 0 0 w)) ∧
       ∃ w, exec (.lsendf k port a) s = .next (takeTrap u k 0x01 0 0 w))) ∧
  (∀ (k : CoreId) (d port : BitVec 5) (l : Nat) (s u : State), Fetches s k u → port.toNat < 16 → inLane u k port.toNat = some l →
     let i := ringRead u k port.toNat
     (auditHolds u k l = false → portHeld u k port.toNat ≠ 0 →
       (u.eccOf memStore i ≠ 2 →
         Gives (.lrecv k d port) s (fun t => (d ≠ 0 → gr t k d = u.mesh.store.read zero64 i) ∧
           portHeld t k port.toNat = portHeld u k port.toNat - 1 ∧
           t.mesh.retq.read noFlits k = u.mesh.retq.read noFlits k ++ [⟨l, 0, 0, 0⟩] ∧ (t.core k).pc = (u.core k).npc ∧ t.mem = u.mem) ∧
         Gives (.lrecvf k d port) s (fun t => fr t k d = u.mesh.store.read zero64 i ∧
           portHeld t k port.toNat = portHeld u k port.toNat - 1 ∧
           t.mesh.retq.read noFlits k = u.mesh.retq.read noFlits k ++ [⟨l, 0, 0, 0⟩] ∧ (t.core k).pc = (u.core k).npc ∧ t.mem = u.mem)) ∧
       (u.eccOf memStore i = 2 → (∃ v w, exec (.lrecv k d port) s = .next (takeTrap v k 0x0A 0 0 w)) ∧
         ∃ v w, exec (.lrecvf k d port) s = .next (takeTrap v k 0x0A 0 0 w))) ∧
     (portHeld u k port.toNat = 0 ∨ auditHolds u k l = true → outstanding s k = false →
       exec (.lrecv k d port) s = .next (s.waitFor k evRecvWait) ∧ exec (.lrecvf k d port) s = .next (s.waitFor k evRecvWait)) ∧
     (u.isSealed k = false → (u.core k).sb = [] →
       Gives (.lprobe k d port false) s (fun t => Retires u t k (wroteG (u.core k) d (BitVec.ofNat 64 (portHeld u k port.toNat))))))

/-- HALT_ENTRY takes a registered request of a clocked core that has no access outstanding: the core is halted with its
registers kept and DBG_CSTAT.REASON says why. INTERRUPT_ENTRY of an executing core with interrupts enabled, none outstanding,
latches the candidate and goes to TVEC + 0x100; a sealed context's registers are saved and cleared, another's stay. ECC_REWRITE
gives a corrected word fresh check bits, but for a save area's, and leaves every other. -/
def Obligations.HaltInterruptAndRewriteComplete : Prop :=
  (∀ (k : CoreId) (s : State), (s.core k).haltReq ≠ 0 → (s.core k).haltReq < 16 → (s.core k).halted = false → coresClocked s = true →
    ((s.core k).run = .active ∨ (s.core k).run = .waypt) → outstanding s k = false →
    Gives (.haltEntry k) s (fun t => (t.core k).halted = true ∧ (t.core k).haltReq = 0 ∧
      bitsOf ((t.core k).dreg 0x204) 23 20 = (s.core k).haltReq ∧ (t.core k).pc = (s.core k).pc ∧
      (∀ r, (t.core k).greg r = (s.core k).greg r) ∧ t.mem = s.mem)) ∧
  (∀ (c : Fin 4) (id : Nat) (s : State),
    let u := settle s
    let k := 256 + c.val
    coreRuns u k = true → u.intEnabled k = true → (u.core k).haltReq = 0 → (u.core k).stepping = false → outstanding u k = false →
    candidate u c = some id →
    Gives (.interruptEntry c) s (fun t => t.flag (F.ICU_LATCH_VALID c) = true ∧ t.get (F.ICU_LATCH_ID c) = id ∧
      (t.core k).sreg k srTrapPc = (u.core k).pc.setWidth 64 ∧ (t.core k).sreg k srTrapNpc = (u.core k).npc.setWidth 64 ∧
      bitsOf ((t.core k).sreg k srTrapCause) 8 0 = 0x140 ∧ (t.core k).sreg k srStatus = 2 ∧
      (t.core k).pc = BitVec.ofNat 40 (bitsOf ((u.core k).sreg k srTvec) 39 8 * 256 + 0x100) ∧
      (∀ r : Nat, u.isSealed k = false → (t.core k).greg r = (u.core k).greg r) ∧
      (∀ r : Nat, u.isSealed k = true → r < 31 → (t.core k).save.read zero64 r = (u.core k).greg (r + 1) ∧ (t.core k).greg (r + 1) = 0) ∧
      t.mem = u.mem)) ∧
  (∀ (arr : Fin 8) (word : Nat) (s : State),
    (s.eccOf arr word = 3 → arr.val ≠ memSave →
      Gives (.eccRewrite arr word) s (fun t => t.eccOf arr word = 0 ∧ t.mem = s.mem ∧ t.regs = s.regs)) ∧
    (s.eccOf arr word ≠ 3 ∨ arr.val = memSave → exec (.eccRewrite arr word) s = .next s))

/-- The configuration of a lane (R172–R174). Where a partition that owns it scans, is held or changes over, and where a lane
that is enabled would get other fields, the write is refused as LOCKED (7). LANE_ENABLE of a disabled lane that passes every
check starts it with its DEPTH in tolls, empty; a check that fails is recorded and changes nothing else; of an enabled lane it
takes back a disable that waits. LANE_DISABLE of an enabled lane with nothing in flight disables it, else it waits for
LANE_DISABLE_DONE; of a disabled lane it stores its fields. -/
def Obligations.LaneConfigurationCompletes : Prop :=
  ∀ (l : Fin 4160) (v : BitVec 31) (s : State),
    let w : Word := (v.setWidth 32 ||| 0x80000000#32).setWidth 64
    let dst := bitsOf w 30 22
    let tile := if laneSender l < 256 then laneSender l else if laneOn s l then laneDst s l else dst
    let locked := lanesLocked s (if tile < 256 then s.quadPart (tile / 64) else none)
    let check := laneCheck s (enabledLanes s) l dst (bitsOf w 21 18) (bitsOf w 17 9) (bitsOf w 8 0)
    (locked = true ∨ (laneOn s l = true ∧ bitsOf (s.reg (A.LANE_CFG l)) 30 0 ≠ v.toNat) → s.flag F.LANE_ERR_VALID = false →
      Gives (.laneEnable l v) s (fun t => t.get F.LANE_ERR_CAUSE = 7 ∧ t.get F.LANE_ERR_LANE = l.val ∧ OnlyRegs s t (· = A.LANE_ERR)) ∧
      Gives (.laneDisable l v) s (fun t => t.get F.LANE_ERR_CAUSE = 7 ∧ t.get F.LANE_ERR_LANE = l.val ∧ OnlyRegs s t (· = A.LANE_ERR))) ∧
    (locked = false → laneOn s l = false →
      (check = 0 →
        Gives (.laneEnable l v) s (fun t => laneOn t l = true ∧ laneDst t l = dst ∧ laneDepth t l = bitsOf w 8 0 ∧
          portTolls t l = bitsOf w 8 0 ∧ portHeld t dst (bitsOf w 21 18) = 0 ∧
          t.reg (A.LANE_CNT_LO l) = BitVec.ofNat 64 (bitsOf w 8 0) ∧ t.reg (A.LANE_CNT_HI l) = 0)) ∧
      (check ≠ 0 → s.flag F.LANE_ERR_VALID = false →
        Gives (.laneEnable l v) s (fun t => laneOn t l = false ∧ t.get F.LANE_ERR_CAUSE = check ∧ t.get F.LANE_ERR_LANE = l.val ∧
          OnlyRegs s t (· = A.LANE_ERR))) ∧
      Gives (.laneDisable l v) s (fun t => laneOn t l = false ∧ t.reg (A.LANE_CFG l) = v.setWidth 64 ∧ OnlyRegs s t (· = A.LANE_CFG l))) ∧
    (locked = false → laneOn s l = true → bitsOf (s.reg (A.LANE_CFG l)) 30 0 = v.toNat →
      Gives (.laneEnable l v) s (fun t => t.regs = s.regs ∧ t.mesh.disable.read noB l = false ∧ portTolls t l = portTolls s l) ∧
      (netsEmpty s l = true →
        Gives (.laneDisable l v) s (fun t => laneOn t l = false ∧ OnlyRegs s { t with mesh := s.mesh } (· = A.LANE_CFG l))) ∧
      (netsEmpty s l = false → Gives (.laneDisable l v) s (fun t => laneOn t l = true ∧ t.mesh.disable.read noB l = true ∧ t.regs = s.regs))) ∧
    (s.mesh.disable.read noB l = true → netsEmpty s l = true →
      Gives (.laneDisableDone l) s (fun t => laneOn t l = false ∧ t.mesh.disable.read noB l = false)) ∧
    (s.mesh.disable.read noB l = false ∨ netsEmpty s l = false → exec (.laneDisableDone l) s = .next s)

/-- Words and tolls leave their core's attachment (R542): the launch register or the return queue gives one up, and it joins the
junction's buffer; with no room there, or with the junction off, nothing changes. A flit that an output chooses crosses one link
of the mesh (R176): a good one leaves its buffer and joins the neighbour's, unchanged and behind what waits there. With no room
there, or with either junction off, it stays. One whose lane number is bad, or names a lane that is not enabled, is discarded as
a lane fault (R198). A good flit at its destination, whose junction is on, lands (R179, R180): a word at the ring's write
pointer, the books moving one from DATA_NET to RECV_HELD; a toll with its sender, one from TOLL_NET to SEND_TOLLS. Then the
lanes of a partition in READY that waited for its nets are set (log 65). -/
def Obligations.MeshMovesFlits : Prop :=
  (∀ (k : CoreId) (s : State),
     let xy := coreXY k
     let j := clusterAt xy.1 xy.2
     (∀ (p : Nat) (f : Flit), junctionOn s xy = true → (jbufOf s j (corePort k) false).length < 4 →
       roundRobin 16 (s.mesh.launchLast.read lastPort k) (fun p => (s.mesh.launch.read noFlit (16 * k.val + p)).isSome) = some p →
       s.mesh.launch.read noFlit (16 * k.val + p) = some f →
       Gives (.dataFlitLaunch k) s (fun t => t.mesh.launch.read noFlit (16 * k.val + p) = none ∧
         jbufOf t j (corePort k) false = jbufOf s j (corePort k) false ++ [f] ∧ t.regs = s.regs ∧ t.cores = s.cores ∧ t.mem = s.mem)) ∧
     (∀ (f : Flit) (rest : List Flit), junctionOn s xy = true → (jbufOf s j (corePort k) true).length < 4 →
       s.mesh.retq.read noFlits k = f :: rest →
       Gives (.tollLaunch k) s (fun t => t.mesh.retq.read noFlits k = rest ∧
         jbufOf t j (corePort k) true = jbufOf s j (corePort k) true ++ [f] ∧ t.regs = s.regs ∧ t.cores = s.cores ∧ t.mem = s.mem)) ∧
     (4 ≤ (jbufOf s j (corePort k) false).length ∨ junctionOn s xy = false → exec (.dataFlitLaunch k) s = .next s) ∧
     (4 ≤ (jbufOf s j (corePort k) true).length ∨ junctionOn s xy = false → exec (.tollLaunch k) s = .next s)) ∧
  (∀ (j : Fin 64) (out : Fin 4) (toll : Bool) (i inp : Nat) (xy : Nat × Nat) (f : Flit) (rest : List Flit) (s : State),
     (junctionOn s (jxy j) = true → pickInput s j (4 + out.val) toll = some i → i < 9 → jbufOf s j i toll = f :: rest →
       (f.hdrErr = 0 → f.dataErr = 0 → laneOn s f.lane = true → neighbour (jxy j) (4 + out.val) = some (xy, inp) →
         (junctionOn s xy = true → (jbufOf s (clusterAt xy.1 xy.2) inp toll).length < 4 →
           Gives (.flitHop j out toll) s (fun t => jbufOf t j i toll = rest ∧
             jbufOf t (clusterAt xy.1 xy.2) inp toll = jbufOf s (clusterAt xy.1 xy.2) inp toll ++ [f] ∧ t.regs = s.regs ∧
             t.cores = s.cores ∧ t.mem = s.mem)) ∧
         (junctionOn s xy = false ∨ 4 ≤ (jbufOf s (clusterAt xy.1 xy.2) inp toll).length → exec (.flitHop j out toll) s = .next s)) ∧
       (f.hdrErr = 2 ∨ laneOn s f.lane = false →
         Gives (.flitHop j out toll) s (fun t => jbufOf t j i toll = rest ∧ t.flag F.LANE_FAULT_VALID = true ∧ t.mem = s.mem))) ∧
     (junctionOn s (jxy j) = false ∨ pickInput s j (4 + out.val) toll = none → exec (.flitHop j out toll) s = .next s)) ∧
  (∀ (k : CoreId) (i : Nat) (f : Flit) (rest : List Flit) (toll : Bool) (s : State),
     let xy := coreXY k
     let j := clusterAt xy.1 xy.2
     let l := f.lane
     junctionOn s xy = true → pickInput s j (corePort k) toll = some i → jbufOf s j i toll = f :: rest → f.hdrErr = 0 → f.dataErr = 0 →
     laneOn s l = true →
     (toll = false → laneDst s l = k.val → portHeld s k (laneDport s l) < laneDepth s l →
       Gives (.dataFlitLand k) s (fun t => ∃ w, t = lanesSettle w ∧ (s.mesh.readySet = [] → t = w) ∧
         portHeld w k (laneDport s l) = portHeld s k (laneDport s l) + 1 ∧
         w.mesh.store.read zero64 (512 * k.val + ((s.mesh.rp.read zeroN (16 * k.val + laneDport s l) - laneBase s l +
           portHeld s k (laneDport s l)) % laneDepth s l + laneBase s l)) = f.data ∧
         w.get (F.LANE_CNT_LO_DATA_NET l) = (s.get (F.LANE_CNT_LO_DATA_NET l) - 1) ∧
         (s.get (F.LANE_CNT_HI_RECV_HELD l) < 256 → w.get (F.LANE_CNT_HI_RECV_HELD l) = s.get (F.LANE_CNT_HI_RECV_HELD l) + 1) ∧
         w.cores = s.cores ∧ w.mem = s.mem)) ∧
     (toll = true → laneSender l = k.val → portTolls s l < laneDepth s l →
       Gives (.tollLand k) s (fun t => ∃ w, t = lanesSettle w ∧ (s.mesh.readySet = [] → t = w) ∧
         portTolls w l = portTolls s l + 1 ∧
         w.get (F.LANE_CNT_HI_TOLL_NET l) = s.get (F.LANE_CNT_HI_TOLL_NET l) - 1 ∧
         (s.get (F.LANE_CNT_LO_SEND_TOLLS l) < 256 → w.get (F.LANE_CNT_LO_SEND_TOLLS l) = s.get (F.LANE_CNT_LO_SEND_TOLLS l) + 1) ∧
         w.cores = s.cores ∧ w.mem = s.mem)))

/-- Audit and clear of a partition's lanes (R186, R187, R192). A start with p quiescent and no audit busy begins one; else it is
refused, with RESULT NOT_QUIESCENT (5) or, in a quiescent partition, BUSY (6). Drained, the audit ends DONE with the result of
the examination, 0 when every lane balances; not drained, with RESULT 4 and the lane; then what waited for its end acts. A clear
starts when none is busy and p is quiescent, else is ignored; once the nets are empty it gives every lane of the partition its
full tolls, and before it waits. -/
def Obligations.LaneAuditAndClearComplete : Prop :=
  ∀ (p : Fin 4) (s : State),
    let busy := s.flag F.LANE_AUDIT_STATUS_BUSY
    (busy = false → quiescent s p = true →
      Gives (.laneAuditStart p) s (fun t => t.flag F.LANE_AUDIT_STATUS_BUSY = true ∧ t.get F.LANE_AUDIT_STATUS_PART = p.val ∧
        t.get F.LANE_AUDIT_STATUS_CHECKED = 0 ∧ t.mesh = { s.mesh with auditHost := false, auditPart := p } ∧
        OnlyRegs s { t with mesh := s.mesh } (fun a => a = A.LANE_AUDIT_STATUS ∨ a = A.LANE_AUDIT_CTL))) ∧
    (quiescent s p = false →
      Gives (.laneAuditStart p) s (fun t => t.get F.LANE_AUDIT_STATUS_RESULT = 5 ∧ t.get F.LANE_AUDIT_STATUS_PART = p.val ∧
        OnlyRegs s t (fun a => a = A.LANE_AUDIT_STATUS ∨ a = A.LANE_AUDIT_CTL))) ∧
    (busy = true → quiescent s p = true →
      Gives (.laneAuditStart p) s (fun t => t.get F.LANE_AUDIT_STATUS_RESULT = 6 ∧ t.get F.LANE_AUDIT_STATUS_PART = p.val ∧
        OnlyRegs s t (fun a => a = A.LANE_AUDIT_STATUS ∨ a = A.LANE_AUDIT_CTL))) ∧
    (busy = true → s.mesh.auditPart = p.val →
      ((partLanes s p).all (netsEmpty s) = true →
        Gives (.auditDone) s (fun t => ∃ w, t = releaseStart w ∧ w.flag F.LANE_AUDIT_STATUS_BUSY = false ∧
          w.flag F.LANE_AUDIT_STATUS_DONE = true ∧ w.get F.LANE_AUDIT_STATUS_RESULT = (auditLanes s (partLanes s p) 0).1 ∧
          ((auditLanes s (partLanes s p) 0).1 = 0 → w.cores = s.cores ∧ w.mesh = { s.mesh with auditHost := false }))) ∧
      (∀ l, (partLanes s p).find? (fun l => !netsEmpty s l) = some l →
        exec .auditDone s = .next s ∧
        Gives .auditStuck s (fun t => ∃ w, t = releaseStart w ∧ w.flag F.LANE_AUDIT_STATUS_BUSY = false ∧
          w.flag F.LANE_AUDIT_STATUS_DONE = true ∧ w.get F.LANE_AUDIT_STATUS_RESULT = 4 ∧ w.get F.LANE_AUDIT_LANE_LANE = l))) ∧
    (s.flag F.LANE_CLEAR_BUSY = false → quiescent s p = true →
      Gives (.laneClearStart p) s (fun t => t.flag F.LANE_CLEAR_BUSY = true ∧ t.get F.LANE_CLEAR_PART = p.val ∧
        t.mesh = { s.mesh with clearPart := p })) ∧
    (s.flag F.LANE_CLEAR_BUSY = true ∨ quiescent s p = false → exec (.laneClearStart p) s = .next s) ∧
    (s.flag F.LANE_CLEAR_BUSY = true → s.mesh.clearPart = p.val →
      ((partLanes s p).all (netsEmpty s) = true →
        Gives .laneClearDone s (fun t => t.flag F.LANE_CLEAR_BUSY = false ∧
          ∀ l ∈ partLanes s p, portTolls t l = laneDepth s l ∧ t.reg (A.LANE_CNT_LO l) = BitVec.ofNat 64 (laneDepth s l))) ∧
      ((partLanes s p).all (netsEmpty s) = false → exec .laneClearDone s = .next s))

/-- WPT_CONFIG_WRITE (R202): outside SCANNING and HELD a value in range is taken, and a running timer takes a new schedule at
once; a write that is refused changes nothing but the refusal's record, whose cause is LOCKED (1) or RANGE (2). The snapshot and
release maps (R211): a write of the active maps outside SCANNING and HELD, or of the staged maps while no changeover is PENDING,
stores the entry that WPT_MAP_ADDR names; any other is refused as LOCKED; a read returns the entry. Each moves INDEX on by one.
PART_MAP_WRITE (R217): in BOOT, PROVISION or SERVICE each quadrant goes to the partition that the value names; in any other
device state the write is refused as LOCKED. -/
def Obligations.WaypointConfigurationCompletes : Prop :=
  (∀ (p : Fin 4) (r : Fin 5) (v : BitVec 32) (s : State),
     (partOpen s p = true → wptRange s p (4 * r.val) (v.setWidth 64) = true →
       Gives (.wptConfigWrite p r v) s (fun t => (∀ l ∈ wptFields p r, t.get l = bitsOf (v.setWidth 64) l.hi l.lo) ∧
         (r.val ≤ 2 → timerOn s p = true → t.reg (A.WPT_NEXT p) = BitVec.ofNat 64 (instantFrom t p (s.time.toNat + 1))) ∧
         (timerOn s p = false → t.reg (A.WPT_NEXT p) = 0) ∧ t.mem = s.mem ∧ t.time = s.time ∧ t.cores = s.cores)) ∧
     (partOpen s p = false → s.flag F.WPT_ERR_VALID = false →
       Gives (.wptConfigWrite p r v) s (fun t => t.get F.WPT_ERR_CAUSE = 1 ∧ t.get F.WPT_ERR_PART = p.val ∧ OnlyRegs s t (· = A.WPT_ERR))) ∧
     (partOpen s p = true → wptRange s p (4 * r.val) (v.setWidth 64) = false → s.flag F.WPT_ERR_VALID = false →
       Gives (.wptConfigWrite p r v) s (fun t => t.get F.WPT_ERR_CAUSE = 2 ∧ t.get F.WPT_ERR_PART = p.val ∧ OnlyRegs s t (· = A.WPT_ERR)))) ∧
  (∀ (v : BitVec 32) (s : State),
     let p := s.get F.WPT_MAP_ADDR_PART
     let i := s.get F.WPT_MAP_ADDR_INDEX
     let rel := s.flag F.WPT_MAP_ADDR_REL
     let staged := s.flag F.WPT_MAP_ADDR_STAGED
     (staged = false → partOpen s p = true →
       Gives (.mapDataWrite v) s (fun t => mapEntry t p false rel i = v.toNat ∧ t.get F.WPT_MAP_ADDR_INDEX = (i + 1) % 4096 ∧
         t.mem = s.mem ∧ t.cores = s.cores)) ∧
     (staged = true → s.flag (F.WPT_PSTATE_CO_PENDING p) = false →
       Gives (.mapDataWrite v) s (fun t => mapEntry t p true rel i = v.toNat ∧ t.get F.WPT_MAP_ADDR_INDEX = (i + 1) % 4096 ∧
         t.mem = s.mem ∧ t.cores = s.cores)) ∧
     ((staged = false ∧ partOpen s p = false) ∨ (staged = true ∧ s.flag (F.WPT_PSTATE_CO_PENDING p) = true) →
       s.flag F.WPT_ERR_VALID = false →
       Gives (.mapDataWrite v) s (fun t => t.get F.WPT_ERR_CAUSE = 1 ∧ t.get F.WPT_MAP_ADDR_INDEX = (i + 1) % 4096 ∧
         OnlyRegs s t (fun a => a = A.WPT_ERR ∨ a = A.WPT_MAP_ADDR))) ∧
     Gives .mapDataRead s (fun t => t.rdata.toNat = mapEntry s p staged rel i ∧
       t.get F.WPT_MAP_ADDR_INDEX = (i + 1) % 4096 ∧ t.wpt = s.wpt ∧ t.mem = s.mem ∧ t.cores = s.cores)) ∧
  (∀ (v : BitVec 32) (s : State),
     (s.dev = dsBoot ∨ s.dev = dsProvision ∨ s.dev = dsService →
       Gives (.partMapWrite v) s (fun t => ∀ q, q < 4 →
         t.quadPart q = if v.getLsbD (8 + q) then some (v.toNat / 2 ^ (2 * q) % 4) else none)) ∧
     (s.dev ≠ dsBoot → s.dev ≠ dsProvision → s.dev ≠ dsService → s.flag F.WPT_ERR_VALID = false →
       Gives (.partMapWrite v) s (fun t => t.get F.WPT_ERR_CAUSE = 1 ∧ OnlyRegs s t (· = A.WPT_ERR))))

/-- The partition commands (R219). PROVISION stops and clears the tiles; READY, with maps that pass the checks, leaves WNUM 0
and tiles that wait for the first scan, and refuses maps that fail as MAP (4) with the entry; START takes the next instant, or
at least 16 ticks on from READY, at once, after an audit, or at the instant a convoy's leader names; STOP is pending; STOP_NOW
stops the tiles. In any other state each is refused with cause STATE (3) and changes nothing but the record. -/
def Obligations.PartitionCommandsComplete : Prop :=
  ∀ (p : Fin 4) (s : State),
    ((s.pstate p = psReady ∨ s.pstate p = psStopped ∨ s.pstate p = psFaulted) →
      Gives (.provision p) s (fun t =>
        t.pstate p = (if (List.range 4).any (fun q => s.quadPart q == some p.val) then psProvisioning else psNone) ∧
        t.flag (F.WPT_FAULT_REC_VALID p) = false ∧ t.part p = { partReset p with mapB := (s.part p).mapB } ∧
        (∀ k ∈ s.partTiles p, (t.core k).run = .stopped ∧ (t.core k).pc = 0 ∧ ∀ r, (t.core k).greg r = 0) ∧ t.mem = s.mem)) ∧
    (s.pstate p = psProvisioning → snapLen s p ≤ 4096 → readyBad s p = none →
      Gives (.ready p) s (fun t => t.pstate p = psReady ∧ t.get (F.WPT_WNUM_WNUM p) = 0 ∧
        (∀ k ∈ s.partTiles p, (t.core k).run = .waypt) ∧
        (s.mesh.readySet = [] → (partLanes s p).all (netsEmpty s) = true → ∀ l ∈ partLanes s p, portTolls t l = laneDepth s l) ∧
        t.mem = s.mem)) ∧
    (∀ rel i, s.pstate p = psProvisioning → snapLen s p ≤ 4096 → readyBad s p = some (rel, i) → s.flag F.WPT_ERR_VALID = false →
      Gives (.ready p) s (fun t => t.get F.WPT_ERR_CAUSE = 4 ∧ t.flag F.WPT_ERR_REL = rel ∧ t.get F.WPT_ERR_INDEX = i % 4096 ∧
        OnlyRegs s t (· = A.WPT_ERR))) ∧
    (startLegal s p = true →
      (inConvoy s = false → auditOf s p = false →
        Gives (.start p) s (fun t => t.pstate p = psScanning ∧ t.dev = dsRun ∧ t.flag (F.WPT_PSTATE_CLEAN p) = false ∧
          (timerOn s p = false →
            t.reg (A.WPT_NEXT p) = BitVec.ofNat 64 (instantFrom s p (s.time.toNat + (if s.pstate p = psReady then 16 else 1)))) ∧
          (timerOn s p = true → t.reg (A.WPT_NEXT p) = s.reg (A.WPT_NEXT p)) ∧ t.mem = s.mem)) ∧
      (inConvoy s = false → auditOf s p = true →
        Gives (.start p) s (fun t => t.mesh.startHeld.read zeroN p = 1 ∧ { t with mesh := s.mesh } = s)) ∧
      (inConvoy s = true → leads s = true → auditOf s p = false →
        Gives (.start p) s (fun t => t.pstate p = psScanning ∧ t.mem = s.mem ∧
          t.reg (A.WPT_NEXT p) = BitVec.ofNat 64 (instantFrom s p (instantFrom s p (s.time.toNat + 1000))))) ∧
      (inConvoy s = true → leads s = false →
        Gives (.start p) s (fun t => t.pstate p = s.pstate p ∧ t.wpt = s.wpt ∧ t.cores = s.cores ∧ t.mem = s.mem))) ∧
    (s.pstate p = psScanning →
      Gives (.stop p) s (fun t => t.flag (F.WPT_PSTATE_STOP_PENDING p) = true ∧ t.pstate p = psScanning ∧ OnlyRegs s t (· = A.WPT_PSTATE p)) ∧
      Gives (.stopNow p) s (fun t => t.pstate p = psStopped ∧ t.flag (F.WPT_PSTATE_CLEAN p) = false ∧ (t.part p).scanPending = false ∧
        (∀ k ∈ s.partTiles p, (t.core k).run = .stopped ∧ ∀ r, (t.core k).greg r = (s.core k).greg r) ∧ t.mem = s.mem)) ∧
    (s.flag F.WPT_ERR_VALID = false →
      (s.pstate p ≠ psReady → s.pstate p ≠ psStopped → s.pstate p ≠ psFaulted →
        Gives (.provision p) s (fun t => t.get F.WPT_ERR_CAUSE = 3 ∧ OnlyRegs s t (· = A.WPT_ERR))) ∧
      (s.pstate p ≠ psScanning → Gives (.stop p) s (fun t => t.get F.WPT_ERR_CAUSE = 3 ∧ OnlyRegs s t (· = A.WPT_ERR)) ∧
        Gives (.stopNow p) s (fun t => t.get F.WPT_ERR_CAUSE = 3 ∧ OnlyRegs s t (· = A.WPT_ERR))) ∧
      (s.pstate p ≠ psProvisioning → Gives (.ready p) s (fun t => t.get F.WPT_ERR_CAUSE = 3 ∧ OnlyRegs s t (· = A.WPT_ERR))) ∧
      (startLegal s p = false → Gives (.start p) s (fun t => t.get F.WPT_ERR_CAUSE = 3 ∧ OnlyRegs s t (· = A.WPT_ERR))))

/-- Staging (R225): a start with a source in the depot makes the copy busy, one that is not allowed sets ERR and starts nothing;
the copy's end writes what is left of the source's 16 KiB into the tile's inactive code bank, changes no other byte and marks
the tile as staged; a word of the source that cannot be corrected sets ERR instead. A changeover (R226, R228, R267): a request
that passes every check is PENDING, one that does not is refused with its cause, and one while another is PENDING only shows
cause 3; in a convoy one made after the input decision of the waypoint before is refused as CONVOY (8). Once TOLL_NET is 0 the
switch exchanges the banks of its tiles and their maps and sets their pcs and registers to 0; its end is DONE, with the tiles'
data cleared where DATA asks it and the scan that waited started. -/
def Obligations.ChangeoverAndStagingComplete : Prop :=
  ((∀ (k : BitVec 8) (s : State),
     let src := (s.reg A.WPT_STAGE_SRC).toNat
     (s.flag F.WPT_STAGE_CTL_BUSY = false → coIncludes s k.toNat = false → inDepot src = true →
       inDepot (src + 0x3FFF) = true →
       Gives (.stageStart k) s (fun t => t.flag F.WPT_STAGE_CTL_BUSY = true ∧ t.flag F.WPT_STAGE_CTL_ERR = false ∧
         t.get F.WPT_STAGE_CTL_TILE = k.toNat ∧ t.wpt.stage = (k.toNat, src) ∧ t.wpt.stagePos = 0 ∧ t.mem = s.mem)) ∧
     (s.flag F.WPT_STAGE_CTL_BUSY = true ∨ coIncludes s k.toNat = true ∨ inDepot src = false ∨ inDepot (src + 0x3FFF) = false →
       Gives (.stageStart k) s (fun t => t.flag F.WPT_STAGE_CTL_ERR = true ∧ OnlyRegs s t (· = A.WPT_STAGE_CTL)))) ∧
   (∀ s : State,
     let k := s.wpt.stage.1
     let src := s.wpt.stage.2
     let n := s.wpt.stagePos
     let dst := 0x20000000 + 0x10000 * k + (if s.bitAt (F.WPT_BANK_BANK_B (k / 32)) (k % 32) then 0 else 0x4000)
     (Memory.wf s.mem = true → s.flag F.WPT_STAGE_CTL_BUSY = true → k < 256 → inDepot src = true → inDepot (src + 0x3FFF) = true →
       n ≤ 2048 → s.wpt.stageBad = false → s.anyUncorr memDepot (src / 8 + n) (2048 - n) = false →
       Gives .stageCopyDone s (fun t => t.flag F.WPT_STAGE_CTL_BUSY = false ∧ t.flag F.WPT_STAGE_CTL_DONE = true ∧
         t.bitAt (F.WPT_STAGED_STAGED (k / 32)) (k % 32) = true ∧
         (∀ i, 8 * n ≤ i → i < 0x4000 → t.byte (dst + i) = s.byte (src + i)) ∧
         (∀ a, (a < dst + 8 * n ∨ dst + 0x4000 ≤ a) → t.byte a = s.byte a))) ∧
     (s.flag F.WPT_STAGE_CTL_BUSY = true → k < 256 →
       s.wpt.stageBad = true ∨ (n < 2048 ∧ s.anyUncorr memDepot (src / 8 + n) (2048 - n) = true) →
       Gives .stageCopyDone s (fun t => t.flag F.WPT_STAGE_CTL_BUSY = false ∧ t.flag F.WPT_STAGE_CTL_ERR = true ∧
         t.bitAt (F.WPT_STAGED_STAGED (k / 32)) (k % 32) = s.bitAt (F.WPT_STAGED_STAGED (k / 32)) (k % 32))))) ∧
  ((∀ (p : Fin 4) (v : BitVec 31) (s : State),
     let u := genericWrite s (A.WPT_CO_CTL p) (v.setWidth 64 ||| 0x80000000#64)
     let w := (u.reg (A.WPT_CO_WNUM p)).toNat
     let past := inConvoy u && decide (w ≤ u.get (F.WPT_WNUM_WNUM p) + 1) && !(xchg u p false).isOpen
     (s.flag (F.WPT_PSTATE_CO_PENDING p) = false → coCheck u p w = 0 →
       (past = false → Gives (.changeoverRequest p v) s (fun t => t.flag (F.WPT_PSTATE_CO_PENDING p) = true ∧
         t.get (F.WPT_CO_STATUS_STATUS p) = 1 ∧ t.get (F.WPT_CO_STATUS_CAUSE p) = 0 ∧ t.wpt = s.wpt ∧ t.mem = s.mem)) ∧
       (past = true → Gives (.changeoverRequest p v) s (fun t => t.flag (F.WPT_PSTATE_CO_PENDING p) = false ∧
         t.get (F.WPT_CO_STATUS_STATUS p) = 3 ∧ t.get (F.WPT_CO_STATUS_CAUSE p) = 8 ∧ t.wpt = s.wpt ∧ t.mem = s.mem))) ∧
     (s.flag (F.WPT_PSTATE_CO_PENDING p) = false → coCheck u p w ≠ 0 →
       Gives (.changeoverRequest p v) s (fun t => t.flag (F.WPT_PSTATE_CO_PENDING p) = false ∧
         t.get (F.WPT_CO_STATUS_STATUS p) = 3 ∧ t.get (F.WPT_CO_STATUS_CAUSE p) = coCheck u p w ∧ t.wpt = s.wpt ∧ t.mem = s.mem)) ∧
     (s.flag (F.WPT_PSTATE_CO_PENDING p) = true →
       Gives (.changeoverRequest p v) s (fun t => t.get (F.WPT_CO_STATUS_CAUSE p) = 3 ∧ OnlyRegs s t (· = A.WPT_CO_STATUS p)))) ∧
   (∀ (p : Fin 4) (s : State),
     let clear := (coLanes s p).all (fun l => s.get (F.LANE_CNT_HI_TOLL_NET l) == 0)
     ((s.part p).coPhase = 1 → clear = true →
       Gives (.changeoverSwitch p) s (fun t => (t.part p).coPhase = 2 ∧
         (t.part p).mapB = ((s.part p).mapB != s.flag (F.WPT_CO_CTL_MAPS p)) ∧
         (∀ k ∈ coTiles s p, (t.core k).pc = 0 ∧ (∀ r, (t.core k).greg r = 0) ∧
           t.bitAt (F.WPT_BANK_BANK_B (k / 32)) (k % 32) = !s.bitAt (F.WPT_BANK_BANK_B (k / 32)) (k % 32)) ∧ t.mem = s.mem)) ∧
     ((s.part p).coPhase ≠ 1 ∨ clear = false → exec (.changeoverSwitch p) s = .next s)) ∧
   (∀ (p : Fin 4) (s : State),
     ((s.part p).coPhase = 2 → auditOf s p = false →
       Gives (.changeoverDone p) s (fun t => (t.part p).coPhase = 0 ∧ t.get (F.WPT_CO_STATUS_STATUS p) = 2 ∧
         t.flag (F.WPT_PSTATE_CO_PENDING p) = false ∧ (s.get (F.WPT_CO_CTL_DATA p) = 0 → t.mem = s.mem) ∧
         (s.get (F.WPT_CO_CTL_DATA p) = 2 → ∀ k ∈ coTiles s p, ∀ i, i < 0x8000 → t.byte (0x20008000 + 0x10000 * k + i) = 0) ∧
         ((s.part p).coScan = true → s.pstate p = psScanning → inConvoyP s p = false → (t.part p).live = true))) ∧
     ((s.part p).coPhase ≠ 2 ∨ auditOf s p = true → exec (.changeoverDone p) s = .next s)))

/-- Outside a convoy the guard test (R212) finds whether every tile has arrived. The waypoint that begins a scan (R29) advances
TIME to its instant, begins scan n and schedules the next instant one period on; one that finds the scan late is skipped, and
the scan goes on (R214). The snapshot fills four words at a time (R204). -/
def Obligations.WaypointAndGuardTestComplete : Prop :=
  (∀ (p : Fin 4) (s : State), timerOn s p = true → s.pllClock = true →
    let w := (s.reg (A.WPT_NEXT p)).toNat
    (∀ u, u = reach s (w - s.get (F.WPT_GUARD_GUARD p)) → u.role = roleIdle → wptFrozen u = false → u.pstate p = psScanning →
      (u.part p).scanPending = true → (u.part p).guardLate = none →
      (arrived u p = true →
        Gives (.guardTest p) s (fun t => (t.part p).guardLate = some false ∧ t.get (F.WPT_PSTATE_LATE_RUN p) = 0 ∧
          t.time = u.time ∧ t.pstate p = psScanning ∧ t.mem = u.mem ∧ t.cores = u.cores)) ∧
      (arrived u p = false → u.flag (F.WPT_POLICY_FAULT_ON_LATE p) = false → u.get (F.WPT_LATE_COUNT_COUNT p) < 2 ^ 32 - 1 →
        Gives (.guardTest p) s (fun t => (t.part p).guardLate = some true ∧
          t.get (F.WPT_LATE_COUNT_COUNT p) = u.get (F.WPT_LATE_COUNT_COUNT p) + 1 ∧ t.cores = u.cores ∧ t.mem = u.mem))) ∧
    (∀ (u : State) (n next : Nat), u = reach s w → n = u.get (F.WPT_WNUM_WNUM p) + (if (u.part p).started then 1 else 0) →
      next = w + u.get (F.WPT_PERIOD_PERIOD p) → next < 2 ^ 64 → u.role = roleIdle → mergeBusy u = false → wptFrozen u = false →
      w ∉ (u.part p).heldInst → s.pstate p = psScanning → u.pstate p = psScanning → (u.part p).goRun = false →
      ((u.part p).scanPending = false → (u.part p).coPhase = 0 → u.flag (F.WPT_PSTATE_STOP_PENDING p) = false →
        u.flag (F.WPT_PSTATE_HOLD_PENDING p) = false → u.flag (F.WPT_PSTATE_CO_PENDING p) = false → auditOf u p = false →
        ∀ vhold : Bool, Gives (.waypoint p vhold) s (fun t => (t.part p).scanPending = true ∧ (t.part p).live = true ∧
          (t.part p).scan = n ∧ t.get (F.WPT_WNUM_WNUM p) = n % 2 ^ 64 ∧ (t.reg (A.WPT_NEXT p)).toNat = next ∧ t.time = u.time ∧
          t.mem = u.mem)) ∧
      ((u.part p).scanPending = true → (u.part p).guardLate = some true → (u.cpart p).leaving = [] →
        u.get (F.WPT_SKIPPED_COUNT p) < 2 ^ 32 - 1 →
        ∀ vhold : Bool, Gives (.waypoint p vhold) s (fun t => t.get (F.WPT_SKIPPED_COUNT p) = u.get (F.WPT_SKIPPED_COUNT p) + 1 ∧
          (t.part p).scanPending = true ∧ (t.part p).guardLate = none ∧ (t.reg (A.WPT_NEXT p)).toNat = next ∧
          t.wpt.relOut = u.wpt.relOut ∧ t.mem = u.mem)))) ∧
  (∀ (p : Fin 4) (s : State),
    (timerOn s p = false ∨ s.pllClock = false → exec (.guardTest p) s = .next s ∧ ∀ vhold : Bool, exec (.waypoint p vhold) s = .next s) ∧
    (let q := s.part p
     let seen := if q.vis then 1 else 0
     let b := if q.fill.read nat0 seen < snapLen s p then seen else 1 - seen
     Gives (.snapshotFill p) s (fun t => OnlyRegs s { t with wpt := s.wpt } (fun _ => False) ∧
       (t.part p).fill.read nat0 b = min (snapLen s p) (q.fill.read nat0 b + 4) ∧
       (t.part p).fill.read nat0 (1 - b) = q.fill.read nat0 (1 - b))))

/-- The sixteen actions of an engine's step (R308, R311, R313, R315), whatever its FLOW and condition: a slot that acts has its
action's effect and moves by its FLOW; one that holds, as HOLD with a false condition does, performs no action and keeps its PC;
both apply their control field. TAKE on an empty FIFO takes the fill word and sets UNDERRUN, a push on a full one sets OVERRUN.
A reserved encoding halts the engine (R314). -/
def Obligations.EngineActionsComplete : Prop :=
  ∀ (e : Fin 128) (s : State),
    let x := s.engine e
    let w := engWord s e
    let f := e.val / 8 * 8 + wArg w % 8
    (∀ c ∈ [(0, Instr.iosNone e), (1, .iosSend e), (2, .iosSample e), (3, .iosXfer e), (4, .iosTake e), (5, .iosGive e), (6, .loadc e),
        (7, .reloadc e), (8, .accInc e), (9, .accDec e), (10, .accGive e), (11, .accClr e), (12, .flagSet e), (13, .flagClr e),
        (14, .raise e), (15, .drive e)], Steps s e c.1 → wFlow w = 3 → slotCond s e = false →
      Gives c.2 s (fun t => Stepped s t e ∧ t.get (F.IOS_PC_PC e) = s.get (F.IOS_PC_PC e) ∧
        t.get (F.IOS_CNT_VALUE e) = s.get (F.IOS_CNT_VALUE e) ∧ SameLines s t e)) ∧
    (wFlow w ≠ 3 ∨ slotCond s e = true →
      (Steps s e 0 → Gives (.iosNone e) s (fun t => Stepped s t e ∧ Flows s t e 0 ∧ SameLines s t e)) ∧
      (Steps s e 1 → Gives (.iosSend e) s (fun t => Stepped s t e ∧ Flows s t e 1 ∧ Sent s t e ∧
        (t.engine e).tx = x.tx ∧ (t.engine e).rx = x.rx)) ∧
      (Steps s e 2 → Gives (.iosSample e) s (fun t => Stepped s t e ∧ Flows s t e 2 ∧ Sampled s t e ∧ SameLines s t e)) ∧
      (Steps s e 3 → Gives (.iosXfer e) s (fun t => Stepped s t e ∧ Flows s t e 3 ∧ Sent s t e ∧ Sampled s t e)) ∧
      (Steps s e 4 →
        (∀ d rest, x.tx = d :: rest → Gives (.iosTake e) s (fun t => Stepped s t e ∧ Flows s t e 4 ∧ (t.engine e).tx = rest ∧
          (t.engine e).rx = x.rx ∧ t.get (F.IOS_SND_VALUE e) = d.toNat ∧ t.get (F.IOS_BITS_SND e) = s.get (F.IOS_OPT_SNDLEN e))) ∧
        (x.tx = [] → Gives (.iosTake e) s (fun t => Stepped s t e ∧ Flows s t e 4 ∧ SameLines s t e ∧
          t.get (F.IOS_SND_VALUE e) = s.get (F.IOS_FILLW_VALUE e) ∧ t.get (F.IOS_BITS_SND e) = s.get (F.IOS_OPT_SNDLEN e) ∧
          t.flag (F.IOS_STAT_UNDERRUN e) = true))) ∧
      (Steps s e 5 → Gives (.iosGive e) s (fun t => Stepped s t e ∧ Flows s t e 5 ∧ (t.engine e).tx = x.tx ∧
        Pushed s t e (BitVec.ofNat 32 (s.get (F.IOS_CAP_VALUE e))) ∧ t.get (F.IOS_CAP_VALUE e) = 0 ∧ t.get (F.IOS_BITS_CAP e) = 0)) ∧
      (Steps s e 6 → Gives (.loadc e) s (fun t => Stepped s t e ∧ Flows s t e 6 ∧ SameLines s t e)) ∧
      (Steps s e 7 → Gives (.reloadc e) s (fun t => Stepped s t e ∧ Flows s t e 7 ∧ SameLines s t e)) ∧
      (Steps s e 8 → Gives (.accInc e) s (fun t => Stepped s t e ∧ Flows s t e 8 ∧ SameLines s t e ∧
        t.get (F.IOS_ACC_VALUE e) = (s.get (F.IOS_ACC_VALUE e) + 1) % 2 ^ 32)) ∧
      (Steps s e 9 → Gives (.accDec e) s (fun t => Stepped s t e ∧ Flows s t e 9 ∧ SameLines s t e ∧
        t.get (F.IOS_ACC_VALUE e) = (s.get (F.IOS_ACC_VALUE e) + (2 ^ 32 - 1)) % 2 ^ 32)) ∧
      (Steps s e 10 → Gives (.accGive e) s (fun t => Stepped s t e ∧ Flows s t e 10 ∧ (t.engine e).tx = x.tx ∧
        Pushed s t e (BitVec.ofNat 32 (s.get (F.IOS_ACC_VALUE e))) ∧ t.get (F.IOS_ACC_VALUE e) = s.get (F.IOS_ACC_VALUE e))) ∧
      (Steps s e 11 → Gives (.accClr e) s (fun t => Stepped s t e ∧ Flows s t e 11 ∧ SameLines s t e ∧ t.get (F.IOS_ACC_VALUE e) = 0)) ∧
      (Steps s e 12 → Gives (.flagSet e) s (fun t => Stepped s t e ∧ Flows s t e 12 ∧ SameLines s t e ∧
        t.bitAt (F.IOS_FLAGS_FLAGS (f / 32)) (f % 32) = true)) ∧
      (Steps s e 13 → Gives (.flagClr e) s (fun t => Stepped s t e ∧ Flows s t e 13 ∧ SameLines s t e ∧
        t.bitAt (F.IOS_FLAGS_FLAGS (f / 32)) (f % 32) =
          ((flagCycle s).sets.getLsbD f && s.bitAt (F.IOS_FLAGS_FLAGS (f / 32)) (f % 32)))) ∧
      (Steps s e 14 → Gives (.raise e) s (fun t => Stepped s t e ∧ Flows s t e 14 ∧ SameLines s t e ∧
        t.flag (F.IOS_STAT_SIG e) = true)) ∧
      (Steps s e 15 → Gives (.drive e) s (fun t => Stepped s t e ∧ Flows s t e 15 ∧ (t.engine e).tx = x.tx ∧
        (t.engine e).rx = x.rx ∧ (t.engine e).outv = x.outv ∧ (t.engine e).drive = (wArg w % 2 == 1)))) ∧
    (engSteps s e = true → engReserved w = true →
      Gives (.engineHaltReserved e) s (fun t => engState t e = esHalted ∧ t.flag (F.IOS_STAT_ILLEGAL e) = true ∧
        t.get (F.IOS_PC_PC e) = s.get (F.IOS_PC_PC e) ∧ SameLines s t e ∧ (t.engine e).ctrl = x.ctrl ∧ t.mem = s.mem ∧
        t.cores = s.cores))

/-- Engine control and FIFOs (R302, R305, R307, R317, R318). A push or a pop of an initiator that R318 admits acts, a full FIFO
setting OVERRUN and an empty one UNDERRUN; any other is refused as OWNER (4) and pops nothing. Clears, enables and disables act
where the partition's state leaves the engine open and are refused as LOCKED (1) elsewhere; an enable whose checks fail is
refused with their cause. GO starts the WAITING engines that it names. IOS_FLAGSET and IOS_FLAGCLR (R315): the flags whose bits
are 1 are set or cleared and the others keep their values; of a group that owns an enabled engine of a partition none changes,
and the refusal is recorded as OWNER (4). -/
def Obligations.EngineControlCompletes : Prop :=
  (∀ (i : Agent) (e : Fin 128) (w : BitVec 32) (s : State),
     let x := s.engine e
     (fifoAccepts s i e = true →
       (x.tx.length < 4 → Gives (.txfPush i e w) s (fun t => (t.engine e).tx = x.tx ++ [w] ∧ (t.engine e).rx = x.rx ∧ t.regs = s.regs)) ∧
       (4 ≤ x.tx.length →
         Gives (.txfPush i e w) s (fun t => t.flag (F.IOS_STAT_OVERRUN e) = true ∧ OnlyRegs s t (· = A.IOS_STAT e))) ∧
       (∀ d rest, x.rx = d :: rest →
         Gives (.rxfPop i e) s (fun t => t.rdata = d.setWidth 64 ∧ (t.engine e).rx = rest ∧ (t.engine e).tx = x.tx ∧ t.regs = s.regs)) ∧
       (x.rx = [] → Gives (.rxfPop i e) s (fun t => t.rdata = 0 ∧ t.flag (F.IOS_STAT_UNDERRUN e) = true ∧
         OnlyRegs s { t with rdata := s.rdata } (· = A.IOS_STAT e)))) ∧
     (fifoAccepts s i e = false → s.flag F.IOS_ERR_VALID = false →
       Gives (.txfPush i e w) s (fun t => t.get F.IOS_ERR_CAUSE = 4 ∧ OnlyRegs s t (· = A.IOS_ERR)) ∧
       Gives (.rxfPop i e) s (fun t => t.rdata = 0 ∧ t.get F.IOS_ERR_CAUSE = 4 ∧
         OnlyRegs s { t with rdata := s.rdata } (· = A.IOS_ERR))) ∧
     (engLocked s e = false →
       Gives (.txClr e) s (fun t => (t.engine e).tx = [] ∧ (t.engine e).rx = x.rx ∧ t.regs = s.regs) ∧
       Gives (.rxClr e) s (fun t => (t.engine e).rx = [] ∧ (t.engine e).tx = x.tx ∧ t.regs = s.regs) ∧
       (s.flag (F.IOS_CTL_EN e) = true →
         Gives (.engineDisable e) s (fun t => t.flag (F.IOS_CTL_EN e) = false ∧ engState t e = esOff ∧ (t.engine e).tx = x.tx ∧
           (t.engine e).rx = x.rx ∧ t.reg (A.IOS_PC e) = s.reg (A.IOS_PC e) ∧ t.reg (A.IOS_CNT e) = s.reg (A.IOS_CNT e) ∧
           t.reg (A.IOS_ACC e) = s.reg (A.IOS_ACC e) ∧ t.reg (A.IOS_SND e) = s.reg (A.IOS_SND e) ∧
           t.reg (A.IOS_CAP e) = s.reg (A.IOS_CAP e) ∧ t.reg (A.IOS_BITS e) = s.reg (A.IOS_BITS e) ∧ t.mem = s.mem)) ∧
       (s.flag (F.IOS_CTL_EN e) = false → s.get (F.IOS_CTL_SYNC e) ≠ 3 →
         Gives (.engineDisable e) s (fun t => OnlyRegs s t (fun _ => False)))) ∧
     (∀ (sync : BitVec 2) (start : BitVec 5),
       (engLocked s e = false → s.flag (F.IOS_CTL_EN e) = false → enableCheck s e sync.toNat = 0 →
         Gives (.engineEnable e sync start) s (fun t => t.flag (F.IOS_CTL_EN e) = true ∧ engState t e = esWaiting ∧
           t.reg (A.IOS_PC e) = start.setWidth 64 ∧ t.get (F.IOS_CTL_SYNC e) = sync.toNat ∧ t.reg (A.IOS_SND e) = 0 ∧
           t.reg (A.IOS_CAP e) = 0 ∧ t.reg (A.IOS_BITS e) = 0 ∧ t.reg (A.IOS_CNT e) = s.reg (A.IOS_CNT e) ∧
           t.reg (A.IOS_ACC e) = s.reg (A.IOS_ACC e) ∧ (t.engine e).tx = x.tx ∧ (t.engine e).rx = x.rx ∧
           (t.engine e).drive = s.flag (F.IOS_OPT_DRIVE_INIT e) ∧ (t.engine e).outv = 0 ∧
           (t.engine e).startAt = (if sync = 0 then some (s.time.toNat + 1) else none) ∧ t.mem = s.mem)) ∧
       (engLocked s e = false → s.flag (F.IOS_CTL_EN e) = false → enableCheck s e sync.toNat ≠ 0 → s.flag F.IOS_ERR_VALID = false →
         Gives (.engineEnable e sync start) s (fun t => t.get F.IOS_ERR_CAUSE = enableCheck s e sync.toNat ∧
           t.get F.IOS_ERR_ENGINE = e.val ∧ OnlyRegs s t (· = A.IOS_ERR))) ∧
       (engLocked s e = true → s.flag F.IOS_ERR_VALID = false →
         ∀ c ∈ [Instr.engineEnable e sync start, .engineDisable e, .txClr e, .rxClr e],
           Gives c s (fun t => t.get F.IOS_ERR_CAUSE = 1 ∧ t.get F.IOS_ERR_ENGINE = e.val ∧ OnlyRegs s t (· = A.IOS_ERR)))) ∧
     (∀ k : Fin 4, Gives (.iosGo k w) s (fun t => t = { s with eng := t.eng } ∧ ∀ d : Nat, t.engine d =
       if d / 32 = k.val ∧ w.getLsbD (d % 32) = true ∧ engState s d = esWaiting ∧ s.get (F.IOS_CTL_SYNC d) = 2 ∧
         (s.engine d).startAt = none
       then { s.engine d with startAt := some (s.time.toNat + 1) } else s.engine d))) ∧
  (∀ (k : Fin 4) (v : BitVec 32) (s : State),
     let held := fun b : Nat => groupHeld s (4 * k.val + b / 8)
     Gives (.iosFlagset k v) s (fun t => OnlyRegs s t (fun a => a = A.IOS_FLAGS k ∨ a = A.IOS_ERR) ∧
       (∀ b, b < 32 → t.bitAt (F.IOS_FLAGS_FLAGS k) b = (s.bitAt (F.IOS_FLAGS_FLAGS k) b || (v.getLsbD b && !held b))) ∧
       ((∃ b, b < 32 ∧ v.getLsbD b = true ∧ held b = true) → s.flag F.IOS_ERR_VALID = false → t.get F.IOS_ERR_CAUSE = 4)) ∧
     Gives (.iosFlagclr k v) s (fun t => OnlyRegs s t (fun a => a = A.IOS_FLAGS k ∨ a = A.IOS_ERR) ∧
       (∀ b, b < 32 → t.bitAt (F.IOS_FLAGS_FLAGS k) b = (s.bitAt (F.IOS_FLAGS_FLAGS k) b && (!v.getLsbD b || held b))) ∧
       ((∃ b, b < 32 ∧ v.getLsbD b = true ∧ held b = true) → s.flag F.IOS_ERR_VALID = false → t.get F.IOS_ERR_CAUSE = 4)))

/-- Pin commands (R326–R330, R335, R505). Masked writes reach the pins whose owner admits the writer and leave every other bit;
a refused one is recorded as NOT_OWNER (1) and counted. A configuration that both owners admit is taken, any other refused as
LOCKED (2), RANGE (3) or NOT_OWNER. A level outside is seen, and the edge that its line selects registered with TIME. A bank's
supply comes and goes. A lock from a privileged context gives each lockable pin to SEC. -/
def Obligations.PinCommandsComplete : Prop :=
  (∀ (i : Agent) (b : Fin 10) (hi : Bool) (v : BitVec 32) (s : State),
    let base := if hi then 16 else 0
    let hits := fun dir j => base ≤ j ∧ j < base + 16 ∧ v.getLsbD (16 + (j - base)) = true ∧ pinAccepts s (.agent i) (32 * b.val + j) dir = true
    let bad := fun dir => ∃ j, j < 16 ∧ v.getLsbD (16 + j) = true ∧ pinAccepts s (.agent i) (32 * b.val + base + j) dir = false
    Gives (.pinOutWrite i b hi v) s (fun t =>
      (∀ j, j < 32 → (hits false j → t.bitAt (F.PIN_OUTV_LATCH b) j = v.getLsbD (j - base)) ∧
        (¬ hits false j → t.bitAt (F.PIN_OUTV_LATCH b) j = s.bitAt (F.PIN_OUTV_LATCH b) j)) ∧
      (∀ c : Fin 10, (c ≠ b → t.reg (A.PIN_OUTV c) = s.reg (A.PIN_OUTV c)) ∧ t.reg (A.PIN_DIRV c) = s.reg (A.PIN_DIRV c)) ∧
      (bad false → s.flag F.PIN_ERR_VALID = false → t.get F.PIN_ERR_CAUSE = 1 ∧
        t.get F.PIN_NOWN_COUNT_COUNT = min (s.get F.PIN_NOWN_COUNT_COUNT + 1) (2 ^ 32 - 1)) ∧ t.mem = s.mem ∧ t.cores = s.cores) ∧
    Gives (.pinDirWrite i b hi v) s (fun t =>
      (∀ j, j < 32 → (hits true j → t.bitAt (F.PIN_DIRV_DIR b) j = v.getLsbD (j - base)) ∧
        (¬ hits true j → t.bitAt (F.PIN_DIRV_DIR b) j = s.bitAt (F.PIN_DIRV_DIR b) j)) ∧
      (∀ c : Fin 10, (c ≠ b → t.reg (A.PIN_DIRV c) = s.reg (A.PIN_DIRV c)) ∧ t.reg (A.PIN_OUTV c) = s.reg (A.PIN_OUTV c)) ∧
      (bad true → s.flag F.PIN_ERR_VALID = false → t.get F.PIN_ERR_CAUSE = 1 ∧
        t.get F.PIN_NOWN_COUNT_COUNT = min (s.get F.PIN_NOWN_COUNT_COUNT + 1) (2 ^ 32 - 1)) ∧ t.mem = s.mem ∧ t.cores = s.cores)) ∧
  (∀ (i : Agent) (n : Fin 320) (v : BitVec 32) (s : State),
    let x := v.setWidth 64
    let o := pinOwner s n
    let o' := bitsOf x 31 28
    let locked := i ≠ .debug ∧ ∃ p, ownerPart o = some p ∧ configurable s p = false
    let range := ownerCodeOk o' = false ∨ bitsOf x 5 4 = 3
    let owned := cfgAccepts s i o = true ∧ cfgAccepts s i o' = true ∧ (o' = 12 ↔ o = 12)
    (¬ locked → ¬ range → owned →
      Gives (.pinCfgWrite i n v) s (fun t => pinOwner t n = o' ∧ t.mem = s.mem ∧ t.cores = s.cores ∧
        ∀ l ∈ [F.PIN_CFG_EVEN n, F.PIN_CFG_EVLINE n, F.PIN_CFG_WAKE n, F.PIN_CFG_PULL n, F.PIN_CFG_DRIVE n, F.PIN_CFG_OD n],
          t.get l = bitsOf x l.hi l.lo)) ∧
    (s.flag F.PIN_ERR_VALID = false → locked ∨ range ∨ ¬ owned →
      Gives (.pinCfgWrite i n v) s (fun t => OnlyRegs s t (fun a => a = A.PIN_ERR ∨ a = A.PIN_NOWN_COUNT) ∧
        t.get F.PIN_ERR_PIN = n.val ∧ (locked → t.get F.PIN_ERR_CAUSE = 2) ∧ (¬ locked → range → t.get F.PIN_ERR_CAUSE = 3) ∧
        (¬ locked → ¬ range → t.get F.PIN_ERR_CAUSE = 1 ∧
          t.get F.PIN_NOWN_COUNT_COUNT = min (s.get F.PIN_NOWN_COUNT_COUNT + 1) (2 ^ 32 - 1))))) ∧
  (∀ (n : Fin 320) (outside : Fin 5) (s : State),
    let k := s.get (F.PIN_CFG_EVLINE n)
    let u := { s with pads := { s.pads with ext := s.pads.ext.write zeroN n outside.val } }
    let now := lineInput u k
    let was := s.pads.evPrev.read noB k
    let sel := s.get (F.PIN_EVCFG_EDGE k)
    let edge := (now = true ∧ was = false ∧ (sel = 0 ∨ sel = 2)) ∨ (now = false ∧ was = true ∧ (sel = 1 ∨ sel = 2))
    Gives (.pinEvent n outside) s (fun t => t.pads.ext.read zeroN n = outside.val ∧ t.mem = s.mem ∧ t.cores = s.cores ∧
      (s.flag (F.PIN_CFG_EVEN n) = true → t.pads.evPrev.read noB k = now) ∧
      (s.flag (F.PIN_CFG_EVEN n) = true ∧ s.flag (F.PIN_EVCFG_EN k) = true ∧ edge →
        t.flag (F.PIN_EVCFG_PEND k) = true ∧ t.reg (A.PIN_EVTS k) = s.time ∧
        t.flag (F.PIN_EVCFG_OVF k) = (s.flag (F.PIN_EVCFG_OVF k) || s.flag (F.PIN_EVCFG_PEND k))) ∧
      (¬ (s.flag (F.PIN_CFG_EVEN n) = true ∧ s.flag (F.PIN_EVCFG_EN k) = true ∧ edge) → t.regs = s.regs))) ∧
  (∀ (b : Fin 10) (cls : Fin 3) (s : State),
    (s.flag (F.PIN_BANKSTAT_OK b) = true → Gives (.bankSupplyLost b) s (fun t => t.flag (F.PIN_BANKSTAT_OK b) = false ∧
      t.flag (F.PIN_BANKSTAT_LOST b) = true ∧ t.flag F.PIN_STAT_BANK_FAULT = true ∧ t.mem = s.mem ∧ t.cores = s.cores)) ∧
    (s.flag (F.PIN_BANKSTAT_OK b) = false → exec (.bankSupplyLost b) s = .next s) ∧
    Gives (.bankSupplyReturn b cls) s (fun t => t.flag (F.PIN_BANKSTAT_OK b) = true ∧ t.get (F.PIN_BANKSTAT_LEVEL b) = cls.val + 1 ∧
      t.mem = s.mem ∧ t.cores = s.cores)) ∧
  (∀ (k : Fin 4) (b : Fin 10) (v : BitVec 32) (s : State),
    (s.isPriv (256 + k.val) = true →
      Gives (.pinLock k b v) s (fun t => (∀ j, j < 32 →
        (v.getLsbD j = true → s.bitAt (F.SEC_PINLOCK_LOCK b) j = false → pinLockable s (32 * b.val + j) = true →
          t.bitAt (F.SEC_PINLOCK_LOCK b) j = true ∧ pinOwner t (32 * b.val + j) = 12) ∧
        (v.getLsbD j = false ∨ s.bitAt (F.SEC_PINLOCK_LOCK b) j = true ∨ pinLockable s (32 * b.val + j) = false →
          t.bitAt (F.SEC_PINLOCK_LOCK b) j = s.bitAt (F.SEC_PINLOCK_LOCK b) j ∧
          pinOwner t (32 * b.val + j) = pinOwner s (32 * b.val + j))) ∧ t.mem = s.mem ∧ t.cores = s.cores)) ∧
    (s.isPriv (256 + k.val) = false → exec (.pinLock k b v) s = .next s))

/-- Conversions (R272, R275–R283, R297): a due one starts with the coefficients in force; at its end its corrected result, of
the slice or of the spare, enters the average, the 2^AVG-th making a result, and an overlap's pair its comparison; a visible
result updates its word with the next SEQ and VALID and goes to the ring, or is lost by a full one; a trigger starts, resumes or
extends a burst, or is missed; configuration writes that pass their checks are taken and others are refused with their cause.
Rings (R285, R286): enabling one that lies aligned in the depot empties it; the writer's oldest entry, where the ring is not
full, is stored at WPTR, which moves on, and no other byte changes but what a staging copy of those bytes has read before them;
a read pointer not further behind than the ring's size is taken, and one further behind refused as RPTR (5). -/
def Obligations.ConversionAndRingCommandsComplete : Prop :=
  ((∀ (i : Fin 32) (s : State), convDue s i = true →
     Gives (.conversionStart i) s (fun t => (∃ c, (t.slice i).conv = some c ∧ c.start = s.time.toNat ∧ c.entry = (s.slice i).pos ∧
       c.slice = convWords s i ∧ c.spare = convWords s (32 + i.val / 8) ∧ c.onSpare = s.flag (F.ADC_SSTAT_ON_SPARE i) ∧
       c.both = inOverlap s i) ∧ t.regs = s.regs ∧ t.mem = s.mem ∧ t.cores = s.cores)) ∧
   (∀ (i : Fin 32) (raw rawSp : BitVec 18) (c : Conv) (s : State), (s.slice i).conv = some c → c.start + 50 ≤ s.time.toNat →
     let x := s.slice i
     let md := entryInput s i c.entry
     let rs := convResult raw c.slice c.trims md.2 0
     let rp := convResult rawSp c.spare c.trims md.2 c.ho
     let r := if c.onSpare then rp else rs
     let k := sliceAvg s i
     let sum := x.accSum.read zeroI c.entry + r.1
     let n := x.accN.read zeroN c.entry + 1
     let mean := if k = 0 then sum else (sum + 2 ^ (k - 1)) / 2 ^ k
     Gives (.conversionEnd i raw rawSp) s (fun t => (t.slice i).conv = none ∧ t.mem = s.mem ∧ t.cores = s.cores ∧
       (t.slice i).results = (if n = 2 ^ k then
         x.results ++ [⟨md.1, BitVec.ofInt 32 mean, x.accClip.read noB c.entry || r.2, c.onSpare⟩] else x.results) ∧
       (t.calGroup (i.val / 8)).cmpN = (s.calGroup (i.val / 8)).cmpN + (if c.both then 1 else 0) ∧
       (t.calGroup (i.val / 8)).cmpSum = (s.calGroup (i.val / 8)).cmpSum + (if c.both then rp.1 - rs.1 else 0) ∧
       (x.offPending = false → (t.slice i).pos = (c.entry + 1) % max 1 (sliceLen s i) ∧ (t.slice i).nextStart = c.start + 50 ∧
         (t.slice i).burst = x.burst - 1 ∧ (n ≠ 2 ^ k → (t.slice i).accSum.read zeroI c.entry = sum ∧
           (t.slice i).accN.read zeroN c.entry = n) ∧ t.regs = s.regs) ∧
       (x.offPending = true → sliceMode t i = 0 ∧ (t.slice i).burst = 0 ∧ OnlyRegs { s with adc := t.adc } t (· = A.ADC_SCFG i)))) ∧
   (∀ (i : Fin 32) (r : AdcResult) (rest : List AdcResult) (s : State), (s.slice i).results = r :: rest → r.input < 8 →
     let a := 8 * i.val + r.input
     let en := s.flag (F.ADC_RCTL_EN i)
     let q := (s.slice i).ringq
     let full := 2 ^ s.get (F.ADC_RCTL_SIZE i) ≤ ringFill s i ∨ 16 ≤ q.length
     Gives (.resultVisible i) s (fun t => (t.slice i).results = rest ∧ bitsOf (t.reg (A.ADC_LATEST a)) 31 0 = r.value.toNat ∧
       t.get (F.ADC_LATEST_SEQ a) = (s.get (F.ADC_LATEST_SEQ a) + 1) % 2 ^ 16 ∧ t.flag (F.ADC_LATEST_VALID a) = true ∧
       t.flag (F.ADC_LATEST_CLIP a) = r.clip ∧ t.flag (F.ADC_LATEST_SPARE a) = r.spare ∧
       (r.clip = true → t.flag (F.ADC_SSTAT_CLIP i) = true) ∧
       (en = true → ¬ full → ∃ w, (t.slice i).ringq = q ++ [w]) ∧ (¬ (en = true ∧ ¬ full) → (t.slice i).ringq = q) ∧
       (en = true → full → t.flag (F.ADC_SSTAT_OVR i) = true ∧
         t.get (F.ADC_RDROP_COUNT i) = min (s.get (F.ADC_RDROP_COUNT i) + 1) (2 ^ 32 - 1)) ∧ t.mem = s.mem ∧ t.cores = s.cores)) ∧
   (∀ (i : Fin 4) (s : State), trgDue s i = true →
     Gives (.triggerTick i) s (fun t => t.adc.trgPend.read zeroN i = 0 ∧ t.mem = s.mem ∧ t.cores = s.cores ∧
       (∀ j : Nat, j < 32 → sliceMode s j = 2 → s.get (F.ADC_SCFG_TRIG j) = i.val →
         let x := s.slice j
         let y := t.slice j
         let ends := x.burst = 1 ∧ (x.conv.map (fun c => c.start + 50)) = some s.time.toNat
         (sliceFrozen s j = false → ends → y.burst = 1 + sliceLen s j * 2 ^ sliceAvg s j) ∧
         (sliceFrozen s j = false → ¬ ends → x.conv = none → x.burst = 0 →
           y.burst = sliceLen s j * 2 ^ sliceAvg s j ∧ y.nextStart = s.time.toNat ∧ y.pos = 0) ∧
         (sliceFrozen s j = false → x.conv = none → 0 < x.burst → x.nextStart < s.time.toNat →
           y.burst = x.burst ∧ y.nextStart = s.time.toNat ∧ y.pos = x.pos) ∧
         (sliceFrozen s j = true ∨ (¬ ends ∧ (x.conv ≠ none ∨ (0 < x.burst ∧ s.time.toNat ≤ x.nextStart))) →
           t.flag (F.ADC_SSTAT_TRIG_MISS j) = true ∧ y = x)) ∧
       (∀ e ∈ activeEngines s, s.flag (F.IOS_CTL_EN e) = true → t.bitAt (F.IOS_PC_EVT e) i = true ∧
         (s.bitAt (F.IOS_PC_EVT e) i = true → t.flag (F.IOS_STAT_EVT_MISS e) = true)) ∧
       (∀ g : Nat, g < 16 → s.flag (F.DMA_CTL_EN g) = true → s.get (F.DMA_CTL_PACE g) = 3 → s.get (F.DMA_CTL_SEL g) = i.val →
         t.dma.trig.read noB g = true ∧ (s.dma.trig.read noB g = true → t.flag (F.DMA_STAT_MISS g) = true)))) ∧
   (∀ (i : Fin 4) (s : State),
     (s.flag (F.ADC_TRIGCFG_EN i) = true →
       Gives (.fire i) s (fun t => t.adc.trgPend.read zeroN i = s.time.toNat + 1 ∧ t = { s with adc := { s.adc with trgPend := t.adc.trgPend } })) ∧
     (s.flag (F.ADC_TRIGCFG_EN i) = false → exec (.fire i) s = .next s)) ∧
   (∀ (i : Fin 32) (v : BitVec 32) (s : State), anaOff s = false →
     let len := v.toNat / 2 ^ 24 % 16
     let mode := v.toNat % 4
     let avg := v.toNat / 2 ^ 8 % 16
     let ready := s.flag F.ADC_REF_READY = true ∧ s.flag F.CAL_STATUS_BUSY = false
     (sliceMode s i = 0 → 1 ≤ len → len ≤ 8 →
       Gives (.sliceConfigWrite i true v) s (fun t => sliceLen t i = len ∧ OnlyRegs s t (· = A.ADC_SSEQ i))) ∧
     (sliceMode s i = 0 → mode ≠ 3 → avg ≤ 8 → mode = 0 ∨ ready →
       Gives (.sliceConfigWrite i false v) s (fun t => sliceMode t i = mode ∧ sliceAvg t i = avg ∧ t.mem = s.mem ∧ t.cores = s.cores ∧
         (mode = 0 → t.adc = s.adc) ∧
         (mode ≠ 0 → (t.slice i).pos = 0 ∧ (t.slice i).conv = none ∧ (t.slice i).nextStart = s.time.toNat + 1 ∧
           ∀ m, m < 8 → t.flag (F.ADC_LATEST_VALID (8 * i.val + m)) = false ∧ t.get (F.ADC_LATEST_SEQ (8 * i.val + m)) = 0))) ∧
     (sliceMode s i ≠ 0 → mode = 0 →
       ((s.slice i).conv = none → Gives (.sliceConfigWrite i false v) s (fun t => sliceMode t i = 0 ∧ (t.slice i).burst = 0 ∧ t.mem = s.mem)) ∧
       ((s.slice i).conv ≠ none → Gives (.sliceConfigWrite i false v) s (fun t => (t.slice i).offPending = true ∧
         sliceMode t i = sliceMode s i ∧ t.mem = s.mem))) ∧
     (s.flag F.ADC_ERR_VALID = false →
       (sliceMode s i ≠ 0 → Gives (.sliceConfigWrite i true v) s (fun t => t.get F.ADC_ERR_CAUSE = 1 ∧ OnlyRegs s t (· = A.ADC_ERR))) ∧
       (sliceMode s i ≠ 0 → mode ≠ 0 →
         Gives (.sliceConfigWrite i false v) s (fun t => t.get F.ADC_ERR_CAUSE = 1 ∧ OnlyRegs s t (· = A.ADC_ERR))) ∧
       (sliceMode s i = 0 → len = 0 ∨ 8 < len →
         Gives (.sliceConfigWrite i true v) s (fun t => t.get F.ADC_ERR_CAUSE = 3 ∧ OnlyRegs s t (· = A.ADC_ERR))) ∧
       (sliceMode s i = 0 → mode = 3 ∨ 8 < avg →
         Gives (.sliceConfigWrite i false v) s (fun t => t.get F.ADC_ERR_CAUSE = 3 ∧ OnlyRegs s t (· = A.ADC_ERR))) ∧
       (sliceMode s i = 0 → mode = 1 ∨ mode = 2 → avg ≤ 8 → ¬ ready →
         Gives (.sliceConfigWrite i false v) s (fun t => t.get F.ADC_ERR_CAUSE = 2 ∧ OnlyRegs s t (· = A.ADC_ERR))))) ∧
   (∀ (en sel : Bool) (s : State), anaOff s = false →
     let on := ∃ i, i < 32 ∧ sliceMode s i ≠ 0
     (s.flag F.ADC_REF_SEL = sel ∨ ¬ on →
       Gives (.refWrite en sel) s (fun t => t.flag F.ADC_REF_EN = en ∧ t.flag F.ADC_REF_SEL = sel ∧
         t.flag F.ADC_REF_READY = (s.flag F.ADC_REF_READY && s.flag F.ADC_REF_EN == en && s.flag F.ADC_REF_SEL == sel) ∧
         OnlyRegs s t (· = A.ADC_REF))) ∧
     (s.flag F.ADC_REF_SEL ≠ sel → on → s.flag F.ADC_ERR_VALID = false →
       Gives (.refWrite en sel) s (fun t => t.get F.ADC_ERR_CAUSE = 1 ∧ OnlyRegs s t (· = A.ADC_ERR)))) ∧
   (∀ s : State, (s.flag F.ADC_REF_EN = true → Gives .refSettled s (fun t => t.flag F.ADC_REF_READY = true ∧ OnlyRegs s t (· = A.ADC_REF))) ∧
     (s.flag F.ADC_REF_EN = false → exec .refSettled s = .next s))) ∧
  (∀ (i : Fin 32) (s : State),
     (anaOff s = false →
       (∀ (size : BitVec 5) (thr : BitVec 21),
         let base := (s.reg (A.ADC_RBASE i)).toNat
         let fits := base % (4 * 2 ^ size.toNat) = 0 ∧ inDepot base = true ∧ inDepot (base + 4 * 2 ^ size.toNat - 1) = true
         (s.flag (F.ADC_RCTL_EN i) = false → 6 ≤ size.toNat → size.toNat ≤ 20 → fits →
           Gives (.ringEnable i size thr) s (fun t => t.flag (F.ADC_RCTL_EN i) = true ∧ t.get (F.ADC_RCTL_SIZE i) = size.toNat ∧
             t.get (F.ADC_RCTL_THR i) = thr.toNat ∧ t.get (F.ADC_RWPTR_WPTR i) = 0 ∧ t.get (F.ADC_RRPTR_RPTR i) = 0 ∧
             (t.slice i).ringq = [] ∧ (t.slice i).ringBase = base ∧ (t.slice i).ringSize = size.toNat ∧ t.mem = s.mem)) ∧
         (s.flag F.ADC_ERR_VALID = false →
           (s.flag (F.ADC_RCTL_EN i) = true →
             Gives (.ringEnable i size thr) s (fun t => t.get F.ADC_ERR_CAUSE = 1 ∧ OnlyRegs s t (· = A.ADC_ERR))) ∧
           (s.flag (F.ADC_RCTL_EN i) = false → size.toNat < 6 ∨ 20 < size.toNat →
             Gives (.ringEnable i size thr) s (fun t => t.get F.ADC_ERR_CAUSE = 3 ∧ OnlyRegs s t (· = A.ADC_ERR))) ∧
           (s.flag (F.ADC_RCTL_EN i) = false → 6 ≤ size.toNat → size.toNat ≤ 20 → ¬ fits →
             Gives (.ringEnable i size thr) s (fun t => t.get F.ADC_ERR_CAUSE = 4 ∧ OnlyRegs s t (· = A.ADC_ERR))))) ∧
       (∀ v : BitVec 32,
         let behind := (s.get (F.ADC_RWPTR_WPTR i) + 2 ^ 32 - v.toNat) % 2 ^ 32
         (behind ≤ 2 ^ s.get (F.ADC_RCTL_SIZE i) →
           Gives (.rrptrWrite i v) s (fun t => t.get (F.ADC_RRPTR_RPTR i) = v.toNat ∧ OnlyRegs s t (· = A.ADC_RRPTR i))) ∧
         (2 ^ s.get (F.ADC_RCTL_SIZE i) < behind → s.flag F.ADC_ERR_VALID = false →
           Gives (.rrptrWrite i v) s (fun t => t.get F.ADC_ERR_CAUSE = 5 ∧ OnlyRegs s t (· = A.ADC_ERR))))) ∧
     (∀ (w : BitVec 32) (rest : List (BitVec 32)), (s.slice i).ringq = w :: rest → dmaFrozen s = false →
       ringFill s i < 2 ^ (s.slice i).ringSize →
       let n := s.get (F.ADC_RWPTR_WPTR i)
       let a := (s.slice i).ringBase + 4 * (n % 2 ^ (s.slice i).ringSize)
       let staged := s.flag F.WPT_STAGE_CTL_BUSY = true ∧ s.wpt.stage.2 ≤ a ∧ a < s.wpt.stage.2 + 0x4000
       let bank := shadowBank s s.wpt.stage.1
       (zeroingAt s a = false → inLockedCr s a = false → inDepot a = true → s.eccOf memDepot (a / 8) ≠ 2 →
         Gives (.ringEntryWrite i) s (fun t => t.bytes a 4 = w.toNat ∧
           (∀ b : Nat, (b < a ∨ a + 4 ≤ b) → (staged → b < bank ∨ bank + 0x4000 ≤ b) → t.byte b = s.byte b) ∧
           t.get (F.ADC_RWPTR_WPTR i) = (n + 1) % 2 ^ 32 ∧ (t.slice i).ringq = rest)) ∧
       (zeroingAt s a = false → inLockedCr s a = true →
         Gives (.ringEntryWrite i) s (fun t => t.flag (F.ADC_RCTL_EN i) = false ∧ t.flag (F.ADC_SSTAT_RING_ERR i) = true ∧
           (t.slice i).ringq = [] ∧ t.mem = s.mem))))

/-- Calibration (R287–R296). Each phase of a group's rotation ends in the next: the spare takes over with the mean difference or
is suspect, the live record becomes valid, the slice comes back or stays under cover. The layer load takes the user layer, else
the factory layer, else ideal coefficients. RESTORE_FACTORY and COMMIT_USER start unless one runs or no layer or no place serves
them, and end with their layer in force or with the flash error. CLEAR_FAILED clears and restarts; CAL_COEF_DATA reads in turn.
-/
def Obligations.CalibrationCommandsComplete : Prop :=
  (∀ (g : Fin 4) (m : List (BitVec 32)) (s : State),
    let i := 8 * g.val + calSlice s g
    (calPhase s g = 1 → calSlice s g < 8 →
      (sliceMode s i = 0 → Gives (.overlapInEnd g) s (fun t => calPhase t g = 2 ∧ OnlyRegs s t (· = A.CAL_GROUP g))) ∧
      (sliceMode s i ≠ 0 → 64 ≤ (s.calGroup g).cmpN → mismatch s g = false →
        Gives (.overlapInEnd g) s (fun t => t.flag (F.ADC_SSTAT_ON_SPARE i) = true ∧ calPhase t g = 2 ∧
          (t.calGroup g).ho = BitVec.ofInt 32 (4 * (s.calGroup g).cmpSum) ∧ t.mem = s.mem)) ∧
      (sliceMode s i ≠ 0 → 64 ≤ (s.calGroup g).cmpN → mismatch s g = true →
        Gives (.overlapInEnd g) s (fun t => t.flag (F.CAL_GROUP_SPARE_FAILED g) = true ∧ calPhase t g = 0 ∧
          t.flag (F.ADC_SSTAT_SPARE_FAIL (8 * g.val)) = true ∧ t.flag (F.ADC_SSTAT_ON_SPARE i) = s.flag (F.ADC_SSTAT_ON_SPARE i)))) ∧
    (calPhase s g = 2 → calSlice s g < 8 →
      Gives (.calibrateEnd g m) s (fun t => liveValid t i = true ∧ (∀ w, w < 20 → liveWord t i w = m.getD w 0) ∧
        (compares s g = true → calPhase t g = 3) ∧
        (compares s g = false → (calSlice t g, calPhase t g) = nextStep s g ∧ t.flag (F.ADC_SSTAT_ON_SPARE i) = false) ∧ t.mem = s.mem)) ∧
    (calPhase s g = 3 → calSlice s g < 8 → compares s g = true → 64 ≤ (s.calGroup g).cmpN → mismatch s g = true →
      Gives (.overlapOutEnd g) s (fun t => t.bitAt (F.CAL_GROUP_FAILED g) (calSlice s g) = true ∧ t.flag (F.CAL_GROUP_COVER g) = true ∧
        t.flag (F.ADC_SSTAT_CAL_FAIL i) = true ∧ calPhase t g = 0 ∧ t.flag (F.ADC_SSTAT_ON_SPARE i) = s.flag (F.ADC_SSTAT_ON_SPARE i))) ∧
    (calPhase s g = 3 → calSlice s g < 8 → compares s g = false ∨ (64 ≤ (s.calGroup g).cmpN ∧ mismatch s g = false) →
      Gives (.overlapOutEnd g) s (fun t => t.flag (F.ADC_SSTAT_ON_SPARE i) = false ∧ t.flag (F.CAL_GROUP_COVER g) = false ∧
        (calSlice t g, calPhase t g) = nextStep s g ∧ t.mem = s.mem)) ∧
    (calPhase s g = 4 → Gives (.spareSelfEnd g m) s (fun t => liveValid t (32 + g.val) = true ∧
      (∀ w, w < 20 → liveWord t (32 + g.val) w = m.getD w 0) ∧ (calSlice t g, calPhase t g) = nextStep s g ∧ t.mem = s.mem))) ∧
  (∀ s : State,
    let ru := layerRows s userRows
    let rf := layerRows ru.2 factoryRows
    let u := layerValid s userRows ru.1
    let f := layerValid s factoryRows rf.1
    s.flag F.CAL_STATUS_BUSY = true → s.get F.CAL_STATUS_CMD = 0 → s.flag F.PWR_DOM_STAT_ANA = true → rowsBusy s = false →
    Gives .calLoadDone s (fun t => t.flag F.CAL_STATUS_BUSY = false ∧
      t.flag F.CAL_STATUS_USER_VALID = u ∧ t.flag F.CAL_STATUS_FACTORY_VALID = f ∧
      t.get F.CAL_STATUS_LAYER = (if u then 2 else if f then 1 else 0) ∧
      t.adc.layer = (if u then (loadLayer s ru.1).adc.layer else if f then (loadLayer s rf.1).adc.layer else []))) ∧
  (∀ s : State,
    (s.flag F.CAL_STATUS_BUSY = true →
      Gives .restoreFactory s (fun t => t.get F.CAL_STATUS_RESULT = 1 ∧ OnlyRegs s t (· = A.CAL_STATUS)) ∧
      Gives .commitUser s (fun t => t.get F.CAL_STATUS_RESULT = 1 ∧ OnlyRegs s t (· = A.CAL_STATUS))) ∧
    (s.flag F.CAL_STATUS_BUSY = false →
      (s.flag F.CAL_STATUS_FACTORY_VALID = true →
        Gives .restoreFactory s (fun t => t.flag F.CAL_STATUS_BUSY = true ∧ t.get F.CAL_STATUS_CMD = 1 ∧ t.adc.calHold = true ∧
          t.mem = s.mem)) ∧
      (s.flag F.CAL_STATUS_FACTORY_VALID = false →
        Gives .restoreFactory s (fun t => t.flag F.CAL_STATUS_BUSY = false ∧ t.get F.CAL_STATUS_RESULT = 2 ∧ t.mem = s.mem)) ∧
      (bankState s 8 ≠ fsIdle ∨ s.flash.pend.length < 16 →
        Gives .commitUser s (fun t => t.flag F.CAL_STATUS_BUSY = true ∧ t.get F.CAL_STATUS_CMD = 2 ∧
          t.flag F.CAL_STATUS_USER_VALID = false ∧ t.adc.commit = 4 ∧ (∀ j, j < 1440 → t.adc.fold.read zero32 j = foldWord s j) ∧
          (bankState s 8 = fsIdle → bankState t 8 = fsCheck))) ∧
      (bankState s 8 = fsIdle → 16 ≤ s.flash.pend.length →
        Gives .commitUser s (fun t => t.flag F.CAL_STATUS_BUSY = false ∧ t.get F.CAL_STATUS_RESULT = 3 ∧ t.mem = s.mem))) ∧
    (s.flag F.CAL_STATUS_BUSY = true → s.get F.CAL_STATUS_CMD = 1 → rotationEnded s = true → s.onGrid 50 = true → infoFree s = true →
      s.pwr.nvmOff = false →
      let u := if s.flag F.CAL_STATUS_USER_VALID then (flashWord s (userRows + 0x20) 0).put F.CAL_STATUS_USER_VALID 0 else s
      let r := layerRows u factoryRows
      (r.1.isSome = true →
        Gives .restoreFactoryDone s (fun t => t.flag F.CAL_STATUS_BUSY = false ∧ t.get F.CAL_STATUS_RESULT = 0 ∧
          t.get F.CAL_STATUS_LAYER = 1 ∧ t.get F.CAL_LIVE_LIVE_VALID = 0 ∧ t.get F.CAL_LIVE_SP_LIVE_VALID = 0 ∧
          t.flag F.CAL_STATUS_USER_VALID = false ∧ t.adc.layer = (loadLayer s r.1).adc.layer)) ∧
      (r.1.isSome = false →
        Gives .restoreFactoryDone s (fun t => t.flag F.CAL_STATUS_BUSY = false ∧ t.get F.CAL_STATUS_RESULT = 3))) ∧
    (s.flag F.CAL_STATUS_BUSY = true → s.get F.CAL_STATUS_CMD = 2 → s.adc.commit = 8 →
      Gives (.commitUserDone true) s (fun t => t.flag F.CAL_STATUS_BUSY = false ∧ t.get F.CAL_STATUS_RESULT = 0 ∧
        t.get F.CAL_STATUS_LAYER = 2 ∧ t.flag F.CAL_STATUS_USER_VALID = true ∧
        (∀ c w, c < 36 → w < 40 → layerWord t c w = s.adc.fold.read zero32 (40 * c + w)) ∧
        ∀ b : Nat, (b < userRows ∨ userRows + 0x16C0 ≤ b) → t.byte b = s.byte b) ∧
      Gives (.commitUserDone false) s (fun t => t.flag F.CAL_STATUS_BUSY = false ∧ t.get F.CAL_STATUS_RESULT = 3 ∧ t.mem = s.mem)) ∧
    (∀ mask : BitVec 4, Gives (.clearFailed mask) s (fun t => t.mem = s.mem ∧ ∀ g, g < 4 →
      (mask.getLsbD g = true → groupFailed s g = true → groupFailed t g = false ∧
        calPhase t g = (if s.flag (F.CAL_GROUP_COVER g) then 2 else if rotates s g then (if sliceMode s (8 * g) = 0 then 2 else 1)
          else calPhase s g)) ∧
      (mask.getLsbD g = false ∨ groupFailed s g = false → t.reg (A.CAL_GROUP g) = s.reg (A.CAL_GROUP g)))) ∧
    (let c := s.get F.CAL_COEF_ADDR_CONV
     let w := s.get F.CAL_COEF_ADDR_WORD
     let live := s.flag F.CAL_COEF_ADDR_LIVE
     Gives .coefDataRead s (fun t => t.get F.CAL_COEF_ADDR_WORD = (if 39 ≤ w then 0 else w + 1) ∧
       t.rdata.toNat = (if 36 ≤ c ∨ 40 ≤ w then 0 else if live = false then (layerWord s c w).toNat
         else if liveValid s c = true ∧ w < 20 then (liveWord s c w).toNat else 0) ∧
       OnlyRegs s { t with rdata := s.rdata } (· = A.CAL_COEF_ADDR))))

/-- DMA commands (R25, R26): a start that passes its checks enables the channel and one that fails a check only records its
cause; a stop with no unit in progress ends the channel, else it stops after its unit. The unit of the channel that wins
arbitration copies a word of tile SRAM, which no staging copy is reading, changes no other byte and takes its size from the
length. -/
def Obligations.DmaCommandsComplete : Prop :=
  ∀ (g : Fin 16) (s : State),
    (∀ v : BitVec 31,
      let c := dmaCheck s g (v.setWidth 64 ||| 0x80000000)
      (s.flag (F.DMA_CTL_EN g) = false → c = 0 →
        Gives (.dmaStart g v) s (fun t => t.flag (F.DMA_CTL_EN g) = true ∧ t.get (F.DMA_LEN_LEN g) = s.get (F.DMA_LEN_LEN g) ∧
          OnlyRegs s { t with dma := s.dma } (· = A.DMA_CTL g))) ∧
      (s.flag F.DMA_ERR_VALID = false → s.flag (F.DMA_CTL_EN g) = true ∨ c ≠ 0 →
        Gives (.dmaStart g v) s (fun t => t.get F.DMA_ERR_CAUSE = (if s.flag (F.DMA_CTL_EN g) then 1 else c) ∧
          OnlyRegs s t (· = A.DMA_ERR)))) ∧
    (s.flag (F.DMA_CTL_EN g) = true → s.dma.unit.read noUnit g = none →
      Gives (.dmaStop g) s (fun t => t.flag (F.DMA_CTL_EN g) = false ∧ OnlyRegs s t (· = A.DMA_CTL g))) ∧
    (s.flag (F.DMA_CTL_EN g) = true → s.dma.unit.read noUnit g ≠ none →
      Gives (.dmaStop g) s (fun t => t.dma.stopping.read noB g = true ∧ t.regs = s.regs)) ∧
    (s.flag (F.DMA_CTL_EN g) = false → exec (.dmaStop g) s = .next s) ∧
    (∀ n a b, n = (if s.flag (F.DMA_CTL_SIZE g) then 8 else 4) → a = (s.reg (A.DMA_SRC g)).toNat → b = (s.reg (A.DMA_DST g)).toNat →
      coresClocked s = true → (∀ j, j < 16 → s.dma.unit.read noUnit j = none) → dmaFrozen s = false →
      (∀ j, j < 32 → (s.slice j).ringq = []) → roundRobin 16 s.dma.last (dmaReady s) = some g.val → a % n = 0 → b % n = 0 →
      inTiles a = true → inTiles b = true → zeroingAt s a = false → zeroingAt s b = false → fabState s a = 0 → fabState s b = 0 →
      s.eccOf memTile (a / 8) ≠ 2 → s.eccOf memTile (b / 8) ≠ 2 → writeLocked s b = false →
      (s.flag F.WPT_STAGE_CTL_BUSY = true → b < s.wpt.stage.2 ∨ s.wpt.stage.2 + 0x4000 ≤ b) →
      Gives .dmaUnit s (fun t => t.bytes b n = s.bytes a n ∧ (∀ x, (x < b ∨ b + n ≤ x) → t.byte x = s.byte x) ∧
        t.get (F.DMA_LEN_LEN g) = s.get (F.DMA_LEN_LEN g) - n ∧ t.cores = s.cores))

/-- Formation and membership (R233, R236, R237, R246, R260). FORM that passes its checks makes the member FORMING, else its
cause is recorded; a missing link, another digest (DIGEST, 2) or a member beyond the mode's voters (MODE, 1; the model's choice,
log 34) ends that in IDLE; agreement makes a voter or the standby, with the leader's time. The shoulder removes this member from
the voters. JOIN, where the member is provisioned and no digest differs, and ABORT change the role. -/
def Obligations.ConvoyMembershipCompletes : Prop :=
  ∀ s : State,
    (formCheck s = 0 → Gives .form s (fun t => t.role = roleForming ∧ t.mem = s.mem ∧ t.cores = s.cores)) ∧
    (formCheck s ≠ 0 → s.flag F.CVY_ERR_VALID = false →
      Gives .form s (fun t => t.get F.CVY_ERR_CAUSE = formCheck s ∧ OnlyRegs s t (· = A.CVY_ERR))) ∧
    (s.role = roleForming → linksUp s = false → s.flag F.CVY_ERR_VALID = false →
      Gives .formLinkTimeout s (fun t => t.role = roleIdle ∧ t.get F.CVY_ERR_CAUSE = 9 ∧ t.mem = s.mem)) ∧
    (∀ (ofs : BitVec 64) (ph0 ph1 ph2 ph3 : BitVec 32), s.role = roleForming → linksUp s = true →
      let voters := formVoters s
      let mine := inMask voters (me s)
      let stands := namedStandby s == some (me s)
      (∀ (k : Nat) (rest : List Nat), digestsAgree s = true → mine = true ∨ stands = true → membersOf voters = k :: rest →
        Gives (.formationComplete ofs ph0 ph1 ph2 ph3) s (fun t => t.role = (if stands then roleStandby else roleVoter) ∧
          voterMask t = voters ∧ t.get F.CVY_STATE_LEADER = k ∧ t.cvy.standby = namedStandby s ∧
          t.flag F.HW_SEAL_STATUS_AGREE_VOID = false ∧ t.cvy.aligned = true ∧
          (stands = true → ∀ p, p < 4 → (t.cpart p).float = true) ∧
          (k ≠ me s → t.reg A.CVY_TIME_OFS = ofs ∧ ∀ p, p < 4 → 0 < s.get (F.WPT_PERIOD_PERIOD p) → t.get (F.WPT_PHASE_PHASE p) =
            ((([ph0, ph1, ph2, ph3].getD p 0).toNat - ofs.toInt).emod (s.get (F.WPT_PERIOD_PERIOD p))).toNat) ∧ t.mem = s.mem)) ∧
      (s.flag F.CVY_ERR_VALID = false → digestsAgree s = false ∨ (mine = false ∧ stands = false) →
        Gives (.formationComplete ofs ph0 ph1 ph2 ph3) s (fun t => t.role = roleIdle ∧
          t.get F.CVY_ERR_CAUSE = (if digestsAgree s then 1 else 2) ∧ t.mem = s.mem))) ∧
    (inConvoy s = true → Gives .cvyCtlShoulder s (fun t => t.role = roleShoulder ∧ inMask (voterMask t) (me s) = false ∧
      t.flag F.CVY_SHOULDER_REC_VALID = true ∧ t.cvy.standby ≠ some (me s) ∧ t.mem = s.mem ∧ t.cores = s.cores)) ∧
    (inConvoy s = false → exec .cvyCtlShoulder s = .next s) ∧
    (let may := (s.role == roleIdle || s.role == roleShoulder) && (assigned s).all (fun p => s.pstate p == psProvisioning)
     let mode := decide (1 ≤ convoyMode s) && decide (convoyMode s ≤ 3)
     (may = true → mode = true → joinDiffers s = none →
       Gives .join s (fun t => t.role = roleJoining ∧ (∀ p, p < 4 → (t.cpart p).float = true) ∧ t.cvy.aligned = false ∧ t.mem = s.mem)) ∧
     (s.flag F.CVY_ERR_VALID = false → may = false ∨ mode = false ∨ (joinDiffers s).isSome = true →
       Gives .join s (fun t => t.get F.CVY_ERR_CAUSE = (if may = false then 5 else if mode = false then 1 else 2) ∧
         OnlyRegs s t (· = A.CVY_ERR)))) ∧
    (s.role = roleForming → Gives .abort s (fun t => t.role = roleIdle ∧ t.mem = s.mem)) ∧
    (s.role = roleJoining → Gives .abort s (fun t => t.role = roleShoulder ∧ t.mem = s.mem ∧
      (mergeBusy s = true → t.get F.CVY_MERGE_STATUS_STATE = 5))) ∧
    (s.role ≠ roleForming → s.role ≠ roleJoining → exec .abort s = .next s)

/-- The Wiath ports (R234, R241–R245): retraining with this end's member, port and digest, training to UP or CABLE_ERR, the loss
of a pair, the wake pattern, a resend by timeout or NAK, counted, the eighth taking the port DOWN, and a follower's time
request. -/
def Obligations.LinkCommandsComplete : Prop :=
  ∀ (j : Fin 3) (s : State),
    let en := s.flag (F.CVY_PORT_CTL_EN j)
    let st := portState s j
    (en = true → ∀ c, c = Instr.retrain j ∨ (c = .signalReturn j ∧ (st = lsDown ∨ st = lsDegraded ∨ st = lsDetect)) →
      Gives c s (fun t => portState t j = lsTrain ∧ t.flag (F.CVY_PORT_STATUS_PAIR0_OK j) = false ∧
        t.flag (F.CVY_PORT_STATUS_PAIR1_OK j) = false ∧ (t.link j).training = trainingWords s j ∧ t.mem = s.mem)) ∧
    (en = false → exec (.retrain j) s = .next s) ∧
    (en = false ∨ (st ≠ lsDown ∧ st ≠ lsDegraded ∧ st ≠ lsDetect) → exec (.signalReturn j) s = .next s) ∧
    Gives (.sendWake j) s (fun t => (t.link j).waking = s.time.toNat + 20000 ∧ t.regs = s.regs) ∧
    (∀ (m : Fin 4) (port : Fin 3) (digest : BitVec 256), st = lsTrain →
      let ok := decide (m.val = portPeer s j ∧ port.val + j.val = 2)
      (ok = true → seqsDiffer s j = true →
        Gives (.train j m port digest) s (fun t => portState t j = lsUp ∧ (t.link j).digest = digest ∧
          t.flag (F.CVY_PORT_STATUS_PAIR0_OK j) = true ∧ t.flag (F.CVY_PORT_STATUS_PAIR1_OK j) = true ∧
          t.get (F.CVY_PORT_STATUS_PEER j) = m.val ∧ t.get (F.CVY_PORT_STATUS_PEER_PORT j) = port.val)) ∧
      (ok = false → Gives (.train j m port digest) s (fun t => portState t j = lsCableErr ∧ (t.link j).digest = digest))) ∧
    (∀ pair : Bool,
      let other := s.flag (if pair then F.CVY_PORT_STATUS_PAIR0_OK j else F.CVY_PORT_STATUS_PAIR1_OK j)
      (portLive s j = true → other = true → seqsDiffer s j = true → fewTries s j = true →
        Gives (.pairLockLoss j pair) s (fun t => portState t j = lsDegraded)) ∧
      (portLive s j = true → other = false → Gives (.pairLockLoss j pair) s (fun t => portState t j = lsDown)) ∧
      (portLive s j = false → Gives (.pairLockLoss j pair) s (fun t => OnlyRegs s t (· = A.CVY_PORT_STATUS j)))) ∧
    (∀ f, oldestSent (s.link j).window = some f → unacked s j f.seq = some f → portLive s j = true →
      Gives (.frameResendTimeout j) s (fun t => t.get (F.CVY_PORT_ERR_RESENDS j) = min (s.get (F.CVY_PORT_ERR_RESENDS j) + 1) 65535 ∧
        portState t j = (if 7 ≤ f.tries then lsDown else st))) ∧
    (oldestSent (s.link j).window = none → exec (.frameResendTimeout j) s = .next s) ∧
    (∀ (h : BitVec 60) (ok : Bool) (seq : BitVec 8) (u : State), rxFrame s j (hdrOf h) ok false = (u, true) →
      (∀ f, unacked u j seq.toNat = some f →
        Gives (.nak j h ok seq) s (fun t => t.get (F.CVY_PORT_ERR_RESENDS j) = min (u.get (F.CVY_PORT_ERR_RESENDS j) + 1) 65535 ∧
          portState t j = (if 7 ≤ f.tries then lsDown else st))) ∧
      (unacked u j seq.toNat = none → exec (.nak j h ok seq) s = .next u)) ∧
    (tracking s = true → Gives .timeExchange s (fun t => t.cvy.timeDue = true ∧ t.regs = s.regs ∧ t.mem = s.mem)) ∧
    (tracking s = false → exec .timeExchange s = .next s)

/-- Frames that are taken (R240, R241, R248–R250, R261, R262, R265): a data frame enters the exchange it names by member and
index, or waits for one that has not begun; a verdict, a receipt and a SHOULDER are kept for the decision, or the shoulder
recorded at once by a member that makes none; TIME gives the offset; MERGE writes the joiner's state in place; IMAGE begins its
merge; a joint start or resume has the named instant (R258). A frame that is not taken leaves what its refusal leaves. -/
def Obligations.FramesAreTaken : Prop :=
  ∀ (j : Fin 3) (hd : BitVec 60) (ok : Bool) (s : State),
    let h := hdrOf hd
    let p := h.part
    (∀ (ws : List Word) (u : State), rxFrame s j h ok true = (u, false) →
      exec (.snap j hd ok ws) s = .next u ∧ exec (.out j hd ok ws) s = .next u ∧ exec (.image j hd ok) s = .next u ∧
      ∀ pl : MergePlace, exec (.merge j hd ok pl ws) s = .next u) ∧
    (∀ (ws : List Word) (u : State), rxFrame s j h ok true = (u, true) →
      (∀ c ∈ [(false, Instr.snap j hd ok ws), (true, .out j hd ok ws)],
        let x := xchg u p c.1
        let mine := x.isOpen && x.wnum % 2 ^ 16 == h.wnum
        (mine = true → Gives c.2 s (fun t => (xchg t p c.1).got.read noB' (128 * h.src + h.index) = true ∧
          (xchg t p c.1).flags.read nat0 h.src = h.flags ∧
          ∀ i, i < 32 → ∀ w, ws[i]? = some w → (xchg t p c.1).words.read zero64 (4096 * h.src + 32 * h.index + i) = w)) ∧
        (mine = false → inConvoyP u p = true → ahead x h.wnum = true → Gives c.2 s (fun t => ∃ f ∈ t.cvy.early,
          f.part = p ∧ f.src = h.src ∧ f.wnum = h.wnum ∧ f.index = h.index ∧ f.flags = h.flags ∧ f.words = ws))) ∧
      (u.role = roleJoining → u.pstate p = psProvisioning →
        (∀ g : BitVec 16, Gives (.merge j hd ok (.sram g) ws) s (fun t => t.get F.CVY_MERGE_STATUS_STATE = 2 ∧
          ∀ i, i < 32 → ∀ w, ws[i]? = some w → t.bytes (0x20000000 + 256 * g.toNat + 8 * i) 8 = w.toNat)) ∧
        (∀ g : Fin 128, Gives (.merge j hd ok (.release g) ws) s (fun t => t.mem = s.mem ∧
          ∀ i, i < 32 → ∀ w, ws[i]? = some w → relWord t p (32 * g.val + i) = w)) ∧
        (∀ (k : BitVec 8) (b : Fin 66), Gives (.merge j hd ok (.regs k b) ws) s (fun t => t.mem = s.mem ∧
          ∀ i, i < 32 → ∀ w, ws[i]? = some w →
            (b.val + i < 31 → (t.core k.toNat).greg (b.val + i + 1) = w) ∧
            (31 ≤ b.val + i → b.val + i < 63 → (t.core k.toNat).freg (b.val + i - 31) = w) ∧
            (b.val + i = 64 → (t.core k.toNat).pc = w.setWidth 40 &&& ~~~3#40) ∧
            (b.val + i = 65 → t.bitAt (F.WPT_BANK_BANK_B (k.toNat / 32)) (k.toNat % 32) = w.getLsbD 0))) ∧
        (∀ (rel : Bool) (b : BitVec 12), Gives (.merge j hd ok (.map rel b) ws) s (fun t => t.mem = s.mem ∧
          ∀ i, i < 32 → b.toNat + i < 4096 → ∀ w, ws[i]? = some w → mapEntry t p false rel (b.toNat + i) = (w.setWidth 32).toNat)) ∧
        (∀ l : Fin 4160, Gives (.merge j hd ok (.lane l) ws) s (fun t => t.mem = s.mem ∧
          ∀ i, i < 32 → l.val + i < 4160 → ∀ w, ws[i]? = some w → t.reg (A.LANE_CFG (l.val + i)) = w &&& 0xFFFFFFFF)) ∧
        Gives (.merge j hd ok .wnum ws) s (fun t => t.mem = s.mem ∧ ∀ w, ws[0]? = some w → t.cvy.joinWnum.read zero64 p = w)) ∧
      (u.role = roleJoining → mergeBusy u = false →
        Gives (.image j hd ok) s (fun t => t.get F.CVY_MERGE_STATUS_STATE = 1 ∧ t.get F.CVY_MERGE_STATUS_MERGED = 0 ∧ t.mem = s.mem))) ∧
    (∀ u : State, rxFrame s j h ok false = (u, true) →
      (∀ fault : Bool, (xchg u p true).isOpen = true → (xchg u p true).wnum % 2 ^ 16 = h.wnum →
        Gives (.verdict j hd ok fault) s (fun t => (xchg t p true).verdict.read nat0 h.src = if fault then 2 else 1)) ∧
      (∀ w : Word,
        let inp := (xchg u p false).isOpen && (xchg u p false).wnum % 2 ^ 16 == h.wnum
        (xchg u p (!inp)).isOpen = true → (xchg u p (!inp)).wnum % 2 ^ 16 = h.wnum →
        Gives (.receipt j hd ok w) s (fun t => (xchg t p (!inp)).rcpt.read noRcpt h.src = some (w.toNat % 32) ∧
          (xchg t p (!inp)).digest.read noW32 h.src = BitVec.ofNat 32 (w.toNat / 2 ^ 32) ∧
          (u.cvy.standby = some h.src → t.flag F.CVY_STATE_STANDBY_FIT = w.getLsbD 4))) ∧
      (∀ cause : BitVec 4,
        (inConvoy u = true → Gives (.shoulder j hd ok cause) s (fun t => (h.src, cause.toNat) ∈ t.cvy.gone ∧ t.regs = u.regs)) ∧
        (inConvoy u = false → takesPart u h.src = true →
          Gives (.shoulder j hd ok cause) s (fun t => takesPart t h.src = false ∧ t.mem = s.mem))) ∧
      (∀ (t1 t2 t3 t4 ofs : BitVec 64) (ph0 ph1 ph2 ph3 : BitVec 32),
        let off := ((t2.toInt - t1.toInt) - (t4.toInt - t3.toInt)) / 2
        let bad := off < -20000 ∨ 20000 < off
        (tracking u = true → portPeer u j = u.get F.CVY_STATE_LEADER →
          Gives (.time j hd ok t1 t2 t3 t4 ofs ph0 ph1 ph2 ph3) s (fun t =>
            t.get F.CVY_ALIGN_OFFSET = ((max (-32767) (min 32767 off)).emod 65536).toNat ∧ t.cvy.timeDue = false ∧
            (u.cvy.aligned = false → t.reg A.CVY_TIME_OFS = ofs) ∧ (¬ bad → t.role = u.role) ∧
            (bad → t.flag F.CVY_ALIGN_FAULT = true ∧ (inConvoy u = true → t.role = roleShoulder)))) ∧
        (tracking u = false → leads u = true →
          Gives (.time j hd ok t1 t2 t3 t4 ofs ph0 ph1 ph2 ph3) s (fun t => t.regs = u.regs ∧ t.mem = s.mem)))) ∧
    (∀ (q : Fin 4) (named : BitVec 64), inConvoy s = true →
      let t0 := if leads s then instantFrom s q (s.time.toNat + 1000) else named.toNat
      (auditOf s q = true → Gives (.jointStartFrame q named) s (fun t => t.mesh.startHeld.read zeroN q = 2 + t0 ∧ t.regs = s.regs)) ∧
      (auditOf s q = false → startLegal s q = true ∨ s.pstate q = psHeld →
        Gives (.jointStartFrame q named) s (fun t => t.pstate q = psScanning ∧ t.mem = s.mem ∧
          (s.pstate q = psHeld → (t.part q).goRun = true) ∧ t.reg (A.WPT_NEXT q) = BitVec.ofNat 64 (instantFrom s q t0))))

/-- The decisions of a waypoint (R249–R258): a close ends the window with its receipt; at full receipts or the close, the input
decision agrees every word by its rule among the voters, and the scan then starts. The output decision faults the partition
where every voter has, is late where one is, and else votes: the words that the voters agree on are released and a voter that
differs is to leave; of two voters that differ the one with the sole diagnostic leaves; where no words are agreed, every voter
does. -/
def Obligations.ConvoyDecisionsComplete : Prop :=
  ∀ (p : Fin 4) (s : State),
    ((xchg s p false).isOpen = true → Gives (.inputClose p) s (fun t => (xchg t p false).closed = true ∧ (xchg t p false).rcptSent = true ∧
      t.regs = s.regs)) ∧
    ((xchg s p true).isOpen = true → Gives (.outputClose p) s (fun t => (xchg t p true).closed = true ∧ (xchg t p true).rcptSent = true ∧
      t.regs = s.regs)) ∧
    (∀ u v, exchangeVoters s p false = (u, v) → (xchg s p false).isOpen = true → (xchg s p false).decided = false →
      (xchg s p false).closed = true ∨ receiptsFull s p false = true →
      (inConvoyP u p = true → Gives (.inputDecision p) s (fun t => (xchg t p false).decided = true ∧ (xchg t p false).isOpen = false ∧
        ∀ i, i < snapLen u p → t.wpt.snap.read zero64 (scanSnap u p + i) =
          (agreeWord (u.cvy.amap.read noW32 (4096 * p.val + i))
            ((membersOf v).map (fun k => (xchg u p false).words.read zero64 (4096 * k + i)))).1)) ∧
      (inConvoyP u p = false → exec (.inputDecision p) s = .next u)) ∧
    ((s.part p).scanPending = true → (s.part p).live = false → (s.part p).coPhase = 0 → auditOf s p = false →
      (xchg s p false).decided = true → s.pstate p = psScanning →
      Gives (.convoyScanStart p) s (fun t => (t.part p).live = true ∧
        (∀ k ∈ s.partTiles p, (s.core k).run = .waypt → (t.core k).run = .active) ∧ t.regs = s.regs)) ∧
    (∀ u v, exchangeVoters s p true = (u, v) → (xchg s p true).isOpen = true → (xchg s p true).decided = false →
      (xchg s p true).closed = true ∨ receiptsFull s p true = true →
      let word := fun k i : Nat => (xchg u p true).words.read zero64 (4096 * k + i)
      let verdict := fun k : Nat => (xchg u p true).verdict.read nat0 k
      let vs := (membersOf v).filter (fun k => verdict k != 2)
      let n := xchgLen u p true
      let diag := vs.filter (fun k => (xchg u p true).flags.read nat0 k / 2 % 2 == 1)
      let late := vs.any (fun k => verdict k == 1)
      (vs = [] → Gives (.outputDecision p) s (fun t => (t.cpart p).outcome = 3 ∧
        (membersOf v ≠ [] → u.pstate p = psScanning → t.pstate p = psFaulted))) ∧
      (vs ≠ [] → Gives (.outputDecision p) s (fun t =>
        ∀ k ∈ membersOf v, verdict k = 2 → (k, scFault) ∈ (t.cpart p).leaving)) ∧
      (late = true → Gives (.outputDecision p) s (fun t => (t.cpart p).outcome = 2 ∧
        t.get (F.WPT_LATE_COUNT_COUNT p) = min (u.get (F.WPT_LATE_COUNT_COUNT p) + 1) (2 ^ 32 - 1))) ∧
      (∀ m : Nat → Word, vs ≠ [] → late = false → (∀ i, i < n → votedWord (vs.map (fun k => word k i)) = some (m i)) →
        Gives (.outputDecision p) s (fun t => (t.cpart p).outcome = 1 ∧ (∀ i, i < n → (t.cpart p).voted.read zero64 i = m i) ∧
          ∀ k ∈ vs, (∃ i, i < n ∧ word k i ≠ m i) → (k, scOutDisagree) ∈ (t.cpart p).leaving)) ∧
      (late = false → (∃ i, i < n ∧ votedWord (vs.map (fun k => word k i)) = none) →
        (∀ a b, vs = [a, b] → diag = [a] → Gives (.outputDecision p) s (fun t => (t.cpart p).outcome = 1 ∧
          (a, scDiag) ∈ (t.cpart p).leaving ∧ ∀ i, i < n → (t.cpart p).voted.read zero64 i = word b i)) ∧
        (∀ a b, vs = [a, b] → diag = [b] → Gives (.outputDecision p) s (fun t => (t.cpart p).outcome = 1 ∧
          (b, scDiag) ∈ (t.cpart p).leaving ∧ ∀ i, i < n → (t.cpart p).voted.read zero64 i = word a i)) ∧
        (vs.length = 3 ∨ (vs.length = 2 ∧ diag.length ≠ 1) → Gives (.outputDecision p) s (fun t => (t.cpart p).outcome = 3 ∧
          ∀ k ∈ vs, (k, scUndecided) ∈ (t.cpart p).leaving))))

/-- Merge and the agreement map (R264–R266, R268): a merge request is taken or refused with its cause; whether the joiner is
JOINING, the other voters scan and their links are UP reaches no frame of the spec, so it is free (log 1). An abort ends a merge
in progress as REFUSED and puts a joiner onto the shoulder. An arrival of the donor's counts the dirty granules and chooses the
merge waypoint, gives it up, or waits. The map is written only while ROLE is IDLE, and read at any time; INDEX moves on. -/
def Obligations.MergeAndAgreementMapComplete : Prop :=
  ∀ s : State,
    (∀ v : BitVec 30,
      let k := v.toNat / 2 ^ 28
      let a := if v.toNat % 2 ^ 16 < 64 then s else s.put F.CVY_MERGE_CTL_MINWPT (v.toNat % 2 ^ 16)
      let b := if mergeBusy a then a else a.put F.CVY_MERGE_CTL_JOINER k
      let d := b.draw 3
      let c := mergeCheck d.2 k (d.1.getLsbD 0) (d.1.getLsbD 1) (d.1.getLsbD 2)
      (c = 0 → Gives (.mergeStart v) s (fun t => t.get F.CVY_MERGE_STATUS_STATE = 1 ∧ t.get F.CVY_MERGE_STATUS_CAUSE = 0 ∧
        t.get F.CVY_MERGE_STATUS_MERGED = 0 ∧ t.get F.CVY_MERGE_CTL_JOINER = k ∧ t.mem = s.mem ∧ t.cores = s.cores)) ∧
      (c ≠ 0 → s.flag F.CVY_ERR_VALID = false → Gives (.mergeStart v) s (fun t => t.get F.CVY_ERR_CAUSE = c ∧
        t.reg A.CVY_MERGE_STATUS = s.reg A.CVY_MERGE_STATUS ∧ t.mem = s.mem ∧ t.cores = s.cores))) ∧
    (mergeBusy s = true → Gives .mergeAbort s (fun t => t.get F.CVY_MERGE_STATUS_STATE = 5 ∧ t.get F.CVY_MERGE_STATUS_CAUSE = 5 ∧
      t.cvy.mergePart = none ∧ (s.role = roleJoining → t.role = roleShoulder) ∧ t.mem = s.mem)) ∧
    (mergeBusy s = false → exec .mergeAbort s = .next s) ∧
    (∀ (p : Fin 4) (sent : BitVec 16), s.cvy.mergePart = some p.val → arrived s p = true → (s.cvy.mergeAt.read noRcpt p).isNone = true →
      let c := ((dirtyGranules s p).take sent.toNat).foldl (fun t g => t.write noB g true) s.cvy.clean
      let dirty := (dirtyGranules { s with cvy := { s.cvy with clean := c } } p).length
      let age := s.get (F.WPT_WNUM_WNUM p) - s.cvy.mergeFrom
      let before := decide (s.time.toNat + s.get (F.WPT_GUARD_GUARD p) ≤ (s.reg (A.WPT_NEXT p)).toNat)
      let now := decide (s.get F.CVY_MERGE_CTL_MINWPT ≤ age) && before && mergeFits s p dirty
      Gives (.mergeArrival p sent) s (fun t => t.get F.CVY_MERGE_STATUS_DIRTY = min 65535 dirty ∧
        t.get F.CVY_MERGE_STATUS_STATE = (if now then 3 else if s.get F.CVY_MERGE_LIMIT_MAXWPT ≤ age then 5 else 2) ∧
        (now = true → t.cvy.mergeAt.read noRcpt p = some (s.get (F.WPT_WNUM_WNUM p) + 1)) ∧ t.mem = s.mem)) ∧
    (∀ v : BitVec 32,
      let p := s.get F.CVY_AMAP_ADDR_PART
      let i := s.get F.CVY_AMAP_ADDR_INDEX
      (amapLocked s p = false → Gives (.amapDataWrite v) s (fun t => t.cvy.amap.read noW32 (4096 * p + i) = v ∧
        t.get F.CVY_AMAP_ADDR_INDEX = (i + 1) % 4096 ∧ OnlyRegs s { t with cvy := s.cvy } (· = A.CVY_AMAP_ADDR))) ∧
      (amapLocked s p = true → s.flag F.CVY_ERR_VALID = false → Gives (.amapDataWrite v) s (fun t => t.get F.CVY_ERR_CAUSE = 5 ∧
        t.get F.CVY_AMAP_ADDR_INDEX = (i + 1) % 4096 ∧ OnlyRegs s t (fun a => a = A.CVY_ERR ∨ a = A.CVY_AMAP_ADDR))) ∧
      Gives .amapDataRead s (fun t => t.rdata.toNat = (s.cvy.amap.read noW32 (4096 * p + i)).toNat ∧
        t.get F.CVY_AMAP_ADDR_INDEX = (i + 1) % 4096 ∧ OnlyRegs s { t with rdata := s.rdata } (· = A.CVY_AMAP_ADDR)))

/-- A write of FLC_CMD (R361, R363, R366, R367, R371). One that fails a check of R361 leaves its cause in FLC_RESULT and changes
nothing else. A program whose words pass `prog_check` starts; one that fails it sets FAIL with the cause, and the bank stays as
it was. An erase lists its sector and waits in CHECK for its log entry; where the log is full it starts a log move. A suspend
begins, or is held for MINRUN; a resume continues the erase. -/
def Obligations.FlashCommandsComplete : Prop :=
  ∀ (key : BitVec 8) (bank : BitVec 4) (layby : Bool) (s : State),
    let a := (s.reg A.FLC_ADDR).toNat
    (∀ cmd n y c, (cmd, n, y, c) ∈ [(1, 0, false, Instr.prog key), (2, 0, false, .burst key), (3, 0, layby, .erase key layby),
        (4, bank.toNat, false, .suspend key bank), (5, bank.toNat, false, .resume key bank)] → flcCheck s key.toNat cmd n y ≠ 0 →
      Gives c s (fun t => t.get F.FLC_RESULT_CAUSE = flcCheck s key.toNat cmd n y ∧ t.get F.FLC_RESULT_CMD = cmd ∧
        OnlyRegs s t (· = A.FLC_RESULT))) ∧
    (∀ b j, flashAt a = some (b, j) →
      (flcCheck s key.toNat 1 0 false = 0 →
        (progCheck s a (bufWord s 0) = 0 →
          Gives (.prog key) s (fun t => bankState t b = fsProgram ∧ (flEng t b).prog = some ⟨a, [bufWord s 0]⟩ ∧ t.mem = s.mem)) ∧
        (progCheck s a (bufWord s 0) ≠ 0 →
          Gives (.prog key) s (fun t => t.flag (F.FLC_BSTAT_FAIL b) = true ∧ t.get (F.FLC_BSTAT_CAUSE b) = progCheck s a (bufWord s 0) ∧
            bankState t b = bankState s b ∧ t.flash = s.flash ∧ t.mem = s.mem))) ∧
      (flcCheck s key.toNat 2 0 false = 0 →
        ((∀ i, i < 8 → progCheck s (a + 16 * i) (bufWord s i) = 0) →
          Gives (.burst key) s (fun t => bankState t b = fsProgram ∧
            (flEng t b).prog = some ⟨a, (List.range 8).map (bufWord s)⟩ ∧ t.mem = s.mem)) ∧
        (∀ n, n < 8 → progCheck s (a + 16 * n) (bufWord s n) ≠ 0 → (∀ i, i < n → progCheck s (a + 16 * i) (bufWord s i) = 0) →
          Gives (.burst key) s (fun t => t.flag (F.FLC_BSTAT_FAIL b) = true ∧
            t.get (F.FLC_BSTAT_CAUSE b) = progCheck s (a + 16 * n) (bufWord s n) ∧
            bankState t b = bankState s b ∧ t.flash = s.flash ∧ t.mem = s.mem))) ∧
      (flcCheck s key.toNat 3 0 layby = 0 →
        Gives (.erase key layby) s (fun t => bankState t b = fsCheck ∧ (b, j) ∈ t.flash.pend ∧
          (∃ e, (flEng t b).erase = some e ∧ e.sector = j ∧ e.phase = 0) ∧
          (logFull s = false ∨ s.flash.move ≠ none → t.mem = s.mem ∧ t.flash.move = s.flash.move) ∧
          (logFull s = true → s.flash.move = none →
            t.flag F.FLC_STAT_LOG_BUSY = true ∧ t.flash.move = some (25 - activePage s))))) ∧
    (∀ e : Erase, (flEng s bank.toNat).erase = some e →
      (flcCheck s key.toNat 4 bank.toNat false = 0 → e.phase = 1 →
        (1000 * s.get F.FLC_CFG_MINRUN ≤ s.time.toNat - e.since →
          Gives (.suspend key bank) s (fun t => bankState t bank.toNat = fsSuspending ∧
            (flEng t bank.toNat).erase = some { e with phase := 2, held := 0, auto := false } ∧ t.mem = s.mem)) ∧
        (s.time.toNat - e.since < 1000 * s.get F.FLC_CFG_MINRUN →
          Gives (.suspend key bank) s (fun t => bankState t bank.toNat = fsErase ∧
            (flEng t bank.toNat).erase = some { e with held := 1 } ∧ t.mem = s.mem))) ∧
      (flcCheck s key.toNat 5 bank.toNat false = 0 → e.phase = 3 → (flEng s bank.toNat).prog = none →
        Gives (.resume key bank) s (fun t => bankState t bank.toNat = fsErase ∧
          (flEng t bank.toNat).erase = some { e with phase := 1, since := s.time.toNat, auto := false } ∧ t.mem = s.mem)))

/-- The progress of the flash engines (R363, R367, R368, R371, R373). A program gives its words their contents and check bits
and changes no other byte; a failed one ends with VERIFY. An erase programs its log entry, erases its sector only, and clears
the entry; a failed one ends with ERASE_VERIFY. Suspends begin once MINRUN has passed, take effect and end. A log move fills its
new page only, or fails with LOG and ends the erases that wait. A change of WP_N shows. Where COMMIT_USER is in progress the
INFO engine goes on with it (log 72), and only DONE, FAIL and CAUSE are stated. -/
def Obligations.FlashProgressCompletes : Prop :=
  ∀ (k : Fin 9) (s : State),
    let alone := k.val ≠ 8 ∨ s.adc.commit = 0
    (∀ p : Prog, (flEng s k).prog = some p →
      Gives (.progDone k true) s (fun t => t.flag (F.FLC_BSTAT_DONE k) = true ∧ (flEng t k).prog = none ∧
        (alone → ∀ x, (x < p.addr / 16 * 16 ∨ p.addr / 16 * 16 + 16 * p.data.length ≤ x) → t.byte x = s.byte x) ∧
        (alone ∨ p.addr + 16 * p.data.length ≤ logPage 12 → ∀ i d, p.data[i]? = some d →
          wordData t (p.addr + 16 * i) = d ∧ wordCheck t (p.addr + 16 * i) = ecc d)) ∧
      Gives (.progDone k false) s (fun t => t.flag (F.FLC_BSTAT_FAIL k) = true ∧ t.get (F.FLC_BSTAT_CAUSE k) = fcVerify ∧
        (flEng t k).prog = none ∧
        (alone → ∀ x, (x < p.addr / 16 * 16 ∨ p.addr / 16 * 16 + 16 * p.data.length ≤ x) → t.byte x = s.byte x))) ∧
    (∀ ok, (flEng s k).prog = none → exec (.progDone k ok) s = .next s) ∧
    (∀ e : Erase, (flEng s k).erase = some e →
      (e.phase = 0 → s.flash.move = none →
        (logFull s = false → Gives (.eraseMarkerDone k) s (fun t => bankState t k = fsErase ∧ (k.val, e.sector) ∈ t.flash.indet ∧
          (∃ e', (flEng t k).erase = some e' ∧ e'.phase = 1 ∧ e'.sector = e.sector ∧ e'.since = s.time.toNat) ∧
          ∃ a, a ∈ freeEntries s (activePage s) ∧ wordData t a = entryData k e.sector ∧
            ∀ x, (x < a ∨ a + 16 ≤ x) → t.byte x = s.byte x)) ∧
        (logFull s = true → Gives (.eraseMarkerDone k) s (fun t => t.flag F.FLC_STAT_LOG_BUSY = true ∧
          t.flash.move = some (25 - activePage s) ∧ (flEng t k).erase = some e))) ∧
      (e.phase = 1 →
        Gives (.eraseEnd k true) s (fun t => bankState t k = fsCheck ∧ (flEng t k).erase = some { e with phase := 4, held := 0 } ∧
          (∀ x, sectorBase k e.sector ≤ x → x < sectorBase k e.sector + sectorSize k → t.byte x = memReset x) ∧
          (∀ x, (x < sectorBase k e.sector ∨ sectorBase k e.sector + sectorSize k ≤ x) → t.byte x = s.byte x) ∧
          (k.val, e.sector) ∉ t.flash.indet) ∧
        Gives (.eraseEnd k false) s (fun t => t.flag (F.FLC_BSTAT_FAIL k) = true ∧ t.get (F.FLC_BSTAT_CAUSE k) = fcEraseVerify ∧
          (alone ∨ (e.cal = true ∧ s.adc.commit = e.sector) → bankState t k = fsIdle ∧ (flEng t k).erase = none ∧ t.mem = s.mem))) ∧
      (e.phase = 4 → s.flash.move = none → Gives (.eraseMarkerCleared k) s (fun t => t.flag (F.FLC_BSTAT_DONE k) = true ∧
        (alone → bankState t k = fsIdle ∧ (k.val, e.sector) ∉ t.flash.pend ∧ (flEng t k).erase = none ∧
          ∀ x, (x < logPage (activePage s) ∨ logPage (activePage s) + 0x800 ≤ x) → t.byte x = s.byte x))) ∧
      (s.bitAt F.FLC_CFG_AUTOSUS k = true → e.phase = 1 →
        (1000 * s.get F.FLC_CFG_MINRUN ≤ s.time.toNat - e.since → Gives (.autoSuspend k) s (fun t => bankState t k = fsSuspending ∧
          (flEng t k).erase = some { e with phase := 2, held := 0, auto := true })) ∧
        (s.time.toNat - e.since < 1000 * s.get F.FLC_CFG_MINRUN → Gives (.autoSuspend k) s (fun t =>
          bankState t k = bankState s k ∧ (flEng t k).erase = some { e with held := 2 }))) ∧
      (e.phase = 1 → e.held ≠ 0 → Gives (.minrunElapsed k) s (fun t => bankState t k = fsSuspending ∧
        (flEng t k).erase = some { e with phase := 2, held := 0, auto := e.held == 2 })) ∧
      (e.phase = 2 → Gives (.suspendDone k) s (fun t => bankState t k = fsSuspended ∧ (flEng t k).erase = some { e with phase := 3 })) ∧
      (e.auto = true → e.phase = 3 → (flEng s k).prog = none → Gives (.autoSuspendEnd k) s (fun t => bankState t k = fsErase ∧
        (flEng t k).erase = some { e with phase := 1, since := s.time.toNat, auto := false }))) ∧
    (s.bitAt F.FLC_CFG_AUTOSUS k = false → exec (.autoSuspend k) s = .next s) ∧
    ((flEng s k).erase = none → ∀ ok, ∀ c ∈ [Instr.eraseMarkerDone k, .eraseEnd k ok, .eraseMarkerCleared k, .autoSuspend k,
      .minrunElapsed k, .suspendDone k, .autoSuspendEnd k], exec c s = .next s) ∧
    (∀ page, s.flash.move = some page →
      Gives (.logMoveDone true) s (fun t => t.flag F.FLC_STAT_LOG_BUSY = false ∧ t.flash.move = none ∧
        wordData t (logPage page) = headerData ((pageGen s (activePage s)).getD 0 + 1) ∧
        ∀ x, (x < logPage page ∨ logPage page + 0x800 ≤ x) → t.byte x = s.byte x) ∧
      Gives (.logMoveDone false) s (fun t => t.flag F.FLC_STAT_LOG = true ∧
        (s.adc.commit = 0 → t.flag F.FLC_STAT_LOG_BUSY = false ∧ t.flash.move = none ∧ t.mem = s.mem ∧
          ∀ e : Erase, (flEng s k).erase = some e → e.phase = 0 →
            t.flag (F.FLC_BSTAT_FAIL k) = true ∧ bankState t k = fsIdle ∧ (flEng t k).erase = none))) ∧
    (∀ ok, s.flash.move = none → exec (.logMoveDone ok) s = .next s) ∧
    (∀ level, (s.pads.wpN ≠ level → Gives (.wpChange level) s (fun t =>
        t.pads.wpN = level ∧ t.flag F.FLC_STAT_WP_CHG = true ∧ t.mem = s.mem)) ∧
      (s.pads.wpN = level → exec (.wpChange level) s = .next s))

/-- Requests become frames (R391–R393, R395, R397): the read or write at the head of the queue begins where the port may start a
frame, as does the next frame of a translated write. A manual frame that passes its checks is queued, and begins at once where
it is first; one that fails is refused. A chip select is enabled where its checks pass, else refused; a disable that waited
takes effect once no request names the chip select. Frames end (R387–R389, R391–R395). The end of a read's frame answers its
initiator with the bytes received, of a memory write's with none; a translated write goes from WREN to WR, to its next piece or
to polling; a manual frame leaves what it received in XSP_MAN_DATA and ends, or polls. A status byte that says busy polls again,
one that says not busy ends the write; the busy timeout fails it. The READY line holds a frame or a STAT frame, lets it go on,
or its timeout fails the access. -/
def Obligations.OctalFramesComplete : Prop :=
  (∀ (x : Fin 2) (s : State),
     let p := s.xport x
     let fmt (a : Nat) : BitVec 32 := (s.reg a).setWidth 32
     (∀ r rest, p.req = none → p.queue = r :: rest → mayStart s x = true → r.init ≠ xiManual →
       let off := r.addr % 2 ^ 32 - csBase s x r.cs
       (r.write = false → Gives (.xspReadFrame x) s (fun t => Begun t x r ⟨r.cs, fmt (A.XSP_RD_FMT x r.cs), off, [], r.len⟩ ∧
         (t.xport x).queue = rest ∧ t.mem = s.mem)) ∧
       (r.write = true → csType s x r.cs = 0 →
         Gives (.xspMemoryWrite x) s (fun t => Begun t x r ⟨r.cs, fmt (A.XSP_WR_FMT x r.cs), off, r.data, 0⟩ ∧
           (t.xport x).queue = rest ∧ t.mem = s.mem)) ∧
       (r.write = true → csType s x r.cs = 1 →
         Gives (.flashWriteTranslate x) s (fun t => Begun t x r ⟨r.cs, fmt (A.XSP_WREN_FMT x r.cs), 0, [], 0⟩ ∧
           (t.xport x).queue = rest ∧ (t.xport x).step = 1 ∧
           (t.xport x).pieces = splitPages (2 ^ (6 + s.get (F.XSP_CSCFG_PAGE x r.cs))) 65 off r.data ∧ t.mem = s.mem))) ∧
     (∀ r, p.req = some r → mayStart s x = true →
       (p.step = 1 → Gives (.flashWriteTranslate x) s (fun t => Begun t x r ⟨r.cs, fmt (A.XSP_WREN_FMT x r.cs), 0, [], 0⟩)) ∧
       (∀ a d rest, p.step = 2 → p.pieces = (a, d) :: rest →
         Gives (.flashWriteTranslate x) s (fun t => Begun t x r ⟨r.cs, fmt (A.XSP_WR_FMT x r.cs), a, d, 0⟩))) ∧
     (mayStart s x = false → ∀ c ∈ [Instr.xspReadFrame x, .xspMemoryWrite x, .flashWriteTranslate x], exec c s = .next s) ∧
     (∀ v : BitVec 31,
       let cs := v.toNat / 2 ^ 26 % 4
       let len := v.toNat % 128
       let write := v.getLsbD 29
       let bytes := (List.range len).map (fun i => BitVec.ofNat 8 (s.get ⟨A.XSP_MAN_DATA x (i / 4), 8 * (i % 4) + 7, 8 * (i % 4)⟩))
       let r : XReq := ⟨xiManual, 0, s.get (F.XSP_MAN_ADDR_ADDR x), len, if write then bytes else [], write, cs, false,
         fmt (A.XSP_MAN_FMT x), v.getLsbD 28⟩
       let busy := s.flag (F.XSP_MAN_CTL_BUSY x)
       let on := s.flag (F.XSP_CSCFG_EN x cs)
       let reserved := fmtReserved (fmt (A.XSP_MAN_FMT x))
       (len ≤ 64 → busy = false → on = true → reserved = false →
         (p.req = none → p.queue = [] → mayStart s x = true →
           Gives (.manualFrame x true v) s (fun t => Begun t x r ⟨cs, r.fmt, r.addr, r.data, if write then 0 else len⟩ ∧
             t.flag (F.XSP_MAN_CTL_BUSY x) = true ∧ t.mem = s.mem)) ∧
         (p.req ≠ none ∨ mayStart s x = false ∨ (∃ h, p.queue.head? = some h ∧ h.init ≠ xiManual) →
           Gives (.manualFrame x true v) s (fun t => (t.xport x).queue = p.queue ++ [r] ∧ (t.xport x).req = p.req ∧
             t.flag (F.XSP_MAN_CTL_BUSY x) = true ∧ t.mem = s.mem))) ∧
       (p.req ≠ none ∨ mayStart s x = false ∨ (∀ h, p.queue.head? = some h → h.init ≠ xiManual) →
         (64 < len → Gives (.manualFrame x true v) s (fun t => XspRefused s t x xeRange)) ∧
         (len ≤ 64 → busy = true ∨ on = false → Gives (.manualFrame x true v) s (fun t => XspRefused s t x xeLocked)) ∧
         (len ≤ 64 → busy = false → on = true → reserved = true →
           Gives (.manualFrame x true v) s (fun t => XspRefused s t x xeFormat)) ∧
         exec (.manualFrame x false v) s = .next s) ∧
       (∀ h rest, p.req = none → p.queue = h :: rest → h.init = xiManual → mayStart s x = true →
         Gives (.manualFrame x false v) s (fun t => Begun t x h ⟨h.cs, h.fmt, h.addr, h.data, if h.write then 0 else h.len⟩ ∧
           (t.xport x).queue = rest ∧ t.mem = s.mem))) ∧
     (∀ (c : Fin 4) (v : BitVec 31),
       let w : Word := v.setWidth 64 ||| 0x80000000#64
       let on := s.flag (F.XSP_CSCFG_EN x c)
       let fits := bitsOf w 30 29 ≠ 3 ∧ bitsOf w 28 27 ≠ 3 ∧ bitsOf w 20 16 ≤ 16
       (on = false → fits → csCheck s x c w = 0 →
         Gives (.csEnable x c v) s (fun t => t.flag (F.XSP_CSCFG_EN x c) = true ∧ t.get (F.XSP_CSCFG_BASE x c) = bitsOf w 15 0 ∧
           t.get (F.XSP_CSCFG_SIZE x c) = bitsOf w 20 16 ∧ csType t x c = bitsOf w 30 29 ∧ OnlyRegs s t (· = A.XSP_CSCFG x c))) ∧
       (on = false → fits → csCheck s x c w ≠ 0 → Gives (.csEnable x c v) s (fun t => XspRefused s t x (csCheck s x c w))) ∧
       (on = false → ¬ fits → Gives (.csEnable x c v) s (fun t => XspRefused s t x xeFormat)) ∧
       (on = true → bitsOf w 30 0 ≠ bitsOf (s.reg (A.XSP_CSCFG x c)) 30 0 →
         Gives (.csEnable x c v) s (fun t => XspRefused s t x xeLocked)) ∧
       (on = true → bitsOf w 30 0 = bitsOf (s.reg (A.XSP_CSCFG x c)) 30 0 → exec (.csEnable x c v) s = .next s)) ∧
     (∀ c : Fin 4,
       (p.csOff.contains c.val = true → csBusy s x c = false →
         Gives (.csDisableDone x c) s (fun t => t.flag (F.XSP_CSCFG_EN x c) = false ∧ (t.xport x).csOff.contains c.val = false)) ∧
       (p.csOff.contains c.val = false ∨ csBusy s x c = true → exec (.csDisableDone x c) s = .next s))) ∧
  (∀ (x : Fin 2) (r : XReq) (s : State), (s.xport x).req = some r →
     let p := s.xport x
     let stalls := s.get (F.XSP_CSCFG_RDS x r.cs) = 2 ∧ (p.frame ≠ none ∨ (p.step = 3 ∧ mayStart s x = true))
     (∀ (f : XFrame) (d : List Byte), p.frame = some f →
       let got := (List.range f.inLen).map (fun i => d.getD i 0)
       (p.step = 1 → Gives (.frameEnd x d) s (fun t => (t.xport x).step = 2 ∧ (t.xport x).frame = none ∧ (t.xport x).req = some r ∧
         t.flag (F.XSP_STATUS_FRAME x) = false ∧ t.mem = s.mem)) ∧
       (p.step = 2 → Gives (.frameEnd x d) s (fun t => (t.xport x).pieces = p.pieces.drop 1 ∧ (t.xport x).frame = none ∧
         (t.xport x).req = some r ∧ t.flag (F.XSP_STATUS_FRAME x) = false ∧
         (p.pieces.drop 1 = [] → (t.xport x).step = 3 ∧ t.flag (F.XSP_STATUS_POLL x) = true) ∧
         (p.pieces.drop 1 ≠ [] → (t.xport x).step = 1) ∧ t.mem = s.mem)) ∧
       (p.step = 0 →
         (r.init ≠ xiManual → Gives (.frameEnd x d) s (fun t =>
           Served s t x r (if r.write then some [] else some got) ∧ t.mem = s.mem)) ∧
         (r.init = xiManual → f.inLen ≤ 64 →
           (r.poll = false → Gives (.frameEnd x d) s (fun t => Served s t x r none ∧
             (r.write = false → ∀ i b, got[i]? = some b →
               t.get ⟨A.XSP_MAN_DATA x (i / 4), 8 * (i % 4) + 7, 8 * (i % 4)⟩ = b.toNat) ∧ t.mem = s.mem)) ∧
           (r.poll = true → Gives (.frameEnd x d) s (fun t => (t.xport x).step = 3 ∧ (t.xport x).frame = none ∧
             t.flag (F.XSP_STATUS_POLL x) = true ∧ (t.xport x).req = some r ∧ t.mem = s.mem))))) ∧
     (∀ d, p.frame = none → exec (.frameEnd x d) s = .next s) ∧
     (∀ status : Byte,
       let busy := status.getLsbD (s.get (F.XSP_POLL_BUSY_BIT x r.cs)) = s.flag (F.XSP_POLL_BUSY_POL x r.cs)
       let reads := p.step = 3 ∧ (mayStart s x = true ∨ s.flag (F.XSP_STATUS_WAIT x) = true)
       (reads → busy → Gives (.pollStatus x status) s (fun t => (t.xport x).req = some r ∧ (t.xport x).step = 3 ∧
         t.flag (F.XSP_STATUS_FRAME x) = false ∧ t.flag (F.XSP_STATUS_WAIT x) = false ∧
         (t.xport x).last = some ⟨r.cs, (s.reg (A.XSP_STAT_FMT x r.cs)).setWidth 32, 0, [], 1⟩ ∧ t.mem = s.mem)) ∧
       (reads → ¬ busy → Gives (.pollStatus x status) s (fun t => Served s t x r (some []) ∧ t.mem = s.mem)) ∧
       (¬ reads → exec (.pollStatus x status) s = .next s)) ∧
     (p.step = 3 → Gives (.busyTimeout x) s (fun t => Served s t x r none ∧ t.flag (F.XSP_STATUS_BUSY_TO x) = true ∧
       t.flag (F.XSP_ERR_VALID x) = true ∧ (s.flag (F.XSP_ERR_VALID x) = false → t.get (F.XSP_ERR_CAUSE x) = xeBusy) ∧ t.mem = s.mem)) ∧
     (p.step ≠ 3 → exec (.busyTimeout x) s = .next s) ∧
     (stalls → Gives (.readyStall x) s (fun t => t.flag (F.XSP_STATUS_WAIT x) = true ∧ t.flag (F.XSP_STATUS_FRAME x) = true ∧
       OnlyRegs s t (· = A.XSP_STATUS x))) ∧
     (¬ stalls → exec (.readyStall x) s = .next s) ∧
     Gives (.readyLineRise x) s (fun t => t.flag (F.XSP_STATUS_WAIT x) = false ∧
       (t.flag (F.XSP_STATUS_FRAME x) = true ↔ p.frame ≠ none) ∧ OnlyRegs s t (· = A.XSP_STATUS x)) ∧
     (s.flag (F.XSP_STATUS_WAIT x) = true → Gives (.readyTimeout x) s (fun t => Served s t x r none ∧
       t.flag (F.XSP_STATUS_RDY_TO x) = true ∧ t.flag (F.XSP_ERR_VALID x) = true ∧
       (s.flag (F.XSP_ERR_VALID x) = false → t.get (F.XSP_ERR_CAUSE x) = xeRdy) ∧ t.mem = s.mem)) ∧
     (s.flag (F.XSP_STATUS_WAIT x) = false → exec (.readyTimeout x) s = .next s))

/-- R420: a command while another runs is refused with BUSY (4), but for CHIP_RESET and ROADBLOCK_CLEAR; one that the device
state does not allow with STATE (1); then one with bad arguments with ARG (3). A refusal changes nothing but its record and its
reply. -/
def Obligations.HostCommandChecks : Prop :=
  ∀ (i : Instr) (code : Nat) (s : State), hostCode i = some code → hostUp s →
    (s.flag F.HW_CMD_BUSY = true → code ≠ 0x0D → code ≠ 0x0E → Gives i s (fun t => refusedWith s t 4 ∧ onlyRecord s t)) ∧
    ((s.flag F.HW_CMD_BUSY = false ∨ code = 0x0D ∨ code = 0x0E) →
      (cmdLegal s code = false → Gives i s (fun t => refusedWith s t 1 ∧ onlyRecord s t)) ∧
      (cmdLegal s code = true → cmdArgsOk s code = false → Gives i s (fun t => refusedWith s t 3 ∧ onlyRecord s t)))

/-- The seventeen host commands (R46, R219, R226, R421–R425, R500) that pass R420: each has its effect on the device, its
partitions and its blocks, and ends, waits for firmware, or stays busy until its block ends it; or its block refuses it with
cause BLOCK (5), most with the block's own code in SUB. What CONVOY_MERGE finds of the joiner and the other voters is free (log
1). -/
def Obligations.HostCommandsComplete : Prop :=
  ∀ s : State,
    let a := cmdArg0 s
    (takes s 0x01 → Gives .nop s (fun t => ended t 0 ∧ t.dev = s.dev ∧ t.mem = s.mem ∧ t.cores = s.cores)) ∧
    (takes s 0x02 →
      (s.dev = dsProvision ∨ s.dev = dsService → Gives .goRun s (fun t => forFirmware t 2 ∧ t.dev = dsProvision)) ∧
      (s.dev = dsHold → Gives .goRun s (fun t => ended t 0 ∧ t.dev = dsRun ∧
        (s.role = roleIdle → ∀ p, p < 4 → s.pstate p = psHeld → t.pstate p = psScanning))) ∧
      (s.dev = dsBoot → s.boot.verified = true → dcwSrc ((senseData s dcwAddr).getD 0) ≠ 2 →
        Gives .goRun s (fun t => ended t 0 ∧ t.dev = dsProvision ∧ (t.core 256).run = .active ∧ (t.core 256).pc = scEntry s 0)) ∧
      (s.dev = dsBoot → s.boot.verified = false ∨ dcwSrc ((senseData s dcwAddr).getD 0) = 2 →
        Gives .goRun s (fun t => ended t 0 ∧ (t.dev = dsProvision ∨ t.get F.HW_ERR_CAUSE = 13)))) ∧
    (takes s 0x03 →
      ((∀ p, p < 4 → s.pstate p ≠ psScanning ∧ s.flag (F.WPT_PSTATE_HOLD_PENDING p) = false) →
        Gives .goHold s (fun t => ended t 0 ∧ t.dev = dsHold)) ∧
      (∀ p, p < 4 → s.pstate p = psScanning →
        Gives .goHold s (fun t => ended t 0 ∧ t.dev = dsRun ∧ t.flag (F.WPT_PSTATE_HOLD_PENDING p) = true))) ∧
    (takes s 0x04 → Gives .goService s (fun t => ended t 0 ∧ t.dev = dsService ∧ (isVoter s = true → t.role = roleShoulder) ∧
      ∀ p, p < 4 → t.pstate p ≠ psScanning ∧ t.pstate p ≠ psHeld)) ∧
    (takes s 0x05 →
      let p := a % 4
      (s.pstate p = psScanning → a < 256 →
        Gives .partitionStop s (fun t => ended t 0 ∧ t.flag (F.WPT_PSTATE_STOP_PENDING p) = true ∧ t.pstate p = psScanning)) ∧
      (s.pstate p = psScanning → 256 ≤ a → Gives .partitionStop s (fun t => ended t 0 ∧ t.pstate p = psStopped)) ∧
      (s.pstate p ≠ psScanning → Gives .partitionStop s (fun t => refusedWith s t 5 ∧ t.get F.HW_ERR_SUB = 3))) ∧
    (takes s 0x06 →
      (startLegal s a = true → Gives .partitionStart s (fun t => ended t 0 ∧
        (inConvoy s = false → auditOf s a = false → t.pstate a = psScanning) ∧
        (inConvoy s = false → auditOf s a = true → t.mesh.startHeld.read zeroN a = 1))) ∧
      (startLegal s a = false → Gives .partitionStart s (fun t => refusedWith s t 5 ∧ t.get F.HW_ERR_SUB = 3))) ∧
    (takes s 0x07 →
      let n := (s.reg (A.WPT_WNUM a)).toNat + 1
      let w := n + (cmdArg1 s + 2 ^ 32 - n % 2 ^ 32) % 2 ^ 32
      let u := if s.flag (F.WPT_PSTATE_CO_PENDING a) then s else s.setReg (A.WPT_CO_WNUM a) (BitVec.ofNat 64 w)
      let past := inConvoy s && decide (w ≤ s.get (F.WPT_WNUM_WNUM a) + 1) && !(xchg s a false).isOpen
      (coCheck u a w = 0 → past = false → Gives .changeover s (fun t => t.flag F.HW_CMD_BUSY = true ∧
        t.flag (F.WPT_PSTATE_CO_PENDING a) = true ∧ t.reg (A.WPT_CO_WNUM a) = BitVec.ofNat 64 w ∧ (t.part a).coHost = true)) ∧
      (coCheck u a w = 0 → past = true → Gives .changeover s (fun t => refusedWith s t 5 ∧ t.get F.HW_ERR_SUB = 8)) ∧
      (coCheck u a w ≠ 0 → Gives .changeover s (fun t => refusedWith s t 5 ∧ t.get F.HW_ERR_SUB = coCheck u a w))) ∧
    (takes s 0x08 →
      let d := s.draw 3
      let c := mergeCheck d.2 a (d.1.getLsbD 0) (d.1.getLsbD 1) (d.1.getLsbD 2)
      (c = 0 → Gives .convoyMerge s (fun t => t.flag F.HW_CMD_BUSY = true ∧ t.get F.CVY_MERGE_STATUS_STATE = 1 ∧
        t.get F.CVY_MERGE_CTL_JOINER = a ∧ t.cvy.mergeHost = true)) ∧
      (c ≠ 0 → Gives .convoyMerge s (fun t => refusedWith s t 5 ∧ t.get F.HW_ERR_SUB = c))) ∧
    (takes s 0x09 →
      (isVoter s = true → Gives .convoyShoulder s (fun t => ended t 0 ∧ t.role = roleShoulder)) ∧
      (isVoter s = false → Gives .convoyShoulder s (fun t => refusedWith s t 5))) ∧
    (takes s 0x0A →
      (s.flag F.CAL_STATUS_BUSY = false → s.flag F.CAL_STATUS_FACTORY_VALID = true →
        Gives .calRestoreFactory s (fun t => t.flag F.HW_CMD_BUSY = true ∧ t.flag F.CAL_STATUS_BUSY = true ∧ t.get F.CAL_STATUS_CMD = 1)) ∧
      (s.flag F.CAL_STATUS_BUSY = false → s.flag F.CAL_STATUS_FACTORY_VALID = false →
        Gives .calRestoreFactory s (fun t => t.flag F.HW_CMD_BUSY = false ∧ t.flag F.CAL_STATUS_BUSY = false ∧
          t.get F.CAL_STATUS_RESULT = 2 ∧ t.get F.HW_CMD_RESULT_RESULT = (t.reg A.CAL_STATUS).toNat % 2 ^ 32)) ∧
      (s.flag F.CAL_STATUS_BUSY = true → Gives .calRestoreFactory s (fun t => refusedWith s t 5 ∧ t.get F.HW_ERR_SUB = 1 ∧
        t.reg A.CAL_STATUS = s.reg A.CAL_STATUS))) ∧
    (takes s 0x0B →
      (s.flag F.CAL_STATUS_BUSY = false → bankState s 8 ≠ fsIdle ∨ s.flash.pend.length < 16 →
        Gives .calCommitUser s (fun t => t.flag F.HW_CMD_BUSY = true ∧ t.flag F.CAL_STATUS_BUSY = true ∧ t.get F.CAL_STATUS_CMD = 2)) ∧
      (s.flag F.CAL_STATUS_BUSY = false → bankState s 8 = fsIdle → 16 ≤ s.flash.pend.length →
        Gives .calCommitUser s (fun t => t.flag F.HW_CMD_BUSY = false ∧ t.flag F.CAL_STATUS_BUSY = false ∧
          t.get F.CAL_STATUS_RESULT = 3)) ∧
      (s.flag F.CAL_STATUS_BUSY = true → Gives .calCommitUser s (fun t => refusedWith s t 5 ∧ t.get F.HW_ERR_SUB = 1 ∧
        t.reg A.CAL_STATUS = s.reg A.CAL_STATUS))) ∧
    (takes s 0x0C →
      (s.flag F.HW_LAYBY_STATUS_OFFERED = true → Gives .laybyDiscard s (fun t => forFirmware t 0x0C ∧
        t.flag F.HW_LAYBY_STATUS_OFFERED = false ∧ t.flag F.HW_LAYBY_STATUS_DISCARDED = true)) ∧
      (s.flag F.HW_LAYBY_STATUS_OFFERED = false → Gives .laybyDiscard s (fun t => refusedWith s t 5))) ∧
    (hostUp s → s.dev = dsRoadblock → 1 ≤ s.get F.DBG_LEVEL_LEVEL → cmdArgsOk s 0x0D = true →
      Gives .roadblockClear s (fun t => t.boot.inReset = some rcRoadblock ∧ t.get F.WDG_LADDER_COUNT = 0)) ∧
    (hostUp s → cmdLegal s 0x0E = true → cmdArgsOk s 0x0E = true →
      Gives .chipReset s (fun t => t.host.chipReset = true ∧ t.dev = s.dev ∧ t.boot = s.boot ∧ t.mem = s.mem)) ∧
    (takes s 0x0F → Gives .sleep s (fun t => t.host.sleep = some a ∧ t.flag F.HW_CMD_BUSY = true ∧ t.dev = s.dev)) ∧
    (takes s 0x10 →
      (s.dev = dsProvision ∨ s.dev = dsService → Gives .imageSelect s (fun t => forFirmware t 0x10)) ∧
      (s.dev = dsBoot → Gives .imageSelect s (fun t => ended t 0))) ∧
    (takes s 0x11 →
      (quiescent s a = true → s.flag F.LANE_AUDIT_STATUS_BUSY = false →
        Gives .auditTolls s (fun t => t.flag F.HW_CMD_BUSY = true ∧ t.flag F.LANE_AUDIT_STATUS_BUSY = true ∧
          t.get F.LANE_AUDIT_STATUS_PART = a)) ∧
      (quiescent s a = true → s.flag F.LANE_AUDIT_STATUS_BUSY = true →
        Gives .auditTolls s (fun t => refusedWith s t 5 ∧ t.get F.HW_ERR_SUB = 6)) ∧
      (quiescent s a = false → Gives .auditTolls s (fun t => refusedWith s t 5 ∧ t.get F.HW_ERR_SUB = 5)))

/-- Accesses in both modes (R402, R405, R408, R409, R412, R413, R423): a read replies with the register's value, a write reaches
its register, and an access that has a row of its own acts as that row; an address past the window is answered with ACCESS_ERR.
In serial mode one word unit is served, or with EN each, at one address or, with INC, at the next, past 0x2F with OVERRUN.
Framing errors are recorded; a port that does not answer performs nothing; an access in DOZE wakes the device. The end of an
access lets a pending CHIP_RESET or SLEEP act. -/
def Obligations.HostAccessesComplete : Prop :=
  ∀ s : State,
    (hostUp s → s.pads.hmode = false →
      (∀ a : BitVec 6, a.toNat < 0x30 → a.toNat ∉ [0x0E, 0x27, 0x12, 0x16, 0x1F] →
        ∀ (d : RegD) (x y : Nat), regAt (0x400D0000 + 4 * a.toNat) = some (d, x, y) →
          Gives (.parallelRead a false) s (fun t => t.host.lastData = (hwView s d.reg (0x400D0000 + 4 * a.toNat)).setWidth 32 ∧
            t.host.isOpen = true ∧ t.mem = s.mem ∧ t.cores = s.cores)) ∧
      (∀ a : BitVec 6, 0x30 ≤ a.toNat → Gives (.parallelRead a false) s (pastWindow s) ∧
        ∀ v : BitVec 32, Gives (.parallelWrite a v) s (pastWindow s)) ∧
      (∀ a : BitVec 6, Gives (.parallelRead a true) s (fun t => t.get F.HW_ERR_CAUSE = 11 ∧ OnlyRegs s t (· = A.HW_ERR))) ∧
      (∀ v : BitVec 32, v.toNat % 256 = 0 ∨ 0x11 < v.toNat % 256 →
        Gives (.parallelWrite 0x06 v) s (fun t => refusedWith s t 2 ∧ onlyRecord s t)) ∧
      (∀ v : BitVec 32, Gives (.parallelWrite 0x04 v) s (fun t => t.get F.HW_ATTN_MASK_MASK = v.toNat &&& 0x23FE)) ∧
      (∀ (a : BitVec 6) (v : BitVec 32), a.toNat < 0x30 → a.toNat ∉ [4, 5, 6, 0xC, 0x12, 0x19, 0x1F, 0x20] →
        (a.toNat ∈ [0x10, 0x11] → winBusy s = false) → (a = 0x13 → v.getLsbD 31 = false) → (a = 0x25 → v.toNat / 2 % 4 ≠ 3) →
        Gives (.parallelWrite a v) s (fun t => t.mem = s.mem ∧ t.cores = s.cores ∧ ∀ b, inBlock 0x40040000 b = false →
          t.reg b = (genericWrite s (0x400D0000 + 4 * a.toNat) (v.setWidth 64)).reg b)) ∧
      (∀ v : BitVec 32, (winBusy s = true → Gives (.parallelWrite 0x10 v) s (fun t => refusedWith s t 4 ∧ onlyRecord s t) ∧
          Gives (.parallelWrite 0x11 v) s (fun t => refusedWith s t 4 ∧ onlyRecord s t)) ∧
        (v.toNat / 2 % 4 = 3 → Gives (.parallelWrite 0x25 v) s (fun t => refusedWith s t 3 ∧ onlyRecord s t)) ∧
        Gives (.parallelWrite 0x19 v) s (fun t => t.get F.WDG_LADDER_STAGE1 =
          (s.get F.WDG_LADDER_STAGE1 &&& (255 - v.toNat / 256 % 256))))) ∧
    (s.pads.hmode = false →
      exec (.parallelRead 0x0E false) s = exec .mailboxPop s ∧ exec (.parallelRead 0x27 false) s = exec .eventLogPop s ∧
      exec (.parallelRead 0x12 false) s = exec .windowDataRead s ∧ exec (.parallelRead 0x16 false) s = exec .wptCountLoRead s ∧
      exec (.parallelRead 0x1F false) s = exec (.challengeRead true) s ∧
      ∀ v : BitVec 32,
        (∀ i code, hostCode i = some code → v.toNat % 256 = code → exec (.parallelWrite 0x06 v) s = exec i s) ∧
        exec (.parallelWrite 0x05 v) s = exec (.hwAttnClr (v.setWidth 16)) s ∧ exec (.parallelWrite 0x0C v) s = exec (.mailboxPush v) s ∧
        exec (.parallelWrite 0x12 v) s = exec (.windowWrite v) s ∧ exec (.parallelWrite 0x1F v) s = exec (.unlockChallenge true v) s ∧
        exec (.parallelWrite 0x20 v) s = exec (.unlockResponse true v) s ∧
        (v.getLsbD 31 = true → exec (.parallelWrite 0x13 v) s = exec (.windowRead (v.setWidth 31)) s)) ∧
    (hostUp s → s.pads.hmode = true →
      let en := s.flag F.HW_BURST_CTL_EN
      let inc := s.flag F.HW_BURST_CTL_INC
      (∀ (a : Byte) (n : Nat) (d : RegD) (x y : Nat), 1 ≤ n → en = false ∨ n = 1 → a.toNat < 0x30 →
        a.toNat ∉ [0x0E, 0x27, 0x12, 0x16, 0x1F] → regAt (0x400D0000 + 4 * a.toNat) = some (d, x, y) →
        Gives (.serialRead 3 a n) s (fun t => t.host.lastData = (hwView s d.reg (0x400D0000 + 4 * a.toNat)).setWidth 32)) ∧
      (∀ n, 1 ≤ n → n ≤ s.mbxOut.length → en = false ∨ inc = false →
        Gives (.serialRead 3 0x0E n) s (fun t => t.mbxOut = s.mbxOut.drop (if en then n else 1))) ∧
      (∀ (a : Byte) (n : Nat), en = true → inc = true → a.toNat < 0x30 → 0x30 < a.toNat + n →
        Gives (.serialRead 3 a n) s (fun t => t.host.lastData = 0 ∧ t.get F.HW_ERR_CAUSE = 8)) ∧
      (∀ (cmd a : Byte) (n : Nat), cmd ≠ 3 → cmd ≠ 2 →
        Gives (.serialRead cmd a n) s (fun t => t.host.frameAborted = true ∧ t.get F.HW_ERR_CAUSE = 11 ∧ t.mem = s.mem)) ∧
      (∀ (v : BitVec 32) (vs : List (BitVec 32)), en = false ∨ inc = false ∨ vs = [] →
        Gives (.serialWrite 0x04 (v :: vs)) s (fun t =>
          t.get F.HW_ATTN_MASK_MASK = ((if en then (v :: vs).getLast (by simp) else v).toNat &&& 0x23FE))) ∧
      (∀ vs : List (BitVec 32), en = false ∨ inc = false → s.mbxIn.length + vs.length ≤ 16 →
        Gives (.serialWrite 0x0C vs) s (fun t => t.mbxIn = s.mbxIn ++ (if en then vs else vs.take 1))) ∧
      (s.host.chipReset = true → s.dev ≠ dsRoadblock → Gives .frameAbort s (fun t => t.boot.inReset = some rcChip)) ∧
      (s.host.chipReset = false → Gives .frameAbort s (fun t => t.host.frameAborted = true ∧ t.host.isOpen = false ∧
        t.host.sleep = none ∧ t.get F.HW_ERR_CAUSE = 11 ∧ (s.host.sleep = none → t.dev = s.dev ∧ t.mem = s.mem)))) ∧
    (hostSilent s = true → s.dev ≠ dsSleep → ∀ (a : BitVec 6) (b : Byte) (v : BitVec 32) (vs : List (BitVec 32)) (n : Nat),
      ∀ c ∈ (if s.pads.hmode then [Instr.serialRead 3 b n, .serialWrite b vs] else [.parallelRead a false, .parallelWrite a v]),
        Gives c s (fun t => t.host.lastStatus = 0xF ∧ t.host.lastData = 0 ∧ t = { s with host := t.host })) ∧
    (∀ (a : BitVec 6) (b : Byte) (v : BitVec 32) (vs : List (BitVec 32)) (n : Nat) (both : Bool),
      ∀ c ∈ (if s.pads.hmode then [Instr.parallelRead a both, .parallelWrite a v] else [.serialRead b b n, .serialWrite b vs, .frameAbort]),
        exec c s = .next s) ∧
    (s.dev = dsSleep → s.pwr.mode = slDoze → s.boot.inReset = none → s.pwr.hs = none → s.pwr.waking = false → s.pwr.before < 16 →
      Gives .hostWakeAccess s (fun t => t.dev = s.pwr.before ∧ t.pwr.mode = 0 ∧ t.host.lastStatus = 0xF ∧ t.host.lastData = 0 ∧ t.mem = s.mem)) ∧
    (s.dev ≠ dsSleep ∨ s.pwr.mode ≠ slDoze → exec .hostWakeAccess s = .next s) ∧
    (s.host.isOpen = true →
      (s.host.chipReset = false → s.host.sleep = none →
        exec .hostEndsAccess s = .next { s with host := { s.host with isOpen := false, reads := false } }) ∧
      (s.host.chipReset = true → s.boot.inReset = none → s.dev ≠ dsOff → s.dev ≠ dsRoadblock → s.dev ≠ dsLayby →
        Gives .hostEndsAccess s (fun t => t.boot.inReset = some rcChip)) ∧
      (∀ st, s.host.chipReset = false → s.host.sleep = some st → s.dev = dsHold ∨ s.dev = dsService → s.flag F.PWR_OPP_STAT_BUSY = false →
        s.pwr.hs = none → (st = slDoze ∨ s.get F.PWR_WAKE_EN_EN ≠ 0) →
        wakeActive { s with host := { s.host with isOpen := false, reads := false, sleep := none } } = false →
        Gives .hostEndsAccess s (fun t => t.flag F.PWR_HS_STAT_BUSY = true ∧ t.host.sleep = none ∧
          t.pwr.hs = some { target := st, acked := [], delayed := [], host := true }))) ∧
    (s.host.isOpen = false → exec .hostEndsAccess s = .next s)

/-- R414: an access past the host window, in either mode and with any number of word units, reads 0 with ACCESS_ERR; a write
there is ignored with ACCESS_ERR; HW_ERR records cause ADDR (6). -/
def Obligations.AccessesPastTheWindow : Prop :=
  ∀ s : State, hostUp s →
    (s.pads.hmode = false → ∀ a : BitVec 6, 0x30 ≤ a.toNat →
      Gives (.parallelRead a false) s (pastWindow s) ∧ ∀ v : BitVec 32, Gives (.parallelWrite a v) s (pastWindow s)) ∧
    (s.pads.hmode = true → ∀ a : Byte, 0x30 ≤ a.toNat →
      (∀ n, 1 ≤ n → Gives (.serialRead 3 a n) s (pastWindow s)) ∧
      ∀ (v : BitVec 32) (vs : List (BitVec 32)), Gives (.serialWrite a (v :: vs)) s (pastWindow s))

/-- The mailboxes and the event log (R415, R416, R425, R427): each holds its words first in, first out; a push onto 16 words is
refused and a pop of none answers 0 with ACCESS_ERR, and neither loses a word that is held. A read of the log's level returns
and clears the count of dropped entries; a firmware entry is appended, or dropped with 64 or more held; HST_DONE ends an FW
command with its result. The window (R417–R419, R426): a read is started, and at its end its word is in the holding register, or
the access failed and the register is 0; a 64-bit register is read whole, and its upper half waits for the next read. A read of
the data takes the holding register and under INC advances the address, with AUTO starting the next read. A word written to the
depot changes its four bytes and no others; an access that is not admitted or is locked fails. A read of HW_WPT_COUNT_LO latches
the upper half; HW_WPT_LATE clears as it is read. -/
def Obligations.HostDataPathsComplete : Prop :=
  (∀ s : State,
     (hostUp s →
       (∀ v : BitVec 32, s.mbxIn.length < 16 → Gives (.mailboxPush v) s (fun t => t.mbxIn = s.mbxIn ++ [v] ∧ t.mbxOut = s.mbxOut)) ∧
       (∀ v : BitVec 32, 16 ≤ s.mbxIn.length → Gives (.mailboxPush v) s (fun t => t.mbxIn = s.mbxIn ∧ refusedWith s t 10)) ∧
       (∀ w rest, s.mbxOut = w :: rest → Gives .mailboxPop s (fun t => t.mbxOut = rest ∧ t.host.lastData = w ∧ t.mbxIn = s.mbxIn)) ∧
       (s.mbxOut = [] → Gives .mailboxPop s (fun t => t.mbxOut = [] ∧ accessErr s t 9)) ∧
       (∀ w rest, s.evlog = w :: rest → Gives .eventLogPop s (fun t => t.evlog = rest ∧ t.host.lastData = w)) ∧
       (s.evlog = [] → Gives .eventLogPop s (fun t => t.evlog = [] ∧ accessErr s t 9)) ∧
       (s.evlog.length < 128 → Gives .eventLogLevelRead s (fun t => t.host.lastData.toNat % 128 = s.evlog.length ∧
         t.host.lastData.toNat / 2 ^ 16 = s.get F.HW_EVENT_LOG_LEVEL_DROPPED ∧ t.get F.HW_EVENT_LOG_LEVEL_DROPPED = 0)) ∧
       (∀ v : BitVec 16, Gives (.hwAttnClr v) s (fun t => ∀ c, c < 16 →
         t.bitAt F.HW_STATUS_PEND c = (s.bitAt F.HW_STATUS_PEND c && !v.getLsbD c)))) ∧
     (∀ w rest, s.mbxIn = w :: rest → Gives .hstMbxInPop s (fun t => t.rdata = w.setWidth 64 ∧ t.mbxIn = rest ∧ t.regs = s.regs)) ∧
     (s.mbxIn = [] → Gives .hstMbxInPop s (fun t => t.rdata = 0 ∧ t.mbxIn = [])) ∧
     (∀ v : BitVec 32, (s.mbxOut.length < 16 → Gives (.hstMbxOutPush v) s (fun t => t = { s with mbxOut := s.mbxOut ++ [v] })) ∧
       (16 ≤ s.mbxOut.length → Gives (.hstMbxOutPush v) s (fun t => t.mbxOut = s.mbxOut ∧ t.flag F.HST_IRQ_OUT_LOST = true ∧
         OnlyRegs s t (· = A.HST_IRQ)))) ∧
     (∀ v : BitVec 32, (s.evlog.length < 64 → Gives (.hstLog v) s (fun t => ∃ e : BitVec 32, t = { s with evlog := s.evlog ++ [e] } ∧
         e.toNat / 2 ^ 28 = 15 ∧ e.toNat / 2 ^ 18 % 2 ^ 10 = v.toNat / 2 ^ 18 % 2 ^ 10)) ∧
       (64 ≤ s.evlog.length → Gives (.hstLog v) s (fun t => t.evlog = s.evlog ∧
         t.get F.HW_EVENT_LOG_LEVEL_DROPPED = min (s.get F.HW_EVENT_LOG_LEVEL_DROPPED + 1) 65535))) ∧
     (∀ r : BitVec 32, (s.flag F.HST_CMD_PENDING = true → Gives (.hstDone r) s (fun t => ended t r.toNat ∧
         t.flag F.HST_CMD_PENDING = false ∧ t.flag F.HW_CMD_FW = false)) ∧
       (s.flag F.HST_CMD_PENDING = false → exec (.hstDone r) s = .next s))) ∧
  (∀ s : State,
     let inc (a : Nat) := if s.flag F.HW_WIN_CTL_INC then (a + 4) % 2 ^ 40 else a
     (hostUp s → ∀ v : BitVec 31,
       (winBusy s = false → Gives (.windowRead v) s (fun t => t.host.reading = some (winAddr s) ∧ t.mem = s.mem)) ∧
       (winBusy s = true → Gives (.windowRead v) s (fun t => refusedWith s t 4 ∧ t.host.reading = s.host.reading))) ∧
     (∀ a, s.host.reading = some a →
       let wide := inPeri a && wideAt a
       let upper := inPeri a && wideAt (a - 4)
       let n := if wide then 8 else 4
       (hostAdmits s a = true → upper = false →
         (∀ v u, busRead s .host a n = (.ok v, u) → Gives .windowReadDone s (fun t => t.host.hold.toNat = v % 2 ^ 32 ∧
           t.host.reading = none ∧ t.host.upper = (if wide then some (a + 4, BitVec.ofNat 32 (v / 2 ^ 32)) else none) ∧
           t.mem = u.mem ∧ t.regs = u.regs)) ∧
         (∀ e u, busRead s .host a n = (.err e, u) → Gives .windowReadDone s (fun t => t.host.hold = 0 ∧ t.host.reading = none ∧
           t.host.winFailed = true ∧ t.get F.HW_ERR_CAUSE = 7 ∧ t.flag F.HW_WIN_CTL_ERR = true ∧ t.mem = u.mem)) ∧
         (∀ u, busRead s .host a n = (.wait, u) → exec .windowReadDone s = .next u)) ∧
       (hostAdmits s a = true → upper = true → ∀ w, s.host.upper = some (a, w) →
         Gives .windowReadDone s (fun t => t.host.hold = w ∧ t.host.reading = none ∧ t.regs = s.regs ∧ t.mem = s.mem)) ∧
       (hostAdmits s a = false → Gives .windowReadDone s (fun t => t.host.hold = 0 ∧ t.host.reading = none ∧ t.host.winFailed = true ∧
         t.get F.HW_ERR_CAUSE = 7 ∧ t.flag F.HW_WIN_CTL_ERR = true ∧ t.mem = s.mem))) ∧
     (winBusy s = false → exec .windowReadDone s = .next s) ∧
     (hostUp s →
       (winBusy s = false → Gives .windowDataRead s (fun t => t.host.lastData = s.host.hold ∧ t.mem = s.mem ∧
         winAddr t = inc (winAddr s) ∧
         t.host.reading = if s.flag F.HW_WIN_CTL_INC && s.flag F.HW_WIN_CTL_AUTO then some (winAddr t) else none)) ∧
       (winBusy s = true → s.pads.hmode = true → Gives .windowDataRead s (fun t => accessErr s t 4 ∧ onlyRecord s t)) ∧
       (winBusy s = true → s.pads.hmode = false →
         exec .windowDataRead s = .next { s with host := { s.host with isOpen := true, reads := true } }) ∧
       (∀ v : BitVec 32,
         let a := winAddr s
         (winBusy s = false → hostAdmits s a = true → inDepot a = true → zeroingAt s a = false → writeLocked s a = false →
           s.eccOf memDepot (a / 8) ≠ 2 →
           Gives (.windowWrite v) s (fun t => t.bytes a 4 = v.toNat ∧ (∀ b, (b < a ∨ a + 4 ≤ b) → t.byte b = s.byte b) ∧
             winAddr t = inc a)) ∧
         (winBusy s = false → hostAdmits s a = false ∨ (inPeri a = false ∧ writeLocked s a = true) →
           Gives (.windowWrite v) s (fun t => t.get F.HW_ERR_CAUSE = 7 ∧ t.flag F.HW_WIN_CTL_ERR = true ∧ winAddr t = a ∧
             (s.host.frameAborted = false → t.host.lastStatus = 0xB) ∧ t.mem = s.mem)) ∧
         (winBusy s = true → s.pads.hmode = true → Gives (.windowWrite v) s (fun t => refusedWith s t 4 ∧ onlyRecord s t)) ∧
         (winBusy s = true → s.pads.hmode = false →
           exec (.windowWrite v) s = .next { s with host := { s.host with isOpen := true, reads := false } }))) ∧
     (hostUp s →
       let w := s.reg (A.WPT_WNUM (s.get F.HW_PART_STATE_SEL))
       Gives .wptCountLoRead s (fun t => t.host.lastData = w.setWidth 32 ∧ t.reg A.HW_WPT_COUNT_HI = ((w >>> 32).setWidth 32).setWidth 64) ∧
       Gives .hwWptLateRead s (fun t => t.host.lastData.toNat = s.get F.HW_WPT_LATE_LATE ∧ t.get F.HW_WPT_LATE_LATE = 0)))

/-- The unlock engine (R512, R513) on either path. With a ready random source, a level 1 or 2 that DBG_LEVEL.MAX allows and no
failed check in the last 100 ms a challenge is outstanding; else the engine refuses with AUTH, and a level 0 or 3 is refused.
Its words are read in turn; the eighth response word starts the check; the right response opens the level, and a wrong one
leaves it as it was. The challenge itself is free (log 1). -/
def Obligations.UnlockCompletes : Prop :=
  ∀ s : State,
    (∀ (v : BitVec 32),
      let l := v.toNat % 4
      let may := l ≤ s.get F.DBG_LEVEL_MAX ∧ s.flag F.SEC_RNG_STAT_READY = true
      (l = 1 ∨ l = 2 → may → (∀ f, s.dbgp.unlock.failed = some f → f + 10000000 ≤ s.time.toNat) →
        (hostUp s → Gives (.unlockChallenge true v) s (fun t => t.dbgp.unlock.chal.isSome = true ∧ t.dbgp.unlock.host = true ∧
          t.dbgp.unlock.level = l ∧ t.dbgp.unlock.read = 0 ∧ t.dbgp.unlock.resp = [] ∧ t.dbgp.unlock.checking = false)) ∧
        (dbgUp s = true → Gives (.unlockChallenge false v) s (fun t => t.dbgp.unlock.chal.isSome = true ∧ t.dbgp.unlock.host = false ∧
          t.dbgp.unlock.level = l ∧ t.dbgp.unlock.read = 0 ∧ t.dbgp.unlock.resp = [] ∧ t.dbgp.status = 0))) ∧
      (l = 1 ∨ l = 2 → ¬ may ∨ (∃ f, s.dbgp.unlock.failed = some f ∧ s.time.toNat < f + 10000000 ∧ s.pllClock = true) →
        (hostUp s → Gives (.unlockChallenge true v) s (fun t => refusedWith s t 12 ∧ t.dbgp.unlock = s.dbgp.unlock)) ∧
        (dbgUp s = true → Gives (.unlockChallenge false v) s (fun t => t.dbgp.status = 2 ∧ t.dbgp.unlock = s.dbgp.unlock ∧
          (s.flag F.DBG_ERR_VALID = false → t.get F.DBG_ERR_CAUSE = 6)))) ∧
      (l = 0 ∨ l = 3 →
        (hostUp s → Gives (.unlockChallenge true v) s (fun t => refusedWith s t 3 ∧ t.dbgp.unlock = s.dbgp.unlock)) ∧
        (dbgUp s = true → Gives (.unlockChallenge false v) s (fun t => t.dbgp.status = 2 ∧ t.dbgp.unlock = s.dbgp.unlock ∧
          (s.flag F.DBG_ERR_VALID = false → t.get F.DBG_ERR_CAUSE = 8))))) ∧
    (∀ c n, s.dbgp.unlock.chal = some c → s.dbgp.unlock.read = n → n < 8 →
      (s.dbgp.unlock.host = true → hostUp s → Gives (.challengeRead true) s (fun t =>
        t.host.lastData = (c >>> (32 * n)).setWidth 32 ∧ t.dbgp.unlock.read = n + 1)) ∧
      (s.dbgp.unlock.host = false → dbgUp s = true → Gives (.challengeRead false) s (fun t =>
        t.dbgp.data = (c >>> (32 * n)).setWidth 32 ∧ t.dbgp.status = 0 ∧ t.dbgp.unlock.read = n + 1))) ∧
    (∀ v : BitVec 32, s.dbgp.unlock.chal.isSome = true → s.dbgp.unlock.checking = false →
      (s.dbgp.unlock.host = true → hostUp s → Gives (.unlockResponse true v) s (fun t =>
        t.dbgp.unlock.resp = s.dbgp.unlock.resp ++ [v] ∧ t.dbgp.unlock.checking = decide (7 ≤ s.dbgp.unlock.resp.length))) ∧
      (s.dbgp.unlock.host = false → dbgUp s = true → Gives (.unlockResponse false v) s (fun t =>
        t.dbgp.unlock.resp = s.dbgp.unlock.resp ++ [v] ∧ t.dbgp.unlock.checking = decide (7 ≤ s.dbgp.unlock.resp.length) ∧
        t.dbgp.status = (if 7 ≤ s.dbgp.unlock.resp.length then 1 else 0)))) ∧
    (∀ c, s.dbgp.unlock.chal = some c → s.dbgp.unlock.checking = true →
      (respNum s.dbgp.unlock.resp = (expected s c s.dbgp.unlock.level).toNat → s.dbgp.unlock.level < 4 →
        Gives .unlockCheckDone s (fun t => t.get F.DBG_LEVEL_LEVEL = s.dbgp.unlock.level ∧ t.dbgp.unlock.chal = none ∧
          t.flag F.HST_IRQ_UNLOCK = true ∧ (s.dbgp.unlock.host = false → t.dbgp.status = 0))) ∧
      (respNum s.dbgp.unlock.resp ≠ (expected s c s.dbgp.unlock.level).toNat →
        Gives .unlockCheckDone s (fun t => t.get F.DBG_LEVEL_LEVEL = s.get F.DBG_LEVEL_LEVEL ∧ t.dbgp.unlock.chal = none ∧
          t.dbgp.unlock.failed = some s.time.toNat ∧ t.flag F.HST_IRQ_UNLOCK = true ∧
          (s.dbgp.unlock.host = true → t.host.lastStatus = 0xA ∧ t.get F.HW_ERR_CAUSE = 12) ∧
          (s.dbgp.unlock.host = false → t.dbgp.status = 2)))) ∧
    (s.dbgp.unlock.chal = none ∨ s.dbgp.unlock.checking = false → exec .unlockCheckDone s = .next s)

/-- What the release of a power-on reset leaves (R45, R136, R143, R150): the device in BOOT with cause power-on, TIME 0, every
core in reset, service cores privileged and unsealed with interrupts off, TVEC 0xF0000000 and COREID their number, tile SRAM and
depot zero, the logs, mailboxes and the queue empty, the register file and the memory in their canonical forms. Every general
and f register holds 0 (R103). -/
def Obligations.ResetLeaves : Prop :=
  let r := State.reset
  r.dev = dsBoot ∧ r.reg A.HW_RESET_CAUSE = 1 ∧ r.time = 0 ∧ r.boot.inReset = none ∧ r.pending = [] ∧ r.evlog = [] ∧ r.mbxIn = [] ∧
  r.mbxOut = [] ∧ r.get F.DBG_LEVEL_LEVEL = 0 ∧ r.role = roleIdle ∧ Memory.wf r.mem = true ∧ Registers.wf r.regs = true ∧
  (∀ a, volatile a = true → r.byte a = 0) ∧
  (∀ k : CoreId, (r.core k).run = .reset ∧ (r.core k).halted = false ∧ (r.core k).sb = [] ∧
    (r.core k).sreg k srTvec = 0xF0000000 ∧ (r.core k).sreg k srCoreid = BitVec.ofNat 64 k ∧
    (256 ≤ k.val → r.isPriv k = true ∧ r.isSealed k = false ∧ r.intEnabled k = false) ∧
    ∀ n, (r.core k).greg n = 0 ∧ (r.core k).freg n = 0)

/-- Reset and boot (R46, R47, R150, R481, R487–R492, R499, R504): VCORE's loss and RESET_N put the device in reset, whose
release gives BOOT, the cause and the straps, or ROADBLOCK where an escalation was held for it; LAYBY holds a reset off. Arrays
finish their zeroing; the scans end. The boot ROM waits for the host where the configuration word is erased or cannot be read or
neither image is accepted; a restarted core goes to its entry; SC1–SC3 start; random words queue and are read; the crystal is
ready. -/
def Obligations.ResetAndBootComplete : Prop :=
  ∀ s : State,
    (s.dev ≠ dsLayby ∨ s.lay.save = none → Gives .vcoreLoss s (fun t => t.dev = dsOff ∧ t.boot.inReset = some rcPowerOn ∧
      (∀ a, volatile a = true → t.byte a = 0) ∧ (∀ k, (t.core k).run = .reset) ∧ t.pending = s.pending)) ∧
    (s.dev = dsLayby → s.lay.save ≠ none → exec .vcoreLoss s = .next s) ∧
    (s.dev ≠ dsOff → s.dev ≠ dsRoadblock →
      (s.boot.inReset = none → s.dev ≠ dsLayby →
        Gives .resetNAssert s (fun t => t.boot.inReset = some rcResetN ∧ ∀ k, (t.core k).run = .reset)) ∧
      (s.boot.inReset = none → s.dev = dsLayby → Gives .resetNAssert s (fun t =>
        t.lay.heldReset = some (s.lay.heldReset.getD rcResetN) ∧ t.regs = s.regs ∧ t.boot = s.boot)) ∧
      (∀ c, s.boot.inReset = some c → Gives .resetNAssert s (fun t =>
        t = { s with boot := t.boot } ∧ t.boot.inReset = some (if s.boot.newReset && decide (resetRank c < 4) then rcResetN else c)))) ∧
    ((s.dev = dsOff ∨ s.dev = dsRoadblock) → exec .resetNAssert s = .next s) ∧
    (∀ (hmode : Bool) (mid : BitVec 2),
      (∀ c, s.boot.inReset = some c → c < 7 → Gives (.resetRelease hmode mid) s (fun t =>
        t.dev = (if s.boot.stage = 3 then dsRoadblock else dsBoot) ∧ t.boot.inReset = none ∧ t.get F.HW_RESET_CAUSE_CAUSE = 2 ^ c ∧
        t.flag F.HW_RESET_CAUSE_HELD = s.boot.held ∧ t.flag F.HW_REV_HMODE = hmode ∧ t.get F.HW_REV_MEMBER = mid.toNat ∧
        t.pads.hmode = hmode ∧ t.boot.zeroing = (if rcZeroes c || s.boot.held then List.range 20 else []))) ∧
      (s.boot.inReset = none → exec (.resetRelease hmode mid) s = .next s)) ∧
    (∀ a : Fin 20, Gives (.zeroingDone a) s (fun t =>
      t = { s with boot := { s.boot with zeroing := t.boot.zeroing } } ∧ a.val ∉ t.boot.zeroing ∧
      ∀ b, b ≠ a.val → (b ∈ t.boot.zeroing ↔ b ∈ s.boot.zeroing))) ∧
    (s.dev = dsBoot → s.boot.inReset = none → s.boot.scanned = false →
      Gives .flashLogScanDone s (fun t => t.boot.scanned = true ∧ t.flag F.FLC_STAT_SCAN_DONE = true ∧
        t.flash.pend = ((begunList s (activePage s)).filter (fun e => !(e.1 == 8 && (e.2 == 12 || e.2 == 13)))).take 16 ∧
        t.mem = s.mem ∧ t.cores = s.cores)) ∧
    (s.dev ≠ dsBoot ∨ s.boot.inReset ≠ none ∨ s.boot.scanned = true → exec .flashLogScanDone s = .next s) ∧
    (∀ (xsp : Option (List Byte)), s.boot.inReset = none → s.dev = dsBoot → s.boot.scanned = true → s.flag F.HW_STATE_HOST_WAIT = false →
      (senseData s dcwAddr = none → Gives (.bootRomEntry 0 xsp) s (fun t => t.flag F.HW_STATE_HOST_WAIT = true ∧ t.get F.HW_ERR_CAUSE = 13 ∧
        t.get F.HW_ERR_SUB = 0x0A ∧ t.get F.DBG_LEVEL_MAX = 0 ∧ (t.core 256).pc = 0xF0000000 ∧ (t.core 256).run = .active)) ∧
      (senseData s dcwAddr = some (BitVec.allOnes 128) → s.get F.HW_BOOT_CFG_IMAGE ≠ 1 → s.get F.HW_BOOT_CFG_IMAGE ≠ 2 →
        Gives (.bootRomEntry 0 xsp) s (fun t => t.flag F.HW_STATE_HOST_WAIT = true ∧ t.get F.DBG_LEVEL_MAX = 2 ∧ t.dev = dsBoot ∧
          (t.core 256).pc = 0xF0000000 ∧ (t.core 256).run = .active)) ∧
      (∀ d, senseData s dcwAddr = some d → dcwErased d = true ∨ dcwValid d = true → s.get F.HW_BOOT_CFG_IMAGE = 1 →
        let r := bootStep1 (romClock (startCore s 256 0xF0000000)) true (dcwMax d)
        ∀ l c u m e v, tryImage r (.flash false) (dcwMin d) = ((l, c), u) → c ≠ 0 → c < 256 →
          tryImage (bootErr u c) (.flash true) (dcwMin d) = ((m, e), v) → e ≠ 0 →
          Gives (.bootRomEntry 0 xsp) s (fun t => t = hostWait v))) ∧
    (∀ (k : Fin 4) (xsp : Option (List Byte)), s.boot.inReset = none → s.dev ≠ dsBoot → s.flag F.SEC_STAT_BOOTED = true →
      (s.core (256 + k.val)).run = .active → (s.core (256 + k.val)).pc = 0xF0000000 →
      Gives (.bootRomEntry k xsp) s (fun t => (t.core (256 + k.val)).pc = scEntry s k ∧ (t.core (256 + k.val)).npc = scEntry s k + 4 ∧
        (∀ r, (t.core (256 + k.val)).greg r = (s.core (256 + k.val)).greg r) ∧ t.regs = s.regs ∧ t.mem = s.mem)) ∧
    (∀ (k : Fin 4) (xsp : Option (List Byte)),
      s.boot.inReset ≠ none ∨ (s.dev = dsBoot ∧ (k ≠ 0 ∨ s.boot.scanned = false ∨ s.flag F.HW_STATE_HOST_WAIT = true)) ∨
        (s.dev ≠ dsBoot ∧ (s.flag F.SEC_STAT_BOOTED = false ∨ (s.core (256 + k.val)).run ≠ .active ∨
          (s.core (256 + k.val)).pc ≠ 0xF0000000)) → exec (.bootRomEntry k xsp) s = .next s) ∧
    (∀ v : BitVec 4, Gives (.scStart v) s (fun t => t.regs = s.regs ∧ t.mem = s.mem ∧ ∀ k, 1 ≤ k → k < 4 →
      (v.getLsbD k = true → (s.core (256 + k)).run = .reset → (t.core (256 + k)).run = .active ∧ (t.core (256 + k)).pc = scEntry s k) ∧
      ((v.getLsbD k = false ∨ (s.core (256 + k)).run ≠ .reset) → t.core (256 + k) = s.core (256 + k)))) ∧
    (s.flag F.SEC_RNG_STAT_FAIL = false → Gives .rngReady s (fun t => t.flag F.SEC_RNG_STAT_READY = true ∧ OnlyRegs s t (· = A.SEC_RNG_STAT))) ∧
    (s.flag F.SEC_RNG_STAT_FAIL = true → exec .rngReady s = .next s) ∧
    Gives .rngTestFail s (fun t => t.flag F.SEC_RNG_STAT_FAIL = true ∧ t.flag F.SEC_RNG_STAT_READY = false ∧ t.mem = s.mem) ∧
    (∀ w : BitVec 32, (s.flag F.SEC_RNG_STAT_READY = true → s.boot.rng.length < 4 →
        Gives (.rngWordProduced w) s (fun t => t.boot.rng = s.boot.rng ++ [w] ∧ t.get F.SEC_RNG_STAT_LEVEL = s.boot.rng.length + 1)) ∧
      (s.flag F.SEC_RNG_STAT_READY = false ∨ 4 ≤ s.boot.rng.length → exec (.rngWordProduced w) s = .next s)) ∧
    (∀ w rest, s.flag F.SEC_RNG_STAT_READY = true → s.boot.rng = w :: rest →
      Gives .rngRead s (fun t => t.rdata = w.setWidth 64 ∧ t.boot.rng = rest)) ∧
    ((s.flag F.SEC_RNG_STAT_READY = false ∨ s.boot.rng = []) →
      Gives .rngRead s (fun t => t.rdata = 0 ∧ t.boot.rng = s.boot.rng ∧ t.flag F.SEC_RNG_STAT_EMPTY = true)) ∧
    Gives .xtalOk s (fun t => t.flag F.SYS_AON_CFG_XTAL_OK = true ∧ OnlyRegs s t (· = A.SYS_AON_CFG))

/-- Registers of the map (R12–R15, R22, R42): a write reaches its register and no other, a read-only register ignores it; one
that the map does not allow its initiator, or of a size or alignment that R12 does not allow, is not performed: a service core
that runs takes a bus error trap, a DMA channel stops with an error, the host's window and the debug port report a failed
access. A read-clear register returns its fields and reads 0 after. The word in TRAP_INSTR is free there (log 1). -/
def Obligations.RegisterAccessesComplete : Prop :=
  (∀ (k : Fin 4) (v : Word) (s : State),
    (∀ n : Fin 4, Gives (.registerWrite (.sc k) (BitVec.ofNat 40 (A.HW_SCRATCH n)) false v) s (fun t =>
      bitsOf (t.reg (A.HW_SCRATCH n)) 31 0 = v.toNat % 2 ^ 32 ∧ t.mem = s.mem ∧ t.cores = s.cores)) ∧
    Gives (.registerWrite (.sc k) (BitVec.ofNat 40 A.HW_ID) false v) s (fun t => t.reg A.HW_ID = s.reg A.HW_ID ∧ t.mem = s.mem) ∧
    Gives (.registerWrite (.sc k) (BitVec.ofNat 40 (A.LAY_CTL)) false v) s (fun t =>
      t.flag F.LAY_CTL_EN = v.getLsbD 31 ∧ t.flag F.LAY_CTL_SC_EN = v.getLsbD 8 ∧ t.get F.LAY_CTL_SC_PART = v.toNat % 4)) ∧
  (∀ (i : Agent) (a : Addr) (wide : Bool) (v : Word) (s : State),
    let n := if wide then 8 else 4
    let priv := match i with
      | .sc k => s.isPriv (256 + k)
      | _ => false
    let bad := mayWrite s i a.toNat = false ∨ periOk a.toNat n = false ∨ mpuRefused i priv a.toNat = true
    (inPeri a.toNat = false → exec (.registerWrite i a wide v) s = .next s) ∧
    (inPeri a.toNat = true → ¬ bad →
      exec (.registerWrite i a wide v) s = .next (settle (regWrite s i priv a.toNat (BitVec.ofNat 64 (v.toNat % 2 ^ (8 * n)))))) ∧
    (∀ k : Fin 4, i = .sc k → inPeri a.toNat = true → bad →
      (coreRuns s (256 + k) = true → ∃ w, exec (.registerWrite i a wide v) s =
        .next (takeTrap { s with free := s.free + 1 } (256 + k) tcBusError 0 a.toNat w)) ∧
      (coreRuns s (256 + k) = false → exec (.registerWrite i a wide v) s = .next s)) ∧
    (∀ g : Fin 16, i = .dma g → inPeri a.toNat = true → bad → Gives (.registerWrite i a wide v) s (fun t =>
      t.flag (F.DMA_CTL_EN g) = false ∧ t.flag (F.DMA_STAT_ERR g) = true ∧ t.dma.unit.read noUnit g = none ∧ t.mem = s.mem)) ∧
    (i = .host → inPeri a.toNat = true → bad → Gives (.registerWrite i a wide v) s (fun t =>
      t.get F.HW_ERR_CAUSE = 7 ∧ t.host.winFailed = true ∧ t.flag F.HW_WIN_CTL_ERR = true ∧ t.mem = s.mem)) ∧
    (i = .debug → inPeri a.toNat = true → bad → Gives (.registerWrite i a wide v) s (fun t =>
      (s.get F.DBG_LEVEL_LEVEL = 0 → t.dbgp.status = 2) ∧ (s.get F.DBG_LEVEL_LEVEL ≠ 0 → t.flag F.DBG_MEM_CTL_ERR = true) ∧
      t.flag F.DBG_ERR_VALID = true ∧ t.mem = s.mem))) ∧
  (∀ (i : Instr) (l : Loc) (s : State), l ∈ rcField i →
    Gives i s (fun t => bitsOf t.rdata l.hi l.lo = s.get l ∧ t.get l = 0 ∧ OnlyRegs s { t with rdata := s.rdata } (· = l.addr)))

/-- The interrupt controller (R345–R352) after its latches have settled: a claim by its own core takes the latched or the best
candidate and puts it in service, and after a withdrawal outside normal service returns 1023; by another initiator it changes
nothing. A completion ends the service of what its core has in service and is else recorded; thresholds rise and fall; enables
and pulse bits are set and cleared bit by bit, a level source's bit by no write. -/
def Obligations.InterruptCommandsComplete : Prop :=
  ∀ (s : State) (k : Fin 4),
    let u := settle s
    let lost := u.withdrawn.read noB' k && claimSpurious u
    (∀ id, latchOf u k = some id → id < 512 →
      Gives (.icuClaim (.sc k) k) s (fun t => t.rdata.toNat = id ∧ inService t id = k.val + 1 ∧ latchOf t k = none ∧
        (isLevel id = false → t.bitAt (F.ICU_PEND_PEND (id / 32)) (id % 32) = false) ∧ t.mem = s.mem ∧ t.cores = s.cores)) ∧
    (∀ id, latchOf u k = none → lost = false → candidate u k = some id → id < 512 →
      Gives (.icuClaim (.sc k) k) s (fun t => t.rdata.toNat = id ∧ inService t id = k.val + 1 ∧
        (isLevel id = false → t.bitAt (F.ICU_PEND_PEND (id / 32)) (id % 32) = false))) ∧
    (latchOf u k = none → lost = false → candidate u k = none →
      Gives (.icuClaim (.sc k) k) s (fun t => t.rdata = 0 ∧ t.service = s.service)) ∧
    (latchOf u k = none → lost = true →
      Gives (.icuClaim (.sc k) k) s (fun t => t.rdata = 1023 ∧ t.service = s.service)) ∧
    (∀ i : Agent, i ≠ .sc k → Gives (.icuClaim i k) s (fun t => t = { u with rdata := t.rdata })) ∧
    (∀ id : BitVec 10,
      (id ≠ 0 → id.toNat < 512 → inService u id.toNat = k.val + 1 →
        Gives (.icuComplete (.sc k) k id) s (fun t => inService t id.toNat = 0 ∧ t.regs = u.regs ∧ t.mem = s.mem)) ∧
      (id ≠ 0 → id.toNat < 512 → inService u id.toNat ≠ k.val + 1 → u.flag F.ICU_ERR_VALID = false →
        Gives (.icuComplete (.sc k) k id) s (fun t => t.get F.ICU_ERR_CAUSE = 2 ∧ t.get F.ICU_ERR_CORE = k.val ∧
          t.get F.ICU_ERR_ID = id.toNat ∧ t.service = s.service)) ∧
      (∀ i : Agent, i ≠ .sc k ∨ id = 0 ∨ 511 < id.toNat → exec (.icuComplete i k id) s = .next u)) ∧
    (∀ v : BitVec 4,
      (v.toNat ≤ 8 →
        Gives (.icuThrSet k v) s (fun t => t.get (F.ICU_THR_THR k) = max (s.get (F.ICU_THR_THR k)) v.toNat) ∧
        Gives (.icuThrClr k v) s (fun t => t.get (F.ICU_THR_THR k) = min (s.get (F.ICU_THR_THR k)) v.toNat)) ∧
      (8 < v.toNat → s.flag F.ICU_ERR_VALID = false →
        Gives (.icuThrSet k v) s (fun t => t.get F.ICU_ERR_CAUSE = 1 ∧ OnlyRegs s t (· = A.ICU_ERR)) ∧
        Gives (.icuThrClr k v) s (fun t => t.get F.ICU_ERR_CAUSE = 1 ∧ OnlyRegs s t (· = A.ICU_ERR)))) ∧
    (∀ (w : Fin 16) (v : BitVec 32),
      Gives (.icuEnSet k w v) s (fun t => ∀ b, b < 32 → t.bitAt (F.ICU_EN_EN k w) b =
        (s.bitAt (F.ICU_EN_EN k w) b || (v.getLsbD b && decide (32 * w.val + b ≠ 0)))) ∧
      Gives (.icuEnClr k w v) s (fun t => ∀ b, b < 32 → t.bitAt (F.ICU_EN_EN k w) b =
        (s.bitAt (F.ICU_EN_EN k w) b && !(v.getLsbD b && decide (32 * w.val + b ≠ 0)))) ∧
      Gives (.icuPendSet w v) s (fun t => ∀ b, b < 32 → t.bitAt (F.ICU_PEND_PEND w) b =
        (s.bitAt (F.ICU_PEND_PEND w) b || (v.getLsbD b && !isLevel (32 * w.val + b) && decide (32 * w.val + b ≠ 0)))) ∧
      Gives (.icuPendClr w v) s (fun t => ∀ b, b < 32 → t.bitAt (F.ICU_PEND_PEND w) b =
        (s.bitAt (F.ICU_PEND_PEND w) b && !(v.getLsbD b && !isLevel (32 * w.val + b) && decide (32 * w.val + b ≠ 0)))))

/-- The CCLK source (R428–R431, R501): a switch to the PLL needs its lock, takes effect when no frame and no operating-point
change runs, and its first cycle carries a pulse; the PLL locks where it runs, and a boot ROM on HFRC then asks for it; the loss
of the lock or a monitor fault while CCLK runs from the PLL falls back to HFRC with its flag, puts a voter or standby onto the
shoulder, and voids the timing of a scanning partition (all four bits: log 10). Operating points, the core supply and the
measurements (R432–R436, R448, R450, R451, R528): a raise changes VID first and its divider after VRDY, a lower its divider
first; a missing VRDY ends the change with its flag; a VID below what the point needs, above 40, or while a change runs is
refused. A measurement shows its values, the HOT flag with its hysteresis and the peaks, and outside the ratings is a voiding
event of a scanning partition (log 10, log 60); the peaks clear. -/
def Obligations.ClockAndOperatingPointCommandsComplete : Prop :=
  (∀ s : State,
     let lock := s.flag F.SYS_CLK_STAT_PLL_LOCK
     let pll := s.flag F.SYS_CLK_STAT_SRC
     (∀ src : Bool, (src = false ∨ lock = true) →
       Gives (.clockSourceWrite src) s (fun t => t.flag F.SYS_CLK_CTL_SRC = src ∧ t.flag F.SYS_CLK_STAT_SWITCHING = (src != pll) ∧
         t.flag F.SYS_CLK_STAT_SRC = pll ∧ OnlyRegs s t (fun a => a = A.SYS_CLK_CTL ∨ a = A.SYS_CLK_STAT))) ∧
     (lock = false → powerRefuses (.clockSourceWrite true) s 0x22) ∧
     (let src := s.flag F.SYS_CLK_CTL_SRC
      let goes := s.flag F.SYS_CLK_STAT_SWITCHING && xspIdle s && !s.flag F.PWR_OPP_STAT_BUSY && (!src || lock)
      (goes = true → Gives .clockSourceSwitch s (fun t => t.flag F.SYS_CLK_STAT_SRC = src ∧ t.flag F.SYS_CLK_STAT_SWITCHING = false ∧
        t.time = (if src then s.time + 1 else s.time) ∧ t.cores = s.cores ∧ t.mem = s.mem)) ∧
      (goes = false → exec .clockSourceSwitch s = .next s)) ∧
     (let runs := s.flag F.SYS_PLL_CTL_EN && s.boot.inReset.isNone && s.dev != dsOff && !(s.dev == dsSleep && s.pwr.mode != slDoze)
      let rom := s.dev = dsBoot ∧ (s.core 256).run ≠ .reset ∧ pll = false
      (runs = true → Gives .pllLock s (fun t => t.flag F.SYS_CLK_STAT_PLL_LOCK = true ∧
        (rom → t.flag F.SYS_CLK_CTL_SRC = true ∧ t.flag F.SYS_CLK_STAT_SWITCHING = true) ∧ (¬ rom → OnlyRegs s t (· = A.SYS_CLK_STAT)))) ∧
      (runs = false → exec .pllLock s = .next s)) ∧
     (lock = true → pll = false → Gives .pllLockLoss s (fun t => t.flag F.SYS_CLK_STAT_PLL_LOCK = false ∧ OnlyRegs s t (· = A.SYS_CLK_STAT))) ∧
     (lock = true → pll = true → Gives .pllLockLoss s (fun t => t.flag F.SYS_CLK_STAT_PLL_LOCK = false ∧
       t.flag F.SYS_CLK_STAT_SRC = false ∧ t.flag F.SYS_CLK_STAT_LOCK_LOST = true ∧ t.flag F.PWR_IRQ_LOCK_LOST = true ∧
       (inConvoy s = true → t.role = roleShoulder) ∧ (anyScanning s = true → t.get F.HW_SEAL_STATUS_TIMING_VOID = 15) ∧ t.mem = s.mem)) ∧
     (lock = false → exec .pllLockLoss s = .next s) ∧
     (pll = true → Gives .clockMonitorFault s (fun t => t.flag F.SYS_CLK_STAT_SRC = false ∧
       t.flag F.SYS_CLK_STAT_MON_FAULT = true ∧ t.flag F.PWR_IRQ_CLK_MON = true ∧ (inConvoy s = true → t.role = roleShoulder) ∧
       (anyScanning s = true → t.get F.HW_SEAL_STATUS_TIMING_VOID = 15 ∧ t.get F.HW_SEAL_STATUS_VALUE_VOID = 15) ∧ t.mem = s.mem)) ∧
     (pll = false → exec .clockMonitorFault s = .next s)) ∧
  (∀ s : State,
     let busy := s.flag F.PWR_OPP_STAT_BUSY
     let pll := s.flag F.SYS_CLK_STAT_SRC
     (∀ k : BitVec 2,
       (busy = false → oppCur s ≤ k.toNat → Gives (.oppChange k) s (fun t => t.flag F.PWR_OPP_STAT_BUSY = true ∧
         t.get F.PWR_OPP_STAT_PHASE = 1 ∧ t.get F.PWR_OPP_STAT_VID = s.get (F.PWR_VID_OPP_VID k.toNat) ∧ oppCur t = oppCur s)) ∧
       (busy = false → k.toNat < oppCur s → Gives (.oppChange k) s (fun t => t.flag F.PWR_OPP_STAT_BUSY = true ∧
         (pll = true → t.get F.PWR_OPP_STAT_PHASE = 2 ∧ oppCur t = oppCur s) ∧
         (pll = false → t.get F.PWR_OPP_STAT_PHASE = 1 ∧ oppCur t = k.toNat ∧
           t.get F.PWR_OPP_STAT_VID = s.get (F.PWR_VID_OPP_VID k.toNat)))) ∧
       (busy = true → powerRefuses (.oppChange k) s 5)) ∧
     (busy = true → s.get F.PWR_OPP_STAT_PHASE = 1 →
       (oppCur s < oppTarget s → pll = true →
         Gives .vrdyConfirm s (fun t => t.get F.PWR_OPP_STAT_PHASE = 2 ∧ OnlyRegs s t (· = A.PWR_OPP_STAT))) ∧
       (oppTarget s ≤ oppCur s ∨ pll = false → Gives .vrdyConfirm s (fun t => t.flag F.PWR_OPP_STAT_BUSY = false ∧
         t.flag F.PWR_IRQ_OPP_DONE = true ∧ oppCur t = max (oppCur s) (oppTarget s))) ∧
       Gives .vrdyTimeout s (fun t => t.flag F.PWR_OPP_STAT_BUSY = false ∧ t.flag F.PWR_IRQ_VRDY_TO = true ∧ oppCur t = oppCur s)) ∧
     (busy = false ∨ s.get F.PWR_OPP_STAT_PHASE ≠ 1 → exec .vrdyConfirm s = .next s ∧ exec .vrdyTimeout s = .next s) ∧
     (s.get F.PWR_OPP_STAT_PHASE = 2 → xspIdle s = true →
       (oppCur s < oppTarget s → Gives .dividerSwitch s (fun t => oppCur t = oppTarget s ∧ t.flag F.PWR_OPP_STAT_BUSY = false)) ∧
       (oppTarget s ≤ oppCur s → Gives .dividerSwitch s (fun t => oppCur t = oppTarget s ∧ t.get F.PWR_OPP_STAT_PHASE = 1 ∧
         t.get F.PWR_OPP_STAT_VID = s.get (F.PWR_VID_OPP_VID (oppTarget s))))) ∧
     (s.get F.PWR_OPP_STAT_PHASE ≠ 2 ∨ xspIdle s = false → exec .dividerSwitch s = .next s) ∧
     (∀ v : BitVec 32,
       let x := v.toNat % 64
       let low := x < vidMin (oppCur s) ∨ (pll = false ∧ x < s.get (F.PWR_VID_OPP_VID 0))
       (¬ low → x ≤ 40 → busy = false → Gives (.vidWrite v) s (fun t => t.get F.PWR_VID_VID = x ∧ t.get F.PWR_OPP_STAT_VID = x ∧
         OnlyRegs s t (fun a => a = A.PWR_VID ∨ a = A.PWR_OPP_STAT))) ∧
       (low → powerRefuses (.vidWrite v) s 0x20) ∧
       (¬ low → 40 < x → powerRefuses (.vidWrite v) s 0x21) ∧
       (¬ low → x ≤ 40 → busy = true → powerRefuses (.vidWrite v) s 5)) ∧
     (∀ (temp : BitVec 16) (vcore vhold : BitVec 12) (vrdy : Bool),
       let c := temp.toInt
       let w := (BitVec.ofNat 16 (s.get F.PWR_THERM_WARN)).toInt
       let nominal := 500 + 10 * s.get (F.PWR_VID_OPP_VID (oppCur s))
       let outside := (s.draw 1).1 = 0 ∨ 2000 < c ∨ c < -640 ∨ vcore.toNat + 20 < nominal ∨ nominal + 40 < vcore.toNat
       let off := s.boot.inReset ≠ none ∨ s.dev = dsOff ∨ s.dev = dsLayby ∨ s.dev = dsSleep
       (¬ off → Gives (.tempMeasure temp vcore vhold vrdy) s (fun t => t.get F.TMP_TEMP_TEMP = temp.toNat ∧
         t.flag F.TMP_TEMP_VALID = true ∧ t.get F.TMP_SUPPLY_VCORE = vcore.toNat ∧ t.get F.TMP_SUPPLY_VHOLD = vhold.toNat ∧
         t.flag F.TMP_SUPPLY_VRDY = vrdy ∧ t.get F.TMP_SUPPLY_VID = s.get F.PWR_OPP_STAT_VID ∧
         t.flag F.TMP_TEMP_HOT = (if s.flag F.TMP_TEMP_HOT then decide (w - 80 < c) else decide (w ≤ c)) ∧
         (BitVec.ofNat 16 (t.get F.TMP_PEAK_MAX)).toInt = max (BitVec.ofNat 16 (s.get F.TMP_PEAK_MAX)).toInt c ∧
         (BitVec.ofNat 16 (t.get F.TMP_PEAK_MIN)).toInt = min (BitVec.ofNat 16 (s.get F.TMP_PEAK_MIN)).toInt c ∧
         (anyScanning s = true → outside → t.get F.HW_SEAL_STATUS_TIMING_VOID = 15 ∧ t.get F.HW_SEAL_STATUS_VALUE_VOID = 15) ∧
         t.mem = s.mem)) ∧
       (off → exec (.tempMeasure temp vcore vhold vrdy) s = .next s)) ∧
     Gives .peakClr s (fun t => t.reg A.TMP_PEAK = regReset A.TMP_PEAK ∧ OnlyRegs s t (· = A.TMP_PEAK)))

/-- Domains, sleep and wake (R437–R447): a domain in use is not switched off, and one that is loses what it held; a sleep
request that the power controller does not turn away starts the handshake, every block's acknowledgement commits it, a refusal,
a wake source or a missing answer ends it. A wake source ends DOZE at once and starts the ramp of the deeper states, whose end
leaves the device in BOOT with SC0 at the wake entry (a value of Config, log 1). -/
def Obligations.SleepAndWakeComplete : Prop :=
  ∀ s : State,
    let refused (t : State) (code : Nat) : Prop := t.get F.PWR_HS_STAT_CODE = code ∧ t.flag F.PWR_IRQ_HS_REFUSED = true ∧
      t.get F.HW_POWER_STATE_REFUSE = code ∧ t.pwr.hs = none ∧ t.dev = s.dev ∧ t.mem = s.mem
    let deep := s.dev = dsSleep ∧ s.pwr.mode ≠ slDoze
    (∀ v : BitVec 32,
      (domainsFree s v → Gives (.domainControl v) s (fun t =>
        (∀ q, q < 4 → v.getLsbD q = true → s.bitAt F.PWR_DOM_CTL_FAB_OFF q = false → t.bitAt F.PWR_DOM_STAT_FAB q = false ∧
          (∀ a, 0x20000000 + 0x400000 * q ≤ a → a < 0x20400000 + 0x400000 * q → t.byte a = 0) ∧
          ∀ k, 64 * q ≤ k → k < 64 * q + 64 → t.core k = coreReset k) ∧
        (v.getLsbD 5 = true → s.flag F.PWR_DOM_CTL_ANA_OFF = false → t.flag F.PWR_DOM_STAT_ANA = false ∧ t.adc = State.reset.adc) ∧
        (v.getLsbD 6 = true → s.flag F.PWR_DOM_CTL_LINK_OFF = false → t.flag F.PWR_DOM_STAT_LINK = false) ∧
        t.get F.PWR_DOM_CTL_FAB_OFF = v.toNat % 16)) ∧
      (¬ domainsFree s v → powerRefuses (.domainControl v) s 0x23)) ∧
    (∀ d : Fin 6,
      let off := if d.val < 4 then s.bitAt F.PWR_DOM_CTL_FAB_OFF d.val
        else if d.val = 4 then s.flag F.PWR_DOM_CTL_ANA_OFF else s.flag F.PWR_DOM_CTL_LINK_OFF
      (off = false → Gives (.domainReady d) s (fun t => OnlyRegs s t (· = A.PWR_DOM_STAT) ∧
        (d.val < 4 → t.bitAt F.PWR_DOM_STAT_FAB d.val = true) ∧ (d.val = 4 → t.flag F.PWR_DOM_STAT_ANA = true) ∧
        (d.val = 5 → t.flag F.PWR_DOM_STAT_LINK = true))) ∧
      (off = true → exec (.domainReady d) s = .next s)) ∧
    (∀ st : BitVec 2,
      let state := s.dev = dsHold ∨ s.dev = dsService
      let free := s.flag F.PWR_OPP_STAT_BUSY = false ∧ s.pwr.hs = none
      let wakes := st = 1 ∨ s.get F.PWR_WAKE_EN_EN ≠ 0
      (st ≠ 0 → state → free → wakes → wakeActive s = false → Gives (.sleepRequest st) s (fun t => t.flag F.PWR_HS_STAT_BUSY = true ∧
        t.pwr.hs = some ⟨st.toNat, [], [], false⟩ ∧ t.dev = s.dev ∧ (inConvoy s = true → t.role = roleShoulder))) ∧
      (st ≠ 0 → s.pwr.hs = none →
        (¬ state → Gives (.sleepRequest st) s (fun t => refused t 1)) ∧
        (state → ¬ free → Gives (.sleepRequest st) s (fun t => refused t 5)) ∧
        (state → free → ¬ wakes → Gives (.sleepRequest st) s (fun t => refused t 2)) ∧
        (state → free → wakes → wakeActive s = true → Gives (.sleepRequest st) s (fun t => refused t 3))) ∧
      (st ≠ 0 → s.pwr.hs ≠ none → state → Gives (.sleepRequest st) s (fun t => t.get F.PWR_HS_STAT_CODE = 5 ∧ t.pwr = s.pwr)) ∧
      (st = 0 → powerRefuses (.sleepRequest st) s 0x21)) ∧
    (∀ (b : Fin 11) (h : Handshake), s.pwr.hs = some h →
      let new := h.acked.contains (b.val + 1) = false
      (∀ c, new → hsAnswer s h.target (b.val + 1) = .refuse c → c < 256 → Gives (.handshakeAnswer b) s (fun t => refused t c ∧
        t.get F.PWR_HS_STAT_BLOCK = b.val + 1 ∧ t.flag F.PWR_HS_STAT_BUSY = false)) ∧
      (new → hsAnswer s h.target (b.val + 1) = .delay → Gives (.handshakeAnswer b) s (fun t => t.regs = s.regs ∧
        ∃ h', t.pwr.hs = some h' ∧ h'.acked = h.acked ∧ b.val + 1 ∈ h'.delayed)) ∧
      (new → hsAnswer s h.target (b.val + 1) = .ack → h.acked.length ≠ 10 → Gives (.handshakeAnswer b) s (fun t => t.regs = s.regs ∧
        t.pwr.hs = some { h with acked := (b.val + 1) :: h.acked })) ∧
      (new → hsAnswer s h.target (b.val + 1) = .ack → h.acked.length = 10 → Gives (.handshakeAnswer b) s (fun t => t.dev = dsSleep ∧
        t.pwr.mode = h.target ∧ t.pwr.before = s.dev ∧ t.pwr.hs = none ∧ (h.target = slDoze → t.mem = s.mem ∧ t.cores = s.cores) ∧
        (h.target ≠ slDoze → (∀ a, inTiles a = true → t.byte a = 0) ∧ ∀ k, (t.core k).run = .reset))) ∧
      (new → Gives (.handshakeTimeout b) s (fun t => refused t 4 ∧ t.get F.PWR_HS_STAT_BLOCK = b.val + 1)) ∧
      (¬ new → exec (.handshakeAnswer b) s = .next s ∧ exec (.handshakeTimeout b) s = .next s)) ∧
    (s.pwr.hs = none → ∀ b : Fin 11, exec (.handshakeAnswer b) s = .next s ∧ exec (.handshakeTimeout b) s = .next s) ∧
    (∀ (b : Fin 7) (line : BitVec 6),
      (s.dev = dsSleep → wakeEnabled s b = true → s.pwr.hs = none → s.pwr.waking = false →
        (s.pwr.mode = slDoze → s.pwr.before < 16 → Gives (.wakeSource b line) s (fun t => t.dev = s.pwr.before ∧ t.pwr.mode = 0 ∧
          t.get F.HW_WAKE_CAUSE_CAUSE = 2 ^ b.val ∧ t.flag F.PWR_IRQ_WOKE = true)) ∧
        (s.pwr.mode ≠ slDoze → Gives (.wakeSource b line) s (fun t => t.pwr.waking = true ∧ t.dev = dsSleep ∧
          t.get F.HW_WAKE_CAUSE_CAUSE = 2 ^ b.val))) ∧
      (∀ h, s.pwr.hs = some h → wakeEnabled s b = true → Gives (.wakeSource b line) s (fun t => refused t 3)) ∧
      (wakeEnabled s b = false ∨ (s.pwr.hs = none ∧ (s.dev ≠ dsSleep ∨ s.pwr.waking = true)) → exec (.wakeSource b line) s = .next s)) ∧
    (∀ j : Fin 3,
      let seen := (s.flag F.PWR_DOM_STAT_LINK = false ∨ deep) ∧ s.flag (F.CVY_PORT_CTL_WAKE_EN j) = true
      (seen → s.dev = dsSleep → wakeEnabled s j = true → s.pwr.hs = none → s.pwr.waking = false →
        Gives (.linkActivityWake j) s (fun t => t.get F.HW_WAKE_CAUSE_CAUSE = 2 ^ j.val ∧
          (deep → t.pwr.waking = true) ∧ (¬ deep → s.pwr.before < 16 → t.dev = s.pwr.before))) ∧
      (seen → s.dev ≠ dsSleep → Gives (.linkActivityWake j) s (fun t => t.bitAt (F.ICU_PEND_PEND 8) 14 = true ∧ t.mem = s.mem)) ∧
      (¬ seen → exec (.linkActivityWake j) s = .next s)) ∧
    (s.dev ≠ dsSleep → Gives .aonTimerMatch s (fun t => t.reg A.PWR_AON_CNT = s.reg A.PWR_AON_CMP ∧ t.flag F.PWR_IRQ_AON_CMP = true ∧
      (wakeEnabled s 4 = true → t.pwr.hs = none) ∧ t.mem = s.mem)) ∧
    (s.dev = dsSleep → s.pwr.hs = none → s.pwr.waking = false → Gives .aonTimerMatch s (fun t =>
      (wakeEnabled s 4 = true → t.get F.HW_WAKE_CAUSE_CAUSE = 16 ∧ (deep → t.pwr.waking = true) ∧
        (¬ deep → s.pwr.before < 16 → t.dev = s.pwr.before)) ∧
      (wakeEnabled s 4 = false → t.reg A.PWR_AON_CNT = s.reg A.PWR_AON_CMP ∧ t.dev = dsSleep ∧ t.pwr = s.pwr))) ∧
    (s.dev = dsSleep → s.pwr.waking = true → Gives .wakeRampDone s (fun t => t.dev = dsBoot ∧ t.pwr.mode = 0 ∧ t.pwr.waking = false ∧
      t.flag F.HW_RESET_CAUSE_WAKE = true ∧ (t.core 256).run = .active ∧ (t.core 256).pc = (Config.wakeEntry &&& ~~~3#40) ∧
      t.bitAt F.PWR_DOM_STAT_FAB 0 = false ∧ t.flag F.PWR_DOM_STAT_ANA = false ∧ t.mem = s.mem)) ∧
    (s.dev ≠ dsSleep ∨ s.pwr.waking = false → exec .wakeRampDone s = .next s) ∧
    (s.pwr.nvmOff = true → Gives .nvmWakeDone s (fun t => t.pwr.nvmOff = false ∧ t.flag F.FLC_STAT_SCAN_DONE = true ∧ t.mem = s.mem ∧
      t.cores = s.cores)) ∧
    (s.pwr.nvmOff = false → exec .nvmWakeDone s = .next s)

/-- Layby (R455, R457–R468): the service-core copy completes; a sag takes the device to LAYBY with its clock on HFRC, a voter or
standby onto the shoulder, and begins the save in the slot that it picks; the save's end completes its slot and ends in reset or
OFF, the floor in OFF. A preparation takes a slot in hand and ends; a restore that a check refuses says why, one that passes is
busy until its end, which writes the words back and consumes the offered save; a discard consumes it. -/
def Obligations.LaybyCommandsComplete : Prop :=
  ∀ s : State,
    (s.lay.scBusy = true → Gives .scKeepCopyDone s (fun t => t.lay.scBusy = false ∧ layTop t 256 = 1 - layTop s 256 ∧
      t.flag F.LAY_STAT_SC_VALID = true ∧ t.get F.LAY_STAT_SC_WNUM = s.lay.scWnum % 16 ∧ t.lay.wnum.read nat0 4 = s.lay.scWnum ∧
      t.lay.buf = s.lay.buf ∧ t.mem = s.mem)) ∧
    (s.lay.scBusy = false → exec .scKeepCopyDone s = .next s) ∧
    (let runs := s.boot.inReset = none ∧ (s.dev = dsRun ∨ s.dev = dsHold ∨ s.dev = dsService ∨ s.dev = dsSleep)
     (runs → Gives .sag s (fun t => t.dev = dsLayby ∧ t.flag F.SYS_CLK_STAT_SRC = false ∧ t.lay.prepSlot = none ∧ t.lay.restore = none ∧
       t.lay.save = (if s.flag F.LAY_CTL_EN && (s.get F.LAY_STAT_BUF_VALID != 0 || s.flag F.LAY_STAT_SC_VALID) then saveTarget s else none) ∧
       (∀ j, t.lay.save = some j → t.get F.LAY_STAT_STATE = 2 ∧ wordData t (slotBase 0 j) = begunWord) ∧
       (inConvoy s = true → t.role = roleShoulder))) ∧
     (¬ runs → exec .sag s = .next s)) ∧
    (s.dev = dsLayby → ∀ back : Bool,
      Gives (.laybySaveComplete back) s (fun t =>
        t.boot.inReset = some (if back then s.lay.heldReset.getD rcLayby else rcPowerOn) ∧ (back = false → t.dev = dsOff) ∧
        (∀ a, volatile a = true → t.byte a = 0) ∧
        (∀ j, s.lay.save = some j → j < 8 → (∀ b, b < 9 → (flEng s b).prog = none) → wordData t (slotBase 0 j) = 0))) ∧
    (s.dev = dsLayby → Gives .vholdFloor s (fun t => t.boot.inReset = some rcPowerOn ∧ t.dev = dsOff)) ∧
    (s.dev ≠ dsLayby → exec .vholdFloor s = .next s ∧ ∀ back, exec (.laybySaveComplete back) s = .next s) ∧
    (∀ j : BitVec 3,
      let bars := s.flag F.LAY_PREP_BUSY = true ∨ s.bitAt F.LAY_STAT_FREE j.toNat = true ∨
        (s.flag F.HW_LAYBY_STATUS_OFFERED = true ∧ s.get F.HW_LAYBY_STATUS_SLOT = j.toNat)
      (bars → exec (.prepStart j) s = .next s) ∧
      (¬ bars → Gives (.prepStart j) s (fun t => t.flag F.LAY_PREP_BUSY = true ∧ t.get F.LAY_PREP_SLOT = j.toNat ∧
        t.get F.LAY_STAT_STATE = 1 ∧ t.lay.prepSlot = some j.toNat))) ∧
    (∀ j, s.lay.prepSlot = some j →
      let runs (b : Nat) : Bool := (flEng s b).erase.any (fun e => e.sector == 120 + j)
      ((∀ b, b < 8 → runs b = false) → Gives .prepDone s (fun t => t.lay.prepSlot = none ∧ t.flag F.LAY_PREP_BUSY = false ∧
        t.get F.LAY_STAT_STATE = 0 ∧ t.flag F.LAY_IRQ_PREP_DONE = true ∧
        t.flag F.LAY_PREP_FAIL = (s.flag F.LAY_PREP_FAIL || (List.range 8).any (fun b => s.flash.pend.contains (b, 120 + j))))) ∧
      (∀ b, b < 8 → runs b = true → exec .prepDone s = .next s)) ∧
    (s.lay.prepSlot = none → exec .prepDone s = .next s) ∧
    (∀ (sc : Bool) (parts : BitVec 4),
      let c := restoreCheck ((s.putFlag F.LAY_RESTORE_SC sc).put F.LAY_RESTORE_PARTS parts.toNat) parts.toNat sc
      (c ≠ 0 → Gives (.restoreStart sc parts) s (fun t => t.get F.LAY_RESTORE_RESULT = c ∧ t.flag F.LAY_IRQ_RESTORE_DONE = true ∧
        t.lay = s.lay ∧ t.mem = s.mem)) ∧
      (c = 0 → Gives (.restoreStart sc parts) s (fun t => t.flag F.LAY_RESTORE_BUSY = true ∧ t.get F.LAY_STAT_STATE = 3 ∧
        t.lay.restore = some (parts.toNat, sc) ∧ t.mem = s.mem))) ∧
    (∀ parts sc, s.lay.restore = some (parts, sc) →
      let j := s.get F.HW_LAYBY_STATUS_SLOT
      Gives .restoreDone s (fun t => t.lay.restore = none ∧ t.flag F.LAY_RESTORE_BUSY = false ∧
        t.get F.LAY_RESTORE_RESULT = 0 ∧ t.flag F.HW_LAYBY_STATUS_OFFERED = false ∧ t.flag F.HW_LAYBY_STATUS_RESTORED = true ∧
        t.flag F.LAY_IRQ_RESTORE_DONE = true ∧ wordData t (slotBase 0 j + 0x80) = 0 ∧
        (sc = true → ∀ i, i < 2048 → ∀ d, slotData s j (16384 + i) = some d → t.bytes (0x10FFC000 + 8 * i) 8 = d) ∧
        (∀ p, p < 4 → parts / 2 ^ p % 2 = 1 → ∀ k ∈ s.partTiles p, ∀ i, i < 64 → 64 ≤ 8 * s.get (F.SYS_TILE_CFG_KEEP k) + i →
          ∀ d, slotData s j (64 * k + i) = some d → t.bytes (0x20000000 + 0x10000 * k + 0xFE00 + 8 * i) 8 = d))) ∧
    (s.lay.restore = none → exec .restoreDone s = .next s) ∧
    (s.flag F.HW_LAYBY_STATUS_OFFERED = true → Gives .discard s (fun t => t.flag F.HW_LAYBY_STATUS_OFFERED = false ∧
      t.flag F.HW_LAYBY_STATUS_DISCARDED = true ∧ wordData t (slotBase 0 (s.get F.HW_LAYBY_STATUS_SLOT) + 0x80) = 0 ∧ t.cores = s.cores)) ∧
    (s.flag F.HW_LAYBY_STATUS_OFFERED = false → exec .discard s = .next s)

/-- Watchdogs (R469–R484): the first valid configuration starts an instance, whose question is free but not 0 (log 1), an
invalid one sets CFG_ERR; milestones update the signature and the ledger of an instance that is on. A step counts, warns,
expires or judges: a service in its window, with its ledger met and the right token, is accepted, any other is a fault. A first
fault restarts the instance and its subject, or where the oscillator has stopped takes the second stage at once; a second resets
the device, and one at the ladder's limit puts it in ROADBLOCK; LAYBY holds both off. An initiator that does not own an instance
only sets FOREIGN. -/
def Obligations.WatchdogCommandsComplete : Prop :=
  ∀ (w : Fin 8) (s : State),
    let x := s.wdog w
    let count := s.get (F.WDG_COUNT_COUNT w)
    let fresh := s.flag (F.WDG_STAT_FAULTED w) = false
    let limit := s.get F.WDG_LADDER_COUNT = s.get F.WDG_LADDER_LIMIT
    let first (t : State) (cause : Nat) : Prop := t.flag (F.WDG_STAT_FAULTED w) = true ∧ t.flag (F.WDG_STAT_STAGE1 w) = true ∧
      t.get (F.WDG_COUNT_COUNT w) = 0 ∧
      (s.flag (F.WDG_FAULT_VALID w) = false → t.get (F.WDG_FAULT_CAUSE w) = cause ∧ t.get (F.WDG_FAULT_STAGE w) = 1) ∧
      (w.val < 4 → (t.core (256 + w.val)).run = .active ∧ (t.core (256 + w.val)).pc = 0xF0000000) ∧
      (4 ≤ w.val → s.pstate (w - 4) = psScanning → t.pstate (w - 4) = psFaulted)
    let second (t : State) : Prop := (¬ limit → s.dev ≠ dsLayby → t.boot.inReset = some rcWdg ∧
        t.get F.WDG_LADDER_COUNT = min (s.get F.WDG_LADDER_COUNT + 1) 7 ∧ t.get F.WDG_LADDER_LAST2 = 2 ^ w.val) ∧
      (limit → s.dev ≠ dsLayby → t.dev = dsRoadblock ∧ t.flag F.HW_CMD_BUSY = false) ∧
      (s.dev = dsLayby → t.dev = dsLayby ∧ (¬ limit → s.lay.heldReset = none → t.lay.heldReset = some rcWdg) ∧ (limit → t.boot.stage = 3))
    (∀ (i : Agent) (clk : Bool), wdgWriter i w = true →
      let o := s.get (F.WDG_OPEN_OPEN w)
      let c := s.get (F.WDG_CLOSE_CLOSE w)
      let good := 1 ≤ o ∧ o ≤ c ∧ s.get (F.WDG_WARN_WARN w) ≤ c
      (wdgOn s w = false → good → Gives (.instanceStart i w clk) s (fun t => wdgOn t w = true ∧ t.flag (F.WDG_CTL_CLKSEL w) = clk ∧
        t.get (F.WDG_COUNT_COUNT w) = 0 ∧ t.get (F.WDG_QUESTION_QUESTION w) ≠ 0 ∧ t.wdog w = wdogReset w)) ∧
      (wdgOn s w = false → ¬ good → Gives (.instanceStart i w clk) s (fun t => wdgOn t w = false ∧
        t.flag (F.WDG_STAT_CFG_ERR w) = true ∧ OnlyRegs s t (· = A.WDG_STAT w))) ∧
      (wdgOn s w = true → exec (.instanceStart i w clk) s = .next s)) ∧
    (∀ (i : Agent) (clk : Bool) (id : Byte) (tok : BitVec 16), wdgWriter i w = false →
      Gives (.instanceStart i w clk) s (fun t => t.flag (F.WDG_STAT_FOREIGN w) = true ∧ OnlyRegs s t (· = A.WDG_STAT w)) ∧
      Gives (.wdgMilestone i w id) s (fun t => t.flag (F.WDG_STAT_FOREIGN w) = true ∧ OnlyRegs s t (· = A.WDG_STAT w)) ∧
      Gives (.wdgToken i w tok) s (fun t => t.flag (F.WDG_STAT_FOREIGN w) = true ∧ OnlyRegs s t (· = A.WDG_STAT w))) ∧
    (∀ (i : Agent) (id : Byte) (tok : BitVec 16), wdgWriter i w = true →
      (wdgOn s w = true → Gives (.wdgMilestone i w id) s (fun t =>
          (t.wdog w).sig = sigUpdate (if x.fresh then 0xFFFF else x.sig) id ∧ (t.wdog w).fresh = false ∧
          (∀ n, n < 16 → s.flag (F.WDG_LEDGER_EN w n) = true → s.get (F.WDG_LEDGER_ID w n) = id.toNat →
            t.get (F.WDG_LEDGER_ACTUAL w n) = min (s.get (F.WDG_LEDGER_ACTUAL w n) + 1) 15) ∧
          ((∀ n, n < 16 → ¬(s.flag (F.WDG_LEDGER_EN w n) = true ∧ s.get (F.WDG_LEDGER_ID w n) = id.toNat)) →
            t.flag (F.WDG_STAT_UNLISTED w) = true)) ∧
        Gives (.wdgToken i w tok) s (fun t => (t.wdog w).tokens = x.tokens ++ [tok] ∧ t.regs = s.regs)) ∧
      (wdgOn s w = false → exec (.wdgMilestone i w id) s = .next s ∧ exec (.wdgToken i w tok) s = .next s)) ∧
    (wdgRuns s w = true →
      (x.tokens = [] → wdgNext s w = .count → count < 2 ^ 24 - 1 → Gives (.wdgStep w) s (fun t => t.get (F.WDG_COUNT_COUNT w) = count + 1 ∧
        (t.wdog w).recent = (count :: x.recent).take 2 ∧ OnlyRegs s { t with wdg := s.wdg } (· = A.WDG_COUNT w))) ∧
      (x.tokens = [] → wdgNext s w = .warn → count < 2 ^ 24 - 1 → exec (.wdgStep w) s = exec (.wdgEarlyWarning w) s ∧
        Gives (.wdgEarlyWarning w) s (fun t => t.get (F.WDG_COUNT_COUNT w) = count + 1 ∧
          t.flag (F.WDG_STAT_WARN w) = true ∧ t.bitAt (F.ICU_PEND_PEND 7) (w.val + 1) = true ∧ t.cores = s.cores)) ∧
      (∀ tok, x.tokens = [tok] →
        let meets := ledgerBad s w = none ∧ s.flag (F.WDG_STAT_UNLISTED w) = false
        let early := count < s.get (F.WDG_OPEN_OPEN w)
        let accepted := ¬ early ∧ meets ∧ tok = wdgExpected s w
        (accepted → Gives (.wdgStep w) s (fun t => t.get (F.WDG_COUNT_COUNT w) = 0 ∧ t.flag (F.WDG_STAT_FAULTED w) = false ∧
          t.get (F.WDG_QUESTION_QUESTION w) = (nextQuestion (wdgQuestion s w)).toNat ∧ t.get F.WDG_LADDER_COUNT = 0 ∧ t.cores = s.cores)) ∧
        (∀ cause, ¬ accepted → (early ∧ cause = wcEarly) ∨ (¬ early ∧ ¬ meets ∧ cause = wcLedger) ∨ (¬ early ∧ meets ∧ cause = wcToken) →
          (fresh → Gives (.wdgStep w) s (fun t => first t cause)) ∧ (¬ fresh → Gives (.wdgStep w) s second))) ∧
      (x.tokens = [] → wdgNext s w = .expiry → exec (.wdgStep w) s = exec (.wdgExpiry w) s ∧
        (fresh → Gives (.wdgExpiry w) s (fun t => first t wcExpiry)) ∧ (¬ fresh → Gives (.wdgExpiry w) s second)) ∧
      (fresh → s.flag (F.WDG_CTL_CLKSEL w) = true → Gives (.wdgClockStopped w) s (fun t => first t wcClock)) ∧
      (¬ fresh ∨ s.flag (F.WDG_CTL_CLKSEL w) = false → Gives (.wdgClockStopped w) s second)) ∧
    (∀ c, s.boot.inReset = some c → w.val ∈ s.boot.wdgDue → s.dev ≠ dsOff → s.dev ≠ dsRoadblock → Gives (.wdgExpiry w) s (fun t =>
      t.boot.inReset = some (if s.boot.newReset && decide (resetRank c < 3) then rcWdg else c) ∧
      t.bitAt F.WDG_LADDER_LAST2 w = true ∧ w.val ∉ t.boot.wdgDue ∧
      t.get F.WDG_LADDER_COUNT = (if s.get F.WDG_LADDER_LAST2 = 0 then min (s.get F.WDG_LADDER_COUNT + 1) 7 else s.get F.WDG_LADDER_COUNT))) ∧
    (wdgRuns s w = false → exec (.wdgStep w) s = .next s ∧ exec (.wdgEarlyWarning w) s = .next s ∧ exec (.wdgClockStopped w) s = .next s ∧
      (s.boot.inReset = none ∨ w.val ∉ s.boot.wdgDue → exec (.wdgExpiry w) s = .next s)) ∧
    (x.tokens ≠ [] ∨ wdgNext s w ≠ .warn → exec (.wdgEarlyWarning w) s = .next s) ∧
    (x.tokens ≠ [] ∨ wdgNext s w ≠ .expiry → s.boot.inReset = none ∨ w.val ∉ s.boot.wdgDue → exec (.wdgExpiry w) s = .next s)

/-- The test access port (R506–R508): on a five-wire port that answers each instruction is in force with its scan; EXTEST and
HIGHZ act at FULL in BOOT, PROVISION and SERVICE, and elsewhere behave as BYPASS; the IDCODE is shifted out; DBGACC shifts out
the status and data of the access before and starts the shifted one, operation 3 as 0. A port that has no such pins, or does not
answer, does nothing. -/
def Obligations.TestPortCommandsComplete : Prop :=
  ∀ s : State,
    (dbgUp s = true → s.pads.fiveWire = true →
      Gives .tapReset s (fun t => t.dbgp.ir = 0x01 ∧ t.dbgp.scan = 0 ∧ t.regs = s.regs) ∧
      Gives .bypass s (fun t => t.dbgp.ir = 0x1F ∧ t.dbgp.scan = 0) ∧
      Gives .idcode s (fun t => t.rdata = 0x12564A7B ∧ t.dbgp.ir = 0x01 ∧ t.dbgp.scan = 0) ∧
      Gives .highz s (fun t => t.dbgp.ir = 0x03 ∧ t.dbgp.scan = if scanActs s then 2 else 0) ∧
      (∀ out oe : BitVec 320,
        Gives (.samplePreload out oe) s (fun t => t.dbgp.ir = 0x02 ∧ t.dbgp.scan = 0 ∧ t.dbgp.bsOut = out ∧ t.dbgp.bsEn = oe ∧
          t.dbgp.bsIn = sampled s) ∧
        (scanActs s = true → Gives (.extest out oe) s (fun t => t.dbgp.ir = 0 ∧ t.dbgp.scan = 1 ∧ t.dbgp.bsOut = out ∧ t.dbgp.bsEn = oe ∧
          t.dbgp.bsIn = sampled s)) ∧
        (scanActs s = false → Gives (.extest out oe) s (fun t => t.dbgp.ir = 0 ∧ t.dbgp.scan = 0 ∧ t.dbgp.bsOut = s.dbgp.bsOut ∧
          t.dbgp.bsEn = s.dbgp.bsEn))) ∧
      (∀ (op : BitVec 2) (off : BitVec 16) (d : BitVec 32),
        let u := { s with rdata := BitVec.ofNat 64 (s.dbgp.status.toNat * 2 ^ 48 + s.dbgp.data.toNat)
                          dbgp := { s.dbgp with ir := 0x08, scan := 0 } }
        exec (.dbgacc op off d) s = exec (if op = 1 then .debugRead true off else if op = 2 then .debugWrite true off d else .debugNop true) u ∧
        Gives (.dbgacc op off d) s (fun t => t.dbgp.ir = 0x08 ∧ t.dbgp.scan = 0))) ∧
    (dbgUp s = false ∨ s.pads.fiveWire = false → ∀ (out oe : BitVec 320) (op : BitVec 2) (off : BitVec 16) (d : BitVec 32),
      ∀ c ∈ [Instr.tapReset, .bypass, .idcode, .highz, .samplePreload out oe, .extest out oe, .dbgacc op off d], exec c s = .next s)

/-- Debug accesses and run control (R506, R510, R511, R514–R516, R518, R523, R525, R526): a port that does not answer does
nothing, nor does a frame whose check fails; a NOP changes no core, no byte and no status. Each row of the port is the access of
its offset. At CLOSED all offsets but five are refused, and an offset of no word as RANGE (log 44). A read answers with the
register. A halt reaches the cores it names, of a voter by way of the shoulder; a resume and a step let them go on, a stopped
tile excepted; DROP returns to CLOSED and ends halts and steps; DEBUG_RESET resets the device, but not out of ROADBLOCK.
Registers written take their values. Registers and memory by the debug port (R518–R520, R524): the selected register of a halted
core is read and written by halves, g0 and a tile's CTXID and FPMODE excepted, and a write on a sealed core is reported; an
access that R518 refuses names its cause. A fed instruction runs and its core's pc stays; one that waits stays BUSY, one that
traps records its cause, others are refused. Memory accesses start, complete, wait, fail or are refused, an override is
reported; an access to their registers meanwhile waits for the end (log 50). -/
def Obligations.RunControlAndDebugAccessesComplete : Prop :=
  (∀ s : State,
     (∀ (c : Instr) (r : Nat × Option (BitVec 32)), portRow c = some r →
       (∀ d, r.2 = some d → exec c s = exec (.debugWrite true (BitVec.ofNat 16 r.1) d) s) ∧
       (r.2 = none → exec c s = exec (.debugRead true (BitVec.ofNat 16 r.1)) s)) ∧
     (∀ (crc : Bool) (off : BitVec 16) (d : BitVec 32), ∀ c ∈ [Instr.debugNop crc, .debugRead crc off, .debugWrite crc off d],
       (dbgUp s = false → exec c s = .next s) ∧
       (dbgUp s = true → crc = false → s.pads.fiveWire = false → exec c s = .next { s with dbgp := { s.dbgp with status := 3 } })) ∧
     (dbgUp s = false → exec .drop s = .next s ∧ exec .debugReset s = .next s) ∧
     (∀ crc : Bool, heard s crc → ∀ (off : BitVec 16) (d : BitVec 32),
       let o := off.toNat
       let k := dbgSel s
       let shut := (s.get F.DBG_LEVEL_LEVEL = 0 ∧ dbgOpen o = false) ∨ (perCore o = true ∧ dbgPermits s k = false)
       let cstat := o = 0x204 ∧ s.get F.DBG_LEVEL_LEVEL ≠ 0
       let base := if upperHalf o then 0x400E0000 + o - 4 else 0x400E0000 + o
       Gives (.debugNop crc) s (fun t => t.dbgp = s.dbgp ∧ t.cores = s.cores ∧ t.mem = s.mem) ∧
       (shut → (¬ cstat → Gives (.debugRead crc off) s (fun t => dbgRefused s t 1)) ∧
         Gives (.debugWrite crc off d) s (fun t => dbgRefused s t 1)) ∧
       (¬ shut → o % 4 ≠ 0 → Gives (.debugRead crc off) s (fun t => dbgRefused s t 8) ∧
         Gives (.debugWrite crc off d) s (fun t => dbgRefused s t 8)) ∧
       (¬ shut ∨ cstat → o % 4 = 0 → o ≠ 0x10 → o ≠ 0x220 → o ≠ 0x224 → s.dbgp.mem = none ∨ o < 0x400 ∨ 0x410 ≤ o →
         Gives (.debugRead crc off) s (fun t => dbgAnswers s t (match regAt base with
           | some (r, _, _) => halfOf (dbgRead s r.reg base).1 (upperHalf o)
           | none => 0))) ∧
       (¬ shut → o = 0x218 → Gives (.debugWrite crc off d) s (fun t => t.dbgp.status = 0 ∧
         (t.core k).dreg 0x218 = d.setWidth 64 &&& 0x303FF)) ∧
       (¬ shut → o = 0x208 → dbgHalted s k = true → Gives (.debugWrite crc off d) s (fun t => t.dbgp.status = 0 ∧
         (t.core k).pc.toNat = (s.core k).pc.toNat / 2 ^ 32 * 2 ^ 32 + d.toNat / 4 * 4 ∧ (t.core k).npc = (s.core k).npc)) ∧
       (¬ shut → o = 0x208 ∨ o = 0x210 → dbgHalted s k = false → Gives (.debugWrite crc off d) s (fun t => dbgRefused s t 7)) ∧
       (¬ shut → ∀ i, i < 4 → o = 0x250 + 0x20 * i →
         (bitsOf (d.setWidth 64) 30 29 = 3 → Gives (.debugWrite crc off d) s (fun t => dbgRefused s t 8)) ∧
         (bitsOf (d.setWidth 64) 30 29 ≠ 3 → Gives (.debugWrite crc off d) s (fun t => t.dbgp.status = 0 ∧
           bitsOf ((t.core k).dreg o) 31 0 = d.toNat &&& 0xFF00FFFF))) ∧
       (o = 0x0C → d.getLsbD 31 = true → Gives (.debugWrite crc off d) s (fun t => t.dbgp.status = 0 ∧ t.flag F.DBG_ERR_VALID = false ∧
         t.cores = s.cores)) ∧
       (¬ shut → o = 0x200 →
         (d.toNat % 512 < 260 → Gives (.debugWrite crc off d) s (fun t => t.dbgp.status = 0 ∧ dbgSel t = d.toNat % 512 ∧ t.cores = s.cores)) ∧
         (260 ≤ d.toNat % 512 → Gives (.debugWrite crc off d) s (fun t => dbgRefused s t 8)))) ∧
     (dbgServes s →
       (∀ (w : Fin 9) (v : BitVec 32), (∀ b, b < 32 → v.getLsbD b = true → 32 * w.val + b < 260 → dbgPermits s (32 * w.val + b) = true) →
         let named (k : Nat) : Bool := decide (32 * w.val ≤ k ∧ k < 32 * w.val + 32 ∧ k < 260) && v.getLsbD (k - 32 * w.val)
         (isVoter s = false ∨ s.flag F.DBG_CTL_SHOULDER_OK = true → Gives (.dbgHalt w v) s (fun t => t.dbgp.status = 0 ∧
           (isVoter s = true → (∃ k, named k = true) → t.role = roleShoulder) ∧
           ∀ k, (named k = false → t.core k = s.core k) ∧
             (named k = true → dbgHalted s k = false → (s.core k).run ≠ .reset → (t.core k).haltReq = 1) ∧
             (named k = true → dbgHalted s k = true → t.core k = s.core k))) ∧
         (isVoter s = true → s.flag F.DBG_CTL_SHOULDER_OK = false → (∃ k, named k = true) →
           Gives (.dbgHalt w v) s (fun t => dbgRefused s t 2)) ∧
         Gives (.dbgResume w v) s (fun t => t.dbgp.status = 0 ∧ ∀ k, (named k = false → t.core k = s.core k) ∧
           (named k = true → (t.core k).halted = false ∧ (t.core k).pc = (s.core k).pc ∧ (t.core k).npc = (s.core k).npc))) ∧
       (∀ (w : Fin 9) (v : BitVec 32) (b : Nat), b < 32 → v.getLsbD b = true → 32 * w.val + b < 260 → dbgPermits s (32 * w.val + b) = false →
         Gives (.dbgHalt w v) s (fun t => dbgRefused s t 1) ∧ Gives (.dbgResume w v) s (fun t => dbgRefused s t 1)) ∧
       (∀ k, k = dbgSel s →
         let scans := match s.tilePart k with
           | some p => s.pstate p == psScanning
           | none => false
         (dbgPermits s k = false → Gives .step s (fun t => dbgRefused s t 1)) ∧
         (dbgPermits s k = true → dbgHalted s k = false → Gives .step s (fun t => dbgRefused s t 7)) ∧
         (dbgPermits s k = true → (s.core k).halted = true → isSc k = true ∨ scans = true ∨ (s.core k).run = .reset →
           (s.core k).run ≠ .stopped →
           Gives .step s (fun t => t.dbgp.status = 0 ∧ (t.core k).stepping = true ∧ (t.core k).halted = false ∧
             (t.core k).pc = (s.core k).pc ∧ (t.core k).npc = (s.core k).npc)) ∧
         (dbgPermits s k = true → (s.core k).halted = true → isSc k = false → scans = false → (s.core k).run ≠ .reset →
           Gives .step s (fun t => t.dbgp.status = 0 ∧ (t.core k).run = .stopped ∧ (t.core k).halted = false)) ∧
         (dbgPermits s k = true → (s.core k).run = .stopped →
           Gives .step s (fun t => t.dbgp.status = 0 ∧ (t.core k).run = .stopped ∧ (t.core k).pc = (s.core k).pc))) ∧
       Gives .drop s (fun t => t.dbgp.status = 0 ∧ t.get F.DBG_LEVEL_LEVEL = 0 ∧ t.mem = s.mem ∧
         ∀ k, (t.core k).halted = false ∧ (t.core k).haltReq = 0 ∧ (t.core k).stepping = false) ∧
       (s.dev ≠ dsRoadblock → Gives .debugReset s (fun t => t.boot.inReset = some rcDebug ∧ t.get F.DBG_LEVEL_LEVEL = 0)) ∧
       (s.dev = dsRoadblock → Gives .debugReset s (fun t => t.dbgp.status = 0 ∧ t.boot = s.boot ∧ t.dev = s.dev ∧ t.cores = s.cores)) ∧
       (∀ (i : Fin 6) (v : BitVec 32),
         let wdg := i.val = 5 ∧ v.toNat / 2 ^ 8 % 2 ^ 8 ≠ s.get F.DBG_FRZ_UNIT_WDG ∧ s.get F.DBG_LEVEL_LEVEL < 2
         (wdg → Gives (.freezeWrite i v) s (fun t => dbgRefused s t 1)) ∧
         (¬ wdg → Gives (.freezeWrite i v) s (fun t => t.dbgp.status = 0 ∧ t.cores = s.cores ∧
           (i.val < 4 → bitsOf (t.reg (A.DBG_FRZ_IOS i)) 31 0 = v.toNat) ∧ (i.val = 4 → bitsOf (t.reg A.DBG_FRZ_ADC) 31 0 = v.toNat) ∧
           (i.val = 5 → bitsOf (t.reg A.DBG_FRZ_UNIT) 15 0 = v.toNat % 2 ^ 16)))))) ∧
  (∀ (s : State) (k : Nat), dbgServes s → k = dbgSel s → k < 260 →
     let c := selClass s k
     let n := selNum s k
     let closed := dbgPermits s k = false
     let open7 := dbgPermits s k = true ∧ dbgHalted s k = true
     let range := (c = 3 ∧ (isSc k = false ∨ 63 < n)) ∨ (c = 2 ∧ srListed n = false) ∨ (c < 2 ∧ 31 < n)
     let level := c = 3 ∧ ¬ range ∧ s.get F.DBG_LEVEL_LEVEL < 2
     let a := dmemAddr s
     let z := dmemSize s
     let moved (t : State) := dmemAddr t = (if s.flag F.DBG_MEM_CTL_INC then (a + z) % 2 ^ 40 else a)
     let busy := bitsOf ((s.core k).dreg 0x22C) 31 31 = 1 ∨ s.dbgp.word.isSome = true
     let g := guardOf s a
     let allowed := isGuarded g = false ∨ (s.flag F.DBG_MEM_CTL_OVERRIDE = true ∧ s.get F.DBG_LEVEL_LEVEL = 2)
     (∀ (cause : Nat), (closed ∧ cause = 1) ∨ (¬ closed ∧ dbgHalted s k = false ∧ cause = 7) ∨ (open7 ∧ range ∧ cause = 8) ∨
         (open7 ∧ level ∧ cause = 1) → ∀ (hi : Bool) (d : BitVec 32),
       Gives (.regDataRead hi) s (fun t => dbgRefused s t cause) ∧ Gives (.regDataWrite hi d) s (fun t => dbgRefused s t cause)) ∧
     (open7 → ¬ range → ¬ level →
       let v := if c = 0 then (s.core k).greg n else if c = 1 then (s.core k).freg n else if c = 2 then srRead s k n
         else (s.core k).save.read zero64 n
       ∀ hi : Bool, Gives (.regDataRead hi) s (fun t => dbgAnswers s t (halfOf v hi)) ∧
         ∀ d : BitVec 32,
           (c = 0 → n ≠ 0 → Gives (.regDataWrite hi d) s (fun t => t.dbgp.status = 0 ∧ (t.core k).greg n = setHalf v hi d ∧
             (t.core k).pc = (s.core k).pc ∧ (∀ r, r ≠ n → (t.core k).greg r = (s.core k).greg r) ∧ (∀ j, j ≠ k → t.core j = s.core j) ∧
             (256 ≤ k → s.isSealed k = true → t.flag (F.SYS_SC_SEAL_VOID (k - 256)) = true) ∧
             ∀ p, p < 4 → isSc k = false → s.tilePart k = some p → s.sealedPart p = true → t.bitAt F.HW_SEAL_STATUS_VALUE_VOID p = true)) ∧
           (c = 1 → Gives (.regDataWrite hi d) s (fun t => t.dbgp.status = 0 ∧ (t.core k).freg n = setHalf v hi d ∧
             (t.core k).pc = (s.core k).pc ∧ ∀ j, j ≠ k → t.core j = s.core j)) ∧
           (c = 2 → isSc k = true ∨ (n ≠ srCtxid ∧ n ≠ srFpmode) →
             Gives (.regDataWrite hi d) s (fun t => t.dbgp.status = 0 ∧ t.core k = (srWrite s k n (setHalf v hi d)).core k)) ∧
           (c = 3 ∨ (c = 0 ∧ n = 0) ∨ (c = 2 ∧ isSc k = false ∧ (n = srCtxid ∨ n = srFpmode)) →
             Gives (.regDataWrite hi d) s (fun t => dbgAnswers s t 0))) ∧
     (∀ w : BitVec 32,
       let i? := decodeWord (Fin.ofNat 260 k) w
       let barred := i?.isSome = true ∧ feedBarred w = true
       (∀ cause, (closed ∧ cause = 1) ∨ (¬ closed ∧ dbgHalted s k = false ∧ cause = 7) ∨ (open7 ∧ busy ∧ cause = 3) ∨
         (open7 ∧ ¬ busy ∧ barred ∧ cause = 4) → Gives (.dbgFeed w) s (fun t => dbgRefused s t cause)) ∧
       (open7 → ¬ busy → ¬ barred → (s.core k).sb = [] →
         (i? = none → Gives (.dbgFeed w) s (fun t => t.dbgp.status = 0 ∧ fedTrapped t k tcIllegal ∧ (t.core k).pc = (s.core k).pc)) ∧
         (∀ i u, i? = some i → fedExec i { s with dbgp := { s.dbgp with word := none, feed := some none } } = .next u →
           (u.dbgp.feed = none → Gives (.dbgFeed w) s (fun t => t.dbgp.status = 0 ∧ t.dbgp.word = some (k, w) ∧
             bitsOf ((t.core k).dreg 0x22C) 31 31 = 1)) ∧
           (∀ e, u.dbgp.feed = some (some e) → e < 256 → (u.core k).sb = [] →
             Gives (.dbgFeed w) s (fun t => t.dbgp.status = 0 ∧ fedTrapped t k e ∧ t.mem = u.mem)) ∧
           (u.dbgp.feed = some none → (u.core k).sb = [] → Gives (.dbgFeed w) s (fun t => t.dbgp.status = 0 ∧ fedDone t k ∧ t.mem = u.mem))) ∧
         (∀ i d v, i? = some i → intResult (fun r => (s.core k).greg r.toNat) i = some (Fin.ofNat 260 k, d, v) →
           Gives (.dbgFeed w) s (fun t => t.dbgp.status = 0 ∧ fedDone t k ∧ (t.core k).pc = (s.core k).pc ∧ (t.core k).npc = (s.core k).npc ∧
             (d ≠ 0 → (t.core k).greg d.toNat = v) ∧ (∀ r, r ≠ d.toNat → (t.core k).greg r = (s.core k).greg r) ∧
             (d ≠ 0 → 256 ≤ k → s.isSealed k = true → t.flag (F.SYS_SC_SEAL_VOID (k - 256)) = true))))) ∧
     (∀ (v : BitVec 31) (hi : Bool) (d : BitVec 32),
       (s.dbgp.mem.isSome = true → ∀ e ∈ [Instr.memRead v, .memWrite hi d], Gives e s (fun t => t.dbgp.status = 1 ∧ t.dbgp.mem = s.dbgp.mem ∧
         (s.dbgp.held = none → ∃ o x, t.dbgp.held = some (true, o, x)) ∧ t.cores = s.cores ∧ t.mem = s.mem)) ∧
       (s.dbgp.mem = none →
         (a % (if v.getLsbD 26 then 8 else 4) = 0 → Gives (.memRead v) s (fun t => t.dbgp.status = 0 ∧ t.dbgp.mem = some (a, none) ∧
           t.flag F.DBG_MEM_CTL_SIZE = v.getLsbD 26 ∧ t.flag F.DBG_MEM_CTL_OVERRIDE = v.getLsbD 27 ∧
           t.flag F.DBG_MEM_CTL_INC = v.getLsbD 28 ∧ t.mem = s.mem)) ∧
         (a % (if v.getLsbD 26 then 8 else 4) ≠ 0 → Gives (.memRead v) s (fun t => dbgRefused s t 8 ∧ t.dbgp.mem = none)) ∧
         (hi ≠ s.flag F.DBG_MEM_CTL_SIZE → Gives (.memWrite hi d) s (fun t => t.dbgp.status = 0 ∧ t.dbgp.mem = none ∧
           t.reg A.DBG_MEM_DATA = setHalf (s.reg A.DBG_MEM_DATA) hi d ∧ t.mem = s.mem)) ∧
         (hi = s.flag F.DBG_MEM_CTL_SIZE →
           (a % z = 0 → allowed → Gives (.memWrite hi d) s (fun t => t.dbgp.status = 0 ∧
             t.dbgp.mem = some (a, some (setHalf (s.reg A.DBG_MEM_DATA) hi d)) ∧ t.mem = s.mem)) ∧
           (a % z = 0 → ¬ allowed → Gives (.memWrite hi d) s (fun t => dbgRefused s t 1 ∧ t.dbgp.mem = none)) ∧
           (a % z ≠ 0 → Gives (.memWrite hi d) s (fun t => dbgRefused s t 8 ∧ t.dbgp.mem = none))))) ∧
     (s.dbgp.held = none →
       let failed (t : State) : Prop := t.dbgp.mem = none ∧ t.dbgp.status = s.dbgp.status ∧ t.flag F.DBG_MEM_CTL_ERR = true ∧
         (s.flag F.DBG_ERR_VALID = false → t.get F.DBG_ERR_CAUSE = 5)
       (s.dbgp.mem = none → Gives .memAccessDone s (fun t => t.dbgp = s.dbgp ∧ t.cores = s.cores ∧ t.mem = s.mem)) ∧
       (∀ b, s.dbgp.mem = some (b, none) →
         (∀ v u, busRead s .debug b z = (.ok v, u) → Gives .memAccessDone s (fun t => t.dbgp.mem = none ∧
           t.dbgp.status = s.dbgp.status ∧ t.reg A.DBG_MEM_DATA = BitVec.ofNat 64 v ∧ t.mem = u.mem ∧ (inPeri b = false → moved t))) ∧
         (∀ e u, busRead s .debug b z = (.err e, u) → Gives .memAccessDone s failed) ∧
         (∀ u, busRead s .debug b z = (.wait, u) → Gives .memAccessDone s (fun t => t.dbgp.mem = some (b, none)))) ∧
       (∀ b x, s.dbgp.mem = some (b, some x) →
         (inDepot b = true → b % z = 0 → zeroingAt s b = false → isGuarded (guardOf s b) = false →
           z = 8 ∨ s.eccOf memDepot (b / 8) ≠ 2 → Gives .memAccessDone s (fun t => t.dbgp.mem = none ∧ t.dbgp.status = s.dbgp.status ∧
             t.bytes b z = x.toNat % 2 ^ (8 * z) ∧ (∀ y, (y < b ∨ b + z ≤ y) → t.byte y = s.byte y) ∧ moved t)) ∧
         (∀ u, isGuarded (guardOf s b) = true → memWrite s .debug b z (x.toNat % 2 ^ (8 * z)) = (.ok, u) →
           Gives .memAccessDone s (fun t => t.dbgp.mem = none ∧ t.mem = u.mem ∧
             ∀ tile p, p < 4 → guardOf s b = .tile tile p → t.bitAt F.HW_SEAL_STATUS_VALUE_VOID p = true)) ∧
         (inFlash b = true → Gives .memAccessDone s failed))) ∧
     (∀ b v u x, s.dbgp.mem = some (b, none) → s.dbgp.held = some (false, 0x408, x) → inPeri b = false → busRead s .debug b z = (.ok v, u) →
       Gives .memAccessDone s (fun t => t.dbgp.mem = none ∧ t.dbgp.held = none ∧ t.dbgp.status = 0 ∧ t.dbgp.data = BitVec.ofNat 32 v)))
end

