-- ==== Sys2Proof/Laws/State.lean ====
section
/-! SUPPORT. What each primitive update of the state leaves alone: one lemma per field and update, each by unfolding the
update once, so that no later proof opens a record. -/

namespace Sys2Proof.Machine

@[simp] theorem State.setReg_rwl (s : State) (a : Nat) (v : Word) : (s.setReg a v).rwl = s.rwl := rfl
@[simp] theorem State.setReg_mem (s : State) (a : Nat) (v : Word) : (s.setReg a v).mem = s.mem := rfl
@[simp] theorem State.setReg_ecc (s : State) (a : Nat) (v : Word) : (s.setReg a v).ecc = s.ecc := rfl
@[simp] theorem State.setReg_cores (s : State) (a : Nat) (v : Word) : (s.setReg a v).cores = s.cores := rfl
@[simp] theorem State.setReg_time (s : State) (a : Nat) (v : Word) : (s.setReg a v).time = s.time := rfl
@[simp] theorem State.setReg_mesh (s : State) (a : Nat) (v : Word) : (s.setReg a v).mesh = s.mesh := rfl
@[simp] theorem State.setReg_wpt (s : State) (a : Nat) (v : Word) : (s.setReg a v).wpt = s.wpt := rfl
@[simp] theorem State.setReg_host (s : State) (a : Nat) (v : Word) : (s.setReg a v).host = s.host := rfl
@[simp] theorem State.setReg_latchTime (s : State) (a : Nat) (v : Word) : (s.setReg a v).latchTime = s.latchTime := rfl
@[simp] theorem State.setReg_withdrawn (s : State) (a : Nat) (v : Word) : (s.setReg a v).withdrawn = s.withdrawn := rfl
@[simp] theorem State.setReg_service (s : State) (a : Nat) (v : Word) : (s.setReg a v).service = s.service := rfl
@[simp] theorem State.setReg_rdata (s : State) (a : Nat) (v : Word) : (s.setReg a v).rdata = s.rdata := rfl
@[simp] theorem State.setReg_cvy (s : State) (a : Nat) (v : Word) : (s.setReg a v).cvy = s.cvy := rfl
@[simp] theorem State.setReg_eng (s : State) (a : Nat) (v : Word) : (s.setReg a v).eng = s.eng := rfl
@[simp] theorem State.setReg_flagCyc (s : State) (a : Nat) (v : Word) : (s.setReg a v).flagCyc = s.flagCyc := rfl
@[simp] theorem State.setReg_pads (s : State) (a : Nat) (v : Word) : (s.setReg a v).pads = s.pads := rfl
@[simp] theorem State.setReg_flash (s : State) (a : Nat) (v : Word) : (s.setReg a v).flash = s.flash := rfl
@[simp] theorem State.setReg_xsp (s : State) (a : Nat) (v : Word) : (s.setReg a v).xsp = s.xsp := rfl
@[simp] theorem State.setReg_pwr (s : State) (a : Nat) (v : Word) : (s.setReg a v).pwr = s.pwr := rfl
@[simp] theorem State.setReg_lay (s : State) (a : Nat) (v : Word) : (s.setReg a v).lay = s.lay := rfl
@[simp] theorem State.setReg_wdg (s : State) (a : Nat) (v : Word) : (s.setReg a v).wdg = s.wdg := rfl
@[simp] theorem State.setReg_boot (s : State) (a : Nat) (v : Word) : (s.setReg a v).boot = s.boot := rfl
@[simp] theorem State.setReg_adc (s : State) (a : Nat) (v : Word) : (s.setReg a v).adc = s.adc := rfl
@[simp] theorem State.setReg_dma (s : State) (a : Nat) (v : Word) : (s.setReg a v).dma = s.dma := rfl
@[simp] theorem State.setReg_dbgp (s : State) (a : Nat) (v : Word) : (s.setReg a v).dbgp = s.dbgp := rfl
@[simp] theorem State.setReg_evlog (s : State) (a : Nat) (v : Word) : (s.setReg a v).evlog = s.evlog := rfl
@[simp] theorem State.setReg_mbxIn (s : State) (a : Nat) (v : Word) : (s.setReg a v).mbxIn = s.mbxIn := rfl
@[simp] theorem State.setReg_mbxOut (s : State) (a : Nat) (v : Word) : (s.setReg a v).mbxOut = s.mbxOut := rfl
@[simp] theorem State.setReg_free (s : State) (a : Nat) (v : Word) : (s.setReg a v).free = s.free := rfl
@[simp] theorem State.setReg_pending (s : State) (a : Nat) (v : Word) : (s.setReg a v).pending = s.pending := rfl

@[simp] theorem State.put_rwl (s : State) (l : Loc) (x : Nat) : (s.put l x).rwl = s.rwl := rfl
@[simp] theorem State.put_mem (s : State) (l : Loc) (x : Nat) : (s.put l x).mem = s.mem := rfl
@[simp] theorem State.put_ecc (s : State) (l : Loc) (x : Nat) : (s.put l x).ecc = s.ecc := rfl
@[simp] theorem State.put_cores (s : State) (l : Loc) (x : Nat) : (s.put l x).cores = s.cores := rfl
@[simp] theorem State.put_time (s : State) (l : Loc) (x : Nat) : (s.put l x).time = s.time := rfl
@[simp] theorem State.put_mesh (s : State) (l : Loc) (x : Nat) : (s.put l x).mesh = s.mesh := rfl
@[simp] theorem State.put_wpt (s : State) (l : Loc) (x : Nat) : (s.put l x).wpt = s.wpt := rfl
@[simp] theorem State.put_host (s : State) (l : Loc) (x : Nat) : (s.put l x).host = s.host := rfl
@[simp] theorem State.put_latchTime (s : State) (l : Loc) (x : Nat) : (s.put l x).latchTime = s.latchTime := rfl
@[simp] theorem State.put_withdrawn (s : State) (l : Loc) (x : Nat) : (s.put l x).withdrawn = s.withdrawn := rfl
@[simp] theorem State.put_service (s : State) (l : Loc) (x : Nat) : (s.put l x).service = s.service := rfl
@[simp] theorem State.put_rdata (s : State) (l : Loc) (x : Nat) : (s.put l x).rdata = s.rdata := rfl
@[simp] theorem State.put_cvy (s : State) (l : Loc) (x : Nat) : (s.put l x).cvy = s.cvy := rfl
@[simp] theorem State.put_eng (s : State) (l : Loc) (x : Nat) : (s.put l x).eng = s.eng := rfl
@[simp] theorem State.put_flagCyc (s : State) (l : Loc) (x : Nat) : (s.put l x).flagCyc = s.flagCyc := rfl
@[simp] theorem State.put_pads (s : State) (l : Loc) (x : Nat) : (s.put l x).pads = s.pads := rfl
@[simp] theorem State.put_flash (s : State) (l : Loc) (x : Nat) : (s.put l x).flash = s.flash := rfl
@[simp] theorem State.put_xsp (s : State) (l : Loc) (x : Nat) : (s.put l x).xsp = s.xsp := rfl
@[simp] theorem State.put_pwr (s : State) (l : Loc) (x : Nat) : (s.put l x).pwr = s.pwr := rfl
@[simp] theorem State.put_lay (s : State) (l : Loc) (x : Nat) : (s.put l x).lay = s.lay := rfl
@[simp] theorem State.put_wdg (s : State) (l : Loc) (x : Nat) : (s.put l x).wdg = s.wdg := rfl
@[simp] theorem State.put_boot (s : State) (l : Loc) (x : Nat) : (s.put l x).boot = s.boot := rfl
@[simp] theorem State.put_adc (s : State) (l : Loc) (x : Nat) : (s.put l x).adc = s.adc := rfl
@[simp] theorem State.put_dma (s : State) (l : Loc) (x : Nat) : (s.put l x).dma = s.dma := rfl
@[simp] theorem State.put_dbgp (s : State) (l : Loc) (x : Nat) : (s.put l x).dbgp = s.dbgp := rfl
@[simp] theorem State.put_evlog (s : State) (l : Loc) (x : Nat) : (s.put l x).evlog = s.evlog := rfl
@[simp] theorem State.put_mbxIn (s : State) (l : Loc) (x : Nat) : (s.put l x).mbxIn = s.mbxIn := rfl
@[simp] theorem State.put_mbxOut (s : State) (l : Loc) (x : Nat) : (s.put l x).mbxOut = s.mbxOut := rfl
@[simp] theorem State.put_free (s : State) (l : Loc) (x : Nat) : (s.put l x).free = s.free := rfl
@[simp] theorem State.put_pending (s : State) (l : Loc) (x : Nat) : (s.put l x).pending = s.pending := rfl

@[simp] theorem State.putFlag_rwl (s : State) (l : Loc) (b : Bool) : (s.putFlag l b).rwl = s.rwl := rfl
@[simp] theorem State.putFlag_mem (s : State) (l : Loc) (b : Bool) : (s.putFlag l b).mem = s.mem := rfl
@[simp] theorem State.putFlag_ecc (s : State) (l : Loc) (b : Bool) : (s.putFlag l b).ecc = s.ecc := rfl
@[simp] theorem State.putFlag_cores (s : State) (l : Loc) (b : Bool) : (s.putFlag l b).cores = s.cores := rfl
@[simp] theorem State.putFlag_time (s : State) (l : Loc) (b : Bool) : (s.putFlag l b).time = s.time := rfl
@[simp] theorem State.putFlag_mesh (s : State) (l : Loc) (b : Bool) : (s.putFlag l b).mesh = s.mesh := rfl
@[simp] theorem State.putFlag_wpt (s : State) (l : Loc) (b : Bool) : (s.putFlag l b).wpt = s.wpt := rfl
@[simp] theorem State.putFlag_host (s : State) (l : Loc) (b : Bool) : (s.putFlag l b).host = s.host := rfl
@[simp] theorem State.putFlag_latchTime (s : State) (l : Loc) (b : Bool) : (s.putFlag l b).latchTime = s.latchTime := rfl
@[simp] theorem State.putFlag_withdrawn (s : State) (l : Loc) (b : Bool) : (s.putFlag l b).withdrawn = s.withdrawn := rfl
@[simp] theorem State.putFlag_service (s : State) (l : Loc) (b : Bool) : (s.putFlag l b).service = s.service := rfl
@[simp] theorem State.putFlag_rdata (s : State) (l : Loc) (b : Bool) : (s.putFlag l b).rdata = s.rdata := rfl
@[simp] theorem State.putFlag_cvy (s : State) (l : Loc) (b : Bool) : (s.putFlag l b).cvy = s.cvy := rfl
@[simp] theorem State.putFlag_eng (s : State) (l : Loc) (b : Bool) : (s.putFlag l b).eng = s.eng := rfl
@[simp] theorem State.putFlag_flagCyc (s : State) (l : Loc) (b : Bool) : (s.putFlag l b).flagCyc = s.flagCyc := rfl
@[simp] theorem State.putFlag_pads (s : State) (l : Loc) (b : Bool) : (s.putFlag l b).pads = s.pads := rfl
@[simp] theorem State.putFlag_flash (s : State) (l : Loc) (b : Bool) : (s.putFlag l b).flash = s.flash := rfl
@[simp] theorem State.putFlag_xsp (s : State) (l : Loc) (b : Bool) : (s.putFlag l b).xsp = s.xsp := rfl
@[simp] theorem State.putFlag_pwr (s : State) (l : Loc) (b : Bool) : (s.putFlag l b).pwr = s.pwr := rfl
@[simp] theorem State.putFlag_lay (s : State) (l : Loc) (b : Bool) : (s.putFlag l b).lay = s.lay := rfl
@[simp] theorem State.putFlag_wdg (s : State) (l : Loc) (b : Bool) : (s.putFlag l b).wdg = s.wdg := rfl
@[simp] theorem State.putFlag_boot (s : State) (l : Loc) (b : Bool) : (s.putFlag l b).boot = s.boot := rfl
@[simp] theorem State.putFlag_adc (s : State) (l : Loc) (b : Bool) : (s.putFlag l b).adc = s.adc := rfl
@[simp] theorem State.putFlag_dma (s : State) (l : Loc) (b : Bool) : (s.putFlag l b).dma = s.dma := rfl
@[simp] theorem State.putFlag_dbgp (s : State) (l : Loc) (b : Bool) : (s.putFlag l b).dbgp = s.dbgp := rfl
@[simp] theorem State.putFlag_evlog (s : State) (l : Loc) (b : Bool) : (s.putFlag l b).evlog = s.evlog := rfl
@[simp] theorem State.putFlag_mbxIn (s : State) (l : Loc) (b : Bool) : (s.putFlag l b).mbxIn = s.mbxIn := rfl
@[simp] theorem State.putFlag_mbxOut (s : State) (l : Loc) (b : Bool) : (s.putFlag l b).mbxOut = s.mbxOut := rfl
@[simp] theorem State.putFlag_free (s : State) (l : Loc) (b : Bool) : (s.putFlag l b).free = s.free := rfl
@[simp] theorem State.putFlag_pending (s : State) (l : Loc) (b : Bool) : (s.putFlag l b).pending = s.pending := rfl

@[simp] theorem State.putBit_rwl (s : State) (l : Loc) (i : Nat) (b : Bool) : (s.putBit l i b).rwl = s.rwl := rfl
@[simp] theorem State.putBit_mem (s : State) (l : Loc) (i : Nat) (b : Bool) : (s.putBit l i b).mem = s.mem := rfl
@[simp] theorem State.putBit_ecc (s : State) (l : Loc) (i : Nat) (b : Bool) : (s.putBit l i b).ecc = s.ecc := rfl
@[simp] theorem State.putBit_cores (s : State) (l : Loc) (i : Nat) (b : Bool) : (s.putBit l i b).cores = s.cores := rfl
@[simp] theorem State.putBit_time (s : State) (l : Loc) (i : Nat) (b : Bool) : (s.putBit l i b).time = s.time := rfl
@[simp] theorem State.putBit_mesh (s : State) (l : Loc) (i : Nat) (b : Bool) : (s.putBit l i b).mesh = s.mesh := rfl
@[simp] theorem State.putBit_wpt (s : State) (l : Loc) (i : Nat) (b : Bool) : (s.putBit l i b).wpt = s.wpt := rfl
@[simp] theorem State.putBit_host (s : State) (l : Loc) (i : Nat) (b : Bool) : (s.putBit l i b).host = s.host := rfl
@[simp] theorem State.putBit_latchTime (s : State) (l : Loc) (i : Nat) (b : Bool) : (s.putBit l i b).latchTime = s.latchTime := rfl
@[simp] theorem State.putBit_withdrawn (s : State) (l : Loc) (i : Nat) (b : Bool) : (s.putBit l i b).withdrawn = s.withdrawn := rfl
@[simp] theorem State.putBit_service (s : State) (l : Loc) (i : Nat) (b : Bool) : (s.putBit l i b).service = s.service := rfl
@[simp] theorem State.putBit_rdata (s : State) (l : Loc) (i : Nat) (b : Bool) : (s.putBit l i b).rdata = s.rdata := rfl
@[simp] theorem State.putBit_cvy (s : State) (l : Loc) (i : Nat) (b : Bool) : (s.putBit l i b).cvy = s.cvy := rfl
@[simp] theorem State.putBit_eng (s : State) (l : Loc) (i : Nat) (b : Bool) : (s.putBit l i b).eng = s.eng := rfl
@[simp] theorem State.putBit_flagCyc (s : State) (l : Loc) (i : Nat) (b : Bool) : (s.putBit l i b).flagCyc = s.flagCyc := rfl
@[simp] theorem State.putBit_pads (s : State) (l : Loc) (i : Nat) (b : Bool) : (s.putBit l i b).pads = s.pads := rfl
@[simp] theorem State.putBit_flash (s : State) (l : Loc) (i : Nat) (b : Bool) : (s.putBit l i b).flash = s.flash := rfl
@[simp] theorem State.putBit_xsp (s : State) (l : Loc) (i : Nat) (b : Bool) : (s.putBit l i b).xsp = s.xsp := rfl
@[simp] theorem State.putBit_pwr (s : State) (l : Loc) (i : Nat) (b : Bool) : (s.putBit l i b).pwr = s.pwr := rfl
@[simp] theorem State.putBit_lay (s : State) (l : Loc) (i : Nat) (b : Bool) : (s.putBit l i b).lay = s.lay := rfl
@[simp] theorem State.putBit_wdg (s : State) (l : Loc) (i : Nat) (b : Bool) : (s.putBit l i b).wdg = s.wdg := rfl
@[simp] theorem State.putBit_boot (s : State) (l : Loc) (i : Nat) (b : Bool) : (s.putBit l i b).boot = s.boot := rfl
@[simp] theorem State.putBit_adc (s : State) (l : Loc) (i : Nat) (b : Bool) : (s.putBit l i b).adc = s.adc := rfl
@[simp] theorem State.putBit_dma (s : State) (l : Loc) (i : Nat) (b : Bool) : (s.putBit l i b).dma = s.dma := rfl
@[simp] theorem State.putBit_dbgp (s : State) (l : Loc) (i : Nat) (b : Bool) : (s.putBit l i b).dbgp = s.dbgp := rfl
@[simp] theorem State.putBit_evlog (s : State) (l : Loc) (i : Nat) (b : Bool) : (s.putBit l i b).evlog = s.evlog := rfl
@[simp] theorem State.putBit_mbxIn (s : State) (l : Loc) (i : Nat) (b : Bool) : (s.putBit l i b).mbxIn = s.mbxIn := rfl
@[simp] theorem State.putBit_mbxOut (s : State) (l : Loc) (i : Nat) (b : Bool) : (s.putBit l i b).mbxOut = s.mbxOut := rfl
@[simp] theorem State.putBit_free (s : State) (l : Loc) (i : Nat) (b : Bool) : (s.putBit l i b).free = s.free := rfl
@[simp] theorem State.putBit_pending (s : State) (l : Loc) (i : Nat) (b : Bool) : (s.putBit l i b).pending = s.pending := rfl

@[simp] theorem State.addSat_rwl (s : State) (l : Loc) (x : Nat) : (s.addSat l x).rwl = s.rwl := rfl
@[simp] theorem State.addSat_mem (s : State) (l : Loc) (x : Nat) : (s.addSat l x).mem = s.mem := rfl
@[simp] theorem State.addSat_ecc (s : State) (l : Loc) (x : Nat) : (s.addSat l x).ecc = s.ecc := rfl
@[simp] theorem State.addSat_cores (s : State) (l : Loc) (x : Nat) : (s.addSat l x).cores = s.cores := rfl
@[simp] theorem State.addSat_time (s : State) (l : Loc) (x : Nat) : (s.addSat l x).time = s.time := rfl
@[simp] theorem State.addSat_mesh (s : State) (l : Loc) (x : Nat) : (s.addSat l x).mesh = s.mesh := rfl
@[simp] theorem State.addSat_wpt (s : State) (l : Loc) (x : Nat) : (s.addSat l x).wpt = s.wpt := rfl
@[simp] theorem State.addSat_host (s : State) (l : Loc) (x : Nat) : (s.addSat l x).host = s.host := rfl
@[simp] theorem State.addSat_latchTime (s : State) (l : Loc) (x : Nat) : (s.addSat l x).latchTime = s.latchTime := rfl
@[simp] theorem State.addSat_withdrawn (s : State) (l : Loc) (x : Nat) : (s.addSat l x).withdrawn = s.withdrawn := rfl
@[simp] theorem State.addSat_service (s : State) (l : Loc) (x : Nat) : (s.addSat l x).service = s.service := rfl
@[simp] theorem State.addSat_rdata (s : State) (l : Loc) (x : Nat) : (s.addSat l x).rdata = s.rdata := rfl
@[simp] theorem State.addSat_cvy (s : State) (l : Loc) (x : Nat) : (s.addSat l x).cvy = s.cvy := rfl
@[simp] theorem State.addSat_eng (s : State) (l : Loc) (x : Nat) : (s.addSat l x).eng = s.eng := rfl
@[simp] theorem State.addSat_flagCyc (s : State) (l : Loc) (x : Nat) : (s.addSat l x).flagCyc = s.flagCyc := rfl
@[simp] theorem State.addSat_pads (s : State) (l : Loc) (x : Nat) : (s.addSat l x).pads = s.pads := rfl
@[simp] theorem State.addSat_flash (s : State) (l : Loc) (x : Nat) : (s.addSat l x).flash = s.flash := rfl
@[simp] theorem State.addSat_xsp (s : State) (l : Loc) (x : Nat) : (s.addSat l x).xsp = s.xsp := rfl
@[simp] theorem State.addSat_pwr (s : State) (l : Loc) (x : Nat) : (s.addSat l x).pwr = s.pwr := rfl
@[simp] theorem State.addSat_lay (s : State) (l : Loc) (x : Nat) : (s.addSat l x).lay = s.lay := rfl
@[simp] theorem State.addSat_wdg (s : State) (l : Loc) (x : Nat) : (s.addSat l x).wdg = s.wdg := rfl
@[simp] theorem State.addSat_boot (s : State) (l : Loc) (x : Nat) : (s.addSat l x).boot = s.boot := rfl
@[simp] theorem State.addSat_adc (s : State) (l : Loc) (x : Nat) : (s.addSat l x).adc = s.adc := rfl
@[simp] theorem State.addSat_dma (s : State) (l : Loc) (x : Nat) : (s.addSat l x).dma = s.dma := rfl
@[simp] theorem State.addSat_dbgp (s : State) (l : Loc) (x : Nat) : (s.addSat l x).dbgp = s.dbgp := rfl
@[simp] theorem State.addSat_evlog (s : State) (l : Loc) (x : Nat) : (s.addSat l x).evlog = s.evlog := rfl
@[simp] theorem State.addSat_mbxIn (s : State) (l : Loc) (x : Nat) : (s.addSat l x).mbxIn = s.mbxIn := rfl
@[simp] theorem State.addSat_mbxOut (s : State) (l : Loc) (x : Nat) : (s.addSat l x).mbxOut = s.mbxOut := rfl
@[simp] theorem State.addSat_free (s : State) (l : Loc) (x : Nat) : (s.addSat l x).free = s.free := rfl
@[simp] theorem State.addSat_pending (s : State) (l : Loc) (x : Nat) : (s.addSat l x).pending = s.pending := rfl

@[simp] theorem State.setCore_regs (s : State) (k : Nat) (c : Core) : (s.setCore k c).regs = s.regs := rfl
@[simp] theorem State.setCore_rwl (s : State) (k : Nat) (c : Core) : (s.setCore k c).rwl = s.rwl := rfl
@[simp] theorem State.setCore_mem (s : State) (k : Nat) (c : Core) : (s.setCore k c).mem = s.mem := rfl
@[simp] theorem State.setCore_ecc (s : State) (k : Nat) (c : Core) : (s.setCore k c).ecc = s.ecc := rfl
@[simp] theorem State.setCore_time (s : State) (k : Nat) (c : Core) : (s.setCore k c).time = s.time := rfl
@[simp] theorem State.setCore_mesh (s : State) (k : Nat) (c : Core) : (s.setCore k c).mesh = s.mesh := rfl
@[simp] theorem State.setCore_wpt (s : State) (k : Nat) (c : Core) : (s.setCore k c).wpt = s.wpt := rfl
@[simp] theorem State.setCore_host (s : State) (k : Nat) (c : Core) : (s.setCore k c).host = s.host := rfl
@[simp] theorem State.setCore_latchTime (s : State) (k : Nat) (c : Core) : (s.setCore k c).latchTime = s.latchTime := rfl
@[simp] theorem State.setCore_withdrawn (s : State) (k : Nat) (c : Core) : (s.setCore k c).withdrawn = s.withdrawn := rfl
@[simp] theorem State.setCore_service (s : State) (k : Nat) (c : Core) : (s.setCore k c).service = s.service := rfl
@[simp] theorem State.setCore_rdata (s : State) (k : Nat) (c : Core) : (s.setCore k c).rdata = s.rdata := rfl
@[simp] theorem State.setCore_cvy (s : State) (k : Nat) (c : Core) : (s.setCore k c).cvy = s.cvy := rfl
@[simp] theorem State.setCore_eng (s : State) (k : Nat) (c : Core) : (s.setCore k c).eng = s.eng := rfl
@[simp] theorem State.setCore_flagCyc (s : State) (k : Nat) (c : Core) : (s.setCore k c).flagCyc = s.flagCyc := rfl
@[simp] theorem State.setCore_pads (s : State) (k : Nat) (c : Core) : (s.setCore k c).pads = s.pads := rfl
@[simp] theorem State.setCore_flash (s : State) (k : Nat) (c : Core) : (s.setCore k c).flash = s.flash := rfl
@[simp] theorem State.setCore_xsp (s : State) (k : Nat) (c : Core) : (s.setCore k c).xsp = s.xsp := rfl
@[simp] theorem State.setCore_pwr (s : State) (k : Nat) (c : Core) : (s.setCore k c).pwr = s.pwr := rfl
@[simp] theorem State.setCore_lay (s : State) (k : Nat) (c : Core) : (s.setCore k c).lay = s.lay := rfl
@[simp] theorem State.setCore_wdg (s : State) (k : Nat) (c : Core) : (s.setCore k c).wdg = s.wdg := rfl
@[simp] theorem State.setCore_boot (s : State) (k : Nat) (c : Core) : (s.setCore k c).boot = s.boot := rfl
@[simp] theorem State.setCore_adc (s : State) (k : Nat) (c : Core) : (s.setCore k c).adc = s.adc := rfl
@[simp] theorem State.setCore_dma (s : State) (k : Nat) (c : Core) : (s.setCore k c).dma = s.dma := rfl
@[simp] theorem State.setCore_dbgp (s : State) (k : Nat) (c : Core) : (s.setCore k c).dbgp = s.dbgp := rfl
@[simp] theorem State.setCore_evlog (s : State) (k : Nat) (c : Core) : (s.setCore k c).evlog = s.evlog := rfl
@[simp] theorem State.setCore_mbxIn (s : State) (k : Nat) (c : Core) : (s.setCore k c).mbxIn = s.mbxIn := rfl
@[simp] theorem State.setCore_mbxOut (s : State) (k : Nat) (c : Core) : (s.setCore k c).mbxOut = s.mbxOut := rfl
@[simp] theorem State.setCore_free (s : State) (k : Nat) (c : Core) : (s.setCore k c).free = s.free := rfl
@[simp] theorem State.setCore_pending (s : State) (k : Nat) (c : Core) : (s.setCore k c).pending = s.pending := rfl

@[simp] theorem State.onCore_regs (s : State) (k : Nat) (f : Core → Core) : (s.onCore k f).regs = s.regs := rfl
@[simp] theorem State.onCore_rwl (s : State) (k : Nat) (f : Core → Core) : (s.onCore k f).rwl = s.rwl := rfl
@[simp] theorem State.onCore_mem (s : State) (k : Nat) (f : Core → Core) : (s.onCore k f).mem = s.mem := rfl
@[simp] theorem State.onCore_ecc (s : State) (k : Nat) (f : Core → Core) : (s.onCore k f).ecc = s.ecc := rfl
@[simp] theorem State.onCore_time (s : State) (k : Nat) (f : Core → Core) : (s.onCore k f).time = s.time := rfl
@[simp] theorem State.onCore_mesh (s : State) (k : Nat) (f : Core → Core) : (s.onCore k f).mesh = s.mesh := rfl
@[simp] theorem State.onCore_wpt (s : State) (k : Nat) (f : Core → Core) : (s.onCore k f).wpt = s.wpt := rfl
@[simp] theorem State.onCore_host (s : State) (k : Nat) (f : Core → Core) : (s.onCore k f).host = s.host := rfl
@[simp] theorem State.onCore_latchTime (s : State) (k : Nat) (f : Core → Core) : (s.onCore k f).latchTime = s.latchTime := rfl
@[simp] theorem State.onCore_withdrawn (s : State) (k : Nat) (f : Core → Core) : (s.onCore k f).withdrawn = s.withdrawn := rfl
@[simp] theorem State.onCore_service (s : State) (k : Nat) (f : Core → Core) : (s.onCore k f).service = s.service := rfl
@[simp] theorem State.onCore_rdata (s : State) (k : Nat) (f : Core → Core) : (s.onCore k f).rdata = s.rdata := rfl
@[simp] theorem State.onCore_cvy (s : State) (k : Nat) (f : Core → Core) : (s.onCore k f).cvy = s.cvy := rfl
@[simp] theorem State.onCore_eng (s : State) (k : Nat) (f : Core → Core) : (s.onCore k f).eng = s.eng := rfl
@[simp] theorem State.onCore_flagCyc (s : State) (k : Nat) (f : Core → Core) : (s.onCore k f).flagCyc = s.flagCyc := rfl
@[simp] theorem State.onCore_pads (s : State) (k : Nat) (f : Core → Core) : (s.onCore k f).pads = s.pads := rfl
@[simp] theorem State.onCore_flash (s : State) (k : Nat) (f : Core → Core) : (s.onCore k f).flash = s.flash := rfl
@[simp] theorem State.onCore_xsp (s : State) (k : Nat) (f : Core → Core) : (s.onCore k f).xsp = s.xsp := rfl
@[simp] theorem State.onCore_pwr (s : State) (k : Nat) (f : Core → Core) : (s.onCore k f).pwr = s.pwr := rfl
@[simp] theorem State.onCore_lay (s : State) (k : Nat) (f : Core → Core) : (s.onCore k f).lay = s.lay := rfl
@[simp] theorem State.onCore_wdg (s : State) (k : Nat) (f : Core → Core) : (s.onCore k f).wdg = s.wdg := rfl
@[simp] theorem State.onCore_boot (s : State) (k : Nat) (f : Core → Core) : (s.onCore k f).boot = s.boot := rfl
@[simp] theorem State.onCore_adc (s : State) (k : Nat) (f : Core → Core) : (s.onCore k f).adc = s.adc := rfl
@[simp] theorem State.onCore_dma (s : State) (k : Nat) (f : Core → Core) : (s.onCore k f).dma = s.dma := rfl
@[simp] theorem State.onCore_dbgp (s : State) (k : Nat) (f : Core → Core) : (s.onCore k f).dbgp = s.dbgp := rfl
@[simp] theorem State.onCore_evlog (s : State) (k : Nat) (f : Core → Core) : (s.onCore k f).evlog = s.evlog := rfl
@[simp] theorem State.onCore_mbxIn (s : State) (k : Nat) (f : Core → Core) : (s.onCore k f).mbxIn = s.mbxIn := rfl
@[simp] theorem State.onCore_mbxOut (s : State) (k : Nat) (f : Core → Core) : (s.onCore k f).mbxOut = s.mbxOut := rfl
@[simp] theorem State.onCore_free (s : State) (k : Nat) (f : Core → Core) : (s.onCore k f).free = s.free := rfl
@[simp] theorem State.onCore_pending (s : State) (k : Nat) (f : Core → Core) : (s.onCore k f).pending = s.pending := rfl

@[simp] theorem State.setPart_regs (s : State) (p : Nat) (q : Part) : (s.setPart p q).regs = s.regs := rfl
@[simp] theorem State.setPart_rwl (s : State) (p : Nat) (q : Part) : (s.setPart p q).rwl = s.rwl := rfl
@[simp] theorem State.setPart_mem (s : State) (p : Nat) (q : Part) : (s.setPart p q).mem = s.mem := rfl
@[simp] theorem State.setPart_ecc (s : State) (p : Nat) (q : Part) : (s.setPart p q).ecc = s.ecc := rfl
@[simp] theorem State.setPart_cores (s : State) (p : Nat) (q : Part) : (s.setPart p q).cores = s.cores := rfl
@[simp] theorem State.setPart_time (s : State) (p : Nat) (q : Part) : (s.setPart p q).time = s.time := rfl
@[simp] theorem State.setPart_mesh (s : State) (p : Nat) (q : Part) : (s.setPart p q).mesh = s.mesh := rfl
@[simp] theorem State.setPart_host (s : State) (p : Nat) (q : Part) : (s.setPart p q).host = s.host := rfl
@[simp] theorem State.setPart_latchTime (s : State) (p : Nat) (q : Part) : (s.setPart p q).latchTime = s.latchTime := rfl
@[simp] theorem State.setPart_withdrawn (s : State) (p : Nat) (q : Part) : (s.setPart p q).withdrawn = s.withdrawn := rfl
@[simp] theorem State.setPart_service (s : State) (p : Nat) (q : Part) : (s.setPart p q).service = s.service := rfl
@[simp] theorem State.setPart_rdata (s : State) (p : Nat) (q : Part) : (s.setPart p q).rdata = s.rdata := rfl
@[simp] theorem State.setPart_cvy (s : State) (p : Nat) (q : Part) : (s.setPart p q).cvy = s.cvy := rfl
@[simp] theorem State.setPart_eng (s : State) (p : Nat) (q : Part) : (s.setPart p q).eng = s.eng := rfl
@[simp] theorem State.setPart_flagCyc (s : State) (p : Nat) (q : Part) : (s.setPart p q).flagCyc = s.flagCyc := rfl
@[simp] theorem State.setPart_pads (s : State) (p : Nat) (q : Part) : (s.setPart p q).pads = s.pads := rfl
@[simp] theorem State.setPart_flash (s : State) (p : Nat) (q : Part) : (s.setPart p q).flash = s.flash := rfl
@[simp] theorem State.setPart_xsp (s : State) (p : Nat) (q : Part) : (s.setPart p q).xsp = s.xsp := rfl
@[simp] theorem State.setPart_pwr (s : State) (p : Nat) (q : Part) : (s.setPart p q).pwr = s.pwr := rfl
@[simp] theorem State.setPart_lay (s : State) (p : Nat) (q : Part) : (s.setPart p q).lay = s.lay := rfl
@[simp] theorem State.setPart_wdg (s : State) (p : Nat) (q : Part) : (s.setPart p q).wdg = s.wdg := rfl
@[simp] theorem State.setPart_boot (s : State) (p : Nat) (q : Part) : (s.setPart p q).boot = s.boot := rfl
@[simp] theorem State.setPart_adc (s : State) (p : Nat) (q : Part) : (s.setPart p q).adc = s.adc := rfl
@[simp] theorem State.setPart_dma (s : State) (p : Nat) (q : Part) : (s.setPart p q).dma = s.dma := rfl
@[simp] theorem State.setPart_dbgp (s : State) (p : Nat) (q : Part) : (s.setPart p q).dbgp = s.dbgp := rfl
@[simp] theorem State.setPart_evlog (s : State) (p : Nat) (q : Part) : (s.setPart p q).evlog = s.evlog := rfl
@[simp] theorem State.setPart_mbxIn (s : State) (p : Nat) (q : Part) : (s.setPart p q).mbxIn = s.mbxIn := rfl
@[simp] theorem State.setPart_mbxOut (s : State) (p : Nat) (q : Part) : (s.setPart p q).mbxOut = s.mbxOut := rfl
@[simp] theorem State.setPart_free (s : State) (p : Nat) (q : Part) : (s.setPart p q).free = s.free := rfl
@[simp] theorem State.setPart_pending (s : State) (p : Nat) (q : Part) : (s.setPart p q).pending = s.pending := rfl

@[simp] theorem State.onPart_regs (s : State) (p : Nat) (f : Part → Part) : (s.onPart p f).regs = s.regs := rfl
@[simp] theorem State.onPart_rwl (s : State) (p : Nat) (f : Part → Part) : (s.onPart p f).rwl = s.rwl := rfl
@[simp] theorem State.onPart_mem (s : State) (p : Nat) (f : Part → Part) : (s.onPart p f).mem = s.mem := rfl
@[simp] theorem State.onPart_ecc (s : State) (p : Nat) (f : Part → Part) : (s.onPart p f).ecc = s.ecc := rfl
@[simp] theorem State.onPart_cores (s : State) (p : Nat) (f : Part → Part) : (s.onPart p f).cores = s.cores := rfl
@[simp] theorem State.onPart_time (s : State) (p : Nat) (f : Part → Part) : (s.onPart p f).time = s.time := rfl
@[simp] theorem State.onPart_mesh (s : State) (p : Nat) (f : Part → Part) : (s.onPart p f).mesh = s.mesh := rfl
@[simp] theorem State.onPart_host (s : State) (p : Nat) (f : Part → Part) : (s.onPart p f).host = s.host := rfl
@[simp] theorem State.onPart_latchTime (s : State) (p : Nat) (f : Part → Part) : (s.onPart p f).latchTime = s.latchTime := rfl
@[simp] theorem State.onPart_withdrawn (s : State) (p : Nat) (f : Part → Part) : (s.onPart p f).withdrawn = s.withdrawn := rfl
@[simp] theorem State.onPart_service (s : State) (p : Nat) (f : Part → Part) : (s.onPart p f).service = s.service := rfl
@[simp] theorem State.onPart_rdata (s : State) (p : Nat) (f : Part → Part) : (s.onPart p f).rdata = s.rdata := rfl
@[simp] theorem State.onPart_cvy (s : State) (p : Nat) (f : Part → Part) : (s.onPart p f).cvy = s.cvy := rfl
@[simp] theorem State.onPart_eng (s : State) (p : Nat) (f : Part → Part) : (s.onPart p f).eng = s.eng := rfl
@[simp] theorem State.onPart_flagCyc (s : State) (p : Nat) (f : Part → Part) : (s.onPart p f).flagCyc = s.flagCyc := rfl
@[simp] theorem State.onPart_pads (s : State) (p : Nat) (f : Part → Part) : (s.onPart p f).pads = s.pads := rfl
@[simp] theorem State.onPart_flash (s : State) (p : Nat) (f : Part → Part) : (s.onPart p f).flash = s.flash := rfl
@[simp] theorem State.onPart_xsp (s : State) (p : Nat) (f : Part → Part) : (s.onPart p f).xsp = s.xsp := rfl
@[simp] theorem State.onPart_pwr (s : State) (p : Nat) (f : Part → Part) : (s.onPart p f).pwr = s.pwr := rfl
@[simp] theorem State.onPart_lay (s : State) (p : Nat) (f : Part → Part) : (s.onPart p f).lay = s.lay := rfl
@[simp] theorem State.onPart_wdg (s : State) (p : Nat) (f : Part → Part) : (s.onPart p f).wdg = s.wdg := rfl
@[simp] theorem State.onPart_boot (s : State) (p : Nat) (f : Part → Part) : (s.onPart p f).boot = s.boot := rfl
@[simp] theorem State.onPart_adc (s : State) (p : Nat) (f : Part → Part) : (s.onPart p f).adc = s.adc := rfl
@[simp] theorem State.onPart_dma (s : State) (p : Nat) (f : Part → Part) : (s.onPart p f).dma = s.dma := rfl
@[simp] theorem State.onPart_dbgp (s : State) (p : Nat) (f : Part → Part) : (s.onPart p f).dbgp = s.dbgp := rfl
@[simp] theorem State.onPart_evlog (s : State) (p : Nat) (f : Part → Part) : (s.onPart p f).evlog = s.evlog := rfl
@[simp] theorem State.onPart_mbxIn (s : State) (p : Nat) (f : Part → Part) : (s.onPart p f).mbxIn = s.mbxIn := rfl
@[simp] theorem State.onPart_mbxOut (s : State) (p : Nat) (f : Part → Part) : (s.onPart p f).mbxOut = s.mbxOut := rfl
@[simp] theorem State.onPart_free (s : State) (p : Nat) (f : Part → Part) : (s.onPart p f).free = s.free := rfl
@[simp] theorem State.onPart_pending (s : State) (p : Nat) (f : Part → Part) : (s.onPart p f).pending = s.pending := rfl

@[simp] theorem State.setByte_regs (s : State) (a : Nat) (b : Byte) : (s.setByte a b).regs = s.regs := rfl
@[simp] theorem State.setByte_rwl (s : State) (a : Nat) (b : Byte) : (s.setByte a b).rwl = s.rwl := rfl
@[simp] theorem State.setByte_ecc (s : State) (a : Nat) (b : Byte) : (s.setByte a b).ecc = s.ecc := rfl
@[simp] theorem State.setByte_cores (s : State) (a : Nat) (b : Byte) : (s.setByte a b).cores = s.cores := rfl
@[simp] theorem State.setByte_time (s : State) (a : Nat) (b : Byte) : (s.setByte a b).time = s.time := rfl
@[simp] theorem State.setByte_mesh (s : State) (a : Nat) (b : Byte) : (s.setByte a b).mesh = s.mesh := rfl
@[simp] theorem State.setByte_wpt (s : State) (a : Nat) (b : Byte) : (s.setByte a b).wpt = s.wpt := rfl
@[simp] theorem State.setByte_host (s : State) (a : Nat) (b : Byte) : (s.setByte a b).host = s.host := rfl
@[simp] theorem State.setByte_latchTime (s : State) (a : Nat) (b : Byte) : (s.setByte a b).latchTime = s.latchTime := rfl
@[simp] theorem State.setByte_withdrawn (s : State) (a : Nat) (b : Byte) : (s.setByte a b).withdrawn = s.withdrawn := rfl
@[simp] theorem State.setByte_service (s : State) (a : Nat) (b : Byte) : (s.setByte a b).service = s.service := rfl
@[simp] theorem State.setByte_rdata (s : State) (a : Nat) (b : Byte) : (s.setByte a b).rdata = s.rdata := rfl
@[simp] theorem State.setByte_eng (s : State) (a : Nat) (b : Byte) : (s.setByte a b).eng = s.eng := rfl
@[simp] theorem State.setByte_flagCyc (s : State) (a : Nat) (b : Byte) : (s.setByte a b).flagCyc = s.flagCyc := rfl
@[simp] theorem State.setByte_pads (s : State) (a : Nat) (b : Byte) : (s.setByte a b).pads = s.pads := rfl
@[simp] theorem State.setByte_flash (s : State) (a : Nat) (b : Byte) : (s.setByte a b).flash = s.flash := rfl
@[simp] theorem State.setByte_xsp (s : State) (a : Nat) (b : Byte) : (s.setByte a b).xsp = s.xsp := rfl
@[simp] theorem State.setByte_pwr (s : State) (a : Nat) (b : Byte) : (s.setByte a b).pwr = s.pwr := rfl
@[simp] theorem State.setByte_lay (s : State) (a : Nat) (b : Byte) : (s.setByte a b).lay = s.lay := rfl
@[simp] theorem State.setByte_wdg (s : State) (a : Nat) (b : Byte) : (s.setByte a b).wdg = s.wdg := rfl
@[simp] theorem State.setByte_boot (s : State) (a : Nat) (b : Byte) : (s.setByte a b).boot = s.boot := rfl
@[simp] theorem State.setByte_adc (s : State) (a : Nat) (b : Byte) : (s.setByte a b).adc = s.adc := rfl
@[simp] theorem State.setByte_dma (s : State) (a : Nat) (b : Byte) : (s.setByte a b).dma = s.dma := rfl
@[simp] theorem State.setByte_dbgp (s : State) (a : Nat) (b : Byte) : (s.setByte a b).dbgp = s.dbgp := rfl
@[simp] theorem State.setByte_evlog (s : State) (a : Nat) (b : Byte) : (s.setByte a b).evlog = s.evlog := rfl
@[simp] theorem State.setByte_mbxIn (s : State) (a : Nat) (b : Byte) : (s.setByte a b).mbxIn = s.mbxIn := rfl
@[simp] theorem State.setByte_mbxOut (s : State) (a : Nat) (b : Byte) : (s.setByte a b).mbxOut = s.mbxOut := rfl
@[simp] theorem State.setByte_free (s : State) (a : Nat) (b : Byte) : (s.setByte a b).free = s.free := rfl
@[simp] theorem State.setByte_pending (s : State) (a : Nat) (b : Byte) : (s.setByte a b).pending = s.pending := rfl

@[simp] theorem State.setEcc_regs (s : State) (arr word m : Nat) : (s.setEcc arr word m).regs = s.regs := rfl
@[simp] theorem State.setEcc_rwl (s : State) (arr word m : Nat) : (s.setEcc arr word m).rwl = s.rwl := rfl
@[simp] theorem State.setEcc_mem (s : State) (arr word m : Nat) : (s.setEcc arr word m).mem = s.mem := rfl
@[simp] theorem State.setEcc_cores (s : State) (arr word m : Nat) : (s.setEcc arr word m).cores = s.cores := rfl
@[simp] theorem State.setEcc_time (s : State) (arr word m : Nat) : (s.setEcc arr word m).time = s.time := rfl
@[simp] theorem State.setEcc_mesh (s : State) (arr word m : Nat) : (s.setEcc arr word m).mesh = s.mesh := rfl
@[simp] theorem State.setEcc_wpt (s : State) (arr word m : Nat) : (s.setEcc arr word m).wpt = s.wpt := rfl
@[simp] theorem State.setEcc_host (s : State) (arr word m : Nat) : (s.setEcc arr word m).host = s.host := rfl
@[simp] theorem State.setEcc_latchTime (s : State) (arr word m : Nat) : (s.setEcc arr word m).latchTime = s.latchTime := rfl
@[simp] theorem State.setEcc_withdrawn (s : State) (arr word m : Nat) : (s.setEcc arr word m).withdrawn = s.withdrawn := rfl
@[simp] theorem State.setEcc_service (s : State) (arr word m : Nat) : (s.setEcc arr word m).service = s.service := rfl
@[simp] theorem State.setEcc_rdata (s : State) (arr word m : Nat) : (s.setEcc arr word m).rdata = s.rdata := rfl
@[simp] theorem State.setEcc_cvy (s : State) (arr word m : Nat) : (s.setEcc arr word m).cvy = s.cvy := rfl
@[simp] theorem State.setEcc_eng (s : State) (arr word m : Nat) : (s.setEcc arr word m).eng = s.eng := rfl
@[simp] theorem State.setEcc_flagCyc (s : State) (arr word m : Nat) : (s.setEcc arr word m).flagCyc = s.flagCyc := rfl
@[simp] theorem State.setEcc_pads (s : State) (arr word m : Nat) : (s.setEcc arr word m).pads = s.pads := rfl
@[simp] theorem State.setEcc_flash (s : State) (arr word m : Nat) : (s.setEcc arr word m).flash = s.flash := rfl
@[simp] theorem State.setEcc_xsp (s : State) (arr word m : Nat) : (s.setEcc arr word m).xsp = s.xsp := rfl
@[simp] theorem State.setEcc_pwr (s : State) (arr word m : Nat) : (s.setEcc arr word m).pwr = s.pwr := rfl
@[simp] theorem State.setEcc_lay (s : State) (arr word m : Nat) : (s.setEcc arr word m).lay = s.lay := rfl
@[simp] theorem State.setEcc_wdg (s : State) (arr word m : Nat) : (s.setEcc arr word m).wdg = s.wdg := rfl
@[simp] theorem State.setEcc_boot (s : State) (arr word m : Nat) : (s.setEcc arr word m).boot = s.boot := rfl
@[simp] theorem State.setEcc_adc (s : State) (arr word m : Nat) : (s.setEcc arr word m).adc = s.adc := rfl
@[simp] theorem State.setEcc_dma (s : State) (arr word m : Nat) : (s.setEcc arr word m).dma = s.dma := rfl
@[simp] theorem State.setEcc_dbgp (s : State) (arr word m : Nat) : (s.setEcc arr word m).dbgp = s.dbgp := rfl
@[simp] theorem State.setEcc_evlog (s : State) (arr word m : Nat) : (s.setEcc arr word m).evlog = s.evlog := rfl
@[simp] theorem State.setEcc_mbxIn (s : State) (arr word m : Nat) : (s.setEcc arr word m).mbxIn = s.mbxIn := rfl
@[simp] theorem State.setEcc_mbxOut (s : State) (arr word m : Nat) : (s.setEcc arr word m).mbxOut = s.mbxOut := rfl
@[simp] theorem State.setEcc_free (s : State) (arr word m : Nat) : (s.setEcc arr word m).free = s.free := rfl
@[simp] theorem State.setEcc_pending (s : State) (arr word m : Nat) : (s.setEcc arr word m).pending = s.pending := rfl

@[simp] theorem State.setReg_core (s : State) (a : Nat) (v : Word) (n : Nat) : (s.setReg a v).core n = s.core n := rfl
@[simp] theorem State.setReg_part (s : State) (a : Nat) (v : Word) (n : Nat) : (s.setReg a v).part n = s.part n := rfl
@[simp] theorem State.setReg_byte (s : State) (a : Nat) (v : Word) (n : Nat) : (s.setReg a v).byte n = s.byte n := rfl
@[simp] theorem State.setReg_eccOf (s : State) (a : Nat) (v : Word) (n o : Nat) : (s.setReg a v).eccOf n o = s.eccOf n o := rfl
@[simp] theorem State.put_core (s : State) (l : Loc) (x : Nat) (n : Nat) : (s.put l x).core n = s.core n := rfl
@[simp] theorem State.put_part (s : State) (l : Loc) (x : Nat) (n : Nat) : (s.put l x).part n = s.part n := rfl
@[simp] theorem State.put_byte (s : State) (l : Loc) (x : Nat) (n : Nat) : (s.put l x).byte n = s.byte n := rfl
@[simp] theorem State.put_eccOf (s : State) (l : Loc) (x : Nat) (n o : Nat) : (s.put l x).eccOf n o = s.eccOf n o := rfl
@[simp] theorem State.putFlag_core (s : State) (l : Loc) (b : Bool) (n : Nat) : (s.putFlag l b).core n = s.core n := rfl
@[simp] theorem State.putFlag_part (s : State) (l : Loc) (b : Bool) (n : Nat) : (s.putFlag l b).part n = s.part n := rfl
@[simp] theorem State.putFlag_byte (s : State) (l : Loc) (b : Bool) (n : Nat) : (s.putFlag l b).byte n = s.byte n := rfl
@[simp] theorem State.putFlag_eccOf (s : State) (l : Loc) (b : Bool) (n o : Nat) : (s.putFlag l b).eccOf n o = s.eccOf n o := rfl
@[simp] theorem State.putBit_core (s : State) (l : Loc) (i : Nat) (b : Bool) (n : Nat) : (s.putBit l i b).core n = s.core n := rfl
@[simp] theorem State.putBit_part (s : State) (l : Loc) (i : Nat) (b : Bool) (n : Nat) : (s.putBit l i b).part n = s.part n := rfl
@[simp] theorem State.putBit_byte (s : State) (l : Loc) (i : Nat) (b : Bool) (n : Nat) : (s.putBit l i b).byte n = s.byte n := rfl
@[simp] theorem State.putBit_eccOf (s : State) (l : Loc) (i : Nat) (b : Bool) (n o : Nat) : (s.putBit l i b).eccOf n o = s.eccOf n o := rfl
@[simp] theorem State.addSat_core (s : State) (l : Loc) (x : Nat) (n : Nat) : (s.addSat l x).core n = s.core n := rfl
@[simp] theorem State.addSat_part (s : State) (l : Loc) (x : Nat) (n : Nat) : (s.addSat l x).part n = s.part n := rfl
@[simp] theorem State.addSat_byte (s : State) (l : Loc) (x : Nat) (n : Nat) : (s.addSat l x).byte n = s.byte n := rfl
@[simp] theorem State.addSat_eccOf (s : State) (l : Loc) (x : Nat) (n o : Nat) : (s.addSat l x).eccOf n o = s.eccOf n o := rfl
@[simp] theorem State.setCore_reg (s : State) (k : Nat) (c : Core) (n : Nat) : (s.setCore k c).reg n = s.reg n := rfl
@[simp] theorem State.setCore_get (s : State) (k : Nat) (c : Core) (loc : Loc) : (s.setCore k c).get loc = s.get loc := rfl
@[simp] theorem State.setCore_flag (s : State) (k : Nat) (c : Core) (loc : Loc) : (s.setCore k c).flag loc = s.flag loc := rfl
@[simp] theorem State.setCore_part (s : State) (k : Nat) (c : Core) (n : Nat) : (s.setCore k c).part n = s.part n := rfl
@[simp] theorem State.setCore_byte (s : State) (k : Nat) (c : Core) (n : Nat) : (s.setCore k c).byte n = s.byte n := rfl
@[simp] theorem State.setCore_eccOf (s : State) (k : Nat) (c : Core) (n o : Nat) : (s.setCore k c).eccOf n o = s.eccOf n o := rfl
@[simp] theorem State.onCore_reg (s : State) (k : Nat) (f : Core → Core) (n : Nat) : (s.onCore k f).reg n = s.reg n := rfl
@[simp] theorem State.onCore_get (s : State) (k : Nat) (f : Core → Core) (loc : Loc) : (s.onCore k f).get loc = s.get loc := rfl
@[simp] theorem State.onCore_flag (s : State) (k : Nat) (f : Core → Core) (loc : Loc) : (s.onCore k f).flag loc = s.flag loc := rfl
@[simp] theorem State.onCore_part (s : State) (k : Nat) (f : Core → Core) (n : Nat) : (s.onCore k f).part n = s.part n := rfl
@[simp] theorem State.onCore_byte (s : State) (k : Nat) (f : Core → Core) (n : Nat) : (s.onCore k f).byte n = s.byte n := rfl
@[simp] theorem State.onCore_eccOf (s : State) (k : Nat) (f : Core → Core) (n o : Nat) : (s.onCore k f).eccOf n o = s.eccOf n o := rfl
@[simp] theorem State.setPart_reg (s : State) (p : Nat) (q : Part) (n : Nat) : (s.setPart p q).reg n = s.reg n := rfl
@[simp] theorem State.setPart_get (s : State) (p : Nat) (q : Part) (loc : Loc) : (s.setPart p q).get loc = s.get loc := rfl
@[simp] theorem State.setPart_flag (s : State) (p : Nat) (q : Part) (loc : Loc) : (s.setPart p q).flag loc = s.flag loc := rfl
@[simp] theorem State.setPart_core (s : State) (p : Nat) (q : Part) (n : Nat) : (s.setPart p q).core n = s.core n := rfl
@[simp] theorem State.setPart_byte (s : State) (p : Nat) (q : Part) (n : Nat) : (s.setPart p q).byte n = s.byte n := rfl
@[simp] theorem State.setPart_eccOf (s : State) (p : Nat) (q : Part) (n o : Nat) : (s.setPart p q).eccOf n o = s.eccOf n o := rfl
@[simp] theorem State.onPart_reg (s : State) (p : Nat) (f : Part → Part) (n : Nat) : (s.onPart p f).reg n = s.reg n := rfl
@[simp] theorem State.onPart_get (s : State) (p : Nat) (f : Part → Part) (loc : Loc) : (s.onPart p f).get loc = s.get loc := rfl
@[simp] theorem State.onPart_flag (s : State) (p : Nat) (f : Part → Part) (loc : Loc) : (s.onPart p f).flag loc = s.flag loc := rfl
@[simp] theorem State.onPart_core (s : State) (p : Nat) (f : Part → Part) (n : Nat) : (s.onPart p f).core n = s.core n := rfl
@[simp] theorem State.onPart_byte (s : State) (p : Nat) (f : Part → Part) (n : Nat) : (s.onPart p f).byte n = s.byte n := rfl
@[simp] theorem State.onPart_eccOf (s : State) (p : Nat) (f : Part → Part) (n o : Nat) : (s.onPart p f).eccOf n o = s.eccOf n o := rfl
@[simp] theorem State.setByte_reg (s : State) (a : Nat) (b : Byte) (n : Nat) : (s.setByte a b).reg n = s.reg n := rfl
@[simp] theorem State.setByte_get (s : State) (a : Nat) (b : Byte) (loc : Loc) : (s.setByte a b).get loc = s.get loc := rfl
@[simp] theorem State.setByte_flag (s : State) (a : Nat) (b : Byte) (loc : Loc) : (s.setByte a b).flag loc = s.flag loc := rfl
@[simp] theorem State.setByte_core (s : State) (a : Nat) (b : Byte) (n : Nat) : (s.setByte a b).core n = s.core n := rfl
@[simp] theorem State.setByte_part (s : State) (a : Nat) (b : Byte) (n : Nat) : (s.setByte a b).part n = s.part n := rfl
@[simp] theorem State.setByte_eccOf (s : State) (a : Nat) (b : Byte) (n o : Nat) : (s.setByte a b).eccOf n o = s.eccOf n o := rfl
@[simp] theorem State.setEcc_reg (s : State) (arr word m : Nat) (n : Nat) : (s.setEcc arr word m).reg n = s.reg n := rfl
@[simp] theorem State.setEcc_get (s : State) (arr word m : Nat) (loc : Loc) : (s.setEcc arr word m).get loc = s.get loc := rfl
@[simp] theorem State.setEcc_flag (s : State) (arr word m : Nat) (loc : Loc) : (s.setEcc arr word m).flag loc = s.flag loc := rfl
@[simp] theorem State.setEcc_core (s : State) (arr word m : Nat) (n : Nat) : (s.setEcc arr word m).core n = s.core n := rfl
@[simp] theorem State.setEcc_part (s : State) (arr word m : Nat) (n : Nat) : (s.setEcc arr word m).part n = s.part n := rfl
@[simp] theorem State.setEcc_byte (s : State) (arr word m : Nat) (n : Nat) : (s.setEcc arr word m).byte n = s.byte n := rfl

end Sys2Proof.Machine
end

