-- ==== Sys2Proof/Laws/Tab.lean ====
section
/-! SUPPORT. The laws of sparse tables: a read after a write, and that a write keeps the canonical form. -/

namespace Sys2Proof.Machine

theorem Tab.read_put {α : Type} (d : Nat → α) (t : Tab α) (k : Nat) (v : α) (j : Nat) :
    (t.put k v).read d j = if j = k then v else t.read d j := by
  induction t with
  | nil => simp [Tab.put, Tab.read]
  | cons p t ih =>
    obtain ⟨k', v'⟩ := p
    simp only [Tab.put]
    split
    · simp [Tab.read]
    · split
      · subst k'; simp only [Tab.read]; split <;> rfl
      · simp only [Tab.read, ih]
        split
        · subst j; rw [if_neg (by omega)]
        · rfl

theorem Tab.wfFrom_mono {α : Type} [DecidableEq α] {d : Nat → α} {b c : Nat} {t : Tab α}
    (h : Tab.wfFrom d b t = true) (hb : c ≤ b) : Tab.wfFrom d c t = true := by
  cases t with
  | nil => rfl
  | cons p t =>
    simp only [Tab.wfFrom, Bool.and_eq_true, decide_eq_true_eq] at h ⊢
    exact ⟨⟨by omega, h.1.2⟩, h.2⟩

theorem Tab.read_drop {α : Type} (d : Nat → α) (t : Tab α) (k j : Nat) :
    (t.drop k).read d j = if j = k then d k else t.read d j := by
  induction t with
  | nil => simp only [Tab.drop, Tab.read]; split <;> simp_all
  | cons p t ih =>
    obtain ⟨k', v'⟩ := p
    simp only [Tab.drop]
    split
    · subst k'
      rw [ih]
      by_cases hj : j = k
      · rw [if_pos hj, if_pos hj]
      · rw [if_neg hj, if_neg hj]; simp only [Tab.read]; rw [if_neg hj]
    · rename_i hk
      simp only [Tab.read, ih]
      by_cases hj : j = k
      · subst hj; rw [if_pos rfl, if_neg hk, if_pos rfl]
      · rw [if_neg hj, if_neg hj]

/-- A read after a write: the written key reads the value, every other key reads as before. -/
theorem Tab.read_write {α : Type} [DecidableEq α] (d : Nat → α) (t : Tab α) (k : Nat) (v : α) (j : Nat) :
    (t.write d k v).read d j = if j = k then v else t.read d j := by
  unfold Tab.write
  split
  · rename_i hv; rw [Tab.read_drop, hv]
  · exact Tab.read_put d t k v j

theorem Tab.wfFrom_put {α : Type} [DecidableEq α] {d : Nat → α} {t : Tab α} {k : Nat} {v : α} {b : Nat}
    (h : Tab.wfFrom d b t = true) (hv : v ≠ d k) (hb : b ≤ k) : Tab.wfFrom d b (t.put k v) = true := by
  induction t generalizing b with
  | nil => simp [Tab.put, Tab.wfFrom, hv, hb]
  | cons p t ih =>
    obtain ⟨k', v'⟩ := p
    simp only [Tab.wfFrom, Bool.and_eq_true, decide_eq_true_eq] at h
    simp only [Tab.put]
    split
    · simp only [Tab.wfFrom, Bool.and_eq_true, decide_eq_true_eq]
      exact ⟨⟨hb, hv⟩, ⟨by omega, h.1.2⟩, h.2⟩
    · split
      · subst k'
        simp only [Tab.wfFrom, Bool.and_eq_true, decide_eq_true_eq]
        exact ⟨⟨hb, hv⟩, h.2⟩
      · simp only [Tab.wfFrom, Bool.and_eq_true, decide_eq_true_eq]
        exact ⟨h.1, ih h.2 (by omega)⟩

theorem Tab.wfFrom_drop {α : Type} [DecidableEq α] {d : Nat → α} {t : Tab α} {k b : Nat}
    (h : Tab.wfFrom d b t = true) : Tab.wfFrom d b (t.drop k) = true := by
  induction t generalizing b with
  | nil => rfl
  | cons p t ih =>
    simp only [Tab.wfFrom, Bool.and_eq_true, decide_eq_true_eq] at h
    simp only [Tab.drop]
    split
    · exact Tab.wfFrom_mono (ih h.2) (by omega)
    · simp only [Tab.wfFrom, Bool.and_eq_true, decide_eq_true_eq]
      exact ⟨h.1, ih h.2⟩

/-- A write keeps the canonical form. -/
theorem Tab.wf_write {α : Type} [DecidableEq α] (d : Nat → α) (t : Tab α) (k : Nat) (v : α)
    (h : t.wf d = true) : (t.write d k v).wf d = true := by
  unfold Tab.write
  split
  · exact Tab.wfFrom_drop h
  · rename_i hv; exact Tab.wfFrom_put h hv (Nat.zero_le _)

end Sys2Proof.Machine
end

