-- ==== Sys2Proof/Laws/Cores.lean ====
section
/-! SUPPORT. Reading a core and its registers after a write. -/

namespace Sys2Proof.Machine

theorem State.core_setCore (s : State) (k j : Nat) (c : Core) : (s.setCore k c).core j = if j = k then c else s.core j :=
  Tab.read_write coreReset s.cores k c j

@[simp] theorem State.core_setCore_same (s : State) (k : Nat) (c : Core) : (s.setCore k c).core k = c := by
  rw [State.core_setCore, if_pos rfl]

theorem State.core_setCore_ne (s : State) {k j : Nat} (c : Core) (h : j ≠ k) : (s.setCore k c).core j = s.core j := by
  rw [State.core_setCore, if_neg h]

@[simp] theorem State.core_onCore_same (s : State) (k : Nat) (f : Core → Core) : (s.onCore k f).core k = f (s.core k) :=
  State.core_setCore_same s k _

theorem State.core_onCore_ne (s : State) {k j : Nat} (f : Core → Core) (h : j ≠ k) : (s.onCore k f).core j = s.core j :=
  State.core_setCore_ne s _ h

@[simp] theorem Core.greg_zero (c : Core) : c.greg 0 = 0 := rfl

theorem Core.greg_setG (c : Core) (n m : Nat) (v : Word) :
    (c.setG n v).greg m = if m = 0 then 0 else if m = n then v else c.greg m := by
  unfold Core.setG Core.greg
  by_cases hm : m = 0
  · simp [hm]
  · by_cases hn : n = 0
    · subst n; simp [hm]
    · simp only [hn, hm, if_false]
      rw [Tab.read_write]

@[simp] theorem Core.greg_setF (c : Core) (n m : Nat) (v : Word) : (c.setF n v).greg m = c.greg m := rfl
@[simp] theorem Core.greg_setSr (c : Core) (k n m : Nat) (v : Word) : (c.setSr k n v).greg m = c.greg m := rfl
@[simp] theorem Core.greg_setD (c : Core) (n m : Nat) (v : Word) : (c.setD n v).greg m = c.greg m := rfl

theorem Core.freg_setF (c : Core) (n m : Nat) (v : Word) : (c.setF n v).freg m = if m = n then v else c.freg m :=
  Tab.read_write zero64 c.f n v m

@[simp] theorem Core.freg_setG (c : Core) (n m : Nat) (v : Word) : (c.setG n v).freg m = c.freg m := by
  unfold Core.setG Core.freg; split <;> rfl
@[simp] theorem Core.freg_setSr (c : Core) (k n m : Nat) (v : Word) : (c.setSr k n v).freg m = c.freg m := rfl

theorem Core.sreg_setSr (c : Core) (k n m : Nat) (v : Word) : (c.setSr k n v).sreg k m = if m = n then v else c.sreg k m :=
  Tab.read_write (srReset k) c.sr n v m

@[simp] theorem Core.sreg_setG (c : Core) (k n m : Nat) (v : Word) : (c.setG n v).sreg k m = c.sreg k m := by
  unfold Core.setG Core.sreg; split <;> rfl
@[simp] theorem Core.sreg_setF (c : Core) (k n m : Nat) (v : Word) : (c.setF n v).sreg k m = c.sreg k m := rfl

theorem Core.dreg_setD (c : Core) (n m : Nat) (v : Word) : (c.setD n v).dreg m = if m = n then v else c.dreg m :=
  Tab.read_write dbgReset c.dbg n v m

@[simp] theorem Core.setG_run (c : Core) (n : Nat) (v : Word) : (c.setG n v).run = c.run := by unfold Core.setG; split <;> rfl
@[simp] theorem Core.setG_pc (c : Core) (n : Nat) (v : Word) : (c.setG n v).pc = c.pc := by unfold Core.setG; split <;> rfl
@[simp] theorem Core.setG_npc (c : Core) (n : Nat) (v : Word) : (c.setG n v).npc = c.npc := by unfold Core.setG; split <;> rfl
@[simp] theorem Core.setG_slot (c : Core) (n : Nat) (v : Word) : (c.setG n v).slot = c.slot := by unfold Core.setG; split <;> rfl
@[simp] theorem Core.setG_sr (c : Core) (n : Nat) (v : Word) : (c.setG n v).sr = c.sr := by unfold Core.setG; split <;> rfl
@[simp] theorem Core.setG_f (c : Core) (n : Nat) (v : Word) : (c.setG n v).f = c.f := by unfold Core.setG; split <;> rfl
@[simp] theorem Core.setG_sb (c : Core) (n : Nat) (v : Word) : (c.setG n v).sb = c.sb := by unfold Core.setG; split <;> rfl
@[simp] theorem Core.setG_halted (c : Core) (n : Nat) (v : Word) : (c.setG n v).halted = c.halted := by
  unfold Core.setG; split <;> rfl
@[simp] theorem Core.setG_haltReq (c : Core) (n : Nat) (v : Word) : (c.setG n v).haltReq = c.haltReq := by
  unfold Core.setG; split <;> rfl
@[simp] theorem Core.setG_stepping (c : Core) (n : Nat) (v : Word) : (c.setG n v).stepping = c.stepping := by
  unfold Core.setG; split <;> rfl

end Sys2Proof.Machine
end

