-- ==== Sys2Proof/Laws/Memory.lean ====
section
/-! SUPPORT. The laws of the memory's operations: a read after a write, what a write leaves alone, and that every operation
keeps the canonical form. -/

namespace Sys2Proof.Machine

theorem State.byte_setByte (s : State) (a j : Nat) (b : Byte) : (s.setByte a b).byte j = if j = a then b else s.byte j :=
  Tab.read_write memReset s.mem a b j

/-- A write of n bytes leaves every byte outside them alone. -/
theorem State.byte_setBytes_other (n : Nat) : ∀ (s : State) (a v j : Nat), (j < a ∨ a + n ≤ j) →
    (s.setBytes a n v).byte j = s.byte j := by
  induction n with
  | zero => intro s a v j _; rfl
  | succ n ih =>
    intro s a v j h
    simp only [State.setBytes]
    rw [ih _ _ _ _ (by omega), State.byte_setByte, if_neg (by omega)]

/-- n bytes written read back, little-endian, cut to their width. -/
theorem State.bytes_setBytes (n : Nat) : ∀ (s : State) (a v : Nat), (s.setBytes a n v).bytes a n = v % 256 ^ n := by
  induction n with
  | zero => intro s a v; simp [State.bytes, Nat.mod_one]
  | succ n ih =>
    intro s a v
    simp only [State.bytes, State.setBytes, ih]
    rw [State.byte_setBytes_other n _ _ _ _ (Or.inl (Nat.lt_succ_self a)), State.byte_setByte, if_pos rfl]
    rw [BitVec.toNat_ofNat, show (2 : Nat) ^ 8 = 256 from rfl, show 256 ^ (n + 1) = 256 * 256 ^ n from pow_succ' 256 n, Nat.mod_mul]

/-- A byte written among n reads back. -/
theorem State.byte_setBytes_in (n : Nat) : ∀ (s : State) (a v i : Nat), i < n →
    (s.setBytes a n v).byte (a + i) = BitVec.ofNat 8 (v / 256 ^ i) := by
  induction n with
  | zero => intro s a v i h; omega
  | succ n ih =>
    intro s a v i h
    simp only [State.setBytes]
    cases i with
    | zero =>
      rw [State.byte_setBytes_other n _ _ _ _ (Or.inl (by omega)), State.byte_setByte, if_pos (Nat.add_zero a)]; simp
    | succ i =>
      have := ih (s.setByte a (BitVec.ofNat 8 v)) (a + 1) (v / 256) i (by omega)
      rw [show a + (i + 1) = a + 1 + i by omega, this, Nat.div_div_eq_div_mul, pow_succ']

theorem Tab.wfFrom_filter {α : Type} [DecidableEq α] {d : Nat → α} (f : Nat × α → Bool) {t : Tab α} :
    ∀ {b : Nat}, Tab.wfFrom d b t = true → Tab.wfFrom d b (t.filter f) = true := by
  induction t with
  | nil => intro b _; rfl
  | cons p t ih =>
    obtain ⟨k, v⟩ := p
    intro b h
    simp only [Tab.wfFrom, Bool.and_eq_true, decide_eq_true_eq] at h
    rw [List.filter_cons]
    split
    · simp only [Tab.wfFrom, Bool.and_eq_true, decide_eq_true_eq]
      exact ⟨h.1, ih h.2⟩
    · exact Tab.wfFrom_mono (ih h.2) (by omega)

/-- Dropping entries keeps the canonical form. -/
theorem Tab.wf_filter {α : Type} [DecidableEq α] {d : Nat → α} (f : Nat × α → Bool) {t : Tab α} (h : t.wf d = true) :
    Tab.wf d (t.filter f) = true := Tab.wfFrom_filter f h

theorem Memory.wf_setByte (s : State) (a : Nat) (b : Byte) (h : Memory.wf s.mem = true) : Memory.wf (s.setByte a b).mem = true :=
  Tab.wf_write memReset s.mem a b h

theorem Memory.wf_setBytes (n : Nat) : ∀ (s : State) (a v : Nat), Memory.wf s.mem = true → Memory.wf (s.setBytes a n v).mem = true := by
  induction n with
  | zero => intro s a v h; exact h
  | succ n ih => intro s a v h; exact ih _ _ _ (Memory.wf_setByte s a _ h)

theorem Memory.wf_eraseBytes (s : State) (a n : Nat) (h : Memory.wf s.mem = true) : Memory.wf (s.eraseBytes a n).mem = true :=
  Tab.wf_filter _ h

theorem Memory.wf_copyBytes (s : State) (src dst n : Nat) (h : Memory.wf s.mem = true) :
    Memory.wf (s.copyBytes src dst n).mem = true := by
  unfold State.copyBytes
  have hb := Memory.wf_eraseBytes s dst n h
  generalize s.eraseBytes dst n = t at hb
  generalize s.mem.filter _ = l
  induction l generalizing t with
  | nil => exact hb
  | cons e l ih => exact ih _ (Memory.wf_setByte t _ _ hb)

theorem Memory.wf_setReg (s : State) (a : Nat) (v : Word) : Memory.wf (s.setReg a v).mem = Memory.wf s.mem := rfl
theorem Memory.wf_setCore (s : State) (k : Nat) (c : Core) : Memory.wf (s.setCore k c).mem = Memory.wf s.mem := rfl

/-- The memory of the reset state is in its canonical form. -/
theorem Memory.wf_reset : Memory.wf State.reset.mem = true := rfl

/-- A write of a register keeps the register file's canonical form. -/
theorem Registers.wf_setReg (s : State) (a : Nat) (v : Word) (h : Registers.wf s.regs = true) :
    Registers.wf (s.setReg a v).regs = true := Tab.wf_write regReset s.regs a v h

theorem Registers.wf_put (s : State) (l : Loc) (x : Nat) (h : Registers.wf s.regs = true) :
    Registers.wf (s.put l x).regs = true := Registers.wf_setReg s _ _ h

end Sys2Proof.Machine
end

