-- ==== Sys2Proof/Laws/Flash.lean ====
section
/-! SUPPORT. The laws of flash words: a word programmed with its check bits reads back, and leaves every other word alone. -/

namespace Sys2Proof.Machine

theorem eccLow_lt (d : BitVec 128) : eccLow d < 256 := Nat.mod_lt _ (by omega)

/-- The ninth check bit joins the parity of the other eight. -/
theorem parityOf_ninth : ∀ (c : Fin 256) (b : Bool),
    parityOf 9 (c.val + if b then 256 else 0) = (parityOf 8 c.val != b) := by decide +kernel

/-- A word with its own check bits, not the erased word, is sensed as it is (R356, R357). -/
theorem sense_ecc (d : BitVec 128) (h : d ≠ BitVec.allOnes 128) : sense d (ecc d) = .good d := by
  have hc := eccLow_lt d
  have he : (ecc d).toNat = eccLow d + if parityOf 128 d.toNat != parityOf 8 (eccLow d) then 256 else 0 := by
    simp only [ecc, BitVec.toNat_ofNat]
    apply Nat.mod_eq_of_lt
    split <;> omega
  have hp := parityOf_ninth ⟨eccLow d, hc⟩ (parityOf 128 d.toNat != parityOf 8 (eccLow d))
  have hm : (ecc d).toNat % 256 = eccLow d := by rw [he]; split <;> omega
  simp only at hp
  have hodd : (parityOf 128 d.toNat != parityOf 9 (ecc d).toNat) = false := by
    rw [he, hp]
    cases parityOf 128 d.toNat <;> cases parityOf 8 (eccLow d) <;> rfl
  simp only [sense, h, false_and, if_false, hm, Nat.xor_self, if_true, hodd, Bool.false_eq_true]

/-- Bytes are read one by one. -/
theorem State.bytes_congr {s t : State} (n : Nat) : ∀ a : Nat, (∀ i, i < n → t.byte (a + i) = s.byte (a + i)) → t.bytes a n = s.bytes a n := by
  induction n with
  | zero => intro a _; rfl
  | succ n ih =>
    intro a h
    have h0 := h 0 (by omega)
    simp only [Nat.add_zero] at h0
    simp only [State.bytes, h0]
    rw [ih (a + 1) (fun i hi => by have := h (i + 1) (by omega); rwa [show a + (i + 1) = a + 1 + i by omega] at this)]

theorem bytes_withFlash (s : State) (f : Flash) (n : Nat) : ∀ a : Nat, ({ s with flash := f } : State).bytes a n = s.bytes a n := by
  induction n with
  | zero => intro a; rfl
  | succ n ih => intro a; simp only [State.bytes, ih]; rfl

theorem bytes_flashWord (s : State) (a n b : Nat) (d : BitVec 128) :
    (flashWord s a d).bytes b n = (s.setBytes (a / 16 * 16) 16 d.toNat).bytes b n := by
  simp only [flashWord, putWord, bytes_withFlash]

theorem wordData_flashWord (s : State) (a : Nat) (d : BitVec 128) : wordData (flashWord s a d) a = d := by
  simp only [wordData]
  rw [bytes_flashWord, State.bytes_setBytes]
  apply BitVec.eq_of_toNat_eq
  rw [BitVec.toNat_ofNat]
  have := d.isLt
  omega

theorem wordData_flashWord_other (s : State) (a b : Nat) (d : BitVec 128) (h : b / 16 ≠ a / 16) :
    wordData (flashWord s a d) b = wordData s b := by
  simp only [wordData]
  rw [bytes_flashWord, State.bytes_congr (s := s) 16 (b / 16 * 16)
    (fun i _ => State.byte_setBytes_other 16 s (a / 16 * 16) d.toNat _ (by omega))]

theorem setBytes_flash (n : Nat) : ∀ (s : State) (a v : Nat), (s.setBytes a n v).flash = s.flash := by
  induction n with
  | zero => intro s a v; rfl
  | succ n ih => intro s a v; simp only [State.setBytes, ih]; rfl

theorem wordCheck_flashWord (s : State) (a b : Nat) (d : BitVec 128) :
    wordCheck (flashWord s a d) b = if b / 16 = a / 16 then ecc d else wordCheck s b := by
  have h : (flashWord s a d).flash.check = (s.setBytes (a / 16 * 16) 16 d.toNat).flash.check.write erasedCheck (a / 16) (ecc d) := by
    simp only [flashWord, putWord, setBytes_flash]
  simp only [wordCheck]
  rw [h, Tab.read_write, setBytes_flash]

/-- A word programmed with a value that is not the erased word reads back. -/
theorem senseData_flashWord (s : State) (a : Nat) (d : BitVec 128) (h : d ≠ BitVec.allOnes 128) :
    senseData (flashWord s a d) a = some d := by
  simp only [senseData, wordData_flashWord, wordCheck_flashWord, if_true, sense_ecc d h]

/-- A program leaves every other word alone. -/
theorem senseData_flashWord_other (s : State) (a b : Nat) (d : BitVec 128) (h : b / 16 ≠ a / 16) :
    senseData (flashWord s a d) b = senseData s b := by
  simp only [senseData, wordData_flashWord_other s a b d h, wordCheck_flashWord, if_neg h]

end Sys2Proof.Machine
end

