-- ==== Sys2Proof/Laws/Regs.lean ====
section
/-! SUPPORT. Reading a field after writing one: the laws of setReg, put, putBit and addSat over the register file. -/

namespace Sys2Proof.Machine

/-- The number that withBits builds, as quotient, new field and remainder. -/
theorem withBits_toNat (v : Word) (hi lo x : Nat) (h : lo ≤ hi) (hh : hi < 64) :
    (withBits v hi lo x).toNat =
      v.toNat / 2 ^ (hi + 1) * 2 ^ (hi + 1) + x % 2 ^ (hi + 1 - lo) * 2 ^ lo + v.toNat % 2 ^ lo := by
  have hv := v.isLt
  obtain ⟨d, rfl⟩ := Nat.exists_eq_add_of_le h
  obtain ⟨e, he⟩ := Nat.exists_eq_add_of_le (show lo + d + 1 ≤ 64 by omega)
  have e1 : lo + d + 1 - lo = d + 1 := by omega
  simp only [withBits, bitsOf, e1]
  set n := v.toNat
  have hW : 2 ^ (lo + d + 1) = 2 ^ lo * 2 ^ (d + 1) := by rw [← pow_add]; congr 1
  have hT : (2 : Nat) ^ 64 = 2 ^ (lo + d + 1) * 2 ^ e := by rw [he, pow_add]
  have dec : n = n / 2 ^ (lo + d + 1) * 2 ^ (lo + d + 1) + n / 2 ^ lo % 2 ^ (d + 1) * 2 ^ lo + n % 2 ^ lo := by
    have a := Nat.div_add_mod n (2 ^ lo)
    have b := Nat.div_add_mod (n / 2 ^ lo) (2 ^ (d + 1))
    rw [Nat.div_div_eq_div_mul, ← hW] at b
    calc n = 2 ^ lo * (n / 2 ^ lo) + n % 2 ^ lo := a.symm
      _ = 2 ^ lo * (2 ^ (d + 1) * (n / 2 ^ (lo + d + 1)) + n / 2 ^ lo % 2 ^ (d + 1)) + n % 2 ^ lo := by rw [b]
      _ = _ := by rw [hW]; ring
  have hx : x % 2 ^ (d + 1) < 2 ^ (d + 1) := Nat.mod_lt _ (by positivity)
  have hr : n % 2 ^ lo < 2 ^ lo := Nat.mod_lt _ (by positivity)
  have hq : n / 2 ^ (lo + d + 1) < 2 ^ e := Nat.div_lt_of_lt_mul (by rw [← hT]; exact hv)
  have key : n - n / 2 ^ lo % 2 ^ (d + 1) * 2 ^ lo + x % 2 ^ (d + 1) * 2 ^ lo =
      n / 2 ^ (lo + d + 1) * 2 ^ (lo + d + 1) + x % 2 ^ (d + 1) * 2 ^ lo + n % 2 ^ lo := by omega
  rw [key, BitVec.toNat_ofNat, Nat.mod_eq_of_lt]
  have h1 : x % 2 ^ (d + 1) * 2 ^ lo + n % 2 ^ lo < 2 ^ (lo + d + 1) := by
    rw [hW]
    have : (x % 2 ^ (d + 1) + 1) * 2 ^ lo ≤ 2 ^ (d + 1) * 2 ^ lo := Nat.mul_le_mul_right _ hx
    rw [Nat.add_mul, Nat.one_mul] at this
    rw [Nat.mul_comm (2 ^ lo)]; omega
  have h2 : (n / 2 ^ (lo + d + 1) + 1) * 2 ^ (lo + d + 1) ≤ 2 ^ e * 2 ^ (lo + d + 1) := Nat.mul_le_mul_right _ hq
  rw [Nat.add_mul, Nat.one_mul, Nat.mul_comm (2 ^ e), ← hT] at h2
  omega

/-- A field written reads the value, cut to its width. -/
theorem bitsOf_withBits_same (v : Word) (hi lo x : Nat) (h : lo ≤ hi) (hh : hi < 64) :
    bitsOf (withBits v hi lo x) hi lo = x % 2 ^ (hi + 1 - lo) := by
  have e := withBits_toNat v hi lo x h hh
  unfold bitsOf
  rw [e]
  have hp : 2 ^ (hi + 1) = 2 ^ (hi + 1 - lo) * 2 ^ lo := by rw [← pow_add]; congr 1; omega
  have hr : v.toNat % 2 ^ lo < 2 ^ lo := Nat.mod_lt _ (by positivity)
  rw [hp, ← Nat.mul_assoc, ← Nat.add_mul, Nat.add_comm, Nat.add_mul_div_right _ _ (by positivity), Nat.div_eq_of_lt hr,
    Nat.zero_add, Nat.mul_add_mod_self_right, Nat.mod_mod]

/-- A field above the one written reads as before. -/
theorem bitsOf_withBits_above (v : Word) (hi lo x h2 l2 : Nat) (h : lo ≤ hi) (hh : hi < 64) (hd : hi < l2) :
    bitsOf (withBits v hi lo x) h2 l2 = bitsOf v h2 l2 := by
  have e := withBits_toNat v hi lo x h hh
  unfold bitsOf
  rw [e]
  obtain ⟨d, rfl⟩ := Nat.exists_eq_add_of_le (show hi + 1 ≤ l2 by omega)
  have hp : 2 ^ (hi + 1) = 2 ^ (hi + 1 - lo) * 2 ^ lo := by rw [← pow_add]; congr 1; omega
  have hx : x % 2 ^ (hi + 1 - lo) < 2 ^ (hi + 1 - lo) := Nat.mod_lt _ (by positivity)
  have hr : v.toNat % 2 ^ lo < 2 ^ lo := Nat.mod_lt _ (by positivity)
  have h1 : x % 2 ^ (hi + 1 - lo) * 2 ^ lo + v.toNat % 2 ^ lo < 2 ^ (hi + 1) := by
    have : (x % 2 ^ (hi + 1 - lo) + 1) * 2 ^ lo ≤ 2 ^ (hi + 1 - lo) * 2 ^ lo := Nat.mul_le_mul_right _ hx
    rw [Nat.add_mul, Nat.one_mul] at this
    rw [hp]; omega
  rw [pow_add 2 (hi + 1) d, ← Nat.div_div_eq_div_mul, ← Nat.div_div_eq_div_mul, Nat.add_assoc, Nat.add_comm,
    Nat.add_mul_div_right _ _ (by positivity), Nat.div_eq_of_lt h1, Nat.zero_add]

/-- A field below the one written reads as before. -/
theorem bitsOf_withBits_below (v : Word) (hi lo x h2 l2 : Nat) (h : lo ≤ hi) (hh : hi < 64) (hd : h2 < lo) (hl : l2 ≤ h2) :
    bitsOf (withBits v hi lo x) h2 l2 = bitsOf v h2 l2 := by
  have e := withBits_toNat v hi lo x h hh
  unfold bitsOf
  have key : ∀ n : Nat, n / 2 ^ l2 % 2 ^ (h2 + 1 - l2) = n % 2 ^ lo % 2 ^ (h2 + 1) / 2 ^ l2 := by
    intro n
    have hp : 2 ^ (h2 + 1) = 2 ^ l2 * 2 ^ (h2 + 1 - l2) := by rw [← pow_add]; congr 1; omega
    rw [Nat.mod_mod_of_dvd _ (Nat.pow_dvd_pow 2 (by omega)), hp, Nat.mod_mul_right_div_self]
  rw [key, key v.toNat, e]
  have hp : 2 ^ (hi + 1) = 2 ^ (hi + 1 - lo) * 2 ^ lo := by rw [← pow_add]; congr 1; omega
  rw [hp, ← Nat.mul_assoc, ← Nat.add_mul, Nat.mul_add_mod_self_right, Nat.mod_mod]

theorem State.reg_setReg (s : State) (a b : Nat) (v : Word) : (s.setReg a v).reg b = if b = a then v else s.reg b :=
  Tab.read_write regReset s.regs a v b

@[simp] theorem State.reg_setReg_same (s : State) (a : Nat) (v : Word) : (s.setReg a v).reg a = v := by
  rw [State.reg_setReg, if_pos rfl]

theorem State.reg_setReg_ne (s : State) {a b : Nat} (v : Word) (h : b ≠ a) : (s.setReg a v).reg b = s.reg b := by
  rw [State.reg_setReg, if_neg h]

theorem State.reg_put_ne (s : State) (l : Loc) (x b : Nat) (h : b ≠ l.addr) : (s.put l x).reg b = s.reg b :=
  State.reg_setReg_ne s _ h

theorem State.reg_put_same (s : State) (l : Loc) (x : Nat) : (s.put l x).reg l.addr = withBits (s.reg l.addr) l.hi l.lo x :=
  State.reg_setReg_same s _ _

/-- A field put reads its value, cut to its width. -/
theorem State.get_put_same (s : State) (l : Loc) (x : Nat) (h : l.lo ≤ l.hi) (hh : l.hi < 64) :
    (s.put l x).get l = x % 2 ^ (l.hi + 1 - l.lo) := by
  unfold State.get
  rw [State.reg_put_same, bitsOf_withBits_same _ _ _ _ h hh]

/-- A put leaves every field of another register alone. -/
theorem State.get_put_ne (s : State) (l m : Loc) (x : Nat) (h : m.addr ≠ l.addr) : (s.put l x).get m = s.get m := by
  unfold State.get; rw [State.reg_put_ne _ _ _ _ h]

/-- A put leaves a disjoint field of the same register alone. -/
theorem State.get_put_disjoint (s : State) (l m : Loc) (x : Nat) (h : l.lo ≤ l.hi) (hh : l.hi < 64) (hm : m.lo ≤ m.hi)
    (hd : m.hi < l.lo ∨ l.hi < m.lo) : (s.put l x).get m = s.get m := by
  by_cases ha : m.addr = l.addr
  · unfold State.get
    rw [ha, State.reg_put_same]
    rcases hd with hd | hd
    · exact bitsOf_withBits_below _ _ _ _ _ _ h hh hd hm
    · exact bitsOf_withBits_above _ _ _ _ _ _ h hh hd
  · exact State.get_put_ne s l m x ha

theorem State.flag_put_same (s : State) (l : Loc) (x : Nat) (h : l.lo ≤ l.hi) (hh : l.hi < 64) :
    (s.put l x).flag l = (x % 2 ^ (l.hi + 1 - l.lo) == 1) := by
  unfold State.flag; rw [State.get_put_same _ _ _ h hh]

theorem State.flag_put_ne (s : State) (l m : Loc) (x : Nat) (h : m.addr ≠ l.addr) : (s.put l x).flag m = s.flag m := by
  unfold State.flag; rw [State.get_put_ne _ _ _ _ h]

/-- The bit of a field that putBit writes, as a field of its own. -/
theorem State.get_putBit_same (s : State) (l : Loc) (i : Nat) (b : Bool) (h : l.lo + i < 64) :
    (s.putBit l i b).get { l with hi := l.lo + i, lo := l.lo + i } = if b then 1 else 0 := by
  unfold State.putBit
  rw [State.get_put_same _ _ _ (le_refl _) h]
  cases b <;> simp

/-- A counter that saturates never falls. -/
theorem State.get_addSat (s : State) (l : Loc) (n : Nat) (h : l.lo ≤ l.hi) (hh : l.hi < 64) :
    (s.addSat l n).get l = min (s.get l + n) (2 ^ (l.hi + 1 - l.lo) - 1) := by
  unfold State.addSat
  rw [State.get_put_same _ _ _ h hh]
  apply Nat.mod_eq_of_lt
  have : 0 < 2 ^ (l.hi + 1 - l.lo) := by positivity
  omega

theorem State.get_lt (s : State) (l : Loc) : s.get l < 2 ^ (l.hi + 1 - l.lo) := Nat.mod_lt _ (by positivity)

end Sys2Proof.Machine
end

