-- ==== Sys2Proof/Laws/Run.lean ====
section
/-! SUPPORT. What the wrapper of every instruction can do: commit its effect, take its trap, or wait; and what counting and
committing leave alone. -/

namespace Sys2Proof.Machine

theorem SameCore.refl (k : Nat) (c : Core) : SameCore k c c :=
  ⟨rfl, rfl, rfl, rfl, rfl, rfl, rfl, rfl, rfl, ⟨rfl, rfl, rfl, rfl⟩, fun _ _ => rfl, fun h => ⟨rfl, rfl, rfl, h⟩⟩

theorem SameCore.trans {k : Nat} {a b c : Core} (h : SameCore k a b) (g : SameCore k b c) (hs : a.stepping = false → b.stepping = false) :
    SameCore k a c :=
  ⟨g.run.trans h.run, g.pc.trans h.pc, g.npc.trans h.npc, g.slot.trans h.slot, g.slotPc.trans h.slotPc, g.g.trans h.g, g.f.trans h.f, g.sb.trans h.sb,
   g.save.trans h.save, ⟨g.caches.1.trans h.caches.1, g.caches.2.1.trans h.caches.2.1, g.caches.2.2.1.trans h.caches.2.2.1,
     g.caches.2.2.2.trans h.caches.2.2.2⟩,
   fun n hn => (g.sreg n hn).trans (h.sreg n hn),
   fun q => ⟨(g.debug (hs q)).1.trans (h.debug q).1, (g.debug (hs q)).2.1.trans (h.debug q).2.1,
     (g.debug (hs q)).2.2.1.trans (h.debug q).2.2.1, (g.debug (hs q)).2.2.2⟩⟩

/-- Writing a performance counter's register changes nothing else. -/
theorem SameCore.setSr {k : Nat} (c : Core) {n : Nat} (v : Word) (h : pmcNumber n = true) : SameCore k c (c.setSr k n v) :=
  ⟨rfl, rfl, rfl, rfl, rfl, rfl, rfl, rfl, rfl, ⟨rfl, rfl, rfl, rfl⟩,
   fun m hm => by
     rw [Core.sreg_setSr, if_neg]
     rintro rfl
     rw [h] at hm
     exact absurd hm (by decide),
   fun q => ⟨rfl, rfl, rfl, q⟩⟩

theorem pmcOne_same (s : State) (k ev n : Nat) (c : Core) {j : Nat} (hj : j < 8) :
    SameCore k c (pmcOne s k ev n c j) ∧ (pmcOne s k ev n c j).stepping = c.stepping := by
  unfold pmcOne
  have h1 : pmcNumber (srPmc j) = true := by
    have a : srPmc 0 ≤ srPmc j := by unfold srPmc; omega
    have b : srPmc j ≤ srPmc 7 := by unfold srPmc; omega
    simp [pmcNumber, a, b]
  dsimp only
  split
  · split
    · exact ⟨SameCore.setSr c _ h1, rfl⟩
    · exact ⟨SameCore.trans (SameCore.setSr c _ h1) (SameCore.setSr _ _ rfl) id, rfl⟩
  · exact ⟨SameCore.refl k c, rfl⟩

theorem pmcFold_same (s : State) (k ev n : Nat) (js : List Nat) (h : ∀ j ∈ js, j < 8) : ∀ c : Core,
    SameCore k c (js.foldl (pmcOne s k ev n) c) ∧ (js.foldl (pmcOne s k ev n) c).stepping = c.stepping := by
  induction js with
  | nil => intro c; exact ⟨SameCore.refl k c, rfl⟩
  | cons j js ih =>
    intro c
    have a := pmcOne_same s k ev n c (h j (List.mem_cons_self ..))
    have b := ih (fun i hi => h i (List.mem_cons_of_mem _ hi)) (pmcOne s k ev n c j)
    exact ⟨SameCore.trans a.1 b.1 (fun q => a.2.trans q), b.2.trans a.2⟩

/-- Counting an event changes only the counters of its core. -/
theorem State.pmc_same (s : State) (k ev n : Nat) :
    s.pmc k ev n = { s with cores := (s.pmc k ev n).cores } ∧ (∀ j, j ≠ k → (s.pmc k ev n).core j = s.core j) ∧
    SameCore k (s.core k) ((s.pmc k ev n).core k) ∧ ((s.pmc k ev n).core k).stepping = (s.core k).stepping := by
  unfold State.pmc
  split
  · exact ⟨rfl, fun _ _ => rfl, SameCore.refl k _, rfl⟩
  · refine ⟨rfl, fun j hj => State.core_setCore_ne s _ hj, ?_⟩
    rw [State.core_setCore_same]
    exact pmcFold_same s k ev n (List.range 8) (fun j hj => List.mem_range.mp hj) (s.core k)

/-- Waiting changes only what the core waits for. -/
theorem State.waitFor_same (s : State) (k ev : Nat) :
    s.waitFor k ev = { s with cores := (s.waitFor k ev).cores } ∧ (∀ j, j ≠ k → (s.waitFor k ev).core j = s.core j) ∧
    SameCore k (s.core k) ((s.waitFor k ev).core k) ∧ ((s.waitFor k ev).core k).stepping = (s.core k).stepping := by
  unfold State.waitFor
  split
  · exact ⟨rfl, fun _ _ => rfl, SameCore.refl k _, rfl⟩
  · refine ⟨rfl, fun j hj => State.core_onCore_ne s _ hj, ?_⟩
    rw [State.core_onCore_same]
    exact ⟨⟨rfl, rfl, rfl, rfl, rfl, rfl, rfl, rfl, rfl, ⟨rfl, rfl, rfl, rfl⟩, fun _ _ => rfl, fun h => ⟨rfl, rfl, rfl, h⟩⟩, rfl⟩

/-- The end of an instruction ends its wait, and a debug step; nothing else changes. -/
theorem commitEnd_retires (v : State) (k : Nat) : Retires v (commitEnd v k) k (v.core k) := by
  obtain ⟨h1, h2, h3, h4⟩ := State.waitFor_same v k (if (v.core k).run == .waypt then evWayptWait else 0)
  unfold commitEnd
  dsimp only
  generalize v.waitFor k (if (v.core k).run == .waypt then evWayptWait else 0) = u at h1 h2 h3 h4 ⊢
  split
  · rename_i hs
    refine ⟨by rw [h1]; rfl, fun j hj => (State.core_onCore_ne u _ hj).trans (h2 j hj), ?_⟩
    rw [State.core_onCore_same]
    exact ⟨h3.run, h3.pc, h3.npc, h3.slot, h3.slotPc, h3.g, h3.f, h3.sb, h3.save, h3.caches, h3.sreg,
      fun q => absurd (h4.symm.trans hs) (by rw [q]; decide)⟩
  · exact ⟨h1, h2, h3⟩

/-- A commit changes only the counters of its core, and ends a debug step. -/
theorem commit_retires (v : State) (k : Nat) : Retires v (commit v k) k (v.core k) := by
  obtain ⟨h1, h2, h3, h4⟩ := State.pmc_same v k evCommit 1
  obtain ⟨g1, g2, g3⟩ := commitEnd_retires (v.pmc k evCommit 1) k
  refine ⟨?_, fun j hj => (g2 j hj).trans (h2 j hj), SameCore.trans h3 g3 (fun q => h4.trans q)⟩
  unfold commit
  rw [g1, h1]

/-- A halt request that does not hold the instruction back (R87). -/
theorem not_held {s : State} {k : Nat} (h : (s.core k).haltReq = 0 ∨ outstanding s k = true) :
    ((s.core k).haltReq != 0 && !outstanding s k) = false := by
  rcases h with h | h <;> simp [h]

variable {s u v : State} {k w : Nat} {body : State → Att}

/-- An instruction whose body is done commits. -/
theorem runInstr_done (h : Fetches s k u) (hb : body u = .done v) : runInstr s k w body = commit v k := by
  obtain ⟨h1, h2, h3, x, h4, h5⟩ := h
  simp only [runInstr, h1, h2, h4, h5, hb, not_held h3, Option.isSome_none, Bool.false_eq_true, if_false, Bool.not_true]

/-- An instruction whose body meets a trap condition takes the trap. -/
theorem runInstr_trap {c code a : Nat} (h : Fetches s k u) (hb : body u = .trap v c code a) :
    runInstr s k w body = takeTrap v k c code a w := by
  obtain ⟨h1, h2, _, x, h4, h5⟩ := h
  simp only [runInstr, h1, h2, h4, h5, hb, Option.isSome_none, Bool.false_eq_true, if_false, Bool.not_true]

/-- An instruction that waits, with no access placed, changes only what its core waits for (R194). -/
theorem runInstr_wait {ev : Nat} (h : Fetches s k u) (ho : outstanding s k = false) (hb : body u = .wait ev) :
    runInstr s k w body = s.waitFor k ev := by
  obtain ⟨h1, h2, h3, x, h4, h5⟩ := h
  have e := not_held h3
  rw [ho] at e
  simp only [runInstr, h1, h2, h4, h5, hb, e, ho, Option.isSome_none, Bool.false_eq_true, if_false, Bool.not_true]

/-- An effect on one core, committed: the core is the effect's, and nothing else changed. -/
theorem runInstr_onCore (f : Core → Core) (h : Fetches s k u) (hb : body u = .done (u.onCore k f)) :
    Retires u (runInstr s k w body) k (f (u.core k)) := by
  rw [runInstr_done h hb]
  obtain ⟨h1, h2, h3⟩ := commit_retires (u.onCore k f) k
  rw [State.core_onCore_same] at h3
  exact ⟨by rw [h1]; rfl, fun j hj => (h2 j hj).trans (State.core_onCore_ne u _ hj), h3⟩

end Sys2Proof.Machine
end

