-- ==== Sys2Proof/Tests/Slice0.lean ====
section
/-! SUPPORT. The tests of this sitting: the checks of WellFormed, words decoded as 04_instruction_set.md writes them out, values of
the floating-point arithmetic, and for every obligation that has hypotheses a state and operands that meet them, clause by
clause. -/

open Sys2Proof Sys2Proof.Machine

namespace Sys2Proof.Tests

set_option Elab.async false

/-! ## Small states -/

/-- After reset, with the zeroing and the scans done. -/
def base : State := { State.reset with boot := { State.reset.boot with zeroing := [], scanned := true } }

/-- Fields of registers set to values. -/
def puts (l : List (Loc × Nat)) (s : State) : State := l.foldl (fun s x => s.put x.1 x.2) s

def st (l : List (Loc × Nat)) : State := puts l base

/-- Core k executes at pc. -/
def awake (k pc : Nat) (s : State) : State :=
  s.onCore k (fun c => { c with run := .active, pc := BitVec.ofNat 40 pc, npc := BitVec.ofNat 40 (pc + 4) })

/-- General registers of core k set to values. -/
def gregs (k : Nat) (l : List (Nat × Word)) (s : State) : State :=
  s.onCore k (fun c => l.foldl (fun c x => c.setG x.1 x.2) c)

def core' (k : Nat) (f : Core → Core) (s : State) : State := s.onCore k f

/-- What the comparators make of a fetch, as Fetches has it. -/
def judged (v : State) (k : Nat) : State × Bool :=
  if (v.core k).stepping then (v, false) else compare v k .fetch (v.core k).pc.toNat 4 none

/-- The state after core k's fetch, where nothing stops it. -/
def fetchedO (s : State) (k : Nat) : Option State :=
  match fetchAt s k with
  | .done v => if s.dbgp.feed = none ∧ coreRuns s k = true ∧ (judged v k).2 = false ∧
      ((s.core k).haltReq = 0 ∨ outstanding s k = true) then some (judged v k).1 else none
  | _ => none

def fetched (s : State) (k : Nat) : State := (fetchedO s k).getD s

theorem fetches_of {s : State} {k : Nat} (h : (fetchedO s k).isSome = true) : Fetches s k (fetched s k) := by
  unfold fetched
  unfold fetchedO at h ⊢
  cases hv : fetchAt s k with
  | done v =>
    simp only [hv] at h ⊢
    by_cases h1 : s.dbgp.feed = none ∧ coreRuns s k = true ∧ (judged v k).2 = false ∧
        ((s.core k).haltReq = 0 ∨ outstanding s k = true)
    · rw [if_pos h1]
      exact ⟨h1.1, h1.2.1, h1.2.2.2, v, hv, Prod.ext rfl h1.2.2.1⟩
    · rw [if_neg h1] at h; cases h
  | _ => simp [hv] at h

/-- What a command answers. -/
def answer (o : Host.Outcome State Fault Refusal) : State :=
  match o with
  | .next t => t
  | _ => base

def isNext (o : Host.Outcome State Fault Refusal) : Bool :=
  match o with
  | .next _ => true
  | _ => false

theorem next_answer {o : Host.Outcome State Fault Refusal} (h : isNext o = true) : o = .next (answer o) := by
  cases o with
  | next t => rfl
  | fault f => cases h
  | refused r => cases h

def isOk (r : Rd) : Bool :=
  match r with
  | .ok _ => true
  | _ => false

def okVal (r : Rd) : Nat :=
  match r with
  | .ok v => v
  | _ => 0

def isErr (r : Rd) : Bool :=
  match r with
  | .err _ => true
  | _ => false

def errVal (r : Rd) : BusErr :=
  match r with
  | .err e => e
  | _ => .bus

theorem err_read {r : Rd × State} (h : isErr r.1 = true) : r = (.err (errVal r.1), r.2) := by
  obtain ⟨r, u⟩ := r
  cases r <;> first | rfl | cases h

theorem ok_read {r : Rd × State} (h : isOk r.1 = true) : r = (.ok (okVal r.1), r.2) := by
  obtain ⟨r, u⟩ := r
  cases r <;> first | rfl | cases h

/-- Tile 255 executes at address 0, general register 1 at the top of its data area. -/
def tile0 : State := gregs 255 [(1, 0xFFF8), (2, 3)] (awake 255 0 (st [(F.HW_STATE_STATE, dsRun)]))

/-- Service core 3 executes in the boot ROM, privileged. -/
def sc0 : State := gregs 259 [(1, 0x40000000)] (awake 259 0xF0000000 (st [(F.HW_STATE_STATE, dsRun)]))


/-- The words of a response to a challenge that are right, or all 0. -/
def wordsOf (x : BitVec 256) : List (BitVec 32) := (List.range 8).map (fun i => (x >>> (32 * i)).setWidth 32)

theorem respNum_wordsOf (x : BitVec 256) : respNum (wordsOf x) = x.toNat := by
  have h : x.toNat < 2 ^ 256 := x.isLt
  simp only [wordsOf, List.range, List.range.loop, List.map, respNum, BitVec.toNat_setWidth, BitVec.toNat_ushiftRight,
    Nat.shiftRight_eq_div_pow]
  generalize x.toNat = n at h
  omega

/-- The response expected for the challenge 5 of level 2. -/
def right : List (BitVec 32) := wordsOf (expected base 5 2)
/-- Another response. -/
def wrong : List (BitVec 32) := wordsOf (expected base 5 2 + 1)

/-- A challenge whose response is complete. -/
def answered (r : List (BitVec 32)) : State :=
  { base with dbgp := { base.dbgp with unlock := { base.dbgp.unlock with chal := some 5, checking := true, level := 2, resp := r } } }

theorem right_response (r : List (BitVec 32)) : (expected (answered r) 5 2) = expected base 5 2 := rfl

theorem wrong_response : respNum wrong ≠ (expected (answered wrong) 5 2).toNat := by
  rw [wrong, respNum_wordsOf, right_response]
  intro h
  have := BitVec.eq_of_toNat_eq h
  generalize expected base 5 2 = x at this
  have h2 : x + 1 - x = x - x := by rw [this]
  simp at h2

/-! ## A slot that may be restored -/

/-- PROVISION with slot 7 offered and nothing programmed in flash. -/
def offered0 : State :=
  (let s := st [(F.HW_STATE_STATE, dsProvision), (F.HW_LAYBY_STATUS_OFFERED, 1), (F.HW_LAYBY_STATUS_SLOT, 7),
    (F.WPT_PSTATE_STATE 0, psProvisioning), (F.WPT_PSTATE_STATE 1, psProvisioning), (F.WPT_PSTATE_STATE 2, psProvisioning),
    (F.WPT_PSTATE_STATE 3, psProvisioning)]
   { s with boot := { s.boot with digest := BitVec.allOnes 256 } })

/-- The slot's information word: every partition and the service core, not started. -/
def infoWord : BitVec 128 := BitVec.ofNat 128 (2 ^ 128 - 1 - 2 ^ 37)
/-- The check of 18,432 erased words. -/
def crcWord : BitVec 128 := (crcWords (fun _ => 2 ^ 64 - 1) 18432).setWidth 128
def offered1 : State := flashWord offered0 (slotBase 0 7 + 0x10) infoWord
def offered : State := flashWord offered1 (slotBase 0 7 + 0x90) crcWord

theorem bytes_ones {s : State} (n : Nat) : ∀ a : Nat, (∀ i, i < n → s.byte (a + i) = 0xFF) → s.bytes a n + 1 = 256 ^ n := by
  induction n with
  | zero => intro a _; rfl
  | succ n ih =>
    intro a h
    have h0 := h 0 (by omega)
    simp only [Nat.add_zero] at h0
    have h1 := ih (a + 1) (fun i hi => by have := h (i + 1) (by omega); rwa [show a + (i + 1) = a + 1 + i by omega] at this)
    simp only [State.bytes, h0, pow_succ]
    have : (0xFF : Byte).toNat = 255 := rfl
    omega

theorem offered0_mem : offered0.mem = [] := by decide +kernel
theorem offered0_check : offered0.flash.check = [] := by decide +kernel

theorem senseData_offered0 (a : Nat) (h : a < 0x1FFFFF0) : senseData offered0 a = some (BitVec.allOnes 128) := by
  have hb : ∀ i, i < 16 → offered0.byte (a / 16 * 16 + i) = 0xFF := by
    intro i hi
    simp only [State.byte, offered0_mem, Tab.read, memReset]
    rw [if_pos (by omega)]
  have h1 := bytes_ones 16 _ hb
  have hd : wordData offered0 a = BitVec.allOnes 128 := by
    simp only [wordData]
    rw [show offered0.bytes (a / 16 * 16) 16 = 256 ^ 16 - 1 by omega]
    decide +kernel
  have hc : wordCheck offered0 a = BitVec.allOnes 9 := by
    simp only [wordCheck, offered0_check, Tab.read, erasedCheck]
    rw [if_neg (by omega)]
  simp only [senseData, hd, hc, sense, and_self, if_true]

theorem offered_slot (a : Nat) (h : a < 0x1FFFFF0) (h1 : a / 16 ≠ (slotBase 0 7 + 0x10) / 16) (h2 : a / 16 ≠ (slotBase 0 7 + 0x90) / 16) :
    senseData offered a = some (BitVec.allOnes 128) := by
  simp only [offered, offered1]
  rw [senseData_flashWord_other _ _ _ _ h2, senseData_flashWord_other _ _ _ _ h1, senseData_offered0 a h]

theorem offered_info : senseData offered (slotBase 0 7 + 0x10) = some infoWord := by
  simp only [offered, offered1]
  rw [senseData_flashWord_other _ _ _ _ (by decide +kernel), senseData_flashWord _ _ _ (by decide +kernel)]

theorem crcWord_ne : crcWord ≠ BitVec.allOnes 128 := by
  intro h
  have h1 : crcWord.toNat < 2 ^ 32 := by
    simp only [crcWord, BitVec.toNat_setWidth]
    have := (crcWords (fun _ => 2 ^ 64 - 1) 18432).isLt
    omega
  rw [h] at h1
  revert h1
  decide +kernel

theorem offered_crc : senseData offered (slotBase 0 7 + 0x90) = some crcWord := senseData_flashWord _ _ _ crcWord_ne

theorem offered_data (i : Nat) (h : i < 18432) : slotData offered 7 i = some (2 ^ 64 - 1) := by
  have hb : blockAddr 7 (i / 16) (i % 16 / 2) = (i / 16 % 8) * 0x400000 + 127 * 0x8000 + 0x100 + 128 * (i / 16 / 8) + 16 * (i % 16 / 2) := by
    simp only [blockAddr, slotBase, sectorBase]
    rw [if_pos (by omega)]
  have h0 : slotBase 0 7 = 127 * 0x8000 := by decide +kernel
  have hs := offered_slot (blockAddr 7 (i / 16) (i % 16 / 2)) (by rw [hb]; omega) (by rw [hb, h0]; omega) (by rw [hb, h0]; omega)
  simp only [slotData, hs, Option.map_some]
  rcases Nat.mod_two_eq_zero_or_one i with h2 | h2 <;> rw [h2] <;> decide +kernel

theorem crcWords_congr {f g : Nat → Nat} (n : Nat) (h : ∀ i, i < n → f i = g i) : crcWords f n = crcWords g n := by
  unfold crcWords
  congr 1
  apply List.foldl_ext
  intro c i hi
  rw [h i (List.mem_range.mp hi)]

theorem slotCrcOk_of {s : State} {j : Nat} {w : BitVec 128} (n : Nat) (hn : n = 18432)
    (h1 : ∀ i, i < n → slotData s j i = some (2 ^ 64 - 1)) (h2 : slotWordAt s j 0x90 = some w)
    (h3 : crcWords (fun _ => 2 ^ 64 - 1) n = w.setWidth 32) : slotCrcOk s j = true := by
  have ha : (List.range n).all (fun i => (slotData s j i).isSome) = true := by
    rw [List.all_eq_true]
    intro i hi
    rw [h1 i (List.mem_range.mp hi)]
    rfl
  have hc : crcWords (fun i => (slotData s j i).getD 0) n = w.setWidth 32 := by
    rw [← h3]
    apply crcWords_congr
    intro i hi
    rw [h1 i hi]
    rfl
  unfold slotCrcOk
  rw [← hn, ha, h2]
  simp only [Bool.true_and, beq_iff_eq, hc]

theorem setWidth_back (x : BitVec 32) : x = (x.setWidth 128).setWidth 32 := by simp

theorem senseData_put (s : State) (l : Loc) (x a : Nat) : senseData (s.put l x) a = senseData s a := by
  have hb : (s.put l x).bytes (a / 16 * 16) 16 = s.bytes (a / 16 * 16) 16 := State.bytes_congr 16 _ (fun _ _ => rfl)
  have hf : (s.put l x).flash = s.flash := rfl
  simp only [senseData, wordData, wordCheck, hb, hf]

/-- The state that the check of a restore sees. -/
def asked : State := (offered.putFlag F.LAY_RESTORE_SC true).put F.LAY_RESTORE_PARTS (BitVec.toNat 15#4)

theorem asked_slot (a : Nat) : senseData asked a = senseData offered a := by
  unfold asked State.putFlag
  rw [senseData_put, senseData_put]

theorem asked_data (i : Nat) (h : i < 18432) : slotData asked 7 i = some (2 ^ 64 - 1) := by
  rw [← offered_data i h]
  simp only [slotData, asked_slot]

theorem asked_crc : slotWordAt asked 7 0x90 = some crcWord := by
  simp only [slotWordAt, asked_slot]
  exact offered_crc

theorem asked_slotCrcOk : slotCrcOk asked 7 = true := slotCrcOk_of 18432 rfl asked_data asked_crc (setWidth_back _)

theorem restore_accepted : restoreCheck asked (BitVec.toNat 15#4) true = 0 := by
  have hs : asked.get F.HW_LAYBY_STATUS_SLOT = 7 := by decide +kernel
  have hi : slotInfo asked 7 = infoWord.toNat := by
    simp only [slotInfo, slotWordAt, asked_slot, offered_info, Option.getD_some]
  have h2 : slotWordAt asked 7 0x20 = some (BitVec.allOnes 128) := by
    simp only [slotWordAt, asked_slot]
    exact offered_slot _ (by decide +kernel) (by decide +kernel) (by decide +kernel)
  have h3 : slotWordAt asked 7 0x30 = some (BitVec.allOnes 128) := by
    simp only [slotWordAt, asked_slot]
    exact offered_slot _ (by decide +kernel) (by decide +kernel) (by decide +kernel)
  have hd : asked.boot.digest = BitVec.allOnes 256 := by decide +kernel
  unfold restoreCheck
  simp only [hs, hi, h2, h3, asked_slotCrcOk, hd, Option.getD_some]
  decide +kernel

/-! ## A merge that is taken -/

def merging0 : State :=
  st [(F.HW_STATE_STATE, dsRun), (F.WPT_PSTATE_STATE 3, psScanning), (F.WPT_PSTATE_STATE 0, 0), (F.CVY_STATE_ROLE, roleVoter),
    (F.CVY_STATE_VOTERS, 1), (F.CVY_CFG_MODE, 1), (F.HW_CMD_ARG0_ARG, 3), (F.CVY_PORT_STATUS_STATE 2, lsUp)]

/-- A voter whose port 2 leads to a member with the same formation digest. -/
def merging : State :=
  { merging0 with cvy := { merging0.cvy with link := [(2, { linkReset 2 with digest := formDigest merging0 })] } }

theorem merging_digest (t : State) (h : t.cvy.link = merging.cvy.link) : (t.link 2).digest = formDigest merging0 := by
  simp only [State.link, h]
  rfl

/-- Every cause of a refusal but the digest, as a condition that can be decided. -/
def mergeOpen (s : State) (j : Nat) : Bool :=
  s.role == roleVoter && !(assigned s).any (fun p => s.pstate p != psScanning) && freeSlot s &&
  !(mergeBusy s || (List.range 4).any (fun p => s.flag (F.WPT_PSTATE_CO_PENDING p))) &&
  (portTo s j == some 2) && (portState s 2 == lsUp)

theorem merge_taken {s : State} {j : Nat} (h : mergeOpen s j = true) (hd : (s.link 2).digest = formDigest s) :
    mergeCheck s j true true true = 0 := by
  simp only [mergeOpen, Bool.and_eq_true, beq_iff_eq, Bool.not_eq_true'] at h
  obtain ⟨⟨⟨⟨⟨h1, h2⟩, h3⟩, h4⟩, h5⟩, h6⟩ := h
  simp [mergeCheck, h1, h2, h3, h4, h5, h6, hd]

theorem merge_refused {s : State} {j : Nat} {a b c : Bool} (h : s.role ≠ roleVoter) : mergeCheck s j a b c ≠ 0 := by
  simp [mergeCheck, h, ceState]

/-! ## Checks of WellFormed: each refuses an ill-formed term -/

theorem test_wellFormed_refuses_reserved_rounding : wellFormed (.fadd 0 true 5 1 2 3) = false := by decide
theorem test_wellFormed_refuses_reserved_rounding_of_fma : wellFormed (.fmadd 0 false 6 1 2 3 4) = false := by decide
theorem test_wellFormed_refuses_rounding_of_widening : wellFormed (.fcvtP 0 false 1 1 2) = false := by decide
theorem test_wellFormed_refuses_port_16 : wellFormed (.lsend 0 16 1) = false ∧ wellFormed (.lprobe 0 1 16 true) = false := by decide
theorem test_wellFormed_admits : wellFormed (.fadd 0 true 7 1 2 3) = true ∧ wellFormed (.lsend 0 15 1) = true := by decide

/-! ## Words written out from 04_instruction_set.md -/

/-- LRECVF f2, 3: op 0x05, d 2, a 0, b 3, c 0, fn 0x03. -/
theorem test_decode_lrecvf : decodeWord 7 0b000101_00010_00000_00011_00000_000011#32 = some (.lrecvf 7 2 3) := by decide +kernel
/-- LDD g5, 0(g8): op 0x16. -/
theorem test_decode_ldd : decodeWord 7 0b010110_00101_01000_0000000000000000#32 = some (.ldd 7 5 8 0) := by decide +kernel
/-- FMADD.D f4, f2, f6, f4: op 0x04, fn 0b00_0_111. -/
theorem test_decode_fmadd : decodeWord 7 0b000100_00100_00010_00110_00100_000111#32 = some (.fmadd 7 false 7 4 2 6 4) := by decide +kernel
/-- ADDI g5, g5, 1: op 0x08. -/
theorem test_decode_addi : decodeWord 7 0b001000_00101_00101_0000000000000001#32 = some (.addi 7 5 5 1) := by decide +kernel
/-- BLT g5, g9 with annul and displacement 0x3A: op 0x22, the annul bit above the displacement. -/
theorem test_decode_blt : decodeWord 7 0b100010_00101_01001_1000000000111010#32 = some (.blt 7 5 9 true 0x3A) := by decide +kernel
/-- A word of no instruction. -/
theorem test_decode_none : decodeWord 7 0#32 = none ∧ decodeTableWord 32 0 = none := by decide +kernel

/-! ## Arithmetic by hand: 1.5 + 2.25, 1 / 0, 0 / 0, the root of 2, and 1 + 2⁻²⁴ to nearest even -/

theorem test_fadd : Fmt.d.add 0 (Fmt.d.unpack 0x3FF8000000000000) (Fmt.d.unpack 0x4002000000000000) = (0x400E000000000000, 0) := by
  decide +kernel
theorem test_fdiv_by_zero : Fmt.d.div 0 (Fmt.d.unpack 0x3FF0000000000000) (Fmt.d.unpack 0) = (0x7FF0000000000000, 8) := by decide +kernel
theorem test_fdiv_zero_by_zero : Fmt.d.div 0 (Fmt.d.unpack 0) (Fmt.d.unpack 0) = (0x7FF8000000000000, 16) := by decide +kernel
theorem test_fsqrt : Fmt.d.sqrt 0 (Fmt.d.unpack 0x4000000000000000) = (0x3FF6A09E667F3BCD, 1) := by decide +kernel
theorem test_fadd_ties_to_even : Fmt.s.add 0 (Fmt.s.unpack 0x3F800000) (Fmt.s.unpack 0x33800000) = (0x3F800000, 1) := by decide +kernel

/-! ## The hash of "abc" (FIPS 180-4) and twice the base point of P-256 (FIPS 186-4) -/

theorem test_sha256_abc : sha256 [0x61, 0x62, 0x63] = 0xad1500f261ff10b49c7a1796a36103b02322ae5dde404141eacf018fbf1678ba#256 := by
  decide +kernel
theorem test_p256_double : p256Add (some p256G) (some p256G) =
    some (0x7cf27b188d034f7e8a52380304b51ac3c08969e277f21b35a60b48fc47669978,
      0x7775510db8ed040293d9ac69f7430dbba7dade63ce982299e04b79d227873d1) := by decide +kernel

/-! ## The queue -/

theorem test_fetch_word_none : State.reset.withFetchWord 32 0x20A50001 = State.reset := rfl
theorem test_reset_memory : Memory.wf State.reset.mem = true ∧ Registers.wf State.reset.regs = true := by decide +kernel

/-! ## States and operands that meet every hypothesis of every statement, clause by clause

A clause whose hypotheses are among another clause's is met by that one's witness. Where a hypothesis reads an open value (the bits
that no frame brings to a merge, log 1), the witness says for which value it is met. -/

theorem witness_StepRunsFrontCommand :
  (∃ c : Instr, ∃ rest : List Instr, ∃ s : State, (s.pending = c :: rest)) :=
  ⟨.nop, [.goRun], ({ base with pending := [.nop, .goRun] }), by decide +kernel⟩

theorem witness_StepOnEmptyQueueTicks :
  (∃ s : State, (s.pending = [])) :=
  ⟨base, by decide +kernel⟩

theorem witness_DecodeOfEncode :
  (∃ i : Instr, ∃ w : BitVec 32, (wellFormed i = true) ∧ (encodeWord i = some w)) :=
  ⟨(.add 259 31 31 31), 0x07FFF800, by decide +kernel⟩

theorem witness_EncodeOfDecode :
  (∃ k : CoreId, ∃ w : BitVec 32, ∃ i : Instr, (decodeWord k w = some i)) :=
  ⟨0, 0x20A50001, (.addi 0 5 5 1), by decide +kernel⟩

theorem witness_RegisterZeroDiscardsWrites :
  (∃ n : Nat, (n ≠ 0)) ∧
  (∃ n : Nat, ∃ m : Nat, (m ≠ n)) :=
  ⟨⟨31, by decide +kernel⟩,
   ⟨31, 1, by decide +kernel⟩⟩

theorem witness_IntegerInstructionsComplete :
  (∃ i : Instr, ∃ k : CoreId, ∃ d : BitVec 5, ∃ v : Word, ∃ s : State, ∃ u : State, (Fetches s k u) ∧ (intResult (gr u k) i = some (k, d, v))) :=
  ⟨(.addi 255 31 31 0x7FFF), 255, 31, 0x7FFF, tile0, _, fetches_of (by decide +kernel), by decide +kernel⟩

theorem witness_MulDivInstructionsComplete :
  (∃ i : Instr, ∃ k : CoreId, ∃ d : BitVec 5, ∃ v : Word, ∃ s : State, ∃ u : State, (Fetches s k u) ∧ (mulDivResult (gr u k) i = some (k, d, v))) :=
  ⟨(.div 255 31 1 0), 255, 31, -1, tile0, _, fetches_of (by decide +kernel), by decide +kernel⟩

theorem witness_FloatArithmeticCompletes :
  (∃ i : Instr, ∃ k : CoreId, ∃ rm : BitVec 3, ∃ d : BitVec 5, ∃ f : BitVec 3 → Nat × FpFlags, ∃ s : State, ∃ u : State, (Fetches s k u) ∧ (fpResult u i = some (k, rm, d, f)) ∧ (rm ≠ 5) ∧ (rm ≠ 6)) :=
  ⟨(.fadd 255 true 4 31 0 0), 255, 4, 31, _, tile0, _, fetches_of (by decide +kernel), rfl, by decide +kernel⟩

theorem witness_ReservedRoundingCodeTraps :
  (∃ i : Instr, ∃ k : CoreId, ∃ rm : BitVec 3, ∃ d : BitVec 5, ∃ f : BitVec 3 → Nat × FpFlags, ∃ s : State, ∃ u : State, (Fetches s k u) ∧ ((fpResult u i = some (k, rm, d, f) ∧ (rm = 5 ∨ rm = 6)) ∨ (∃ a, i = .fcvtP k false rm d a ∧ rm ≠ 0))) :=
  ⟨(.fadd 255 false 5 31 0 0), 255, 5, 31, (fun r => (Fmt.of false).add r (opnd (fetched tile0 255) 255 false 0) (opnd (fetched tile0 255) 255 false 0)), tile0, _, fetches_of (by decide +kernel), Or.inl ⟨rfl, Or.inl rfl⟩⟩

theorem witness_FloatToIntegerCompletes :
  (∃ i : Instr, ∃ k : CoreId, ∃ rm : BitVec 3, ∃ d : BitVec 5, ∃ f : BitVec 3 → Word × FpFlags, ∃ s : State, ∃ u : State, (Fetches s k u) ∧ (toIntResult u i = some (k, rm, d, f)) ∧ (rm ≠ 5) ∧ (rm ≠ 6)) :=
  ⟨(.fcvtW 255 false 7 31 0), 255, 7, 31, _, tile0, _, fetches_of (by decide +kernel), rfl, by decide +kernel⟩

theorem witness_FloatMovesAndComparesComplete :
  (∃ k : CoreId, ∃ s : State, ∃ u : State, (Fetches s k u)) :=
  ⟨255, tile0, _, fetches_of (by decide +kernel)⟩

theorem witness_ConditionalBranchesComplete :
  (∃ i : Instr, ∃ k : CoreId, ∃ annul : Bool, ∃ taken : Bool, ∃ disp : BitVec 15, ∃ s : State, ∃ u : State, (Fetches s k u) ∧ ((u.core k).slot = false) ∧ (branchOf (gr u k) i = some (k, annul, disp, taken))) :=
  ⟨(.beq 255 0 0 true 0x4000), 255, true, true, 0x4000, tile0, _, fetches_of (by decide +kernel), by decide +kernel⟩

theorem witness_JumpsComplete :
  (∃ k : CoreId, ∃ a : BitVec 5, ∃ s : State, ∃ u : State, (Fetches s k u) ∧ ((u.core k).slot = false) ∧ ((gr u k a).toNat % 4 = 0)) ∧
  (∃ k : CoreId, ∃ a : BitVec 5, ∃ s : State, ∃ u : State, (Fetches s k u) ∧ ((u.core k).slot = false) ∧ ((gr u k a).toNat % 4 ≠ 0)) :=
  ⟨⟨255, 31, tile0, _, fetches_of (by decide +kernel), by decide +kernel⟩,
   ⟨255, 2, tile0, _, fetches_of (by decide +kernel), by decide +kernel⟩⟩

theorem witness_TransfersInADelaySlotTrap :
  (∃ i : Instr, ∃ k : CoreId, ∃ s : State, ∃ u : State, (Fetches s k u) ∧ ((u.core k).slot = true) ∧ (((∃ annul disp taken, branchOf (gr u k) i = some (k, annul, disp, taken)) ∨ (∃ annul disp, i = .j k annul disp ∨ i = .jal k annul disp) ∨ (∃ d a annul, i = .jalr k d a annul) ∨ (∃ code, i = .trap k code ∨ i = .brkpt k code) ∨ (i = .waypt k ∧ k.val < 256) ∨ ((i = .rfe k ∨ i = .seal k ∨ (i = .wfi k ∧ (s.core k).haltReq = 0)) ∧ 256 ≤ k.val)))) :=
  ⟨(.j 255 true 0), 255, (core' 255 (fun c => { c with slot := true }) tile0), _, fetches_of (by decide +kernel), by decide +kernel, Or.inr (Or.inl ⟨true, 0, Or.inl rfl⟩)⟩

theorem witness_AlignedCoreStaysAligned :
  (∃ i : Instr, ∃ k : CoreId, ∃ s : State, ∃ u : State, ∃ t : State, (Fetches s k u) ∧ ((u.core k).aligned = true) ∧ ((u.core k).slot = false) ∧ (((∃ d v, intResult (gr u k) i = some (k, d, v) ∨ mulDivResult (gr u k) i = some (k, d, v)) ∨ (∃ annul disp taken, branchOf (gr u k) i = some (k, annul, disp, taken)) ∨ (∃ annul disp, i = .j k annul disp ∨ i = .jal k annul disp) ∨ (∃ d a annul, i = .jalr k d a annul ∧ (gr u k a).toNat % 4 = 0))) ∧ (exec i s = .next t)) :=
  ⟨(.addi 255 31 31 0x7FFF), 255, tile0, _, _, fetches_of (by decide +kernel), by decide +kernel, by decide +kernel, Or.inl ⟨31, 0x7FFF, Or.inl (by decide +kernel)⟩, next_answer (by decide +kernel)⟩

theorem witness_TileLoadsComplete :
  (∃ i : Instr, ∃ k : CoreId, ∃ a : BitVec 5, ∃ imm : BitVec 16, ∃ n : Nat, ∃ wr : Nat → Core → Core, ∃ s : State, ∃ u : State, (Fetches s k u) ∧ (closed u) ∧ (k.val < 256) ∧ (loadForm i = some (k, a, imm, n, wr)) ∧ ∃ ea, ea = (eaOf (gr u k) a imm) ∧ (ea % n = 0) ∧ (youngest (u.core k) ea n = none) ∧ (ownData ea) ∧ (u.eccOf memTile (tilePhys u k ea / 8) = 0)) ∧
  (∃ i : Instr, ∃ k : CoreId, ∃ a : BitVec 5, ∃ imm : BitVec 16, ∃ n : Nat, ∃ wr : Nat → Core → Core, ∃ s : State, ∃ u : State, (Fetches s k u) ∧ (closed u) ∧ (k.val < 256) ∧ (loadForm i = some (k, a, imm, n, wr)) ∧ ∃ ea, ea = (eaOf (gr u k) a imm) ∧ (ea % n = 0) ∧ (youngest (u.core k) ea n = none) ∧ ∃ p, (0x10000 ≤ ea) ∧ (ea < 0x18000) ∧ (u.tilePart k = some p) ∧ ∃ x, x = ((ea - 0x10000) / 8) ∧ (snapLen u p ≤ x)) ∧
  (∃ i : Instr, ∃ k : CoreId, ∃ a : BitVec 5, ∃ imm : BitVec 16, ∃ n : Nat, ∃ wr : Nat → Core → Core, ∃ s : State, ∃ u : State, (Fetches s k u) ∧ (closed u) ∧ (k.val < 256) ∧ (loadForm i = some (k, a, imm, n, wr)) ∧ ∃ ea, ea = (eaOf (gr u k) a imm) ∧ (ea % n = 0) ∧ (youngest (u.core k) ea n = none) ∧ ∃ p, (0x10000 ≤ ea) ∧ (ea < 0x18000) ∧ (u.tilePart k = some p) ∧ ∃ x, x = ((ea - 0x10000) / 8) ∧ (x < snapLen u p) ∧ (x < (u.part p).fill.read nat0 (seenSnap u p).1) ∧ (u.eccOf memSnap ((seenSnap u p).2 + x) = 0)) ∧
  (∃ i : Instr, ∃ k : CoreId, ∃ a : BitVec 5, ∃ imm : BitVec 16, ∃ n : Nat, ∃ wr : Nat → Core → Core, ∃ s : State, ∃ u : State, (Fetches s k u) ∧ (closed u) ∧ (k.val < 256) ∧ (loadForm i = some (k, a, imm, n, wr)) ∧ ∃ ea, ea = (eaOf (gr u k) a imm) ∧ (ea % n = 0) ∧ (youngest (u.core k) ea n = none) ∧ ∃ p, ∃ r, ∃ d, (0x100000 ≤ ea) ∧ (ea < 0x1100000) ∧ (u.tilePart k = some p) ∧ (inView u k ea n = true) ∧ (crRegion u p ea = some (r, d)) ∧ (zeroingAt u d = false) ∧ (u.eccOf memDepot (d / 8) = 0)) ∧
  (∃ i : Instr, ∃ k : CoreId, ∃ a : BitVec 5, ∃ imm : BitVec 16, ∃ n : Nat, ∃ wr : Nat → Core → Core, ∃ s : State, ∃ u : State, (Fetches s k u) ∧ (closed u) ∧ (k.val < 256) ∧ (loadForm i = some (k, a, imm, n, wr)) ∧ ∃ ea, ea = (eaOf (gr u k) a imm) ∧ (ea % n = 0) ∧ (youngest (u.core k) ea n = none) ∧ (0x20000 ≤ ea) ∧ (ea < 0x28000)) :=
  ⟨⟨(.ldd 255 31 1 0), 255, 1, 0, 8, _, tile0, _, fetches_of (by decide +kernel), by decide +kernel, by decide +kernel, rfl, _, rfl, by decide +kernel⟩,
   ⟨(.ldd 255 31 1 0), 255, 1, 0, 8, _, (gregs 255 [(1, 0x17FF8)] (let s := puts [(F.WPT_PSTATE_STATE 3, psScanning), (F.WPT_PART_MAP_EN, 8), (⟨A.WPT_PART_MAP, 7, 6⟩, 3)] tile0; { s with boot := { s.boot with tiles := [(255, true)] } })), _, fetches_of (by decide +kernel), by decide +kernel, by decide +kernel, rfl, _, rfl, by decide +kernel, by decide +kernel, 3, by decide +kernel, by decide +kernel, by decide +kernel, _, rfl, by decide +kernel⟩,
   ⟨(.ldd 255 31 1 0), 255, 1, 0, 8, _, (gregs 255 [(1, 0x17FF8)] ((let s := puts [(F.WPT_SNAP_LEN_LEN 3, 4096)] ((let s := puts [(F.WPT_PSTATE_STATE 3, psScanning), (F.WPT_PART_MAP_EN, 8), (⟨A.WPT_PART_MAP, 7, 6⟩, 3)] tile0; { s with boot := { s.boot with tiles := [(255, true)] } })); s.onPart 3 (fun q => { q with fill := [(0, 4096), (1, 4096)] })))), _, fetches_of (by decide +kernel), by decide +kernel, by decide +kernel, rfl, _, rfl, by decide +kernel, by decide +kernel, 3, by decide +kernel, by decide +kernel, by decide +kernel, _, rfl, by decide +kernel⟩,
   ⟨(.ldd 255 31 1 0), 255, 1, 0, 8, _, (gregs 255 [(1, 0x10FFFF8)] (puts [(F.SYS_CR_CTL_EN 7, 1), (F.SYS_CR_CTL_PART 7, 8), (F.SYS_CR_VIEW_VIEW 7, 0xFFF)] ((let s := puts [(F.WPT_PSTATE_STATE 3, psScanning), (F.WPT_PART_MAP_EN, 8), (⟨A.WPT_PART_MAP, 7, 6⟩, 3)] tile0; { s with boot := { s.boot with tiles := [(255, true)] } })))), _, fetches_of (by decide +kernel), by decide +kernel, by decide +kernel, rfl, _, rfl, by decide +kernel, by decide +kernel, 3, 7, 0x10000FF8, by decide +kernel⟩,
   ⟨(.ldd 255 31 1 0), 255, 1, 0, 8, _, (gregs 255 [(1, 0x27FF8)] tile0), _, fetches_of (by decide +kernel), by decide +kernel, by decide +kernel, rfl, _, rfl, by decide +kernel⟩⟩

theorem witness_StoreForwardsToLoad :
  (∃ i : Instr, ∃ k : CoreId, ∃ a : BitVec 5, ∃ imm : BitVec 16, ∃ n : Nat, ∃ wr : Nat → Core → Core, ∃ s : State, ∃ u : State, ∃ e : SbEntry, (Fetches s k u) ∧ (closed u) ∧ (k.val < 256) ∧ (loadForm i = some (k, a, imm, n, wr)) ∧ ∃ ea, ea = (eaOf (gr u k) a imm) ∧ (0x8000 ≤ ea) ∧ (ea < 0x10000) ∧ (ea % n = 0) ∧ (youngest (u.core k) ea n = some e) ∧ (e.addr = ea) ∧ (e.size = n) ∧ (e.data.toNat < 2 ^ (8 * n))) ∧
  (∃ i : Instr, ∃ k : CoreId, ∃ a : BitVec 5, ∃ imm : BitVec 16, ∃ n : Nat, ∃ wr : Nat → Core → Core, ∃ s : State, ∃ u : State, ∃ e : SbEntry, (Fetches s k u) ∧ (closed u) ∧ (k.val < 256) ∧ (loadForm i = some (k, a, imm, n, wr)) ∧ ∃ ea, ea = (eaOf (gr u k) a imm) ∧ (0x8000 ≤ ea) ∧ (ea < 0x10000) ∧ (ea % n = 0) ∧ (youngest (u.core k) ea n = some e) ∧ (e.addr ≠ ea ∨ e.size ≠ n) ∧ ((s.core k).haltReq = 0)) :=
  ⟨⟨(.ldd 255 31 1 0), 255, 1, 0, 8, _, (core' 255 (fun c => { c with sb := [⟨0xFFF8, 8, 5, false, false⟩] }) tile0), _, ⟨0xFFF8, 8, 5, false, false⟩, fetches_of (by decide +kernel), by decide +kernel, by decide +kernel, rfl, _, rfl, by decide +kernel⟩,
   ⟨(.ldd 255 31 1 0), 255, 1, 0, 8, _, (core' 255 (fun c => { c with sb := [⟨0xFFFC, 4, 5, false, false⟩] }) tile0), _, ⟨0xFFFC, 4, 5, false, false⟩, fetches_of (by decide +kernel), by decide +kernel, by decide +kernel, rfl, _, rfl, by decide +kernel⟩⟩

theorem witness_ServiceCoreLoadsComplete :
  (∃ i : Instr, ∃ k : CoreId, ∃ a : BitVec 5, ∃ imm : BitVec 16, ∃ n : Nat, ∃ wr : Nat → Core → Core, ∃ s : State, ∃ u : State, ∃ w : State, ∃ attr : AccAttr, ∃ v : Nat, (Fetches s k u) ∧ (closed w) ∧ (loadForm i = some (k, a, imm, n, wr)) ∧ ∃ ea, ea = (eaOf (gr u k) a imm) ∧ (256 ≤ k.val) ∧ (scAccess u k .load ea n = .inr attr) ∧ ((attr.ordered = true → (u.core k).sb = [])) ∧ (youngest (u.core k) ea n = none) ∧ (v < 2 ^ (8 * n)) ∧ (attr.cached = false) ∧ (busRead u (scAgent k) ea n = (.ok v, w))) ∧
  (∃ i : Instr, ∃ k : CoreId, ∃ a : BitVec 5, ∃ imm : BitVec 16, ∃ n : Nat, ∃ wr : Nat → Core → Core, ∃ s : State, ∃ u : State, ∃ w : State, ∃ attr : AccAttr, ∃ v : Nat, (Fetches s k u) ∧ (closed w) ∧ (loadForm i = some (k, a, imm, n, wr)) ∧ ∃ ea, ea = (eaOf (gr u k) a imm) ∧ (256 ≤ k.val) ∧ (scAccess u k .load ea n = .inr attr) ∧ ((attr.ordered = true → (u.core k).sb = [])) ∧ (youngest (u.core k) ea n = none) ∧ (v < 2 ^ (8 * n)) ∧ (attr.cached = true) ∧ (dLoad u k ea n = (.ok v, w))) ∧
  (∃ i : Instr, ∃ k : CoreId, ∃ a : BitVec 5, ∃ imm : BitVec 16, ∃ n : Nat, ∃ wr : Nat → Core → Core, ∃ s : State, ∃ u : State, ∃ w : State, ∃ c : Nat, (Fetches s k u) ∧ (closed w) ∧ (loadForm i = some (k, a, imm, n, wr)) ∧ ∃ ea, ea = (eaOf (gr u k) a imm) ∧ (256 ≤ k.val) ∧ (scAccess u k .load ea n = .inl c)) ∧
  (∃ i : Instr, ∃ k : CoreId, ∃ a : BitVec 5, ∃ imm : BitVec 16, ∃ n : Nat, ∃ wr : Nat → Core → Core, ∃ s : State, ∃ u : State, ∃ w : State, ∃ c : Nat, (Fetches s k u) ∧ (closed w) ∧ (loadForm i = some (k, a, imm, n, wr)) ∧ ∃ ea, ea = (eaOf (gr u k) a imm) ∧ (k.val < 256) ∧ (tileCheck u k false ea n = some c)) ∧
  (∃ i : Instr, ∃ k : CoreId, ∃ a : BitVec 5, ∃ imm : BitVec 16, ∃ n : Nat, ∃ wr : Nat → Core → Core, ∃ s : State, ∃ u : State, ∃ w : State, ∃ v : Nat, (Fetches s k u) ∧ (closed w) ∧ (loadForm i = some (k, a, imm, n, wr)) ∧ ∃ ea, ea = (eaOf (gr u k) a imm) ∧ (coreLoad u k ea n = .val v w) ∧ (v < 2 ^ (8 * n))) :=
  ⟨⟨(.ldw 259 31 1 0), 259, 1, 0, 4, _, sc0, _, (busRead (fetched sc0 259) (scAgent 259) 0x40000000 4).2, ⟨false, true⟩, 0, fetches_of (by decide +kernel), by decide +kernel, rfl, _, rfl, by decide +kernel, by decide +kernel, by decide +kernel, by decide +kernel, by decide +kernel, by decide +kernel, Prod.ext (by decide +kernel) rfl⟩,
   ⟨(.ldd 259 31 1 0), 259, 1, 0, 8, _, (gregs 259 [(1, 0x10000000)] sc0), _, (dLoad (fetched (gregs 259 [(1, 0x10000000)] sc0) 259) 259 0x10000000 8).2, ⟨true, false⟩, 0, fetches_of (by decide +kernel), by decide +kernel, rfl, _, rfl, by decide +kernel, by decide +kernel, by decide +kernel, by decide +kernel, by decide +kernel, by decide +kernel, Prod.ext (by decide +kernel) rfl⟩,
   ⟨(.ldw 259 31 1 1), 259, 1, 1, 4, _, sc0, _, base, 7, fetches_of (by decide +kernel), by decide +kernel, rfl, _, rfl, by decide +kernel⟩,
   ⟨(.ldd 255 31 1 1), 255, 1, 1, 8, _, tile0, _, base, _, fetches_of (by decide +kernel), by decide +kernel, rfl, _, rfl, by decide +kernel, rfl⟩,
   ⟨(.ldd 255 31 1 0), 255, 1, 0, 8, _, tile0, _, _, 0, fetches_of (by decide +kernel), by decide +kernel, rfl, _, rfl, rfl, by decide +kernel⟩⟩

theorem witness_StoresEnterTheBuffer :
  (∃ i : Instr, ∃ k : CoreId, ∃ a : BitVec 5, ∃ imm : BitVec 16, ∃ n : Nat, ∃ x : Word, ∃ s : State, ∃ u : State, (Fetches s k u) ∧ (closed u) ∧ (storeForm (gr u k) (fr u k) i = some (k, a, imm, n, x)) ∧ ((u.core k).sb.length < 8) ∧ ∃ ea, ea = (eaOf (gr u k) a imm) ∧ (k.val < 256) ∧ (0x8000 ≤ ea) ∧ (ea < 0x10000) ∧ (ea % n = 0)) ∧
  (∃ i : Instr, ∃ k : CoreId, ∃ a : BitVec 5, ∃ imm : BitVec 16, ∃ n : Nat, ∃ x : Word, ∃ s : State, ∃ u : State, (Fetches s k u) ∧ (closed u) ∧ (storeForm (gr u k) (fr u k) i = some (k, a, imm, n, x)) ∧ ((u.core k).sb.length < 8) ∧ ∃ ea, ea = (eaOf (gr u k) a imm) ∧ (k.val < 256) ∧ (tileCheck u k true ea n = none)) ∧
  (∃ i : Instr, ∃ k : CoreId, ∃ a : BitVec 5, ∃ imm : BitVec 16, ∃ n : Nat, ∃ x : Word, ∃ attr : AccAttr, ∃ s : State, ∃ u : State, (Fetches s k u) ∧ (closed u) ∧ (storeForm (gr u k) (fr u k) i = some (k, a, imm, n, x)) ∧ ((u.core k).sb.length < 8) ∧ ∃ ea, ea = (eaOf (gr u k) a imm) ∧ (256 ≤ k.val) ∧ (scAccess u k .store ea n = .inr attr) ∧ (scStoreBad u k ea n = false) ∧ ((attr.ordered = true → (u.core k).sb = [])) ∧ (inRom ea = false) ∧ (isMpuReg ea = false)) ∧
  (∃ i : Instr, ∃ k : CoreId, ∃ a : BitVec 5, ∃ imm : BitVec 16, ∃ n : Nat, ∃ x : Word, ∃ attr : AccAttr, ∃ s : State, ∃ u : State, (Fetches s k u) ∧ (closed u) ∧ (storeForm (gr u k) (fr u k) i = some (k, a, imm, n, x)) ∧ ((u.core k).sb.length < 8) ∧ ∃ ea, ea = (eaOf (gr u k) a imm) ∧ (256 ≤ k.val) ∧ (scAccess u k .store ea n = .inr attr) ∧ (scStoreBad u k ea n = false) ∧ ((attr.ordered = true → (u.core k).sb = [])) ∧ (inRom ea = true)) ∧
  (∃ i : Instr, ∃ k : CoreId, ∃ a : BitVec 5, ∃ imm : BitVec 16, ∃ n : Nat, ∃ x : Word, ∃ attr : AccAttr, ∃ s : State, ∃ u : State, (Fetches s k u) ∧ (closed u) ∧ (storeForm (gr u k) (fr u k) i = some (k, a, imm, n, x)) ∧ ((u.core k).sb.length < 8) ∧ ∃ ea, ea = (eaOf (gr u k) a imm) ∧ (256 ≤ k.val) ∧ (scAccess u k .store ea n = .inr attr) ∧ (scStoreBad u k ea n = false) ∧ ((attr.ordered = true → (u.core k).sb = [])) ∧ (isMpuReg ea = true) ∧ ∃ w, w = ((busWriteFree u (scAgent k) (u.isPriv k) ea n (x.toNat % 2 ^ (8 * n))).2) ∧ (closed w)) :=
  ⟨⟨(.std 255 31 1 0), 255, 1, 0, 8, 0, tile0, _, fetches_of (by decide +kernel), by decide +kernel, by decide +kernel, by decide +kernel, _, rfl, by decide +kernel⟩,
   ⟨(.std 255 31 1 0), 255, 1, 0, 8, 0, tile0, _, fetches_of (by decide +kernel), by decide +kernel, by decide +kernel, by decide +kernel, _, rfl, by decide +kernel⟩,
   ⟨(.std 259 31 1 0), 259, 1, 0, 8, 0, ⟨true, false⟩, (gregs 259 [(1, 0x10000000)] sc0), _, fetches_of (by decide +kernel), by decide +kernel, by decide +kernel, by decide +kernel, _, rfl, by decide +kernel⟩,
   ⟨(.std 259 31 1 0), 259, 1, 0, 8, 0, ⟨true, false⟩, (gregs 259 [(1, 0xF0000008)] sc0), _, fetches_of (by decide +kernel), by decide +kernel, by decide +kernel, by decide +kernel, _, rfl, by decide +kernel⟩,
   ⟨(.stw 259 31 1 0), 259, 1, 0, 4, 0, ⟨false, true⟩, (gregs 259 [(1, 0x40001310)] sc0), _, fetches_of (by decide +kernel), by decide +kernel, by decide +kernel, by decide +kernel, _, rfl, by decide +kernel, by decide +kernel, by decide +kernel, by decide +kernel, by decide +kernel, _, rfl, by decide +kernel⟩⟩

theorem witness_StoreDrainWritesItsBytesOnly :
  (∃ k : CoreId, ∃ e : SbEntry, ∃ rest : List SbEntry, ∃ s : State, (coresClocked s = true) ∧ ((s.core k).sb = e :: rest) ∧ ((e.size = 1 ∨ e.size = 2 ∨ e.size = 4 ∨ e.size = 8)) ∧ (e.addr % e.size = 0) ∧ ∃ a, a = (tilePhys s k e.addr) ∧ (k.val < 256) ∧ (0x8000 ≤ e.addr) ∧ (e.addr < 0x10000) ∧ ((e.size < 8 → s.eccOf memTile (a / 8) ≠ 2)) ∧ ((s.flag F.WPT_STAGE_CTL_BUSY = true → ¬(s.wpt.stage.2 ≤ a ∧ a < s.wpt.stage.2 + 0x4000)))) ∧
  (∃ k : CoreId, ∃ e : SbEntry, ∃ rest : List SbEntry, ∃ s : State, (coresClocked s = true) ∧ ((s.core k).sb = e :: rest) ∧ ((e.size = 1 ∨ e.size = 2 ∨ e.size = 4 ∨ e.size = 8)) ∧ (e.addr % e.size = 0) ∧ ∃ p, (k.val < 256) ∧ (0x20000 ≤ e.addr) ∧ (e.addr < 0x28000) ∧ (s.tilePart k = some p)) ∧
  (∃ k : CoreId, ∃ e : SbEntry, ∃ rest : List SbEntry, ∃ s : State, (coresClocked s = true) ∧ ((s.core k).sb = e :: rest) ∧ ((e.size = 1 ∨ e.size = 2 ∨ e.size = 4 ∨ e.size = 8)) ∧ (e.addr % e.size = 0) ∧ ∃ w, (256 ≤ k.val) ∧ (e.cached = false) ∧ (busWriteFree s (scAgent k) e.priv e.addr e.size e.data.toNat = (.ok, w))) :=
  ⟨⟨255, ⟨0xFFF8, 8, 5, false, false⟩, [], (core' 255 (fun c => { c with sb := [⟨0xFFF8, 8, 5, false, false⟩] }) tile0), by decide +kernel, by decide +kernel, by decide +kernel, by decide +kernel, _, rfl, by decide +kernel⟩,
   ⟨255, ⟨0x27FF8, 8, 5, false, false⟩, [], (core' 255 (fun c => { c with sb := [⟨0x27FF8, 8, 5, false, false⟩] }) ((let s := puts [(F.WPT_PSTATE_STATE 3, psScanning), (F.WPT_PART_MAP_EN, 8), (⟨A.WPT_PART_MAP, 7, 6⟩, 3)] tile0; { s with boot := { s.boot with tiles := [(255, true)] } }))), by decide +kernel, by decide +kernel, by decide +kernel, by decide +kernel, 3, by decide +kernel⟩,
   ⟨259, ⟨0x10FFFFF8, 8, 5, true, false⟩, [], (core' 259 (fun c => { c with sb := [⟨0x10FFFFF8, 8, 5, true, false⟩] }) sc0), by decide +kernel, by decide +kernel, by decide +kernel, by decide +kernel, _, by decide +kernel, by decide +kernel, Prod.ext (by decide +kernel) rfl⟩⟩

theorem witness_MisalignedTileAccessTraps :
  (∃ i : Instr, ∃ k : CoreId, ∃ a : BitVec 5, ∃ imm : BitVec 16, ∃ n : Nat, ∃ s : State, ∃ u : State, (Fetches s k u) ∧ (((∃ wr, loadForm i = some (k, a, imm, n, wr)) ∨ (∃ x, storeForm (gr u k) (fr u k) i = some (k, a, imm, n, x)))) ∧ ∃ ea, ea = (eaOf (gr u k) a imm) ∧ (ea % n ≠ 0) ∧ (k.val < 256) ∧ (0x8000 ≤ ea) ∧ (ea < 0x10000)) ∧
  (∃ i : Instr, ∃ k : CoreId, ∃ a : BitVec 5, ∃ imm : BitVec 16, ∃ n : Nat, ∃ s : State, ∃ u : State, (Fetches s k u) ∧ (((∃ wr, loadForm i = some (k, a, imm, n, wr)) ∨ (∃ x, storeForm (gr u k) (fr u k) i = some (k, a, imm, n, x)))) ∧ ∃ ea, ea = (eaOf (gr u k) a imm) ∧ (ea % n ≠ 0) ∧ (256 ≤ k.val) ∧ (u.isSealed k = false) ∧ (inPeri ea = false)) :=
  ⟨⟨(.ldd 255 31 1 1), 255, 1, 1, 8, tile0, _, fetches_of (by decide +kernel), Or.inl ⟨_, rfl⟩, _, rfl, by decide +kernel⟩,
   ⟨(.ldd 259 31 1 1), 259, 1, 1, 8, (gregs 259 [(1, 0x10000000)] sc0), _, fetches_of (by decide +kernel), Or.inl ⟨_, rfl⟩, _, rfl, by decide +kernel⟩⟩

theorem witness_TrapEntersTheHandler :
  (∃ k : CoreId, ∃ cause : Nat, ∃ code : Nat, ∃ addr : Nat, ∃ w : Nat, (256 ≤ k.val) ∧ (cause < 256) ∧ (code < 1024) ∧ (addr < 2 ^ 40) ∧ (w < 2 ^ 32) ∧ ∃ j, (j ≠ k.val)) ∧
  (∃ k : CoreId, ∃ cause : Nat, ∃ code : Nat, ∃ addr : Nat, ∃ w : Nat, ∃ s : State, (256 ≤ k.val) ∧ (cause < 256) ∧ (code < 1024) ∧ (addr < 2 ^ 40) ∧ (w < 2 ^ 32) ∧ (s.isSealed k = false)) ∧
  (∃ k : CoreId, ∃ cause : Nat, ∃ code : Nat, ∃ addr : Nat, ∃ w : Nat, ∃ s : State, (256 ≤ k.val) ∧ (cause < 256) ∧ (code < 1024) ∧ (addr < 2 ^ 40) ∧ (w < 2 ^ 32) ∧ (s.isSealed k = true) ∧ ∃ r, (r < 31)) ∧
  (∃ k : CoreId, ∃ cause : Nat, ∃ code : Nat, ∃ addr : Nat, ∃ w : Nat, ∃ s : State, (256 ≤ k.val) ∧ (cause < 256) ∧ (code < 1024) ∧ (addr < 2 ^ 40) ∧ (w < 2 ^ 32) ∧ (s.isSealed k = true) ∧ ∃ r, (r < 32)) :=
  ⟨⟨259, 255, 1023, (2 ^ 40 - 1), (2 ^ 32 - 1), by decide +kernel, by decide +kernel, by decide +kernel, by decide +kernel, by decide +kernel, 258, by decide +kernel⟩,
   ⟨259, 255, 1023, (2 ^ 40 - 1), (2 ^ 32 - 1), sc0, by decide +kernel⟩,
   ⟨259, 255, 1023, (2 ^ 40 - 1), (2 ^ 32 - 1), (core' 259 (fun c => c.setSr 259 srStatus 12) sc0), by decide +kernel, by decide +kernel, by decide +kernel, by decide +kernel, by decide +kernel, by decide +kernel, 30, by decide +kernel⟩,
   ⟨259, 255, 1023, (2 ^ 40 - 1), (2 ^ 32 - 1), (core' 259 (fun c => c.setSr 259 srStatus 12) sc0), by decide +kernel, by decide +kernel, by decide +kernel, by decide +kernel, by decide +kernel, by decide +kernel, 30, by decide +kernel⟩⟩

theorem witness_TrapAndBreakpointTakeTheirTrap :
  (∃ k : CoreId, ∃ s : State, ∃ u : State, (Fetches s k u) ∧ ((u.core k).slot = false) ∧ (u.flag F.DBG_CTL_SWBRK = false ∨ mayHalt u k = false)) ∧
  (∃ k : CoreId, ∃ s : State, ∃ u : State, (Fetches s k u) ∧ ((u.core k).slot = false) ∧ (u.flag F.DBG_CTL_SWBRK = true) ∧ (mayHalt u k = true) ∧ (isVoter u = false) ∧ ((s.core k).haltReq = 0) ∧ ((u.core k).halted = false) ∧ ((u.core k).run = .active)) :=
  ⟨⟨255, tile0, _, fetches_of (by decide +kernel), by decide +kernel⟩,
   ⟨255, (puts [(F.DBG_CTL_SWBRK, 1), (F.DBG_LEVEL_LEVEL, 2)] tile0), _, fetches_of (by decide +kernel), by decide +kernel⟩⟩

theorem witness_TileTrapStopsTheTile :
  (∃ k : CoreId, ∃ cause : Nat, ∃ s : State, (k.val < 256) ∧ (cause < 256) ∧ (s.tilePart k = none)) ∧
  (∃ k : CoreId, ∃ cause : Nat, ∃ s : State, (k.val < 256) ∧ (cause < 256) ∧ ∃ p, (s.tilePart k = some p) ∧ (s.pstate p = psScanning) ∧ (inConvoy s = false)) :=
  ⟨⟨255, 255, tile0, by decide +kernel⟩,
   ⟨255, 255, (let s := puts [(F.WPT_PSTATE_STATE 3, psScanning), (F.WPT_PART_MAP_EN, 8), (⟨A.WPT_PART_MAP, 7, 6⟩, 3)] tile0; { s with boot := { s.boot with tiles := [(255, true)] } }), by decide +kernel, by decide +kernel, 3, by decide +kernel⟩⟩

theorem witness_UndecodableWordTraps :
  (∃ k : CoreId, ∃ w : BitVec 32, ∃ s : State, ∃ u : State, (Fetches s k u) ∧ (decodeWord k w = none)) :=
  ⟨259, 0xFFFFFFFF, sc0, _, fetches_of (by decide +kernel), by decide +kernel⟩

theorem witness_ReturnFromException :
  (∃ k : CoreId, ∃ s : State, ∃ u : State, (Fetches s k u) ∧ ∃ c, c = (u.core k) ∧ ∃ ts, ts = (c.sreg k srTstatus) ∧ (privileged u k) ∧ (c.slot = false) ∧ (bitsOf ts 3 3 = 0)) ∧
  (∃ k : CoreId, ∃ s : State, ∃ u : State, (Fetches s k u) ∧ ∃ c, c = (u.core k) ∧ ∃ ts, ts = (c.sreg k srTstatus) ∧ (privileged u k) ∧ (c.slot = false) ∧ (bitsOf ts 3 3 = 1) ∧ (bitsOf ts 2 2 = 1) ∧ (badSave u k = none)) ∧
  (∃ k : CoreId, ∃ s : State, ∃ u : State, (Fetches s k u) ∧ ∃ c, c = (u.core k) ∧ ∃ ts, ts = (c.sreg k srTstatus) ∧ (privileged u k) ∧ (c.slot = false) ∧ (bitsOf ts 3 3 = 1) ∧ (bitsOf ts 2 2 = 0)) ∧
  (∃ k : CoreId, ∃ s : State, ∃ u : State, (Fetches s k u) ∧ (k.val < 256)) ∧
  (∃ k : CoreId, ∃ s : State, ∃ u : State, (Fetches s k u) ∧ ∃ c, c = (u.core k) ∧ (256 ≤ k.val) ∧ (c.slot = false) ∧ (u.isSealed k = true)) ∧
  (∃ k : CoreId, ∃ s : State, ∃ u : State, (Fetches s k u) ∧ ∃ c, c = (u.core k) ∧ (256 ≤ k.val) ∧ (c.slot = false) ∧ (u.isSealed k = false) ∧ (u.isPriv k = false)) :=
  ⟨⟨259, sc0, _, fetches_of (by decide +kernel), _, rfl, _, rfl, by decide +kernel⟩,
   ⟨259, (core' 259 (fun c => c.setSr 259 srTstatus 12) (sc0)), _, fetches_of (by decide +kernel), _, rfl, _, rfl, by decide +kernel⟩,
   ⟨259, (core' 259 (fun c => c.setSr 259 srTstatus 8) (sc0)), _, fetches_of (by decide +kernel), _, rfl, _, rfl, by decide +kernel⟩,
   ⟨255, tile0, _, fetches_of (by decide +kernel), by decide +kernel⟩,
   ⟨259, (core' 259 (fun c => c.setSr 259 srStatus 4) (puts [(F.SYS_MPU_BASE_BASE 3 0, 0xF0000), (F.SYS_MPU_LIMIT_LIMIT 3 0, 0xF0000), (⟨A.SYS_MPU_ATTR 3 0, 11, 0⟩, 0x83F)] sc0)), _, fetches_of (by decide +kernel), _, rfl, by decide +kernel⟩,
   ⟨259, (core' 259 (fun c => c.setSr 259 srStatus 0) (puts [(F.SYS_MPU_BASE_BASE 3 0, 0xF0000), (F.SYS_MPU_LIMIT_LIMIT 3 0, 0xF0000), (⟨A.SYS_MPU_ATTR 3 0, 11, 0⟩, 0x83F)] sc0)), _, fetches_of (by decide +kernel), _, rfl, by decide +kernel⟩⟩

theorem witness_SystemRegisterAccess :
  (∃ k : CoreId, ∃ n : BitVec 10, ∃ s : State, ∃ u : State, (Fetches s k u) ∧ ∃ x, (srTrap u k n.toNat = some x)) ∧
  (∃ k : CoreId, ∃ n : BitVec 10, ∃ s : State, ∃ u : State, (Fetches s k u) ∧ ∃ c, c = (u.core k) ∧ (srTrap u k n.toNat = none) ∧ ((srWaits n.toNat = true → c.sb = [])) ∧ (srWritable u k n.toNat = false ∨ n = 0x00B ∨ n = 0x020 ∨ n = 0x021 ∨ (k.val < 256 ∧ n ≠ 0x010))) ∧
  (∃ k : CoreId, ∃ n : BitVec 10, ∃ s : State, ∃ u : State, (Fetches s k u) ∧ ∃ c, c = (u.core k) ∧ (srTrap u k n.toNat = none) ∧ ((srWaits n.toNat = true → c.sb = [])) ∧ (srWritable u k n.toNat = true)) :=
  ⟨⟨255, 0x3FF, tile0, _, fetches_of (by decide +kernel), _, rfl⟩,
   ⟨255, 0x037, tile0, _, fetches_of (by decide +kernel), _, rfl, by decide +kernel⟩,
   ⟨255, 0x010, tile0, _, fetches_of (by decide +kernel), _, rfl, by decide +kernel⟩⟩

theorem witness_SyncSealWfiWayptComplete :
  (∃ k : CoreId, ∃ s : State, ∃ u : State, (Fetches s k u) ∧ ∃ c, c = (u.core k) ∧ (c.sb = []) ∧ ((256 ≤ k.val → storesWaiting u k = false))) ∧
  (∃ k : CoreId, ∃ s : State, ∃ u : State, (Fetches s k u) ∧ ∃ c, c = (u.core k) ∧ (c.slot = false) ∧ (privileged u k) ∧ ((candidate u (k.val - 256)).isSome = true) ∧ ((s.core k).haltReq = 0)) ∧
  (∃ k : CoreId, ∃ s : State, ∃ u : State, (Fetches s k u) ∧ ∃ c, c = (u.core k) ∧ (c.slot = false) ∧ (privileged u k) ∧ ((candidate u (k.val - 256)).isSome = false) ∧ ((s.core k).haltReq = 0) ∧ (outstanding s k = false)) ∧
  (∃ k : CoreId, ∃ s : State, ∃ u : State, (Fetches s k u) ∧ ∃ c, c = (u.core k) ∧ (c.slot = false) ∧ (k.val < 256) ∧ (c.sb = [])) ∧
  (∃ k : CoreId, ∃ s : State, ∃ u : State, (Fetches s k u) ∧ ∃ c, c = (u.core k) ∧ (c.slot = false) ∧ (256 ≤ k.val) ∧ (u.isSealed k = true) ∧ ((s.core k).haltReq = 0)) ∧
  (∃ k : CoreId, ∃ s : State, ∃ u : State, (Fetches s k u) ∧ ∃ c, c = (u.core k) ∧ (c.slot = false) ∧ (256 ≤ k.val) ∧ (u.isSealed k = false) ∧ (u.isPriv k = false) ∧ ((s.core k).haltReq = 0)) :=
  ⟨⟨259, (core' 259 (fun c => c.setSr 259 srStatus 4) (puts [(F.SYS_MPU_BASE_BASE 3 0, 0xF0000), (F.SYS_MPU_LIMIT_LIMIT 3 0, 0xF0000), (⟨A.SYS_MPU_ATTR 3 0, 11, 0⟩, 0x83F)] sc0)), _, fetches_of (by decide +kernel), _, rfl, by decide +kernel⟩,
   ⟨259, (puts [(F.ICU_EN_EN 3 15, 0x80000000), (F.ICU_PEND_PEND 15, 0x80000000), (⟨A.ICU_PRIO 511, 2, 0⟩, 7)] sc0), _, fetches_of (by decide +kernel), _, rfl, by decide +kernel⟩,
   ⟨259, sc0, _, fetches_of (by decide +kernel), _, rfl, by decide +kernel⟩,
   ⟨255, tile0, _, fetches_of (by decide +kernel), _, rfl, by decide +kernel⟩,
   ⟨259, (core' 259 (fun c => c.setSr 259 srStatus 4) (puts [(F.SYS_MPU_BASE_BASE 3 0, 0xF0000), (F.SYS_MPU_LIMIT_LIMIT 3 0, 0xF0000), (⟨A.SYS_MPU_ATTR 3 0, 11, 0⟩, 0x83F)] sc0)), _, fetches_of (by decide +kernel), _, rfl, by decide +kernel⟩,
   ⟨259, (core' 259 (fun c => c.setSr 259 srStatus 0) (puts [(F.SYS_MPU_BASE_BASE 3 0, 0xF0000), (F.SYS_MPU_LIMIT_LIMIT 3 0, 0xF0000), (⟨A.SYS_MPU_ATTR 3 0, 11, 0⟩, 0x83F)] sc0)), _, fetches_of (by decide +kernel), _, rfl, by decide +kernel⟩⟩

theorem witness_CacheOperationsComplete :
  (∃ k : CoreId, ∃ a : BitVec 5, ∃ s : State, ∃ u : State, (Fetches s k u) ∧ ∃ c, c = (u.core k) ∧ ∃ line, line = ((gr u k a).toNat / 64) ∧ (privileged u k) ∧ (c.sb = []) ∧ (iWay c line = none)) ∧
  (∃ k : CoreId, ∃ a : BitVec 5, ∃ s : State, ∃ u : State, (Fetches s k u) ∧ ∃ c, c = (u.core k) ∧ ∃ line, line = ((gr u k a).toNat / 64) ∧ (privileged u k) ∧ (c.sb = []) ∧ ∃ x, (iWay c line = some x)) ∧
  (∃ k : CoreId, ∃ a : BitVec 5, ∃ s : State, ∃ u : State, (Fetches s k u) ∧ ∃ c, c = (u.core k) ∧ ∃ line, line = ((gr u k a).toNat / 64) ∧ (privileged u k) ∧ (c.sb = []) ∧ (dFind c line = none)) ∧
  (∃ k : CoreId, ∃ a : BitVec 5, ∃ s : State, ∃ u : State, (Fetches s k u) ∧ ∃ c, c = (u.core k) ∧ ∃ line, line = ((gr u k a).toNat / 64) ∧ (privileged u k) ∧ (c.sb = []) ∧ ∃ x, (dFind c line = some x)) ∧
  (∃ k : CoreId, ∃ a : BitVec 5, ∃ s : State, ∃ u : State, (Fetches s k u) ∧ ∃ i : Instr, (k.val < 256) ∧ ((i = .cacheInvalIline k a ∨ i = .cacheWbDline k a ∨ i = .cacheInvalDline k a ∨ i = .cacheWbInvalDline k a ∨ i = .cacheInvalIcache k a ∨ i = .cacheWbInvalDcache k a))) :=
  ⟨⟨259, 1, sc0, _, fetches_of (by decide +kernel), _, rfl, _, rfl, by decide +kernel⟩,
   ⟨259, 1, (core' 259 (fun c => { c with itag := c.itag.write noTag 1 (some 0x1000000) }) sc0), _, fetches_of (by decide +kernel), _, rfl, _, rfl, by decide +kernel, by decide +kernel, 1, by decide +kernel⟩,
   ⟨259, 1, (core' 259 (fun c => { c with itag := c.itag.write noTag 1 (some 0x1000000) }) sc0), _, fetches_of (by decide +kernel), _, rfl, _, rfl, by decide +kernel⟩,
   ⟨259, 0, (core' 259 (fun c => { c with dline := c.dline.write noLine 0 (some ⟨0, false, 0⟩) }) sc0), _, fetches_of (by decide +kernel), _, rfl, _, rfl, by decide +kernel, by decide +kernel, 0, by decide +kernel⟩,
   ⟨255, 1, tile0, _, fetches_of (by decide +kernel), _, by decide +kernel, Or.inl rfl⟩⟩

theorem witness_LaneSendsComplete :
  (∃ k : CoreId, ∃ port : BitVec 5, ∃ s : State, ∃ u : State, (Fetches s k u) ∧ ∃ l, (port.toNat < 16) ∧ (outLane u k port.toNat = some l) ∧ (canSend u k l = true)) ∧
  (∃ k : CoreId, ∃ port : BitVec 5, ∃ s : State, ∃ u : State, (Fetches s k u) ∧ ∃ l, (port.toNat < 16) ∧ (outLane u k port.toNat = some l) ∧ (canSend u k l = false) ∧ (outstanding s k = false)) ∧
  (∃ k : CoreId, ∃ port : BitVec 5, ∃ s : State, ∃ u : State, (Fetches s k u) ∧ ∃ l, (port.toNat < 16) ∧ (outLane u k port.toNat = some l) ∧ (u.isSealed k = false) ∧ ((u.core k).sb = [])) ∧
  (∃ k : CoreId, ∃ port : BitVec 5, ∃ s : State, ∃ u : State, (Fetches s k u) ∧ (port.toNat < 16) ∧ (u.isSealed k = true)) ∧
  (∃ k : CoreId, ∃ port : BitVec 5, ∃ s : State, ∃ u : State, (Fetches s k u) ∧ (16 ≤ port.toNat)) :=
  ⟨⟨255, 15, ({ puts [(F.LANE_CFG_EN 4095, 1), (F.LANE_CFG_DST 4095, 255), (F.LANE_CFG_DPORT 4095, 15), (F.LANE_CFG_DEPTH 4095, 256), (F.LANE_CNT_LO_SEND_TOLLS 4095, 256)] tile0 with mesh := { (puts [(F.LANE_CFG_EN 4095, 1), (F.LANE_CFG_DST 4095, 255), (F.LANE_CFG_DPORT 4095, 15), (F.LANE_CFG_DEPTH 4095, 256), (F.LANE_CNT_LO_SEND_TOLLS 4095, 256)] tile0).mesh with tolls := [(4095, 256)] } }), _, fetches_of (by decide +kernel), 4095, by decide +kernel⟩,
   ⟨255, 15, (puts [(F.LANE_CFG_EN 4095, 1), (F.LANE_CFG_DST 4095, 255), (F.LANE_CFG_DPORT 4095, 15), (F.LANE_CFG_DEPTH 4095, 256), (F.LANE_CNT_LO_SEND_TOLLS 4095, 256)] tile0), _, fetches_of (by decide +kernel), 4095, by decide +kernel⟩,
   ⟨255, 15, ({ puts [(F.LANE_CFG_EN 4095, 1), (F.LANE_CFG_DST 4095, 255), (F.LANE_CFG_DPORT 4095, 15), (F.LANE_CFG_DEPTH 4095, 256), (F.LANE_CNT_LO_SEND_TOLLS 4095, 256)] tile0 with mesh := { (puts [(F.LANE_CFG_EN 4095, 1), (F.LANE_CFG_DST 4095, 255), (F.LANE_CFG_DPORT 4095, 15), (F.LANE_CFG_DEPTH 4095, 256), (F.LANE_CNT_LO_SEND_TOLLS 4095, 256)] tile0).mesh with tolls := [(4095, 256)] } }), _, fetches_of (by decide +kernel), 4095, by decide +kernel⟩,
   ⟨259, 15, (core' 259 (fun c => c.setSr 259 srStatus 4) (puts [(F.SYS_MPU_BASE_BASE 3 0, 0xF0000), (F.SYS_MPU_LIMIT_LIMIT 3 0, 0xF0000), (⟨A.SYS_MPU_ATTR 3 0, 11, 0⟩, 0x83F)] sc0)), _, fetches_of (by decide +kernel), by decide +kernel⟩,
   ⟨259, 16, (core' 259 (fun c => c.setSr 259 srStatus 4) (puts [(F.SYS_MPU_BASE_BASE 3 0, 0xF0000), (F.SYS_MPU_LIMIT_LIMIT 3 0, 0xF0000), (⟨A.SYS_MPU_ATTR 3 0, 11, 0⟩, 0x83F)] sc0)), _, fetches_of (by decide +kernel), by decide +kernel⟩⟩

theorem witness_LaneReceivesComplete :
  (∃ k : CoreId, ∃ port : BitVec 5, ∃ l : Nat, ∃ s : State, ∃ u : State, (Fetches s k u) ∧ (port.toNat < 16) ∧ (inLane u k port.toNat = some l) ∧ ∃ i, i = (ringRead u k port.toNat) ∧ (auditHolds u k l = false) ∧ (portHeld u k port.toNat ≠ 0) ∧ (u.eccOf memStore i ≠ 2)) ∧
  (∃ k : CoreId, ∃ port : BitVec 5, ∃ l : Nat, ∃ s : State, ∃ u : State, (Fetches s k u) ∧ (port.toNat < 16) ∧ (inLane u k port.toNat = some l) ∧ ∃ i, i = (ringRead u k port.toNat) ∧ (auditHolds u k l = false) ∧ (portHeld u k port.toNat ≠ 0) ∧ (u.eccOf memStore i = 2)) ∧
  (∃ k : CoreId, ∃ port : BitVec 5, ∃ l : Nat, ∃ s : State, ∃ u : State, (Fetches s k u) ∧ (port.toNat < 16) ∧ (inLane u k port.toNat = some l) ∧ (portHeld u k port.toNat = 0 ∨ auditHolds u k l = true) ∧ (outstanding s k = false)) ∧
  (∃ k : CoreId, ∃ port : BitVec 5, ∃ l : Nat, ∃ s : State, ∃ u : State, (Fetches s k u) ∧ (port.toNat < 16) ∧ (inLane u k port.toNat = some l) ∧ (u.isSealed k = false) ∧ ((u.core k).sb = [])) :=
  ⟨⟨255, 15, 4095, ({ puts [(F.LANE_CFG_EN 4095, 1), (F.LANE_CFG_DST 4095, 255), (F.LANE_CFG_DPORT 4095, 15), (F.LANE_CFG_DEPTH 4095, 256), (F.LANE_CNT_LO_SEND_TOLLS 4095, 256)] tile0 with mesh := { (puts [(F.LANE_CFG_EN 4095, 1), (F.LANE_CFG_DST 4095, 255), (F.LANE_CFG_DPORT 4095, 15), (F.LANE_CFG_DEPTH 4095, 256), (F.LANE_CNT_LO_SEND_TOLLS 4095, 256)] tile0).mesh with occ := [(4095, 256)], store := [(512 * 255, 7)] } }), _, fetches_of (by decide +kernel), by decide +kernel, by decide +kernel, _, rfl, by decide +kernel⟩,
   ⟨255, 15, 4095, ({ puts [(F.LANE_CFG_EN 4095, 1), (F.LANE_CFG_DST 4095, 255), (F.LANE_CFG_DPORT 4095, 15), (F.LANE_CFG_DEPTH 4095, 256), (F.LANE_CNT_LO_SEND_TOLLS 4095, 256)] tile0 with mesh := { (puts [(F.LANE_CFG_EN 4095, 1), (F.LANE_CFG_DST 4095, 255), (F.LANE_CFG_DPORT 4095, 15), (F.LANE_CFG_DEPTH 4095, 256), (F.LANE_CNT_LO_SEND_TOLLS 4095, 256)] tile0).mesh with occ := [(4095, 256)], store := [(512 * 255, 7)] } } : State).setEcc memStore (512 * 255) 2, _, fetches_of (by decide +kernel), by decide +kernel, by decide +kernel, _, rfl, by decide +kernel⟩,
   ⟨255, 15, 4095, (puts [(F.LANE_CFG_EN 4095, 1), (F.LANE_CFG_DST 4095, 255), (F.LANE_CFG_DPORT 4095, 15), (F.LANE_CFG_DEPTH 4095, 256), (F.LANE_CNT_LO_SEND_TOLLS 4095, 256)] tile0), _, fetches_of (by decide +kernel), by decide +kernel⟩,
   ⟨255, 15, 4095, ({ puts [(F.LANE_CFG_EN 4095, 1), (F.LANE_CFG_DST 4095, 255), (F.LANE_CFG_DPORT 4095, 15), (F.LANE_CFG_DEPTH 4095, 256), (F.LANE_CNT_LO_SEND_TOLLS 4095, 256)] tile0 with mesh := { (puts [(F.LANE_CFG_EN 4095, 1), (F.LANE_CFG_DST 4095, 255), (F.LANE_CFG_DPORT 4095, 15), (F.LANE_CFG_DEPTH 4095, 256), (F.LANE_CNT_LO_SEND_TOLLS 4095, 256)] tile0).mesh with occ := [(4095, 256)], store := [(512 * 255, 7)] } } : State).setEcc memStore (512 * 255) 2, _, fetches_of (by decide +kernel), by decide +kernel⟩⟩

theorem witness_LanePortTraps :
  (∃ i : Instr, ∃ k : CoreId, ∃ port : BitVec 5, ∃ s : State, ∃ u : State, (Fetches s k u) ∧ (port.toNat < 16) ∧ ((((∃ a, i = .lsend k port a ∨ i = .lsendf k port a) ∧ outLane u k port.toNat = none) ∨ ((∃ d, i = .lrecv k d port ∨ i = .lrecvf k d port) ∧ inLane u k port.toNat = none) ∨ ((∃ d, i = .lprobe k d port false) ∧ inLane u k port.toNat = none ∧ u.isSealed k = false) ∨ ((∃ d, i = .lprobe k d port true) ∧ outLane u k port.toNat = none ∧ u.isSealed k = false)))) :=
  ⟨(.lsend 255 15 1), 255, 15, tile0, _, fetches_of (by decide +kernel), by decide +kernel⟩

theorem witness_HaltInterruptAndRewriteComplete :
  (∃ k : CoreId, ∃ s : State, ((s.core k).haltReq ≠ 0) ∧ ((s.core k).haltReq < 16) ∧ ((s.core k).halted = false) ∧ (coresClocked s = true) ∧ (((s.core k).run = .active ∨ (s.core k).run = .waypt)) ∧ (outstanding s k = false)) ∧
  (∃ c : Fin 4, ∃ id : Nat, ∃ s : State, ∃ u, u = (settle s) ∧ ∃ k, k = (256 + c.val) ∧ (coreRuns u k = true) ∧ (u.intEnabled k = true) ∧ ((u.core k).haltReq = 0) ∧ ((u.core k).stepping = false) ∧ (outstanding u k = false) ∧ (candidate u c = some id)) ∧
  (∃ arr : Fin 8, ∃ word : Nat, ∃ s : State, (s.eccOf arr word = 3) ∧ (arr.val ≠ memSave)) ∧
  (∃ arr : Fin 8, ∃ word : Nat, ∃ s : State, (s.eccOf arr word ≠ 3 ∨ arr.val = memSave)) :=
  ⟨⟨255, (core' 255 (fun c => { c with haltReq := 15 }) tile0), by decide +kernel⟩,
   ⟨3, 511, (core' 259 (fun c => c.setSr 259 srStatus 3) (puts [(F.ICU_EN_EN 3 15, 0x80000000), (F.ICU_PEND_PEND 15, 0x80000000), (⟨A.ICU_PRIO 511, 2, 0⟩, 7)] sc0)), _, rfl, _, rfl, by decide +kernel⟩,
   ⟨0, (0x20000000 / 8), (base.setEcc 0 (0x20000000 / 8) 3), by decide +kernel⟩,
   ⟨0, (0x20000000 / 8), (core' 255 (fun c => { c with haltReq := 15 }) tile0), by decide +kernel⟩⟩

theorem witness_LaneConfigurationCompletes :
  (∃ l : Fin 4160, ∃ v : BitVec 31, ∃ s : State, ∃ w, w = (((v.setWidth 32 ||| 0x80000000#32).setWidth 64 : Word)) ∧ ∃ dst, dst = (bitsOf w 30 22) ∧ ∃ tile, tile = (if laneSender l < 256 then laneSender l else if laneOn s l then laneDst s l else dst) ∧ ∃ locked, locked = (lanesLocked s (if tile < 256 then s.quadPart (tile / 64) else none)) ∧ (locked = true ∨ (laneOn s l = true ∧ bitsOf (s.reg (A.LANE_CFG l)) 30 0 ≠ v.toNat)) ∧ (s.flag F.LANE_ERR_VALID = false)) ∧
  (∃ l : Fin 4160, ∃ v : BitVec 31, ∃ s : State, ∃ w, w = (((v.setWidth 32 ||| 0x80000000#32).setWidth 64 : Word)) ∧ ∃ dst, dst = (bitsOf w 30 22) ∧ ∃ tile, tile = (if laneSender l < 256 then laneSender l else if laneOn s l then laneDst s l else dst) ∧ ∃ locked, locked = (lanesLocked s (if tile < 256 then s.quadPart (tile / 64) else none)) ∧ ∃ check, check = (laneCheck s (enabledLanes s) l dst (bitsOf w 21 18) (bitsOf w 17 9) (bitsOf w 8 0)) ∧ (locked = false) ∧ (laneOn s l = false) ∧ (check = 0)) ∧
  (∃ l : Fin 4160, ∃ v : BitVec 31, ∃ s : State, ∃ w, w = (((v.setWidth 32 ||| 0x80000000#32).setWidth 64 : Word)) ∧ ∃ dst, dst = (bitsOf w 30 22) ∧ ∃ tile, tile = (if laneSender l < 256 then laneSender l else if laneOn s l then laneDst s l else dst) ∧ ∃ locked, locked = (lanesLocked s (if tile < 256 then s.quadPart (tile / 64) else none)) ∧ ∃ check, check = (laneCheck s (enabledLanes s) l dst (bitsOf w 21 18) (bitsOf w 17 9) (bitsOf w 8 0)) ∧ (locked = false) ∧ (laneOn s l = false) ∧ (check ≠ 0) ∧ (s.flag F.LANE_ERR_VALID = false)) ∧
  (∃ l : Fin 4160, ∃ v : BitVec 31, ∃ s : State, ∃ w, w = (((v.setWidth 32 ||| 0x80000000#32).setWidth 64 : Word)) ∧ ∃ dst, dst = (bitsOf w 30 22) ∧ ∃ tile, tile = (if laneSender l < 256 then laneSender l else if laneOn s l then laneDst s l else dst) ∧ ∃ locked, locked = (lanesLocked s (if tile < 256 then s.quadPart (tile / 64) else none)) ∧ (locked = false) ∧ (laneOn s l = true) ∧ (bitsOf (s.reg (A.LANE_CFG l)) 30 0 = v.toNat) ∧ (netsEmpty s l = true)) ∧
  (∃ l : Fin 4160, ∃ v : BitVec 31, ∃ s : State, ∃ w, w = (((v.setWidth 32 ||| 0x80000000#32).setWidth 64 : Word)) ∧ ∃ dst, dst = (bitsOf w 30 22) ∧ ∃ tile, tile = (if laneSender l < 256 then laneSender l else if laneOn s l then laneDst s l else dst) ∧ ∃ locked, locked = (lanesLocked s (if tile < 256 then s.quadPart (tile / 64) else none)) ∧ (locked = false) ∧ (laneOn s l = true) ∧ (bitsOf (s.reg (A.LANE_CFG l)) 30 0 = v.toNat) ∧ (netsEmpty s l = false)) ∧
  (∃ l : Fin 4160, ∃ s : State, (s.mesh.disable.read noB l = true) ∧ (netsEmpty s l = true)) ∧
  (∃ l : Fin 4160, ∃ s : State, (s.mesh.disable.read noB l = false ∨ netsEmpty s l = false)) :=
  ⟨⟨4095, 1073610755, (st [(F.LANE_CFG_EN 4095, 1), (F.LANE_CFG_DST 4095, 255), (F.LANE_CFG_DPORT 4095, 15), (F.LANE_CFG_BASE 4095, 256), (F.LANE_CFG_DEPTH 4095, 256)]), _, rfl, _, rfl, _, rfl, _, rfl, by decide +kernel⟩,
   ⟨4095, 1073611008, (st [(F.WPT_PART_MAP_EN, 8), (⟨A.WPT_PART_MAP, 7, 6⟩, 3)]), _, rfl, _, rfl, _, rfl, _, rfl, _, rfl, by decide +kernel⟩,
   ⟨4095, 1073610755, (st [(F.WPT_PART_MAP_EN, 8), (⟨A.WPT_PART_MAP, 7, 6⟩, 3)]), _, rfl, _, rfl, _, rfl, _, rfl, _, rfl, by decide +kernel⟩,
   ⟨4095, 1073611008, (st [(F.LANE_CFG_EN 4095, 1), (F.LANE_CFG_DST 4095, 255), (F.LANE_CFG_DPORT 4095, 15), (F.LANE_CFG_BASE 4095, 256), (F.LANE_CFG_DEPTH 4095, 256)]), _, rfl, _, rfl, _, rfl, _, rfl, by decide +kernel⟩,
   ⟨4095, 1073611008, (st [(F.LANE_CFG_EN 4095, 1), (F.LANE_CFG_DST 4095, 255), (F.LANE_CFG_DPORT 4095, 15), (F.LANE_CFG_BASE 4095, 256), (F.LANE_CFG_DEPTH 4095, 256), (F.LANE_CNT_LO_DATA_NET 4095, 1)]), _, rfl, _, rfl, _, rfl, _, rfl, by decide +kernel⟩,
   ⟨4095, (let s := st [(F.LANE_CFG_EN 4095, 1), (F.LANE_CFG_DST 4095, 255), (F.LANE_CFG_DPORT 4095, 15), (F.LANE_CFG_BASE 4095, 256), (F.LANE_CFG_DEPTH 4095, 256)]; { s with mesh := { s.mesh with disable := [(4095, true)] } }), by decide +kernel⟩,
   ⟨4095, (st [(F.WPT_PART_MAP_EN, 8), (⟨A.WPT_PART_MAP, 7, 6⟩, 3)]), by decide +kernel⟩⟩

theorem witness_LaunchesEnterTheJunction :
  (∃ k : CoreId, ∃ s : State, ∃ xy, xy = (coreXY k) ∧ ∃ j, j = (clusterAt xy.1 xy.2) ∧ ∃ p : Nat, ∃ f : Flit, (junctionOn s xy = true) ∧ ((jbufOf s j (corePort k) false).length < 4) ∧ (roundRobin 16 (s.mesh.launchLast.read lastPort k) (fun p => (s.mesh.launch.read noFlit (16 * k.val + p)).isSome) = some p) ∧ (s.mesh.launch.read noFlit (16 * k.val + p) = some f)) ∧
  (∃ k : CoreId, ∃ s : State, ∃ xy, xy = (coreXY k) ∧ ∃ j, j = (clusterAt xy.1 xy.2) ∧ ∃ f : Flit, ∃ rest : List Flit, (junctionOn s xy = true) ∧ ((jbufOf s j (corePort k) true).length < 4) ∧ (s.mesh.retq.read noFlits k = f :: rest)) ∧
  (∃ k : CoreId, ∃ s : State, ∃ xy, xy = (coreXY k) ∧ ∃ j, j = (clusterAt xy.1 xy.2) ∧ (4 ≤ (jbufOf s j (corePort k) false).length ∨ junctionOn s xy = false)) ∧
  (∃ k : CoreId, ∃ s : State, ∃ xy, xy = (coreXY k) ∧ ∃ j, j = (clusterAt xy.1 xy.2) ∧ (4 ≤ (jbufOf s j (corePort k) true).length ∨ junctionOn s xy = false)) :=
  ⟨⟨255, (let s := st [(F.LANE_CFG_EN 4095, 1), (F.LANE_CFG_DST 4095, 255), (F.LANE_CFG_DPORT 4095, 15), (F.LANE_CFG_BASE 4095, 256), (F.LANE_CFG_DEPTH 4095, 256)]; { s with mesh := { s.mesh with launch := [(4095, some ⟨4095, 7, 0, 0⟩)] } }), _, rfl, _, rfl, 15, ⟨4095, 7, 0, 0⟩, by decide +kernel⟩,
   ⟨255, (let s := st [(F.LANE_CFG_EN 4095, 1), (F.LANE_CFG_DST 4095, 255), (F.LANE_CFG_DPORT 4095, 15), (F.LANE_CFG_BASE 4095, 256), (F.LANE_CFG_DEPTH 4095, 256)]; { s with mesh := { s.mesh with retq := [(255, [⟨4095, 7, 0, 0⟩])] } }), _, rfl, _, rfl, ⟨4095, 7, 0, 0⟩, [], by decide +kernel⟩,
   ⟨255, (let s := st [(F.LANE_CFG_EN 4095, 1), (F.LANE_CFG_DST 4095, 255), (F.LANE_CFG_DPORT 4095, 15), (F.LANE_CFG_BASE 4095, 256), (F.LANE_CFG_DEPTH 4095, 256)]; { s with mesh := { s.mesh with jbuf := [((63 * 9 + 3) * 2, [⟨4095, 7, 0, 0⟩, ⟨4095, 7, 0, 0⟩, ⟨4095, 7, 0, 0⟩, ⟨4095, 7, 0, 0⟩])] } }), _, rfl, _, rfl, by decide +kernel⟩,
   ⟨255, (let s := st [(F.LANE_CFG_EN 4095, 1), (F.LANE_CFG_DST 4095, 255), (F.LANE_CFG_DPORT 4095, 15), (F.LANE_CFG_BASE 4095, 256), (F.LANE_CFG_DEPTH 4095, 256)]; { s with mesh := { s.mesh with jbuf := [((63 * 9 + 3) * 2 + 1, [⟨4095, 7, 0, 0⟩, ⟨4095, 7, 0, 0⟩, ⟨4095, 7, 0, 0⟩, ⟨4095, 7, 0, 0⟩])] } }), _, rfl, _, rfl, by decide +kernel⟩⟩

theorem witness_FlitHopCompletes :
  (∃ j : Fin 64, ∃ out : Fin 4, ∃ toll : Bool, ∃ i : Nat, ∃ inp : Nat, ∃ xy : Nat × Nat, ∃ f : Flit, ∃ rest : List Flit, ∃ s : State, (junctionOn s (jxy j) = true) ∧ (pickInput s j (4 + out.val) toll = some i) ∧ (i < 9) ∧ (jbufOf s j i toll = f :: rest) ∧ (f.hdrErr = 0) ∧ (f.dataErr = 0) ∧ (laneOn s f.lane = true) ∧ (neighbour (jxy j) (4 + out.val) = some (xy, inp)) ∧ (junctionOn s xy = true) ∧ ((jbufOf s (clusterAt xy.1 xy.2) inp toll).length < 4)) ∧
  (∃ j : Fin 64, ∃ out : Fin 4, ∃ toll : Bool, ∃ i : Nat, ∃ inp : Nat, ∃ xy : Nat × Nat, ∃ f : Flit, ∃ rest : List Flit, ∃ s : State, (junctionOn s (jxy j) = true) ∧ (pickInput s j (4 + out.val) toll = some i) ∧ (i < 9) ∧ (jbufOf s j i toll = f :: rest) ∧ (f.hdrErr = 0) ∧ (f.dataErr = 0) ∧ (laneOn s f.lane = true) ∧ (neighbour (jxy j) (4 + out.val) = some (xy, inp)) ∧ (junctionOn s xy = false ∨ 4 ≤ (jbufOf s (clusterAt xy.1 xy.2) inp toll).length)) ∧
  (∃ j : Fin 64, ∃ out : Fin 4, ∃ toll : Bool, ∃ i : Nat, ∃ f : Flit, ∃ rest : List Flit, ∃ s : State, (junctionOn s (jxy j) = true) ∧ (pickInput s j (4 + out.val) toll = some i) ∧ (i < 9) ∧ (jbufOf s j i toll = f :: rest) ∧ (f.hdrErr = 2 ∨ laneOn s f.lane = false)) ∧
  (∃ j : Fin 64, ∃ out : Fin 4, ∃ toll : Bool, ∃ s : State, (junctionOn s (jxy j) = false ∨ pickInput s j (4 + out.val) toll = none)) :=
  ⟨⟨0, 0, true, 8, 5, (1, 0), ⟨4095, 7, 0, 0⟩, [], (let s := st [(F.LANE_CFG_EN 4095, 1), (F.LANE_CFG_DST 4095, 255), (F.LANE_CFG_DPORT 4095, 15), (F.LANE_CFG_BASE 4095, 256), (F.LANE_CFG_DEPTH 4095, 256)]; { s with mesh := { s.mesh with jbuf := [(8 * 2 + 1, [⟨4095, 7, 0, 0⟩])] } }), by decide +kernel⟩,
   ⟨0, 0, true, 8, 5, (1, 0), ⟨4095, 7, 0, 0⟩, [], (let s := st [(F.LANE_CFG_EN 4095, 1), (F.LANE_CFG_DST 4095, 255), (F.LANE_CFG_DPORT 4095, 15), (F.LANE_CFG_BASE 4095, 256), (F.LANE_CFG_DEPTH 4095, 256)]; { s with mesh := { s.mesh with jbuf := [(8 * 2 + 1, [⟨4095, 7, 0, 0⟩]), ((1 * 9 + 5) * 2 + 1, [⟨4095, 7, 0, 0⟩, ⟨4095, 7, 0, 0⟩, ⟨4095, 7, 0, 0⟩, ⟨4095, 7, 0, 0⟩])] } }), by decide +kernel⟩,
   ⟨0, 0, true, 8, ⟨4095, 7, 2, 0⟩, [], (let s := st [(F.LANE_CFG_EN 0, 1)]; { s with mesh := { s.mesh with jbuf := [(8 * 2 + 1, [⟨4095, 7, 2, 0⟩])] } }), by decide +kernel⟩,
   ⟨0, 0, true, base, by decide +kernel⟩⟩

theorem witness_FlitsLandAtTheirPorts :
  (∃ k : CoreId, ∃ i : Nat, ∃ f : Flit, ∃ rest : List Flit, ∃ toll : Bool, ∃ s : State, ∃ xy, xy = (coreXY k) ∧ ∃ j, j = (clusterAt xy.1 xy.2) ∧ ∃ l, l = (f.lane) ∧ (junctionOn s xy = true) ∧ (pickInput s j (corePort k) toll = some i) ∧ (jbufOf s j i toll = f :: rest) ∧ (f.hdrErr = 0) ∧ (f.dataErr = 0) ∧ (laneOn s l = true) ∧ (toll = false) ∧ (laneDst s l = k.val) ∧ (portHeld s k (laneDport s l) < laneDepth s l)) ∧
  (∃ k : CoreId, ∃ i : Nat, ∃ f : Flit, ∃ rest : List Flit, ∃ toll : Bool, ∃ s : State, ∃ xy, xy = (coreXY k) ∧ ∃ j, j = (clusterAt xy.1 xy.2) ∧ ∃ l, l = (f.lane) ∧ (junctionOn s xy = true) ∧ (pickInput s j (corePort k) toll = some i) ∧ (jbufOf s j i toll = f :: rest) ∧ (f.hdrErr = 0) ∧ (f.dataErr = 0) ∧ (laneOn s l = true) ∧ (toll = true) ∧ (laneSender l = k.val) ∧ (portTolls s l < laneDepth s l)) :=
  ⟨⟨255, 8, ⟨4095, 7, 0, 0⟩, [], false, (let s := st [(F.LANE_CFG_EN 4095, 1), (F.LANE_CFG_DST 4095, 255), (F.LANE_CFG_DPORT 4095, 15), (F.LANE_CFG_BASE 4095, 256), (F.LANE_CFG_DEPTH 4095, 256), (F.LANE_CNT_LO_DATA_NET 4095, 1)]; { s with mesh := { s.mesh with jbuf := [((63 * 9 + 8) * 2, [⟨4095, 7, 0, 0⟩])], rp := [(16 * 255 + 15, 511)] } }), _, rfl, _, rfl, _, rfl, by decide +kernel⟩,
   ⟨255, 8, ⟨4095, 7, 0, 0⟩, [], true, (let s := st [(F.LANE_CFG_EN 4095, 1), (F.LANE_CFG_DST 4095, 255), (F.LANE_CFG_DPORT 4095, 15), (F.LANE_CFG_BASE 4095, 256), (F.LANE_CFG_DEPTH 4095, 256), (F.LANE_CNT_HI_TOLL_NET 4095, 1)]; { s with mesh := { s.mesh with jbuf := [((63 * 9 + 8) * 2 + 1, [⟨4095, 7, 0, 0⟩])] } }), _, rfl, _, rfl, _, rfl, by decide +kernel⟩⟩

theorem witness_LaneAuditAndClearComplete :
  (∃ p : Fin 4, ∃ s : State, ∃ busy, busy = (s.flag F.LANE_AUDIT_STATUS_BUSY) ∧ (busy = false) ∧ (quiescent s p = true)) ∧
  (∃ p : Fin 4, ∃ s : State, (quiescent s p = false)) ∧
  (∃ p : Fin 4, ∃ s : State, ∃ busy, busy = (s.flag F.LANE_AUDIT_STATUS_BUSY) ∧ (busy = true) ∧ (quiescent s p = true)) ∧
  (∃ p : Fin 4, ∃ s : State, ∃ busy, busy = (s.flag F.LANE_AUDIT_STATUS_BUSY) ∧ (busy = true) ∧ (s.mesh.auditPart = p.val) ∧ ((partLanes s p).all (netsEmpty s) = true)) ∧
  (∃ p : Fin 4, ∃ s : State, ∃ busy, busy = (s.flag F.LANE_AUDIT_STATUS_BUSY) ∧ (busy = true) ∧ (s.mesh.auditPart = p.val) ∧ ∃ l, ((partLanes s p).find? (fun l => !netsEmpty s l) = some l)) ∧
  (∃ p : Fin 4, ∃ s : State, (s.flag F.LANE_CLEAR_BUSY = false) ∧ (quiescent s p = true)) ∧
  (∃ p : Fin 4, ∃ s : State, (s.flag F.LANE_CLEAR_BUSY = true ∨ quiescent s p = false)) ∧
  (∃ p : Fin 4, ∃ s : State, (s.flag F.LANE_CLEAR_BUSY = true) ∧ (s.mesh.clearPart = p.val) ∧ ((partLanes s p).all (netsEmpty s) = true)) ∧
  (∃ p : Fin 4, ∃ s : State, (s.flag F.LANE_CLEAR_BUSY = true) ∧ (s.mesh.clearPart = p.val) ∧ ((partLanes s p).all (netsEmpty s) = false)) :=
  ⟨⟨3, base, _, rfl, by decide +kernel⟩,
   ⟨3, (st [(F.WPT_PSTATE_STATE 3, psScanning)]), by decide +kernel⟩,
   ⟨3, (let s := st [(F.LANE_AUDIT_STATUS_BUSY, 1), (F.LANE_CLEAR_BUSY, 1), (F.WPT_PART_MAP_EN, 8), (⟨A.WPT_PART_MAP, 7, 6⟩, 3), (F.LANE_CFG_EN 4095, 1), (F.LANE_CFG_DST 4095, 255), (F.LANE_CFG_DPORT 4095, 15), (F.LANE_CFG_BASE 4095, 256), (F.LANE_CFG_DEPTH 4095, 256), (F.LANE_CNT_LO_DATA_NET 4095, 1)]; { s with mesh := { s.mesh with auditPart := 3, clearPart := 3 } }), _, rfl, by decide +kernel⟩,
   ⟨3, (let s := st [(F.LANE_AUDIT_STATUS_BUSY, 1), (F.LANE_CLEAR_BUSY, 1), (F.WPT_PART_MAP_EN, 8), (⟨A.WPT_PART_MAP, 7, 6⟩, 3), (F.LANE_CFG_EN 4095, 1), (F.LANE_CFG_DST 4095, 255), (F.LANE_CFG_DPORT 4095, 15), (F.LANE_CFG_BASE 4095, 256), (F.LANE_CFG_DEPTH 4095, 256), (F.LANE_CNT_LO_SEND_TOLLS 4095, 256)]; { s with mesh := { s.mesh with auditPart := 3, clearPart := 3 } }), _, rfl, by decide +kernel⟩,
   ⟨3, (let s := st [(F.LANE_AUDIT_STATUS_BUSY, 1), (F.LANE_CLEAR_BUSY, 1), (F.WPT_PART_MAP_EN, 8), (⟨A.WPT_PART_MAP, 7, 6⟩, 3), (F.LANE_CFG_EN 4095, 1), (F.LANE_CFG_DST 4095, 255), (F.LANE_CFG_DPORT 4095, 15), (F.LANE_CFG_BASE 4095, 256), (F.LANE_CFG_DEPTH 4095, 256), (F.LANE_CNT_LO_DATA_NET 4095, 1)]; { s with mesh := { s.mesh with auditPart := 3, clearPart := 3 } }), _, rfl, by decide +kernel, by decide +kernel, 4095, by decide +kernel⟩,
   ⟨3, base, by decide +kernel⟩,
   ⟨3, (let s := st [(F.LANE_AUDIT_STATUS_BUSY, 1), (F.LANE_CLEAR_BUSY, 1), (F.WPT_PART_MAP_EN, 8), (⟨A.WPT_PART_MAP, 7, 6⟩, 3), (F.LANE_CFG_EN 4095, 1), (F.LANE_CFG_DST 4095, 255), (F.LANE_CFG_DPORT 4095, 15), (F.LANE_CFG_BASE 4095, 256), (F.LANE_CFG_DEPTH 4095, 256), (F.LANE_CNT_LO_DATA_NET 4095, 1)]; { s with mesh := { s.mesh with auditPart := 3, clearPart := 3 } }), by decide +kernel⟩,
   ⟨3, (let s := st [(F.LANE_AUDIT_STATUS_BUSY, 1), (F.LANE_CLEAR_BUSY, 1), (F.WPT_PART_MAP_EN, 8), (⟨A.WPT_PART_MAP, 7, 6⟩, 3), (F.LANE_CFG_EN 4095, 1), (F.LANE_CFG_DST 4095, 255), (F.LANE_CFG_DPORT 4095, 15), (F.LANE_CFG_BASE 4095, 256), (F.LANE_CFG_DEPTH 4095, 256), (F.LANE_CNT_LO_SEND_TOLLS 4095, 256)]; { s with mesh := { s.mesh with auditPart := 3, clearPart := 3 } }), by decide +kernel⟩,
   ⟨3, (let s := st [(F.LANE_AUDIT_STATUS_BUSY, 1), (F.LANE_CLEAR_BUSY, 1), (F.WPT_PART_MAP_EN, 8), (⟨A.WPT_PART_MAP, 7, 6⟩, 3), (F.LANE_CFG_EN 4095, 1), (F.LANE_CFG_DST 4095, 255), (F.LANE_CFG_DPORT 4095, 15), (F.LANE_CFG_BASE 4095, 256), (F.LANE_CFG_DEPTH 4095, 256), (F.LANE_CNT_LO_DATA_NET 4095, 1)]; { s with mesh := { s.mesh with auditPart := 3, clearPart := 3 } }), by decide +kernel⟩⟩

theorem witness_WaypointConfigurationCompletes :
  (∃ p : Fin 4, ∃ r : Fin 5, ∃ v : BitVec 32, ∃ s : State, (partOpen s p = true) ∧ (wptRange s p (4 * r.val) (v.setWidth 64) = true)) ∧
  (∃ p : Fin 4, ∃ s : State, (partOpen s p = false) ∧ (s.flag F.WPT_ERR_VALID = false)) ∧
  (∃ p : Fin 4, ∃ r : Fin 5, ∃ v : BitVec 32, ∃ s : State, (partOpen s p = true) ∧ (wptRange s p (4 * r.val) (v.setWidth 64) = false) ∧ (s.flag F.WPT_ERR_VALID = false)) :=
  ⟨⟨3, 4, 4096, base, by decide +kernel⟩,
   ⟨3, (st [(F.WPT_PSTATE_STATE 3, psScanning)]), by decide +kernel⟩,
   ⟨3, 4, 4097, base, by decide +kernel⟩⟩

theorem witness_MapAccessesComplete :
  (∃ s : State, ∃ p, p = (s.get F.WPT_MAP_ADDR_PART) ∧ ∃ staged, staged = (s.flag F.WPT_MAP_ADDR_STAGED) ∧ (staged = false) ∧ (partOpen s p = true)) ∧
  (∃ s : State, ∃ p, p = (s.get F.WPT_MAP_ADDR_PART) ∧ ∃ staged, staged = (s.flag F.WPT_MAP_ADDR_STAGED) ∧ (staged = true) ∧ (s.flag (F.WPT_PSTATE_CO_PENDING p) = false)) ∧
  (∃ s : State, ∃ p, p = (s.get F.WPT_MAP_ADDR_PART) ∧ ∃ staged, staged = (s.flag F.WPT_MAP_ADDR_STAGED) ∧ ((staged = false ∧ partOpen s p = false) ∨ (staged = true ∧ s.flag (F.WPT_PSTATE_CO_PENDING p) = true)) ∧ (s.flag F.WPT_ERR_VALID = false)) :=
  ⟨⟨(st [(F.WPT_MAP_ADDR_PART, 3), (F.WPT_MAP_ADDR_INDEX, 4095)]), _, rfl, _, rfl, by decide +kernel⟩,
   ⟨(st [(F.WPT_MAP_ADDR_PART, 3), (F.WPT_MAP_ADDR_INDEX, 4095), (F.WPT_MAP_ADDR_STAGED, 1)]), _, rfl, _, rfl, by decide +kernel⟩,
   ⟨(st [(F.WPT_MAP_ADDR_PART, 3), (F.WPT_MAP_ADDR_INDEX, 4095), (F.WPT_PSTATE_STATE 3, psScanning)]), _, rfl, _, rfl, by decide +kernel⟩⟩

theorem witness_PartitionCommandsComplete :
  (∃ p : Fin 4, ∃ s : State, ((s.pstate p = psReady ∨ s.pstate p = psStopped ∨ s.pstate p = psFaulted))) ∧
  (∃ p : Fin 4, ∃ s : State, (s.pstate p = psProvisioning) ∧ (snapLen s p ≤ 4096) ∧ (readyBad s p = none)) ∧
  (∃ p : Fin 4, ∃ s : State, ∃ rel, ∃ i, (s.pstate p = psProvisioning) ∧ (snapLen s p ≤ 4096) ∧ (readyBad s p = some (rel, i)) ∧ (s.flag F.WPT_ERR_VALID = false)) ∧
  (∃ p : Fin 4, ∃ s : State, (startLegal s p = true) ∧ (inConvoy s = false) ∧ (auditOf s p = false)) ∧
  (∃ p : Fin 4, ∃ s : State, (startLegal s p = true) ∧ (inConvoy s = false) ∧ (auditOf s p = true)) ∧
  (∃ p : Fin 4, ∃ s : State, (startLegal s p = true) ∧ (inConvoy s = true) ∧ (leads s = true) ∧ (auditOf s p = false)) ∧
  (∃ p : Fin 4, ∃ s : State, (startLegal s p = true) ∧ (inConvoy s = true) ∧ (leads s = false)) ∧
  (∃ p : Fin 4, ∃ s : State, (s.pstate p = psScanning)) ∧
  (∃ p : Fin 4, ∃ s : State, (s.flag F.WPT_ERR_VALID = false) ∧ (s.pstate p ≠ psReady) ∧ (s.pstate p ≠ psStopped) ∧ (s.pstate p ≠ psFaulted)) ∧
  (∃ p : Fin 4, ∃ s : State, (s.flag F.WPT_ERR_VALID = false) ∧ (s.pstate p ≠ psScanning)) ∧
  (∃ p : Fin 4, ∃ s : State, (s.flag F.WPT_ERR_VALID = false) ∧ (s.pstate p ≠ psProvisioning)) ∧
  (∃ p : Fin 4, ∃ s : State, (s.flag F.WPT_ERR_VALID = false) ∧ (startLegal s p = false)) :=
  ⟨⟨3, (let s := st [(F.HW_STATE_STATE, dsRun), (F.WPT_PSTATE_STATE 3, psReady), (F.LANE_AUDIT_STATUS_BUSY, 1)]; { s with mesh := { s.mesh with auditPart := 3 } }), by decide +kernel⟩,
   ⟨3, (st [(F.WPT_PSTATE_STATE 3, psProvisioning)]), by decide +kernel⟩,
   ⟨3, (setMapEntry (st [(F.WPT_PSTATE_STATE 3, psProvisioning), (F.WPT_SNAP_LEN_LEN 3, 4096)]) 3 false true 4095 0xFFFFFFFF), true, 4095, by decide +kernel⟩,
   ⟨3, (st [(F.HW_STATE_STATE, dsRun), (F.WPT_PSTATE_STATE 3, psReady)]), by decide +kernel⟩,
   ⟨3, (let s := st [(F.HW_STATE_STATE, dsRun), (F.WPT_PSTATE_STATE 3, psReady), (F.LANE_AUDIT_STATUS_BUSY, 1)]; { s with mesh := { s.mesh with auditPart := 3 } }), by decide +kernel⟩,
   ⟨3, (st [(F.HW_STATE_STATE, dsRun), (F.WPT_PSTATE_STATE 3, psReady), (F.CVY_STATE_ROLE, roleVoter), (F.HW_REV_MEMBER, 0)]), by decide +kernel⟩,
   ⟨3, (st [(F.HW_STATE_STATE, dsRun), (F.WPT_PSTATE_STATE 3, psReady), (F.CVY_STATE_ROLE, roleVoter), (F.CVY_STATE_LEADER, 3)]), by decide +kernel⟩,
   ⟨3, (st [(F.HW_STATE_STATE, dsRun), (F.WPT_PSTATE_STATE 3, psScanning)]), by decide +kernel⟩,
   ⟨3, base, by decide +kernel⟩,
   ⟨3, (let s := st [(F.HW_STATE_STATE, dsRun), (F.WPT_PSTATE_STATE 3, psReady), (F.LANE_AUDIT_STATUS_BUSY, 1)]; { s with mesh := { s.mesh with auditPart := 3 } }), by decide +kernel⟩,
   ⟨3, (let s := st [(F.HW_STATE_STATE, dsRun), (F.WPT_PSTATE_STATE 3, psReady), (F.LANE_AUDIT_STATUS_BUSY, 1)]; { s with mesh := { s.mesh with auditPart := 3 } }), by decide +kernel⟩,
   ⟨3, base, by decide +kernel⟩⟩

theorem witness_PartitionMapWriteCompletes :
  (∃ s : State, (s.dev = dsBoot ∨ s.dev = dsProvision ∨ s.dev = dsService)) ∧
  (∃ s : State, (s.dev ≠ dsBoot) ∧ (s.dev ≠ dsProvision) ∧ (s.dev ≠ dsService) ∧ (s.flag F.WPT_ERR_VALID = false)) :=
  ⟨⟨base, by decide +kernel⟩,
   ⟨(st [(F.HW_STATE_STATE, dsRun)]), by decide +kernel⟩⟩

theorem witness_StagingCompletes :
  (∃ k : BitVec 8, ∃ s : State, ∃ src, src = ((s.reg A.WPT_STAGE_SRC).toNat) ∧ (s.flag F.WPT_STAGE_CTL_BUSY = false) ∧ (coIncludes s k.toNat = false) ∧ (inDepot src = true) ∧ (inDepot (src + 0x3FFF) = true)) ∧
  (∃ k : BitVec 8, ∃ s : State, ∃ src, src = ((s.reg A.WPT_STAGE_SRC).toNat) ∧ (s.flag F.WPT_STAGE_CTL_BUSY = true ∨ coIncludes s k.toNat = true ∨ inDepot src = false ∨ inDepot (src + 0x3FFF) = false)) ∧
  (∃ s : State, ∃ k, k = (s.wpt.stage.1) ∧ ∃ src, src = (s.wpt.stage.2) ∧ ∃ n, n = (s.wpt.stagePos) ∧ (Memory.wf s.mem = true) ∧ (s.flag F.WPT_STAGE_CTL_BUSY = true) ∧ (k < 256) ∧ (inDepot src = true) ∧ (inDepot (src + 0x3FFF) = true) ∧ (n ≤ 2048) ∧ (s.wpt.stageBad = false) ∧ (s.anyUncorr memDepot (src / 8 + n) (2048 - n) = false)) ∧
  (∃ s : State, ∃ k, k = (s.wpt.stage.1) ∧ ∃ src, src = (s.wpt.stage.2) ∧ ∃ n, n = (s.wpt.stagePos) ∧ (s.flag F.WPT_STAGE_CTL_BUSY = true) ∧ (k < 256) ∧ (s.wpt.stageBad = true ∨ (n < 2048 ∧ s.anyUncorr memDepot (src / 8 + n) (2048 - n) = true))) :=
  ⟨⟨255, (base.setReg A.WPT_STAGE_SRC 0x10FFC000), _, rfl, by decide +kernel⟩,
   ⟨255, (let s := st [(F.WPT_STAGE_CTL_BUSY, 1)]; { s with wpt := { s.wpt with stage := (255, 0x10FFC000), stageBad := true } }), _, rfl, by decide +kernel⟩,
   ⟨(let s := st [(F.WPT_STAGE_CTL_BUSY, 1)]; { s with wpt := { s.wpt with stage := (255, 0x10FFC000) } }), _, rfl, _, rfl, _, rfl, by decide +kernel⟩,
   ⟨(let s := st [(F.WPT_STAGE_CTL_BUSY, 1)]; { s with wpt := { s.wpt with stage := (255, 0x10FFC000), stageBad := true } }), _, rfl, _, rfl, _, rfl, by decide +kernel⟩⟩

theorem witness_ChangeoverCommandsComplete :
  (∃ p : Fin 4, ∃ v : BitVec 31, ∃ s : State, ∃ u, u = (genericWrite s (A.WPT_CO_CTL p) (v.setWidth 64 ||| 0x80000000#64)) ∧ ∃ w, w = ((u.reg (A.WPT_CO_WNUM p)).toNat) ∧ ∃ past, past = (inConvoy u && decide (w ≤ u.get (F.WPT_WNUM_WNUM p) + 1) && !(xchg u p false).isOpen) ∧ (s.flag (F.WPT_PSTATE_CO_PENDING p) = false) ∧ (coCheck u p w = 0) ∧ (past = false)) ∧
  (∃ p : Fin 4, ∃ v : BitVec 31, ∃ s : State, ∃ u, u = (genericWrite s (A.WPT_CO_CTL p) (v.setWidth 64 ||| 0x80000000#64)) ∧ ∃ w, w = ((u.reg (A.WPT_CO_WNUM p)).toNat) ∧ ∃ past, past = (inConvoy u && decide (w ≤ u.get (F.WPT_WNUM_WNUM p) + 1) && !(xchg u p false).isOpen) ∧ (s.flag (F.WPT_PSTATE_CO_PENDING p) = false) ∧ (coCheck u p w = 0) ∧ (past = true)) ∧
  (∃ p : Fin 4, ∃ v : BitVec 31, ∃ s : State, ∃ u, u = (genericWrite s (A.WPT_CO_CTL p) (v.setWidth 64 ||| 0x80000000#64)) ∧ ∃ w, w = ((u.reg (A.WPT_CO_WNUM p)).toNat) ∧ (s.flag (F.WPT_PSTATE_CO_PENDING p) = false) ∧ (coCheck u p w ≠ 0)) ∧
  (∃ p : Fin 4, ∃ s : State, (s.flag (F.WPT_PSTATE_CO_PENDING p) = true)) ∧
  (∃ p : Fin 4, ∃ s : State, ∃ clear, clear = ((coLanes s p).all (fun l => s.get (F.LANE_CNT_HI_TOLL_NET l) == 0)) ∧ ((s.part p).coPhase = 1) ∧ (clear = true)) ∧
  (∃ p : Fin 4, ∃ s : State, ∃ clear, clear = ((coLanes s p).all (fun l => s.get (F.LANE_CNT_HI_TOLL_NET l) == 0)) ∧ ((s.part p).coPhase ≠ 1 ∨ clear = false)) ∧
  (∃ p : Fin 4, ∃ s : State, ((s.part p).coPhase = 2) ∧ (auditOf s p = false)) ∧
  (∃ p : Fin 4, ∃ s : State, ((s.part p).coPhase ≠ 2 ∨ auditOf s p = true)) :=
  ⟨⟨3, 0, (st [(F.HW_STATE_STATE, dsRun), (F.WPT_PSTATE_STATE 3, psScanning)]).setReg (A.WPT_CO_WNUM 3) 2, _, rfl, _, rfl, _, rfl, by decide +kernel⟩,
   ⟨3, 0, (st [(F.HW_STATE_STATE, dsRun), (F.WPT_PSTATE_STATE 3, psScanning), (F.CVY_STATE_ROLE, roleVoter), (F.WPT_WNUM_WNUM 3, 1)]).setReg (A.WPT_CO_WNUM 3) 2, _, rfl, _, rfl, _, rfl, by decide +kernel⟩,
   ⟨3, 0, base, _, rfl, _, rfl, by decide +kernel⟩,
   ⟨3, (st [(F.WPT_PSTATE_CO_PENDING 3, 1)]), by decide +kernel⟩,
   ⟨3, (st [(F.HW_STATE_STATE, dsRun), (F.WPT_PSTATE_STATE 3, psScanning)]).onPart 3 (fun q => { q with coPhase := 1 }), _, rfl, by decide +kernel⟩,
   ⟨3, (st [(F.HW_STATE_STATE, dsRun), (F.WPT_PSTATE_STATE 3, psScanning), (F.CVY_STATE_ROLE, roleVoter), (F.WPT_WNUM_WNUM 3, 1)]).setReg (A.WPT_CO_WNUM 3) 2, _, rfl, by decide +kernel⟩,
   ⟨3, (st [(F.HW_STATE_STATE, dsRun), (F.WPT_PSTATE_STATE 3, psScanning)]).onPart 3 (fun q => { q with coPhase := 2 }), by decide +kernel⟩,
   ⟨3, (st [(F.HW_STATE_STATE, dsRun), (F.WPT_PSTATE_STATE 3, psScanning), (F.CVY_STATE_ROLE, roleVoter), (F.WPT_WNUM_WNUM 3, 1)]).setReg (A.WPT_CO_WNUM 3) 2, by decide +kernel⟩⟩

theorem witness_WaypointAndGuardTestComplete :
  (∃ p : Fin 4, ∃ s : State, (timerOn s p = true) ∧ (s.pllClock = true) ∧ ∃ w, w = ((s.reg (A.WPT_NEXT p)).toNat) ∧ ∃ u, (u = reach s (w - s.get (F.WPT_GUARD_GUARD p))) ∧ (u.role = roleIdle) ∧ (wptFrozen u = false) ∧ (u.pstate p = psScanning) ∧ ((u.part p).scanPending = true) ∧ ((u.part p).guardLate = none) ∧ (arrived u p = true)) ∧
  (∃ p : Fin 4, ∃ s : State, (timerOn s p = true) ∧ (s.pllClock = true) ∧ ∃ w, w = ((s.reg (A.WPT_NEXT p)).toNat) ∧ ∃ u, (u = reach s (w - s.get (F.WPT_GUARD_GUARD p))) ∧ (u.role = roleIdle) ∧ (wptFrozen u = false) ∧ (u.pstate p = psScanning) ∧ ((u.part p).scanPending = true) ∧ ((u.part p).guardLate = none) ∧ (arrived u p = false) ∧ (u.flag (F.WPT_POLICY_FAULT_ON_LATE p) = false) ∧ (u.get (F.WPT_LATE_COUNT_COUNT p) < 2 ^ 32 - 1)) ∧
  (∃ p : Fin 4, ∃ s : State, (timerOn s p = true) ∧ (s.pllClock = true) ∧ ∃ w, w = ((s.reg (A.WPT_NEXT p)).toNat) ∧ ∃ u : State, ∃ n : Nat, ∃ next : Nat, (u = reach s w) ∧ (n = u.get (F.WPT_WNUM_WNUM p) + (if (u.part p).started then 1 else 0)) ∧ (next = w + u.get (F.WPT_PERIOD_PERIOD p)) ∧ (next < 2 ^ 64) ∧ (u.role = roleIdle) ∧ (mergeBusy u = false) ∧ (wptFrozen u = false) ∧ (w ∉ (u.part p).heldInst) ∧ (s.pstate p = psScanning) ∧ (u.pstate p = psScanning) ∧ ((u.part p).goRun = false) ∧ ((u.part p).scanPending = false) ∧ ((u.part p).coPhase = 0) ∧ (u.flag (F.WPT_PSTATE_STOP_PENDING p) = false) ∧ (u.flag (F.WPT_PSTATE_HOLD_PENDING p) = false) ∧ (u.flag (F.WPT_PSTATE_CO_PENDING p) = false) ∧ (auditOf u p = false)) ∧
  (∃ p : Fin 4, ∃ s : State, (timerOn s p = true) ∧ (s.pllClock = true) ∧ ∃ w, w = ((s.reg (A.WPT_NEXT p)).toNat) ∧ ∃ u : State, ∃ n : Nat, ∃ next : Nat, (u = reach s w) ∧ (n = u.get (F.WPT_WNUM_WNUM p) + (if (u.part p).started then 1 else 0)) ∧ (next = w + u.get (F.WPT_PERIOD_PERIOD p)) ∧ (next < 2 ^ 64) ∧ (u.role = roleIdle) ∧ (mergeBusy u = false) ∧ (wptFrozen u = false) ∧ (w ∉ (u.part p).heldInst) ∧ (s.pstate p = psScanning) ∧ (u.pstate p = psScanning) ∧ ((u.part p).goRun = false) ∧ ((u.part p).scanPending = true) ∧ ((u.part p).guardLate = some true) ∧ ((u.cpart p).leaving = []) ∧ (u.get (F.WPT_SKIPPED_COUNT p) < 2 ^ 32 - 1)) ∧
  (∃ p : Fin 4, ∃ s : State, (timerOn s p = false ∨ s.pllClock = false)) :=
  ⟨⟨3, ((st [(F.HW_STATE_STATE, dsRun), (F.SYS_CLK_STAT_SRC, 1), (F.WPT_PSTATE_STATE 3, psScanning)]).setReg (A.WPT_NEXT 3) 65).onPart 3 (fun q => { q with scanPending := true, live := true }), by decide +kernel, by decide +kernel, _, rfl, _, rfl, by decide +kernel⟩,
   ⟨3, (let s := ((st [(F.HW_STATE_STATE, dsRun), (F.SYS_CLK_STAT_SRC, 1), (F.WPT_PSTATE_STATE 3, psScanning), (F.WPT_PART_MAP_EN, 8), (⟨A.WPT_PART_MAP, 7, 6⟩, 3)]).setReg (A.WPT_NEXT 3) 65).onPart 3 (fun q => { q with scanPending := true, live := true }); { s with boot := { s.boot with tiles := [(255, true)] } }), by decide +kernel, by decide +kernel, _, rfl, _, rfl, by decide +kernel⟩,
   ⟨3, ((st [(F.HW_STATE_STATE, dsRun), (F.SYS_CLK_STAT_SRC, 1), (F.WPT_PSTATE_STATE 3, psScanning)]).setReg (A.WPT_NEXT 3) 2), by decide +kernel, by decide +kernel, _, rfl, _, 0, _, rfl, by decide +kernel, rfl, by decide +kernel⟩,
   ⟨3, ((st [(F.HW_STATE_STATE, dsRun), (F.SYS_CLK_STAT_SRC, 1), (F.WPT_PSTATE_STATE 3, psScanning)]).setReg (A.WPT_NEXT 3) 65).onPart 3 (fun q => { q with scanPending := true, guardLate := some true }), by decide +kernel, by decide +kernel, _, rfl, _, 0, _, rfl, by decide +kernel, rfl, by decide +kernel⟩,
   ⟨3, base, by decide +kernel⟩⟩

theorem witness_EngineActionsComplete :
  (∃ e : Fin 128, ∃ s : State, ∃ w, w = (engWord s e) ∧ ∃ c, (c ∈ [(0, Instr.iosNone e), (1, .iosSend e), (2, .iosSample e), (3, .iosXfer e), (4, .iosTake e), (5, .iosGive e), (6, .loadc e), (7, .reloadc e), (8, .accInc e), (9, .accDec e), (10, .accGive e), (11, .accClr e), (12, .flagSet e), (13, .flagClr e), (14, .raise e), (15, .drive e)]) ∧ (Steps s e c.1) ∧ (wFlow w = 3) ∧ (slotCond s e = false)) ∧
  (∃ e : Fin 128, ∃ s : State, ∃ w, w = (engWord s e) ∧ (wFlow w ≠ 3 ∨ slotCond s e = true) ∧ (Steps s e 0)) ∧
  (∃ e : Fin 128, ∃ s : State, ∃ w, w = (engWord s e) ∧ (wFlow w ≠ 3 ∨ slotCond s e = true) ∧ (Steps s e 1)) ∧
  (∃ e : Fin 128, ∃ s : State, ∃ w, w = (engWord s e) ∧ (wFlow w ≠ 3 ∨ slotCond s e = true) ∧ (Steps s e 2)) ∧
  (∃ e : Fin 128, ∃ s : State, ∃ w, w = (engWord s e) ∧ (wFlow w ≠ 3 ∨ slotCond s e = true) ∧ (Steps s e 3)) ∧
  (∃ e : Fin 128, ∃ s : State, ∃ x, x = (s.engine e) ∧ ∃ w, w = (engWord s e) ∧ (wFlow w ≠ 3 ∨ slotCond s e = true) ∧ (Steps s e 4) ∧ ∃ d, ∃ rest, (x.tx = d :: rest)) ∧
  (∃ e : Fin 128, ∃ s : State, ∃ x, x = (s.engine e) ∧ ∃ w, w = (engWord s e) ∧ (wFlow w ≠ 3 ∨ slotCond s e = true) ∧ (Steps s e 4) ∧ (x.tx = [])) ∧
  (∃ e : Fin 128, ∃ s : State, ∃ w, w = (engWord s e) ∧ (wFlow w ≠ 3 ∨ slotCond s e = true) ∧ (Steps s e 5)) ∧
  (∃ e : Fin 128, ∃ s : State, ∃ w, w = (engWord s e) ∧ (wFlow w ≠ 3 ∨ slotCond s e = true) ∧ (Steps s e 6)) ∧
  (∃ e : Fin 128, ∃ s : State, ∃ w, w = (engWord s e) ∧ (wFlow w ≠ 3 ∨ slotCond s e = true) ∧ (Steps s e 7)) ∧
  (∃ e : Fin 128, ∃ s : State, ∃ w, w = (engWord s e) ∧ (wFlow w ≠ 3 ∨ slotCond s e = true) ∧ (Steps s e 8)) ∧
  (∃ e : Fin 128, ∃ s : State, ∃ w, w = (engWord s e) ∧ (wFlow w ≠ 3 ∨ slotCond s e = true) ∧ (Steps s e 9)) ∧
  (∃ e : Fin 128, ∃ s : State, ∃ w, w = (engWord s e) ∧ (wFlow w ≠ 3 ∨ slotCond s e = true) ∧ (Steps s e 10)) ∧
  (∃ e : Fin 128, ∃ s : State, ∃ w, w = (engWord s e) ∧ (wFlow w ≠ 3 ∨ slotCond s e = true) ∧ (Steps s e 11)) ∧
  (∃ e : Fin 128, ∃ s : State, ∃ w, w = (engWord s e) ∧ (wFlow w ≠ 3 ∨ slotCond s e = true) ∧ (Steps s e 12)) ∧
  (∃ e : Fin 128, ∃ s : State, ∃ w, w = (engWord s e) ∧ (wFlow w ≠ 3 ∨ slotCond s e = true) ∧ (Steps s e 13)) ∧
  (∃ e : Fin 128, ∃ s : State, ∃ w, w = (engWord s e) ∧ (wFlow w ≠ 3 ∨ slotCond s e = true) ∧ (Steps s e 14)) ∧
  (∃ e : Fin 128, ∃ s : State, ∃ w, w = (engWord s e) ∧ (wFlow w ≠ 3 ∨ slotCond s e = true) ∧ (Steps s e 15)) ∧
  (∃ e : Fin 128, ∃ s : State, ∃ w, w = (engWord s e) ∧ (engSteps s e = true) ∧ (engReserved w = true)) :=
  ⟨⟨127, ((st [(F.HW_STATE_STATE, dsRun), (F.SYS_CLK_STAT_SRC, 1), (F.IOS_CTL_EN 127, 1), (F.IOS_STAT_STATE 127, esRunning), (F.IOS_PC_PC 127, 31), (F.IOS_CNT_VALUE 127, 9)]).setReg (A.IOS_SLOT 127 31) 0x62000000), _, rfl, _, List.mem_cons_self .., by decide +kernel⟩,
   ⟨127, (let s := st [(F.HW_STATE_STATE, dsRun), (F.SYS_CLK_STAT_SRC, 1), (F.IOS_CTL_EN 127, 1), (F.IOS_STAT_STATE 127, esRunning), (F.IOS_PC_PC 127, 31)]; (s.setReg (A.IOS_SLOT 127 31) 0x0)), _, rfl, by decide +kernel⟩,
   ⟨127, (let s := st [(F.HW_STATE_STATE, dsRun), (F.SYS_CLK_STAT_SRC, 1), (F.IOS_CTL_EN 127, 1), (F.IOS_STAT_STATE 127, esRunning), (F.IOS_PC_PC 127, 31), (F.IOS_PINA_OUT 127, 128), (F.IOS_BITS_SND 127, 32), (F.IOS_OPT_SNDLEN 127, 32), (F.IOS_SND_VALUE 127, 0xFFFFFFFF)]; (s.setReg (A.IOS_SLOT 127 31) 0x10000)), _, rfl, by decide +kernel⟩,
   ⟨127, (let s := st [(F.HW_STATE_STATE, dsRun), (F.SYS_CLK_STAT_SRC, 1), (F.IOS_CTL_EN 127, 1), (F.IOS_STAT_STATE 127, esRunning), (F.IOS_PC_PC 127, 31), (F.IOS_PINA_IN 127, 128), (F.IOS_BITS_CAP 127, 32)]; (s.setReg (A.IOS_SLOT 127 31) 0x20000)), _, rfl, by decide +kernel⟩,
   ⟨127, (let s := st [(F.HW_STATE_STATE, dsRun), (F.SYS_CLK_STAT_SRC, 1), (F.IOS_CTL_EN 127, 1), (F.IOS_STAT_STATE 127, esRunning), (F.IOS_PC_PC 127, 31), (F.IOS_PINA_IN 127, 128), (F.IOS_BITS_CAP 127, 32), (F.IOS_PINA_OUT 127, 128), (F.IOS_BITS_SND 127, 32), (F.IOS_OPT_SNDLEN 127, 32), (F.IOS_SND_VALUE 127, 0xFFFFFFFF)]; (s.setReg (A.IOS_SLOT 127 31) 0x30000)), _, rfl, by decide +kernel⟩,
   ⟨127, ((let s := st [(F.HW_STATE_STATE, dsRun), (F.SYS_CLK_STAT_SRC, 1), (F.IOS_CTL_EN 127, 1), (F.IOS_STAT_STATE 127, esRunning), (F.IOS_PC_PC 127, 31)]; (s.setReg (A.IOS_SLOT 127 31) 0x40000))).onEngine 127 (fun x => { x with tx := [7] }), _, rfl, _, rfl, by decide +kernel, by decide +kernel, (7 : BitVec 32), ([] : List (BitVec 32)), by decide +kernel⟩,
   ⟨127, ((st [(F.HW_STATE_STATE, dsRun), (F.SYS_CLK_STAT_SRC, 1), (F.IOS_CTL_EN 127, 1), (F.IOS_STAT_STATE 127, esRunning), (F.IOS_PC_PC 127, 31)]).setReg (A.IOS_SLOT 127 31) 0x40000), _, rfl, _, rfl, by decide +kernel⟩,
   ⟨127, (let s := st [(F.HW_STATE_STATE, dsRun), (F.SYS_CLK_STAT_SRC, 1), (F.IOS_CTL_EN 127, 1), (F.IOS_STAT_STATE 127, esRunning), (F.IOS_PC_PC 127, 31)]; (s.setReg (A.IOS_SLOT 127 31) 0x50000)), _, rfl, by decide +kernel⟩,
   ⟨127, (let s := st [(F.HW_STATE_STATE, dsRun), (F.SYS_CLK_STAT_SRC, 1), (F.IOS_CTL_EN 127, 1), (F.IOS_STAT_STATE 127, esRunning), (F.IOS_PC_PC 127, 31)]; (s.setReg (A.IOS_SLOT 127 31) 0x6FF00)), _, rfl, by decide +kernel⟩,
   ⟨127, (let s := st [(F.HW_STATE_STATE, dsRun), (F.SYS_CLK_STAT_SRC, 1), (F.IOS_CTL_EN 127, 1), (F.IOS_STAT_STATE 127, esRunning), (F.IOS_PC_PC 127, 31)]; (s.setReg (A.IOS_SLOT 127 31) 0x70000)), _, rfl, by decide +kernel⟩,
   ⟨127, (let s := st [(F.HW_STATE_STATE, dsRun), (F.SYS_CLK_STAT_SRC, 1), (F.IOS_CTL_EN 127, 1), (F.IOS_STAT_STATE 127, esRunning), (F.IOS_PC_PC 127, 31)]; (s.setReg (A.IOS_SLOT 127 31) 0x80000)), _, rfl, by decide +kernel⟩,
   ⟨127, (let s := st [(F.HW_STATE_STATE, dsRun), (F.SYS_CLK_STAT_SRC, 1), (F.IOS_CTL_EN 127, 1), (F.IOS_STAT_STATE 127, esRunning), (F.IOS_PC_PC 127, 31)]; (s.setReg (A.IOS_SLOT 127 31) 0x90000)), _, rfl, by decide +kernel⟩,
   ⟨127, (let s := st [(F.HW_STATE_STATE, dsRun), (F.SYS_CLK_STAT_SRC, 1), (F.IOS_CTL_EN 127, 1), (F.IOS_STAT_STATE 127, esRunning), (F.IOS_PC_PC 127, 31)]; (s.setReg (A.IOS_SLOT 127 31) 0xA0000)), _, rfl, by decide +kernel⟩,
   ⟨127, (let s := st [(F.HW_STATE_STATE, dsRun), (F.SYS_CLK_STAT_SRC, 1), (F.IOS_CTL_EN 127, 1), (F.IOS_STAT_STATE 127, esRunning), (F.IOS_PC_PC 127, 31)]; (s.setReg (A.IOS_SLOT 127 31) 0xB0000)), _, rfl, by decide +kernel⟩,
   ⟨127, (let s := st [(F.HW_STATE_STATE, dsRun), (F.SYS_CLK_STAT_SRC, 1), (F.IOS_CTL_EN 127, 1), (F.IOS_STAT_STATE 127, esRunning), (F.IOS_PC_PC 127, 31)]; (s.setReg (A.IOS_SLOT 127 31) 0xC0700)), _, rfl, by decide +kernel⟩,
   ⟨127, (let s := st [(F.HW_STATE_STATE, dsRun), (F.SYS_CLK_STAT_SRC, 1), (F.IOS_CTL_EN 127, 1), (F.IOS_STAT_STATE 127, esRunning), (F.IOS_PC_PC 127, 31)]; (s.setReg (A.IOS_SLOT 127 31) 0xD0700)), _, rfl, by decide +kernel⟩,
   ⟨127, (let s := st [(F.HW_STATE_STATE, dsRun), (F.SYS_CLK_STAT_SRC, 1), (F.IOS_CTL_EN 127, 1), (F.IOS_STAT_STATE 127, esRunning), (F.IOS_PC_PC 127, 31)]; (s.setReg (A.IOS_SLOT 127 31) 0xE0000)), _, rfl, by decide +kernel⟩,
   ⟨127, (let s := st [(F.HW_STATE_STATE, dsRun), (F.SYS_CLK_STAT_SRC, 1), (F.IOS_CTL_EN 127, 1), (F.IOS_STAT_STATE 127, esRunning), (F.IOS_PC_PC 127, 31)]; (s.setReg (A.IOS_SLOT 127 31) 0xF0100)), _, rfl, by decide +kernel⟩,
   ⟨127, (let s := st [(F.HW_STATE_STATE, dsRun), (F.SYS_CLK_STAT_SRC, 1), (F.IOS_CTL_EN 127, 1), (F.IOS_STAT_STATE 127, esRunning)]; s.setReg (A.IOS_SLOT 127 0) 0xA0000000), _, rfl, by decide +kernel⟩⟩

theorem witness_EngineControlCompletes :
  (∃ i : Agent, ∃ e : Fin 128, ∃ s : State, ∃ x, x = (s.engine e) ∧ (fifoAccepts s i e = true) ∧ (x.tx.length < 4)) ∧
  (∃ i : Agent, ∃ e : Fin 128, ∃ s : State, ∃ x, x = (s.engine e) ∧ (fifoAccepts s i e = true) ∧ (4 ≤ x.tx.length)) ∧
  (∃ i : Agent, ∃ e : Fin 128, ∃ s : State, ∃ x, x = (s.engine e) ∧ (fifoAccepts s i e = true) ∧ ∃ d, ∃ rest, (x.rx = d :: rest)) ∧
  (∃ i : Agent, ∃ e : Fin 128, ∃ s : State, ∃ x, x = (s.engine e) ∧ (fifoAccepts s i e = true) ∧ (x.rx = [])) ∧
  (∃ i : Agent, ∃ e : Fin 128, ∃ s : State, (fifoAccepts s i e = false) ∧ (s.flag F.IOS_ERR_VALID = false)) ∧
  (∃ e : Fin 128, ∃ s : State, (engLocked s e = false) ∧ (s.flag (F.IOS_CTL_EN e) = true)) ∧
  (∃ e : Fin 128, ∃ s : State, (engLocked s e = false) ∧ (s.flag (F.IOS_CTL_EN e) = false) ∧ (s.get (F.IOS_CTL_SYNC e) ≠ 3)) ∧
  (∃ e : Fin 128, ∃ s : State, ∃ sync : BitVec 2, (engLocked s e = false) ∧ (s.flag (F.IOS_CTL_EN e) = false) ∧ (enableCheck s e sync.toNat = 0)) ∧
  (∃ e : Fin 128, ∃ s : State, ∃ sync : BitVec 2, (engLocked s e = false) ∧ (s.flag (F.IOS_CTL_EN e) = false) ∧ (enableCheck s e sync.toNat ≠ 0) ∧ (s.flag F.IOS_ERR_VALID = false)) ∧
  (∃ e : Fin 128, ∃ s : State, ∃ sync : BitVec 2, ∃ start : BitVec 5, (engLocked s e = true) ∧ (s.flag F.IOS_ERR_VALID = false) ∧ ∃ c, (c ∈ [Instr.engineEnable e sync start, .engineDisable e, .txClr e, .rxClr e])) :=
  ⟨⟨(.sc 3), 127, (st [(F.IOS_OPT_SNDLEN 127, 0)]), _, rfl, by decide +kernel⟩,
   ⟨(.sc 3), 127, (base.onEngine 127 (fun x => { x with tx := [1, 2, 3, 4], rx := [5] })), _, rfl, by decide +kernel⟩,
   ⟨(.sc 3), 127, (base.onEngine 127 (fun x => { x with tx := [1, 2, 3, 4], rx := [5] })), _, rfl, by decide +kernel, (5 : BitVec 32), ([] : List (BitVec 32)), by decide +kernel⟩,
   ⟨(.sc 3), 127, (st [(F.IOS_OPT_SNDLEN 127, 0)]), _, rfl, by decide +kernel⟩,
   ⟨(.sc 3), 127, (st [(F.IOS_OWNER_OWNER 127, 11), (F.WPT_PSTATE_STATE 3, psScanning)]), by decide +kernel⟩,
   ⟨127, (st [(F.IOS_CTL_EN 127, 1)]), by decide +kernel⟩,
   ⟨127, (st [(F.IOS_OPT_SNDLEN 127, 0)]), by decide +kernel⟩,
   ⟨127, base, 2, by decide +kernel⟩,
   ⟨127, base, 3, by decide +kernel⟩,
   ⟨127, (st [(F.IOS_OWNER_OWNER 127, 11), (F.WPT_PSTATE_STATE 3, psScanning)]), 2, 31, by decide +kernel, by decide +kernel, _, List.mem_cons_self ..⟩⟩

theorem witness_PinCommandsComplete :
  (∃ i : Agent, ∃ n : Fin 320, ∃ v : BitVec 32, ∃ s : State, ∃ x, x = (v.setWidth 64) ∧ ∃ o, o = (pinOwner s n) ∧ ∃ o', o' = (bitsOf x 31 28) ∧ ∃ locked, locked = (i ≠ .debug ∧ ∃ p, ownerPart o = some p ∧ configurable s p = false) ∧ ∃ range, range = (ownerCodeOk o' = false ∨ bitsOf x 5 4 = 3) ∧ ∃ owned, owned = (cfgAccepts s i o = true ∧ cfgAccepts s i o' = true ∧ (o' = 12 ↔ o = 12)) ∧ (¬ locked) ∧ (¬ range) ∧ (owned)) ∧
  (∃ i : Agent, ∃ n : Fin 320, ∃ v : BitVec 32, ∃ s : State, ∃ x, x = (v.setWidth 64) ∧ ∃ o, o = (pinOwner s n) ∧ ∃ o', o' = (bitsOf x 31 28) ∧ ∃ locked, locked = (i ≠ .debug ∧ ∃ p, ownerPart o = some p ∧ configurable s p = false) ∧ ∃ range, range = (ownerCodeOk o' = false ∨ bitsOf x 5 4 = 3) ∧ ∃ owned, owned = (cfgAccepts s i o = true ∧ cfgAccepts s i o' = true ∧ (o' = 12 ↔ o = 12)) ∧ (s.flag F.PIN_ERR_VALID = false) ∧ (locked ∨ range ∨ ¬ owned)) ∧
  (∃ b : Fin 10, ∃ s : State, (s.flag (F.PIN_BANKSTAT_OK b) = true)) ∧
  (∃ b : Fin 10, ∃ s : State, (s.flag (F.PIN_BANKSTAT_OK b) = false)) ∧
  (∃ k : Fin 4, ∃ s : State, (s.isPriv (256 + k.val) = true)) ∧
  (∃ k : Fin 4, ∃ s : State, (s.isPriv (256 + k.val) = false)) :=
  ⟨⟨(.sc 3), 255, 1073741856, (core' 259 (fun c => c.setSr 259 srStatus 0) base), _, rfl, _, rfl, _, rfl, _, rfl, _, rfl, _, rfl, by decide +kernel⟩,
   ⟨(.sc 3), 255, 0xFFFFFFFF, (core' 259 (fun c => c.setSr 259 srStatus 0) base), _, rfl, _, rfl, _, rfl, _, rfl, _, rfl, _, rfl, by decide +kernel⟩,
   ⟨9, (st [(F.PIN_BANKSTAT_OK 9, 1)]), by decide +kernel⟩,
   ⟨9, (core' 259 (fun c => c.setSr 259 srStatus 0) base), by decide +kernel⟩,
   ⟨3, base, by decide +kernel⟩,
   ⟨3, (core' 259 (fun c => c.setSr 259 srStatus 0) base), by decide +kernel⟩⟩

theorem witness_ConversionCommandsComplete :
  (∃ i : Fin 32, ∃ s : State, (convDue s i = true)) ∧
  (∃ i : Fin 32, ∃ c : Conv, ∃ s : State, ((s.slice i).conv = some c) ∧ (c.start + 50 ≤ s.time.toNat)) ∧
  (∃ i : Fin 32, ∃ r : AdcResult, ∃ rest : List AdcResult, ∃ s : State, ((s.slice i).results = r :: rest) ∧ (r.input < 8)) ∧
  (∃ i : Fin 4, ∃ s : State, (trgDue s i = true)) ∧
  (∃ i : Fin 4, ∃ s : State, (s.flag (F.ADC_TRIGCFG_EN i) = true)) ∧
  (∃ i : Fin 4, ∃ s : State, (s.flag (F.ADC_TRIGCFG_EN i) = false)) ∧
  (∃ i : Fin 32, ∃ v : BitVec 32, ∃ s : State, (anaOff s = false) ∧ ∃ len, len = (v.toNat / 2 ^ 24 % 16) ∧ (sliceMode s i = 0) ∧ (1 ≤ len) ∧ (len ≤ 8)) ∧
  (∃ i : Fin 32, ∃ v : BitVec 32, ∃ s : State, (anaOff s = false) ∧ ∃ mode, mode = (v.toNat % 4) ∧ ∃ avg, avg = (v.toNat / 2 ^ 8 % 16) ∧ ∃ ready, ready = (s.flag F.ADC_REF_READY = true ∧ s.flag F.CAL_STATUS_BUSY = false) ∧ (sliceMode s i = 0) ∧ (mode ≠ 3) ∧ (avg ≤ 8) ∧ (mode = 0 ∨ ready)) ∧
  (∃ i : Fin 32, ∃ v : BitVec 32, ∃ s : State, (anaOff s = false) ∧ ∃ mode, mode = (v.toNat % 4) ∧ (sliceMode s i ≠ 0) ∧ (mode = 0) ∧ ((s.slice i).conv = none)) ∧
  (∃ i : Fin 32, ∃ v : BitVec 32, ∃ s : State, (anaOff s = false) ∧ ∃ mode, mode = (v.toNat % 4) ∧ (sliceMode s i ≠ 0) ∧ (mode = 0) ∧ ((s.slice i).conv ≠ none)) ∧
  (∃ i : Fin 32, ∃ v : BitVec 32, ∃ s : State, (anaOff s = false) ∧ ∃ mode, mode = (v.toNat % 4) ∧ (s.flag F.ADC_ERR_VALID = false) ∧ (sliceMode s i ≠ 0) ∧ (mode ≠ 0)) ∧
  (∃ i : Fin 32, ∃ v : BitVec 32, ∃ s : State, (anaOff s = false) ∧ ∃ len, len = (v.toNat / 2 ^ 24 % 16) ∧ (s.flag F.ADC_ERR_VALID = false) ∧ (sliceMode s i = 0) ∧ (len = 0 ∨ 8 < len)) ∧
  (∃ i : Fin 32, ∃ v : BitVec 32, ∃ s : State, (anaOff s = false) ∧ ∃ mode, mode = (v.toNat % 4) ∧ ∃ avg, avg = (v.toNat / 2 ^ 8 % 16) ∧ (s.flag F.ADC_ERR_VALID = false) ∧ (sliceMode s i = 0) ∧ (mode = 3 ∨ 8 < avg)) ∧
  (∃ i : Fin 32, ∃ v : BitVec 32, ∃ s : State, (anaOff s = false) ∧ ∃ mode, mode = (v.toNat % 4) ∧ ∃ avg, avg = (v.toNat / 2 ^ 8 % 16) ∧ ∃ ready, ready = (s.flag F.ADC_REF_READY = true ∧ s.flag F.CAL_STATUS_BUSY = false) ∧ (s.flag F.ADC_ERR_VALID = false) ∧ (sliceMode s i = 0) ∧ (mode = 1 ∨ mode = 2) ∧ (avg ≤ 8) ∧ (¬ ready)) ∧
  (∃ sel : Bool, ∃ s : State, (anaOff s = false) ∧ ∃ on, on = (∃ i, i < 32 ∧ sliceMode s i ≠ 0) ∧ (s.flag F.ADC_REF_SEL = sel ∨ ¬ on)) ∧
  (∃ sel : Bool, ∃ s : State, (anaOff s = false) ∧ ∃ on, on = (∃ i, i < 32 ∧ sliceMode s i ≠ 0) ∧ (s.flag F.ADC_REF_SEL ≠ sel) ∧ (on) ∧ (s.flag F.ADC_ERR_VALID = false)) ∧
  (∃ s : State, (s.flag F.ADC_REF_EN = true)) ∧
  (∃ s : State, (s.flag F.ADC_REF_EN = false)) :=
  ⟨⟨31, (st [(F.HW_STATE_STATE, dsRun), (F.SYS_CLK_STAT_SRC, 1), (F.ADC_SCFG_MODE 31, 1)]), by decide +kernel⟩,
   ⟨31, ⟨0, 7, [], [], (0, 0), false, false, 0⟩, (let s := (st [(F.HW_STATE_STATE, dsRun), (F.SYS_CLK_STAT_SRC, 1), ]).onSlice 31 (fun x => { x with conv := some ⟨0, 7, [], [], (0, 0), false, false, 0⟩ }); { s with time := 50 }), by decide +kernel⟩,
   ⟨31, ⟨7, 1, true, false⟩, ([] : List AdcResult), (st [(F.HW_STATE_STATE, dsRun), (F.SYS_CLK_STAT_SRC, 1), ]).onSlice 31 (fun x => { x with results := [⟨7, 1, true, false⟩] }), by decide +kernel⟩,
   ⟨3, (let s := st [(F.HW_STATE_STATE, dsRun), (F.SYS_CLK_STAT_SRC, 1), (F.ADC_TRIGCFG_EN 3, 1), (F.ADC_SCFG_MODE 31, 2), (F.ADC_SCFG_TRIG 31, 3)]; { s with time := 50, adc := { s.adc with trgPend := [(3, 50)] } }), by decide +kernel⟩,
   ⟨31, (let s := st [(F.HW_STATE_STATE, dsRun), (F.SYS_CLK_STAT_SRC, 1), (F.ADC_TRIGCFG_EN 3, 1), (F.ADC_SCFG_MODE 31, 2), (F.ADC_SCFG_TRIG 31, 3)]; { s with time := 50, adc := { s.adc with trgPend := [(3, 1)] } }), by decide +kernel⟩,
   ⟨31, base, by decide +kernel⟩,
   ⟨31, 0x8000000, base, by decide +kernel, _, rfl, by decide +kernel⟩,
   ⟨31, 0x8000000, base, by decide +kernel, _, rfl, _, rfl, _, rfl, by decide +kernel⟩,
   ⟨31, 0x8000000, (st [(F.HW_STATE_STATE, dsRun), (F.SYS_CLK_STAT_SRC, 1), (F.ADC_SCFG_MODE 31, 1)]), by decide +kernel, _, rfl, by decide +kernel⟩,
   ⟨31, 0x8000000, (st [(F.HW_STATE_STATE, dsRun), (F.SYS_CLK_STAT_SRC, 1), (F.ADC_SCFG_MODE 31, 1)]).onSlice 31 (fun x => { x with conv := some ⟨0, 7, [], [], (0, 0), false, false, 0⟩ }), by decide +kernel, _, rfl, by decide +kernel⟩,
   ⟨31, 0x802, (st [(F.HW_STATE_STATE, dsRun), (F.SYS_CLK_STAT_SRC, 1), (F.ADC_SCFG_MODE 31, 1)]), by decide +kernel, _, rfl, by decide +kernel⟩,
   ⟨31, 0x802, base, by decide +kernel, _, rfl, by decide +kernel⟩,
   ⟨31, 3, base, by decide +kernel, _, rfl, _, rfl, by decide +kernel⟩,
   ⟨31, 0x802, base, by decide +kernel, _, rfl, _, rfl, _, rfl, by decide +kernel⟩,
   ⟨true, (st [(F.ADC_REF_SEL, 1)]), by decide +kernel, _, rfl, Or.inl (by decide +kernel)⟩,
   ⟨true, (st [(F.ADC_SCFG_MODE 31, 1)]), by decide +kernel, _, rfl, by decide +kernel, ⟨31, by decide, by decide +kernel⟩, by decide +kernel⟩,
   ⟨(st [(F.ADC_REF_EN, 1)]), by decide +kernel⟩,
   ⟨base, by decide +kernel⟩⟩

theorem witness_RingCommandsComplete :
  (∃ i : Fin 32, ∃ s : State, (anaOff s = false) ∧ ∃ size : BitVec 5, ∃ base, base = ((s.reg (A.ADC_RBASE i)).toNat) ∧ ∃ fits, fits = (base % (4 * 2 ^ size.toNat) = 0 ∧ inDepot base = true ∧ inDepot (base + 4 * 2 ^ size.toNat - 1) = true) ∧ (s.flag (F.ADC_RCTL_EN i) = false) ∧ (6 ≤ size.toNat) ∧ (size.toNat ≤ 20) ∧ (fits)) ∧
  (∃ i : Fin 32, ∃ s : State, (anaOff s = false) ∧ (s.flag F.ADC_ERR_VALID = false) ∧ (s.flag (F.ADC_RCTL_EN i) = true)) ∧
  (∃ i : Fin 32, ∃ s : State, (anaOff s = false) ∧ ∃ size : BitVec 5, (s.flag F.ADC_ERR_VALID = false) ∧ (s.flag (F.ADC_RCTL_EN i) = false) ∧ (size.toNat < 6 ∨ 20 < size.toNat)) ∧
  (∃ i : Fin 32, ∃ s : State, (anaOff s = false) ∧ ∃ size : BitVec 5, ∃ base, base = ((s.reg (A.ADC_RBASE i)).toNat) ∧ ∃ fits, fits = (base % (4 * 2 ^ size.toNat) = 0 ∧ inDepot base = true ∧ inDepot (base + 4 * 2 ^ size.toNat - 1) = true) ∧ (s.flag F.ADC_ERR_VALID = false) ∧ (s.flag (F.ADC_RCTL_EN i) = false) ∧ (6 ≤ size.toNat) ∧ (size.toNat ≤ 20) ∧ (¬ fits)) ∧
  (∃ i : Fin 32, ∃ s : State, (anaOff s = false) ∧ ∃ v : BitVec 32, ∃ behind, behind = ((s.get (F.ADC_RWPTR_WPTR i) + 2 ^ 32 - v.toNat) % 2 ^ 32) ∧ (behind ≤ 2 ^ s.get (F.ADC_RCTL_SIZE i))) ∧
  (∃ i : Fin 32, ∃ s : State, (anaOff s = false) ∧ ∃ v : BitVec 32, ∃ behind, behind = ((s.get (F.ADC_RWPTR_WPTR i) + 2 ^ 32 - v.toNat) % 2 ^ 32) ∧ (2 ^ s.get (F.ADC_RCTL_SIZE i) < behind) ∧ (s.flag F.ADC_ERR_VALID = false)) ∧
  (∃ i : Fin 32, ∃ s : State, ∃ w : BitVec 32, ∃ rest : List (BitVec 32), ((s.slice i).ringq = w :: rest) ∧ (dmaFrozen s = false) ∧ (ringFill s i < 2 ^ (s.slice i).ringSize) ∧ ∃ n, n = (s.get (F.ADC_RWPTR_WPTR i)) ∧ ∃ a, a = ((s.slice i).ringBase + 4 * (n % 2 ^ (s.slice i).ringSize)) ∧ (zeroingAt s a = false) ∧ (inLockedCr s a = false) ∧ (inDepot a = true) ∧ (s.eccOf memDepot (a / 8) ≠ 2)) ∧
  (∃ i : Fin 32, ∃ s : State, ∃ w : BitVec 32, ∃ rest : List (BitVec 32), ((s.slice i).ringq = w :: rest) ∧ (dmaFrozen s = false) ∧ (ringFill s i < 2 ^ (s.slice i).ringSize) ∧ ∃ n, n = (s.get (F.ADC_RWPTR_WPTR i)) ∧ ∃ a, a = ((s.slice i).ringBase + 4 * (n % 2 ^ (s.slice i).ringSize)) ∧ (zeroingAt s a = false) ∧ (inLockedCr s a = true)) :=
  ⟨⟨31, (base.setReg (A.ADC_RBASE 31) 0x10C00000), by decide +kernel, 20, _, rfl, _, rfl, by decide +kernel⟩,
   ⟨31, (st [(F.ADC_RCTL_EN 31, 1)]), by decide +kernel⟩,
   ⟨31, base, by decide +kernel, 21, by decide +kernel⟩,
   ⟨31, base, by decide +kernel, 20, _, rfl, _, rfl, by decide +kernel⟩,
   ⟨31, base, by decide +kernel, 0, _, rfl, by decide +kernel⟩,
   ⟨31, (st [(F.ADC_RCTL_SIZE 31, 6), (F.ADC_RWPTR_WPTR 31, 2 ^ 32 - 1), (F.ADC_RRPTR_RPTR 31, 2 ^ 32 - 1), (F.SYS_CR_CTL_EN 7, 1), (F.SYS_CR_CTL_PART 7, 8), (F.SEC_MANIFEST_SEALED, 8), (F.WPT_PSTATE_STATE 3, psReady)]).onSlice 31 (fun x => { x with ringq := [7], ringBase := 0x10000000, ringSize := 6 }), by decide +kernel, 0, _, rfl, by decide +kernel⟩,
   ⟨31, (st [(F.ADC_RCTL_SIZE 31, 6), (F.ADC_RWPTR_WPTR 31, 2 ^ 32 - 1), (F.ADC_RRPTR_RPTR 31, 2 ^ 32 - 1)]).onSlice 31 (fun x => { x with ringq := [7], ringBase := 0x10000000, ringSize := 6 }), (7 : BitVec 32), ([] : List (BitVec 32)), by decide +kernel, by decide +kernel, by decide +kernel, _, rfl, _, rfl, by decide +kernel⟩,
   ⟨31, (st [(F.ADC_RCTL_SIZE 31, 6), (F.ADC_RWPTR_WPTR 31, 2 ^ 32 - 1), (F.ADC_RRPTR_RPTR 31, 2 ^ 32 - 1), (F.SYS_CR_CTL_EN 7, 1), (F.SYS_CR_CTL_PART 7, 8), (F.SEC_MANIFEST_SEALED, 8), (F.WPT_PSTATE_STATE 3, psReady)]).onSlice 31 (fun x => { x with ringq := [7], ringBase := 0x10000000, ringSize := 6 }), (7 : BitVec 32), ([] : List (BitVec 32)), by decide +kernel, by decide +kernel, by decide +kernel, _, rfl, _, rfl, by decide +kernel⟩⟩

theorem witness_CalibrationCommandsComplete :
  (∃ g : Fin 4, ∃ s : State, ∃ i, i = (8 * g.val + calSlice s g) ∧ (calPhase s g = 1) ∧ (calSlice s g < 8) ∧ (sliceMode s i = 0)) ∧
  (∃ g : Fin 4, ∃ s : State, ∃ i, i = (8 * g.val + calSlice s g) ∧ (calPhase s g = 1) ∧ (calSlice s g < 8) ∧ (sliceMode s i ≠ 0) ∧ (64 ≤ (s.calGroup g).cmpN) ∧ (mismatch s g = false)) ∧
  (∃ g : Fin 4, ∃ s : State, ∃ i, i = (8 * g.val + calSlice s g) ∧ (calPhase s g = 1) ∧ (calSlice s g < 8) ∧ (sliceMode s i ≠ 0) ∧ (64 ≤ (s.calGroup g).cmpN) ∧ (mismatch s g = true)) ∧
  (∃ g : Fin 4, ∃ s : State, (calPhase s g = 2) ∧ (calSlice s g < 8)) ∧
  (∃ g : Fin 4, ∃ s : State, (calPhase s g = 3) ∧ (calSlice s g < 8) ∧ (compares s g = true) ∧ (64 ≤ (s.calGroup g).cmpN) ∧ (mismatch s g = true)) ∧
  (∃ g : Fin 4, ∃ s : State, (calPhase s g = 3) ∧ (calSlice s g < 8) ∧ (compares s g = false ∨ (64 ≤ (s.calGroup g).cmpN ∧ mismatch s g = false))) ∧
  (∃ g : Fin 4, ∃ s : State, (calPhase s g = 4)) ∧
  (∃ s : State, (s.flag F.CAL_STATUS_BUSY = true) ∧ (s.get F.CAL_STATUS_CMD = 0) ∧ (s.flag F.PWR_DOM_STAT_ANA = true) ∧ (rowsBusy s = false)) ∧
  (∃ s : State, (s.flag F.CAL_STATUS_BUSY = false) ∧ (s.flag F.CAL_STATUS_FACTORY_VALID = true)) ∧
  (∃ s : State, (s.flag F.CAL_STATUS_BUSY = false) ∧ (s.flag F.CAL_STATUS_FACTORY_VALID = false)) ∧
  (∃ s : State, (s.flag F.CAL_STATUS_BUSY = false) ∧ (bankState s 8 ≠ fsIdle ∨ s.flash.pend.length < 16)) ∧
  (∃ s : State, (s.flag F.CAL_STATUS_BUSY = false) ∧ (bankState s 8 = fsIdle) ∧ (16 ≤ s.flash.pend.length)) ∧
  (∃ s : State, (s.flag F.CAL_STATUS_BUSY = true) ∧ (s.get F.CAL_STATUS_CMD = 1) ∧ (rotationEnded s = true) ∧ (s.onGrid 50 = true) ∧ (infoFree s = true) ∧ (s.pwr.nvmOff = false) ∧ ∃ u, u = (if s.flag F.CAL_STATUS_USER_VALID then (flashWord s (userRows + 0x20) 0).put F.CAL_STATUS_USER_VALID 0 else s) ∧ ∃ r, r = (layerRows u factoryRows) ∧ (r.1.isSome = true)) ∧
  (∃ s : State, (s.flag F.CAL_STATUS_BUSY = true) ∧ (s.get F.CAL_STATUS_CMD = 1) ∧ (rotationEnded s = true) ∧ (s.onGrid 50 = true) ∧ (infoFree s = true) ∧ (s.pwr.nvmOff = false) ∧ ∃ u, u = (if s.flag F.CAL_STATUS_USER_VALID then (flashWord s (userRows + 0x20) 0).put F.CAL_STATUS_USER_VALID 0 else s) ∧ ∃ r, r = (layerRows u factoryRows) ∧ (r.1.isSome = false)) ∧
  (∃ s : State, (s.flag F.CAL_STATUS_BUSY = true) ∧ (s.get F.CAL_STATUS_CMD = 2) ∧ (s.adc.commit = 8)) :=
  ⟨⟨3, (st [(F.CAL_GROUP_PHASE 3, 1), (F.CAL_GROUP_SLICE 3, 7)]), _, rfl, by decide +kernel⟩,
   ⟨3, (st [(F.CAL_GROUP_PHASE 3, 1), (F.CAL_GROUP_SLICE 3, 7), (F.ADC_SCFG_MODE 31, 1)]).setCalGroup 3 ⟨10, 64, 0⟩, _, rfl, by decide +kernel⟩,
   ⟨3, (st [(F.CAL_GROUP_PHASE 3, 1), (F.CAL_GROUP_SLICE 3, 7), (F.ADC_SCFG_MODE 31, 1)]).setCalGroup 3 ⟨2 ^ 40, 64, 0⟩, _, rfl, by decide +kernel⟩,
   ⟨3, (st [(F.CAL_GROUP_PHASE 3, 2), (F.CAL_GROUP_SLICE 3, 7), (F.ADC_SCFG_MODE 31, 1)]).setCalGroup 3 ⟨10, 64, 0⟩, by decide +kernel⟩,
   ⟨3, (st [(F.CAL_GROUP_PHASE 3, 3), (F.CAL_GROUP_SLICE 3, 7), (F.ADC_SCFG_MODE 31, 1)]).setCalGroup 3 ⟨2 ^ 40, 64, 0⟩, by decide +kernel⟩,
   ⟨3, (st [(F.CAL_GROUP_PHASE 3, 3), (F.CAL_GROUP_SLICE 3, 7), (F.ADC_SCFG_MODE 31, 1)]).setCalGroup 3 ⟨10, 64, 0⟩, by decide +kernel⟩,
   ⟨3, (st [(F.CAL_GROUP_PHASE 3, 4), (F.CAL_GROUP_SLICE 3, 8), (F.ADC_SCFG_MODE 31, 1)]).setCalGroup 3 ⟨10, 64, 0⟩, by decide +kernel⟩,
   ⟨(let s := base; { s with flash := { s.flash with pend := List.replicate 16 (0, 0) } }), by decide +kernel⟩,
   ⟨(st [(F.CAL_STATUS_BUSY, 0), (F.CAL_STATUS_FACTORY_VALID, 1)]), by decide +kernel⟩,
   ⟨(let s := st [(F.CAL_STATUS_BUSY, 0)]; { s with flash := { s.flash with pend := List.replicate 16 (0, 0) } }), by decide +kernel⟩,
   ⟨(st [(F.CAL_STATUS_BUSY, 0), (F.CAL_STATUS_FACTORY_VALID, 1)]), by decide +kernel⟩,
   ⟨(let s := st [(F.CAL_STATUS_BUSY, 0)]; { s with flash := { s.flash with pend := List.replicate 16 (0, 0) } }), by decide +kernel⟩,
   ⟨(st [(F.CAL_STATUS_BUSY, 1), (F.CAL_STATUS_CMD, 1)]), by decide +kernel, by decide +kernel, by decide +kernel, by decide +kernel, by decide +kernel, by decide +kernel, _, rfl, _, rfl, by decide +kernel⟩,
   ⟨(let s := st [(F.CAL_STATUS_BUSY, 1), (F.CAL_STATUS_CMD, 1)]; { s with flash := { s.flash with margin := [(factoryRows / 16, 7)] } }), by decide +kernel, by decide +kernel, by decide +kernel, by decide +kernel, by decide +kernel, by decide +kernel, _, rfl, _, rfl, by decide +kernel⟩,
   ⟨(let s := st [(F.CAL_STATUS_BUSY, 1), (F.CAL_STATUS_CMD, 2)]; { s with adc := { s.adc with commit := 8 } }), by decide +kernel⟩⟩

theorem witness_DmaCommandsComplete :
  (∃ g : Fin 16, ∃ s : State, ∃ v : BitVec 31, ∃ c, c = (dmaCheck s g (v.setWidth 64 ||| 0x80000000)) ∧ (s.flag (F.DMA_CTL_EN g) = false) ∧ (c = 0)) ∧
  (∃ g : Fin 16, ∃ s : State, ∃ v : BitVec 31, ∃ c, c = (dmaCheck s g (v.setWidth 64 ||| 0x80000000)) ∧ (s.flag F.DMA_ERR_VALID = false) ∧ (s.flag (F.DMA_CTL_EN g) = true ∨ c ≠ 0)) ∧
  (∃ g : Fin 16, ∃ s : State, (s.flag (F.DMA_CTL_EN g) = true) ∧ (s.dma.unit.read noUnit g = none)) ∧
  (∃ g : Fin 16, ∃ s : State, (s.flag (F.DMA_CTL_EN g) = true) ∧ (s.dma.unit.read noUnit g ≠ none)) ∧
  (∃ g : Fin 16, ∃ s : State, ∃ n, ∃ a, ∃ b, (n = (if s.flag (F.DMA_CTL_SIZE g) then 8 else 4)) ∧ (a = (s.reg (A.DMA_SRC g)).toNat) ∧ (b = (s.reg (A.DMA_DST g)).toNat) ∧ (coresClocked s = true) ∧ ((∀ j, j < 16 → s.dma.unit.read noUnit j = none)) ∧ (dmaFrozen s = false) ∧ ((∀ j, j < 32 → (s.slice j).ringq = [])) ∧ (roundRobin 16 s.dma.last (dmaReady s) = some g.val) ∧ (a % n = 0) ∧ (b % n = 0) ∧ (inTiles a = true) ∧ (inTiles b = true) ∧ (zeroingAt s a = false) ∧ (zeroingAt s b = false) ∧ (fabState s a = 0) ∧ (fabState s b = 0) ∧ (s.eccOf memTile (a / 8) ≠ 2) ∧ (s.eccOf memTile (b / 8) ≠ 2) ∧ (writeLocked s b = false) ∧ ((s.flag F.WPT_STAGE_CTL_BUSY = true → b < s.wpt.stage.2 ∨ s.wpt.stage.2 + 0x4000 ≤ b))) :=
  ⟨⟨15, (puts [(F.DMA_LEN_LEN 15, 8)] ((base.setReg (A.DMA_SRC 15) 0x20FFFFF8).setReg (A.DMA_DST 15) 0x20000000)), 1, _, rfl, by decide +kernel⟩,
   ⟨15, base, 1, _, rfl, by decide +kernel⟩,
   ⟨15, (st [(F.DMA_CTL_EN 15, 1)]), by decide +kernel⟩,
   ⟨15, (let s := st [(F.DMA_CTL_EN 15, 1)]; { s with dma := { s.dma with unit := [(15, some none)] } }), by decide +kernel⟩,
   ⟨15, (puts [(F.HW_STATE_STATE, dsRun), (F.DMA_CTL_EN 15, 1), (F.DMA_CTL_SIZE 15, 1), (F.DMA_LEN_LEN 15, 8)] ((base.setReg (A.DMA_SRC 15) 0x20FFFFF8).setReg (A.DMA_DST 15) 0x20000000)), 8, 0x20FFFFF8, 0x20000000, by decide +kernel, by decide +kernel, by decide +kernel, by decide +kernel, fun _ _ => rfl, by decide +kernel, fun _ _ => rfl, by decide +kernel⟩⟩

theorem witness_ConvoyMembershipCompletes :
  (∃ s : State, (formCheck s = 0)) ∧
  (∃ s : State, (formCheck s ≠ 0) ∧ (s.flag F.CVY_ERR_VALID = false)) ∧
  (∃ s : State, (s.role = roleForming) ∧ (linksUp s = false) ∧ (s.flag F.CVY_ERR_VALID = false)) ∧
  (∃ s : State, (s.role = roleForming) ∧ (linksUp s = true) ∧ ∃ voters, voters = (formVoters s) ∧ ∃ mine, mine = (inMask voters (me s)) ∧ ∃ stands, stands = (namedStandby s == some (me s)) ∧ ∃ k : Nat, ∃ rest : List Nat, (digestsAgree s = true) ∧ (mine = true ∨ stands = true) ∧ (membersOf voters = k :: rest)) ∧
  (∃ s : State, (s.role = roleForming) ∧ (linksUp s = true) ∧ ∃ voters, voters = (formVoters s) ∧ ∃ mine, mine = (inMask voters (me s)) ∧ ∃ stands, stands = (namedStandby s == some (me s)) ∧ (s.flag F.CVY_ERR_VALID = false) ∧ (digestsAgree s = false ∨ (mine = false ∧ stands = false))) ∧
  (∃ s : State, (inConvoy s = true)) ∧
  (∃ s : State, (inConvoy s = false)) ∧
  (∃ s : State, ∃ may, may = ((s.role == roleIdle || s.role == roleShoulder) && (assigned s).all (fun p => s.pstate p == psProvisioning)) ∧ ∃ mode, mode = (decide (1 ≤ convoyMode s) && decide (convoyMode s ≤ 3)) ∧ (may = true) ∧ (mode = true) ∧ (joinDiffers s = none)) ∧
  (∃ s : State, ∃ may, may = ((s.role == roleIdle || s.role == roleShoulder) && (assigned s).all (fun p => s.pstate p == psProvisioning)) ∧ ∃ mode, mode = (decide (1 ≤ convoyMode s) && decide (convoyMode s ≤ 3)) ∧ (s.flag F.CVY_ERR_VALID = false) ∧ (may = false ∨ mode = false ∨ (joinDiffers s).isSome = true)) ∧
  (∃ s : State, (s.role = roleJoining)) ∧
  (∃ s : State, (s.role ≠ roleForming) ∧ (s.role ≠ roleJoining)) :=
  ⟨⟨(st [(F.HW_STATE_STATE, dsRun), (F.CVY_CFG_MODE, 3), (F.CVY_CFG_MEMBERS, 15), (F.CVY_CFG_STANDBY, 3)]), by decide +kernel⟩,
   ⟨base, by decide +kernel⟩,
   ⟨(st [(F.CVY_STATE_ROLE, roleForming), (F.CVY_CFG_MEMBERS, 15)]), by decide +kernel⟩,
   ⟨(st [(F.CVY_STATE_ROLE, roleForming), (F.CVY_CFG_MEMBERS, 1)]), by decide +kernel, by decide +kernel, _, rfl, _, rfl, _, rfl, 0, ([] : List Nat), by decide +kernel⟩,
   ⟨(st [(F.CVY_STATE_ROLE, roleForming)]), by decide +kernel, by decide +kernel, _, rfl, _, rfl, _, rfl, by decide +kernel⟩,
   ⟨(st [(F.CVY_STATE_ROLE, roleVoter), (F.CVY_STATE_VOTERS, 15)]), by decide +kernel⟩,
   ⟨base, by decide +kernel⟩,
   ⟨(st [(F.HW_STATE_STATE, dsRun), (F.CVY_CFG_MODE, 3), (F.CVY_CFG_MEMBERS, 15), (F.CVY_CFG_STANDBY, 3)]), _, rfl, _, rfl, by decide +kernel⟩,
   ⟨base, _, rfl, _, rfl, by decide +kernel⟩,
   ⟨(st [(F.CVY_STATE_ROLE, roleJoining)]), by decide +kernel⟩,
   ⟨base, by decide +kernel⟩⟩

theorem witness_LinkCommandsComplete :
  (∃ j : Fin 3, ∃ s : State, ∃ en, en = (s.flag (F.CVY_PORT_CTL_EN j)) ∧ ∃ st, st = (portState s j) ∧ (en = true) ∧ ∃ c, (c = Instr.retrain j ∨ (c = .signalReturn j ∧ (st = lsDown ∨ st = lsDegraded ∨ st = lsDetect)))) ∧
  (∃ j : Fin 3, ∃ s : State, ∃ en, en = (s.flag (F.CVY_PORT_CTL_EN j)) ∧ (en = false)) ∧
  (∃ j : Fin 3, ∃ s : State, ∃ en, en = (s.flag (F.CVY_PORT_CTL_EN j)) ∧ ∃ st, st = (portState s j) ∧ (en = false ∨ (st ≠ lsDown ∧ st ≠ lsDegraded ∧ st ≠ lsDetect))) ∧
  (∃ j : Fin 3, ∃ s : State, ∃ st, st = (portState s j) ∧ ∃ m : Fin 4, ∃ port : Fin 3, (st = lsTrain) ∧ ∃ ok, ok = (decide (m.val = portPeer s j ∧ port.val + j.val = 2)) ∧ (ok = true) ∧ (seqsDiffer s j = true)) ∧
  (∃ j : Fin 3, ∃ s : State, ∃ st, st = (portState s j) ∧ ∃ m : Fin 4, ∃ port : Fin 3, (st = lsTrain) ∧ ∃ ok, ok = (decide (m.val = portPeer s j ∧ port.val + j.val = 2)) ∧ (ok = false)) ∧
  (∃ j : Fin 3, ∃ s : State, ∃ pair : Bool, ∃ other, other = (s.flag (if pair then F.CVY_PORT_STATUS_PAIR0_OK j else F.CVY_PORT_STATUS_PAIR1_OK j)) ∧ (portLive s j = true) ∧ (other = true) ∧ (seqsDiffer s j = true) ∧ (fewTries s j = true)) ∧
  (∃ j : Fin 3, ∃ s : State, ∃ pair : Bool, ∃ other, other = (s.flag (if pair then F.CVY_PORT_STATUS_PAIR0_OK j else F.CVY_PORT_STATUS_PAIR1_OK j)) ∧ (portLive s j = true) ∧ (other = false)) ∧
  (∃ j : Fin 3, ∃ s : State, (portLive s j = false)) ∧
  (∃ j : Fin 3, ∃ s : State, ∃ f, (oldestSent (s.link j).window = some f) ∧ (unacked s j f.seq = some f) ∧ (portLive s j = true)) ∧
  (∃ j : Fin 3, ∃ s : State, (oldestSent (s.link j).window = none)) ∧
  (∃ j : Fin 3, ∃ s : State, ∃ h : BitVec 60, ∃ ok : Bool, ∃ seq : BitVec 8, ∃ u : State, (rxFrame s j (hdrOf h) ok false = (u, true)) ∧ ∃ f, (unacked u j seq.toNat = some f)) ∧
  (∃ j : Fin 3, ∃ s : State, ∃ h : BitVec 60, ∃ ok : Bool, ∃ seq : BitVec 8, ∃ u : State, (rxFrame s j (hdrOf h) ok false = (u, true)) ∧ (unacked u j seq.toNat = none)) ∧
  (∃ s : State, (tracking s = true)) ∧
  (∃ s : State, (tracking s = false)) :=
  ⟨⟨2, (st [(F.CVY_PORT_CTL_EN 2, 1)]), _, rfl, _, rfl, by decide +kernel, (.retrain 2), Or.inl rfl⟩,
   ⟨2, (let s := st [(F.CVY_PORT_STATUS_STATE 2, lsTrain)]; s.setLink 2 { s.link 2 with window := [⟨3, 0, 0, 5, 0, 0, 0, 0, [], none, 0, 0, 0, false⟩] }), _, rfl, by decide +kernel⟩,
   ⟨2, (let s := st [(F.CVY_PORT_STATUS_STATE 2, lsTrain)]; s.setLink 2 { s.link 2 with window := [⟨3, 0, 0, 5, 0, 0, 0, 0, [], none, 0, 0, 0, false⟩] }), _, rfl, _, rfl, by decide +kernel⟩,
   ⟨2, (let s := st [(F.CVY_PORT_STATUS_STATE 2, lsTrain)]; s.setLink 2 { s.link 2 with window := [⟨3, 0, 0, 5, 0, 0, 0, 0, [], none, 0, 0, 0, false⟩] }), _, rfl, 3, 0, by decide +kernel, _, rfl, by decide +kernel⟩,
   ⟨2, (let s := st [(F.CVY_PORT_STATUS_STATE 2, lsTrain)]; s.setLink 2 { s.link 2 with window := [⟨3, 0, 0, 5, 0, 0, 0, 0, [], none, 0, 0, 0, false⟩] }), _, rfl, 0, 0, by decide +kernel, _, rfl, by decide +kernel⟩,
   ⟨2, (let s := st [(F.CVY_PORT_STATUS_STATE 2, lsUp), (F.CVY_PORT_STATUS_PAIR0_OK 2, 1)]; s.setLink 2 { s.link 2 with window := [⟨3, 0, 0, 5, 0, 0, 0, 0, [], none, 0, 0, 0, false⟩] }), true, _, rfl, by decide +kernel⟩,
   ⟨2, (let s := st [(F.CVY_PORT_STATUS_STATE 2, lsUp), (F.CVY_PORT_STATUS_PAIR0_OK 2, 1)]; s.setLink 2 { s.link 2 with window := [⟨3, 0, 0, 5, 0, 0, 0, 0, [], none, 0, 0, 0, false⟩] }), false, _, rfl, by decide +kernel⟩,
   ⟨2, (let s := st [(F.CVY_PORT_STATUS_STATE 2, lsTrain)]; s.setLink 2 { s.link 2 with window := [⟨3, 0, 0, 5, 0, 0, 0, 0, [], none, 0, 0, 0, false⟩] }), by decide +kernel⟩,
   ⟨2, (let s := st [(F.CVY_PORT_STATUS_STATE 2, lsUp), (F.CVY_PORT_STATUS_PAIR0_OK 2, 1)]; s.setLink 2 { s.link 2 with window := [⟨3, 0, 0, 5, 0, 0, 0, 0, [], none, 0, 0, 0, false⟩] }), _, rfl, by decide +kernel⟩,
   ⟨2, base, by decide +kernel⟩,
   ⟨2, (let s := st [(F.CVY_PORT_STATUS_STATE 2, lsUp), (F.CVY_PORT_STATUS_PAIR0_OK 2, 1)]; s.setLink 2 { s.link 2 with window := [⟨3, 0, 0, 5, 0, 0, 0, 0, [], none, 0, 0, 0, false⟩] }), 216172782231224320, true, 5, _, Prod.ext rfl (by decide +kernel), ⟨3, 0, 0, 5, 0, 0, 0, 0, [], none, 0, 0, 0, false⟩, by decide +kernel⟩,
   ⟨2, (let s := st [(F.CVY_PORT_STATUS_STATE 2, lsUp), (F.CVY_PORT_STATUS_PAIR0_OK 2, 1)]; s.setLink 2 { s.link 2 with window := [⟨3, 0, 0, 5, 0, 0, 0, 0, [], none, 0, 0, 0, false⟩] }), 216172782231224320, true, 0, _, Prod.ext rfl (by decide +kernel), by decide +kernel⟩,
   ⟨(st [(F.CVY_STATE_ROLE, roleVoter), (F.CVY_STATE_LEADER, 3)]), by decide +kernel⟩,
   ⟨(let s := st [(F.CVY_PORT_STATUS_STATE 2, lsTrain)]; s.setLink 2 { s.link 2 with window := [⟨3, 0, 0, 5, 0, 0, 0, 0, [], none, 0, 0, 0, false⟩] }), by decide +kernel⟩⟩

theorem witness_FramesAreTaken :
  (∃ j : Fin 3, ∃ hd : BitVec 60, ∃ ok : Bool, ∃ s : State, ∃ h, h = (hdrOf hd) ∧ ∃ u : State, (rxFrame s j h ok true = (u, false))) ∧
  (∃ j : Fin 3, ∃ hd : BitVec 60, ∃ ok : Bool, ∃ s : State, ∃ h, h = (hdrOf hd) ∧ ∃ p, p = (h.part) ∧ ∃ ws : List Word, ∃ u : State, (rxFrame s j h ok true = (u, true)) ∧ ∃ c, (c ∈ [(false, Instr.snap j hd ok ws), (true, .out j hd ok ws)]) ∧ ∃ x, x = (xchg u p c.1) ∧ ∃ mine, mine = (x.isOpen && x.wnum % 2 ^ 16 == h.wnum) ∧ (mine = true)) ∧
  (∃ j : Fin 3, ∃ hd : BitVec 60, ∃ ok : Bool, ∃ s : State, ∃ h, h = (hdrOf hd) ∧ ∃ p, p = (h.part) ∧ ∃ ws : List Word, ∃ u : State, (rxFrame s j h ok true = (u, true)) ∧ ∃ c, (c ∈ [(false, Instr.snap j hd ok ws), (true, .out j hd ok ws)]) ∧ ∃ x, x = (xchg u p c.1) ∧ ∃ mine, mine = (x.isOpen && x.wnum % 2 ^ 16 == h.wnum) ∧ (mine = false) ∧ (inConvoyP u p = true) ∧ (ahead x h.wnum = true)) ∧
  (∃ j : Fin 3, ∃ hd : BitVec 60, ∃ ok : Bool, ∃ s : State, ∃ h, h = (hdrOf hd) ∧ ∃ p, p = (h.part) ∧ ∃ u : State, (rxFrame s j h ok true = (u, true)) ∧ (u.role = roleJoining) ∧ (u.pstate p = psProvisioning)) ∧
  (∃ j : Fin 3, ∃ hd : BitVec 60, ∃ ok : Bool, ∃ s : State, ∃ h, h = (hdrOf hd) ∧ ∃ u : State, (rxFrame s j h ok true = (u, true)) ∧ (u.role = roleJoining) ∧ (mergeBusy u = false)) ∧
  (∃ j : Fin 3, ∃ hd : BitVec 60, ∃ ok : Bool, ∃ s : State, ∃ h, h = (hdrOf hd) ∧ ∃ p, p = (h.part) ∧ ∃ u : State, (rxFrame s j h ok false = (u, true)) ∧ ((xchg u p true).isOpen = true) ∧ ((xchg u p true).wnum % 2 ^ 16 = h.wnum)) ∧
  (∃ j : Fin 3, ∃ hd : BitVec 60, ∃ ok : Bool, ∃ s : State, ∃ h, h = (hdrOf hd) ∧ ∃ p, p = (h.part) ∧ ∃ u : State, (rxFrame s j h ok false = (u, true)) ∧ ∃ inp, inp = ((xchg u p false).isOpen && (xchg u p false).wnum % 2 ^ 16 == h.wnum) ∧ ((xchg u p (!inp)).isOpen = true) ∧ ((xchg u p (!inp)).wnum % 2 ^ 16 = h.wnum)) ∧
  (∃ j : Fin 3, ∃ hd : BitVec 60, ∃ ok : Bool, ∃ s : State, ∃ h, h = (hdrOf hd) ∧ ∃ u : State, (rxFrame s j h ok false = (u, true)) ∧ (inConvoy u = true)) ∧
  (∃ j : Fin 3, ∃ hd : BitVec 60, ∃ ok : Bool, ∃ s : State, ∃ h, h = (hdrOf hd) ∧ ∃ u : State, (rxFrame s j h ok false = (u, true)) ∧ (inConvoy u = false) ∧ (takesPart u h.src = true)) ∧
  (∃ j : Fin 3, ∃ hd : BitVec 60, ∃ ok : Bool, ∃ s : State, ∃ h, h = (hdrOf hd) ∧ ∃ u : State, (rxFrame s j h ok false = (u, true)) ∧ (tracking u = true) ∧ (portPeer u j = u.get F.CVY_STATE_LEADER)) ∧
  (∃ j : Fin 3, ∃ hd : BitVec 60, ∃ ok : Bool, ∃ s : State, ∃ h, h = (hdrOf hd) ∧ ∃ u : State, (rxFrame s j h ok false = (u, true)) ∧ (tracking u = false) ∧ (leads u = true)) ∧
  (∃ s : State, ∃ q : Fin 4, (inConvoy s = true) ∧ (auditOf s q = true)) ∧
  (∃ s : State, ∃ q : Fin 4, (inConvoy s = true) ∧ (auditOf s q = false) ∧ (startLegal s q = true ∨ s.pstate q = psHeld)) :=
  ⟨⟨2, 1080863910686359552, true, (let s := st [(F.CVY_STATE_ROLE, roleVoter), (F.LANE_AUDIT_STATUS_BUSY, 1)]; { s with mesh := { s.mesh with auditPart := 3 } }), _, rfl, _, Prod.ext rfl (by decide +kernel)⟩,
   ⟨2, 1080863910686359552, true, (st [(F.CVY_PORT_STATUS_STATE 2, lsUp), (F.CVY_STATE_ROLE, roleVoter)]).onCpart 3 (fun c => { c with inp := { Xchg.empty with isOpen := true, wnum := 7 } }), _, rfl, _, rfl, ([1, 2]), _, Prod.ext rfl (by decide +kernel), _, List.mem_cons_self .., _, rfl, _, rfl, by decide +kernel⟩,
   ⟨2, 1080863910686359552, true, (st [(F.CVY_PORT_STATUS_STATE 2, lsUp), (F.CVY_STATE_ROLE, roleVoter)]).onCpart 3 (fun c => { c with inp := { Xchg.empty with isOpen := true, wnum := 6 } }), _, rfl, _, rfl, ([1, 2]), _, Prod.ext rfl (by decide +kernel), _, List.mem_cons_self .., _, rfl, _, rfl, by decide +kernel⟩,
   ⟨2, 1080863910686359552, true, (st [(F.CVY_PORT_STATUS_STATE 2, lsUp), (F.CVY_STATE_ROLE, roleJoining), (F.WPT_PSTATE_STATE 3, psProvisioning)]), _, rfl, _, rfl, _, Prod.ext rfl (by decide +kernel), by decide +kernel⟩,
   ⟨2, 1080863910686359552, true, (st [(F.CVY_PORT_STATUS_STATE 2, lsUp), (F.CVY_STATE_ROLE, roleJoining), (F.WPT_PSTATE_STATE 3, psProvisioning)]), _, rfl, _, Prod.ext rfl (by decide +kernel), by decide +kernel⟩,
   ⟨2, 1080863910686359552, true, (st [(F.CVY_PORT_STATUS_STATE 2, lsUp), (F.CVY_STATE_ROLE, roleVoter)]).onCpart 3 (fun c => { c with out := { Xchg.empty with isOpen := true, wnum := 7 } }), _, rfl, _, rfl, _, Prod.ext rfl (by decide +kernel), by decide +kernel⟩,
   ⟨2, 1080863910686359552, true, (st [(F.CVY_PORT_STATUS_STATE 2, lsUp), (F.CVY_STATE_ROLE, roleVoter)]).onCpart 3 (fun c => { c with inp := { Xchg.empty with isOpen := true, wnum := 7 } }), _, rfl, _, rfl, _, Prod.ext rfl (by decide +kernel), _, rfl, by decide +kernel⟩,
   ⟨2, 1080863910686359552, true, (st [(F.CVY_PORT_STATUS_STATE 2, lsUp), (F.CVY_STATE_ROLE, roleVoter)]).onCpart 3 (fun c => { c with inp := { Xchg.empty with isOpen := true, wnum := 7 } }), _, rfl, _, Prod.ext rfl (by decide +kernel), by decide +kernel⟩,
   ⟨2, 1080863910686359552, true, (st [(F.CVY_PORT_STATUS_STATE 2, lsUp), (F.CVY_STATE_VOTERS, 15)]), _, rfl, _, Prod.ext rfl (by decide +kernel), by decide +kernel⟩,
   ⟨2, 1080863910686359552, true, (let s := st [(F.CVY_PORT_STATUS_STATE 2, lsUp), (F.CVY_STATE_ROLE, roleVoter), (F.CVY_STATE_LEADER, 3)]; { s with cvy := { s.cvy with aligned := true } }), _, rfl, _, Prod.ext rfl (by decide +kernel), by decide +kernel⟩,
   ⟨2, 1080863910686359552, true, (st [(F.CVY_PORT_STATUS_STATE 2, lsUp), (F.CVY_STATE_ROLE, roleVoter)]).onCpart 3 (fun c => { c with inp := { Xchg.empty with isOpen := true, wnum := 7 } }), _, rfl, _, Prod.ext rfl (by decide +kernel), by decide +kernel⟩,
   ⟨(let s := st [(F.CVY_STATE_ROLE, roleVoter), (F.LANE_AUDIT_STATUS_BUSY, 1)]; { s with mesh := { s.mesh with auditPart := 3 } }), 3, by decide +kernel⟩,
   ⟨(st [(F.HW_STATE_STATE, dsRun), (F.CVY_STATE_ROLE, roleVoter), (F.CVY_STATE_LEADER, 3), (F.WPT_PSTATE_STATE 3, psReady)]), 3, by decide +kernel⟩⟩

theorem witness_ConvoyDecisionsComplete :
  (∃ p : Fin 4, ∃ s : State, ∃ u, ∃ v, (exchangeVoters s p false = (u, v)) ∧ ((xchg s p false).isOpen = true) ∧ ((xchg s p false).decided = false) ∧ ((xchg s p false).closed = true ∨ receiptsFull s p false = true) ∧ (inConvoyP u p = true)) ∧
  (∃ p : Fin 4, ∃ s : State, ∃ u, ∃ v, (exchangeVoters s p false = (u, v)) ∧ ((xchg s p false).isOpen = true) ∧ ((xchg s p false).decided = false) ∧ ((xchg s p false).closed = true ∨ receiptsFull s p false = true) ∧ (inConvoyP u p = false)) ∧
  (∃ p : Fin 4, ∃ s : State, ((s.part p).scanPending = true) ∧ ((s.part p).live = false) ∧ ((s.part p).coPhase = 0) ∧ (auditOf s p = false) ∧ ((xchg s p false).decided = true) ∧ (s.pstate p = psScanning)) ∧
  (∃ p : Fin 4, ∃ s : State, ∃ u, ∃ v, (exchangeVoters s p true = (u, v)) ∧ ((xchg s p true).isOpen = true) ∧ ((xchg s p true).decided = false) ∧ ((xchg s p true).closed = true ∨ receiptsFull s p true = true) ∧ ∃ verdict, verdict = (fun k : Nat => (xchg u p true).verdict.read nat0 k) ∧ ∃ vs, vs = ((membersOf v).filter (fun k => verdict k != 2)) ∧ (vs = [])) ∧
  (∃ p : Fin 4, ∃ s : State, ∃ u, ∃ v, (exchangeVoters s p true = (u, v)) ∧ ((xchg s p true).isOpen = true) ∧ ((xchg s p true).decided = false) ∧ ((xchg s p true).closed = true ∨ receiptsFull s p true = true) ∧ ∃ verdict, verdict = (fun k : Nat => (xchg u p true).verdict.read nat0 k) ∧ ∃ vs, vs = ((membersOf v).filter (fun k => verdict k != 2)) ∧ ∃ late, late = (vs.any (fun k => verdict k == 1)) ∧ (late = true)) ∧
  (∃ p : Fin 4, ∃ s : State, ∃ u, ∃ v, (exchangeVoters s p true = (u, v)) ∧ ((xchg s p true).isOpen = true) ∧ ((xchg s p true).decided = false) ∧ ((xchg s p true).closed = true ∨ receiptsFull s p true = true) ∧ ∃ word, word = (fun k i : Nat => (xchg u p true).words.read zero64 (4096 * k + i)) ∧ ∃ verdict, verdict = (fun k : Nat => (xchg u p true).verdict.read nat0 k) ∧ ∃ vs, vs = ((membersOf v).filter (fun k => verdict k != 2)) ∧ ∃ n, n = (xchgLen u p true) ∧ ∃ late, late = (vs.any (fun k => verdict k == 1)) ∧ ∃ m : Nat → Word, (vs ≠ []) ∧ (late = false) ∧ ((∀ i, i < n → votedWord (vs.map (fun k => word k i)) = some (m i)))) ∧
  (∃ p : Fin 4, ∃ s : State, ∃ u, ∃ v, (exchangeVoters s p true = (u, v)) ∧ ((xchg s p true).isOpen = true) ∧ ((xchg s p true).decided = false) ∧ ((xchg s p true).closed = true ∨ receiptsFull s p true = true) ∧ ∃ word, word = (fun k i : Nat => (xchg u p true).words.read zero64 (4096 * k + i)) ∧ ∃ verdict, verdict = (fun k : Nat => (xchg u p true).verdict.read nat0 k) ∧ ∃ vs, vs = ((membersOf v).filter (fun k => verdict k != 2)) ∧ ∃ n, n = (xchgLen u p true) ∧ ∃ diag, diag = (vs.filter (fun k => (xchg u p true).flags.read nat0 k / 2 % 2 == 1)) ∧ ∃ late, late = (vs.any (fun k => verdict k == 1)) ∧ (late = false) ∧ ((∃ i, i < n ∧ votedWord (vs.map (fun k => word k i)) = none)) ∧ ∃ a, ∃ b, (vs = [a, b]) ∧ (diag = [a])) ∧
  (∃ p : Fin 4, ∃ s : State, ∃ u, ∃ v, (exchangeVoters s p true = (u, v)) ∧ ((xchg s p true).isOpen = true) ∧ ((xchg s p true).decided = false) ∧ ((xchg s p true).closed = true ∨ receiptsFull s p true = true) ∧ ∃ word, word = (fun k i : Nat => (xchg u p true).words.read zero64 (4096 * k + i)) ∧ ∃ verdict, verdict = (fun k : Nat => (xchg u p true).verdict.read nat0 k) ∧ ∃ vs, vs = ((membersOf v).filter (fun k => verdict k != 2)) ∧ ∃ n, n = (xchgLen u p true) ∧ ∃ diag, diag = (vs.filter (fun k => (xchg u p true).flags.read nat0 k / 2 % 2 == 1)) ∧ ∃ late, late = (vs.any (fun k => verdict k == 1)) ∧ (late = false) ∧ ((∃ i, i < n ∧ votedWord (vs.map (fun k => word k i)) = none)) ∧ ∃ a, ∃ b, (vs = [a, b]) ∧ (diag = [b])) ∧
  (∃ p : Fin 4, ∃ s : State, ∃ u, ∃ v, (exchangeVoters s p true = (u, v)) ∧ ((xchg s p true).isOpen = true) ∧ ((xchg s p true).decided = false) ∧ ((xchg s p true).closed = true ∨ receiptsFull s p true = true) ∧ ∃ word, word = (fun k i : Nat => (xchg u p true).words.read zero64 (4096 * k + i)) ∧ ∃ verdict, verdict = (fun k : Nat => (xchg u p true).verdict.read nat0 k) ∧ ∃ vs, vs = ((membersOf v).filter (fun k => verdict k != 2)) ∧ ∃ n, n = (xchgLen u p true) ∧ ∃ diag, diag = (vs.filter (fun k => (xchg u p true).flags.read nat0 k / 2 % 2 == 1)) ∧ ∃ late, late = (vs.any (fun k => verdict k == 1)) ∧ (late = false) ∧ ((∃ i, i < n ∧ votedWord (vs.map (fun k => word k i)) = none)) ∧ (vs.length = 3 ∨ (vs.length = 2 ∧ diag.length ≠ 1))) :=
  ⟨⟨3, (st [(F.CVY_STATE_ROLE, roleVoter), (F.CVY_STATE_VOTERS, 7), (F.WPT_SNAP_LEN_LEN 3, 1)]).onCpart 3 (fun c => { c with inp := { Xchg.empty with isOpen := true, wnum := 7, voters := 7, closed := true, got := [(0, true), (128, true), (256, true)], rcpt := [(0, some 7), (1, some 7), (2, some 7)], words := [(0, 5), (4096, 5), (8192, 6)] } }), _, _, rfl, by decide +kernel⟩,
   ⟨3, (st []).onCpart 3 (fun c => { c with inp := { Xchg.empty with isOpen := true, closed := true } }), _, _, rfl, by decide +kernel⟩,
   ⟨3, ((st [(F.HW_STATE_STATE, dsRun), (F.WPT_PSTATE_STATE 3, psScanning)]).onPart 3 (fun q => { q with scanPending := true })).onCpart 3 (fun c => { c with inp := { c.inp with decided := true } }), by decide +kernel⟩,
   ⟨3, (st [(F.CVY_STATE_ROLE, roleVoter), (F.CVY_STATE_VOTERS, 7), (F.CVY_OUTCOUNT_COUNT 3, 1)]).onCpart 3 (fun c => { c with out := { Xchg.empty with isOpen := true, wnum := 7, voters := 7, closed := true, got := [(0, true), (128, true), (256, true)], rcpt := [(0, some 7), (1, some 7), (2, some 7)], words := [(0, 5), (4096, 6), (8192, 7)], verdict := [(0, 2), (1, 2), (2, 2)] } }), _, _, rfl, by decide +kernel, by decide +kernel, by decide +kernel, _, rfl, _, rfl, by decide +kernel⟩,
   ⟨3, (st [(F.CVY_STATE_ROLE, roleVoter), (F.CVY_STATE_VOTERS, 7), (F.CVY_OUTCOUNT_COUNT 3, 1)]).onCpart 3 (fun c => { c with out := { Xchg.empty with isOpen := true, wnum := 7, voters := 7, closed := true, got := [(0, true), (128, true), (256, true)], rcpt := [(0, some 7), (1, some 7), (2, some 7)], words := [(0, 5), (4096, 6), (8192, 7)], verdict := [(0, 1), (1, 1), (2, 1)] } }), _, _, rfl, by decide +kernel, by decide +kernel, by decide +kernel, _, rfl, _, rfl, _, rfl, by decide +kernel⟩,
   ⟨3, (st [(F.CVY_STATE_ROLE, roleVoter), (F.CVY_STATE_VOTERS, 7), (F.CVY_OUTCOUNT_COUNT 3, 1)]).onCpart 3 (fun c => { c with out := { Xchg.empty with isOpen := true, wnum := 7, voters := 7, closed := true, got := [(0, true), (128, true), (256, true)], rcpt := [(0, some 7), (1, some 7), (2, some 7)], words := [(0, 5), (4096, 5), (8192, 5)] } }), _, _, rfl, by decide +kernel, by decide +kernel, by decide +kernel, _, rfl, _, rfl, _, rfl, _, rfl, _, rfl, 5, by decide +kernel⟩,
   ⟨3, (st [(F.CVY_STATE_ROLE, roleVoter), (F.CVY_STATE_VOTERS, 3), (F.CVY_OUTCOUNT_COUNT 3, 1)]).onCpart 3 (fun c => { c with out := { Xchg.empty with isOpen := true, wnum := 7, voters := 3, closed := true, got := [(0, true), (128, true), (256, true)], rcpt := [(0, some 3), (1, some 3), (2, some 3)], words := [(0, 5), (4096, 6), (8192, 7)], flags := [(0, 2)] } }), _, _, rfl, by decide +kernel, by decide +kernel, by decide +kernel, _, rfl, _, rfl, _, rfl, _, rfl, _, rfl, _, rfl, by decide +kernel, ⟨0, by decide +kernel, by decide +kernel⟩, 0, 1, by decide +kernel⟩,
   ⟨3, (st [(F.CVY_STATE_ROLE, roleVoter), (F.CVY_STATE_VOTERS, 3), (F.CVY_OUTCOUNT_COUNT 3, 1)]).onCpart 3 (fun c => { c with out := { Xchg.empty with isOpen := true, wnum := 7, voters := 3, closed := true, got := [(0, true), (128, true), (256, true)], rcpt := [(0, some 3), (1, some 3), (2, some 3)], words := [(0, 5), (4096, 6), (8192, 7)], flags := [(1, 2)] } }), _, _, rfl, by decide +kernel, by decide +kernel, by decide +kernel, _, rfl, _, rfl, _, rfl, _, rfl, _, rfl, _, rfl, by decide +kernel, ⟨0, by decide +kernel, by decide +kernel⟩, 0, 1, by decide +kernel⟩,
   ⟨3, (st [(F.CVY_STATE_ROLE, roleVoter), (F.CVY_STATE_VOTERS, 7), (F.CVY_OUTCOUNT_COUNT 3, 1)]).onCpart 3 (fun c => { c with out := { Xchg.empty with isOpen := true, wnum := 7, voters := 7, closed := true, got := [(0, true), (128, true), (256, true)], rcpt := [(0, some 7), (1, some 7), (2, some 7)], words := [(0, 5), (4096, 6), (8192, 7)] } }), _, _, rfl, by decide +kernel, by decide +kernel, by decide +kernel, _, rfl, _, rfl, _, rfl, _, rfl, _, rfl, _, rfl, by decide +kernel, ⟨0, by decide +kernel, by decide +kernel⟩, by decide +kernel⟩⟩

theorem witness_MergeAndAgreementMapComplete :
  (∃ (s : State) (v : BitVec 30), ∀ x : BitVec 3, x = 7 →
    let k := v.toNat / 2 ^ 28
    let a := if v.toNat % 2 ^ 16 < 64 then s else s.put F.CVY_MERGE_CTL_MINWPT (v.toNat % 2 ^ 16)
    let b := if mergeBusy a then a else a.put F.CVY_MERGE_CTL_JOINER k
    mergeCheck { b with free := b.free + 1 } k (x.getLsbD 0) (x.getLsbD 1) (x.getLsbD 2) = 0) ∧
  (∃ s : State, ∃ v : BitVec 30, ∃ k, k = (v.toNat / 2 ^ 28) ∧ ∃ a, a = (if v.toNat % 2 ^ 16 < 64 then s else s.put F.CVY_MERGE_CTL_MINWPT (v.toNat % 2 ^ 16)) ∧ ∃ b, b = (if mergeBusy a then a else a.put F.CVY_MERGE_CTL_JOINER k) ∧ ∃ d, d = (b.draw 3) ∧ ∃ c, c = (mergeCheck d.2 k (d.1.getLsbD 0) (d.1.getLsbD 1) (d.1.getLsbD 2)) ∧ (c ≠ 0) ∧ (s.flag F.CVY_ERR_VALID = false)) ∧
  (∃ s : State, (mergeBusy s = true)) ∧
  (∃ s : State, (mergeBusy s = false)) ∧
  (∃ s : State, ∃ p : Fin 4, (s.cvy.mergePart = some p.val) ∧ (arrived s p = true) ∧ ((s.cvy.mergeAt.read noRcpt p).isNone = true)) ∧
  (∃ s : State, ∃ p, p = (s.get F.CVY_AMAP_ADDR_PART) ∧ (amapLocked s p = false)) ∧
  (∃ s : State, ∃ p, p = (s.get F.CVY_AMAP_ADDR_PART) ∧ (amapLocked s p = true) ∧ (s.flag F.CVY_ERR_VALID = false)) :=
  ⟨(by
    refine ⟨merging, 3 * 2 ^ 28, ?_⟩
    rintro _ rfl
    have h1 : (3 * 2 ^ 28 : BitVec 30).toNat % 2 ^ 16 < 64 := by decide +kernel
    have h2 : ¬ mergeBusy merging = true := by decide +kernel
    simp only [if_pos h1, if_neg h2]
    refine merge_taken (by decide +kernel) ?_
    refine (merging_digest _ (by simp)).trans ?_
    unfold formDigest
    refine congrArg (fun l => sha256 (Config.formationBytes l)) ?_
    decide +kernel),
   ⟨base, 0x3FFFFFFF, _, rfl, _, rfl, _, rfl, _, rfl, _, rfl, merge_refused (by decide +kernel), by decide +kernel⟩,
   ⟨(st [(F.CVY_MERGE_STATUS_STATE, 1)]), by decide +kernel⟩,
   ⟨base, by decide +kernel⟩,
   ⟨(let s := (st [(F.CVY_MERGE_STATUS_STATE, 1)]).onPart 3 (fun q => { q with live := true }); { s with cvy := { s.cvy with mergePart := some 3 } }), 3, by decide +kernel⟩,
   ⟨base, _, rfl, by decide +kernel⟩,
   ⟨(st [(F.CVY_STATE_ROLE, roleVoter)]), _, rfl, by decide +kernel⟩⟩

theorem witness_FlashCommandsComplete :
  (∃ key : BitVec 8, ∃ bank : BitVec 4, ∃ layby : Bool, ∃ s : State, ∃ cmd, ∃ n, ∃ y, ∃ c, ((cmd, n, y, c) ∈ [(1, 0, false, Instr.prog key), (2, 0, false, .burst key), (3, 0, layby, .erase key layby), (4, bank.toNat, false, .suspend key bank), (5, bank.toNat, false, .resume key bank)]) ∧ (flcCheck s key.toNat cmd n y ≠ 0)) ∧
  (∃ key : BitVec 8, ∃ s : State, ∃ a, a = ((s.reg A.FLC_ADDR).toNat) ∧ ∃ b, ∃ j, (flashAt a = some (b, j)) ∧ (flcCheck s key.toNat 1 0 false = 0) ∧ (progCheck s a (bufWord s 0) = 0)) ∧
  (∃ key : BitVec 8, ∃ s : State, ∃ a, a = ((s.reg A.FLC_ADDR).toNat) ∧ ∃ b, ∃ j, (flashAt a = some (b, j)) ∧ (flcCheck s key.toNat 1 0 false = 0) ∧ (progCheck s a (bufWord s 0) ≠ 0)) ∧
  (∃ key : BitVec 8, ∃ s : State, ∃ a, a = ((s.reg A.FLC_ADDR).toNat) ∧ ∃ b, ∃ j, (flashAt a = some (b, j)) ∧ (flcCheck s key.toNat 2 0 false = 0) ∧ ((∀ i, i < 8 → progCheck s (a + 16 * i) (bufWord s i) = 0))) ∧
  (∃ key : BitVec 8, ∃ s : State, ∃ a, a = ((s.reg A.FLC_ADDR).toNat) ∧ ∃ b, ∃ j, (flashAt a = some (b, j)) ∧ (flcCheck s key.toNat 2 0 false = 0) ∧ ∃ n, (n < 8) ∧ (progCheck s (a + 16 * n) (bufWord s n) ≠ 0) ∧ ((∀ i, i < n → progCheck s (a + 16 * i) (bufWord s i) = 0))) ∧
  (∃ key : BitVec 8, ∃ layby : Bool, ∃ s : State, ∃ a, a = ((s.reg A.FLC_ADDR).toNat) ∧ ∃ b, ∃ j, (flashAt a = some (b, j)) ∧ (flcCheck s key.toNat 3 0 layby = 0)) ∧
  (∃ key : BitVec 8, ∃ bank : BitVec 4, ∃ s : State, ∃ e : Erase, ((flEng s bank.toNat).erase = some e) ∧ (flcCheck s key.toNat 4 bank.toNat false = 0) ∧ (e.phase = 1) ∧ (1000 * s.get F.FLC_CFG_MINRUN ≤ s.time.toNat - e.since)) ∧
  (∃ key : BitVec 8, ∃ bank : BitVec 4, ∃ s : State, ∃ e : Erase, ((flEng s bank.toNat).erase = some e) ∧ (flcCheck s key.toNat 4 bank.toNat false = 0) ∧ (e.phase = 1) ∧ (s.time.toNat - e.since < 1000 * s.get F.FLC_CFG_MINRUN)) ∧
  (∃ key : BitVec 8, ∃ bank : BitVec 4, ∃ s : State, ∃ e : Erase, ((flEng s bank.toNat).erase = some e) ∧ (flcCheck s key.toNat 5 bank.toNat false = 0) ∧ (e.phase = 3) ∧ ((flEng s bank.toNat).prog = none)) :=
  ⟨⟨0xC4, 8, false, base, _, _, _, _, List.mem_cons_self .., by decide +kernel⟩,
   ⟨0xC5, (st []).setReg A.FLC_ADDR 0x1FBFFF0, _, rfl, 7, 119, by decide +kernel⟩,
   ⟨0xC5, (let s := (st []).setReg A.FLC_ADDR 0x1FBFFF0; { s with mem := [(0x1FBFFF0, 0)] }), _, rfl, 7, 119, by decide +kernel⟩,
   ⟨0xC5, (st []).setReg A.FLC_ADDR 0x1FBFF80, _, rfl, 7, 119, by decide +kernel, by decide +kernel, by intro i h; interval_cases i <;> decide +kernel⟩,
   ⟨0xC5, (let s := (st []).setReg A.FLC_ADDR 0x1FBFF80; { s with mem := [(0x1FBFFF0, 0)] }), _, rfl, 7, 119, by decide +kernel, by decide +kernel, 7, by decide +kernel⟩,
   ⟨0xC5, false, (st []).setReg A.FLC_ADDR 0x1FBFFF0, _, rfl, 7, 119, by decide +kernel⟩,
   ⟨0xC5, 8, ({ (setFlEng (st [(F.FLC_BSTAT_STATE 8, fsErase)]) 8 { erase := some ⟨7, 1, 0, 0, 0, false, false, false⟩, prog := none }) with time := 1000000 }), ⟨7, 1, 0, 0, 0, false, false, false⟩, by decide +kernel⟩,
   ⟨0xC5, 8, (setFlEng (st [(F.FLC_BSTAT_STATE 8, fsErase), (F.FLC_CFG_MINRUN, 1)]) 8 { erase := some ⟨7, 1, 0, 0, 0, false, false, false⟩, prog := none }), ⟨7, 1, 0, 0, 0, false, false, false⟩, by decide +kernel⟩,
   ⟨0xC5, 8, (setFlEng (st [(F.FLC_BSTAT_STATE 8, fsSuspended)]) 8 { erase := some ⟨7, 3, 0, 0, 0, false, false, false⟩, prog := none }), ⟨7, 3, 0, 0, 0, false, false, false⟩, by decide +kernel⟩⟩

theorem erased_word {d : BitVec 128} {c : BitVec 9} (h : sense d c = .erased) : d = BitVec.allOnes 128 := by
  unfold sense at h
  split at h
  · rename_i h1; exact h1.1
  · simp only at h
    split at h
    · split at h <;> cases h
    · split at h
      · cases h
      · split at h
        · cases h
        · split at h <;> cases h

theorem byte_of_erased {s : State} {a : Nat} (ha : a / 16 * 16 = a) (h : wordData s a = BitVec.allOnes 128) : (s.byte a).toNat = 255 := by
  have h1 := congrArg BitVec.toNat h
  simp only [wordData, ha, State.bytes, BitVec.toNat_ofNat, BitVec.toNat_allOnes] at h1
  have := (s.byte a).isLt
  omega

/-- A log page each of whose entries has a first byte that is not erased is full. -/
theorem logFull_of {s : State} {n : Nat} (hp : activePage s = n)
    (h : (entryAddrs n).all (fun a => a / 16 * 16 == a && (s.byte a).toNat != 255) = true) : logFull s = true := by
  have he : freeEntries s (activePage s) = [] := by
    rw [hp]
    unfold freeEntries
    rw [List.filter_eq_nil_iff]
    intro a ha h1
    have h3 := List.all_eq_true.mp h a ha
    simp only [Bool.and_eq_true, beq_iff_eq, bne_iff_ne] at h3
    exact h3.2 (byte_of_erased h3.1 (erased_word (eq_of_beq h1)))
  simp [logFull, he]

theorem witness_FlashProgressCompletes :
  (∃ k : Fin 9, ∃ s : State, ∃ p : Prog, ((flEng s k).prog = some p)) ∧
  (∃ k : Fin 9, ∃ s : State, ∃ e : Erase, ((flEng s k).erase = some e) ∧ (e.phase = 0) ∧ (s.flash.move = none) ∧ (logFull s = false)) ∧
  (∃ k : Fin 9, ∃ s : State, ∃ e : Erase, ((flEng s k).erase = some e) ∧ (e.phase = 0) ∧ (s.flash.move = none) ∧ (logFull s = true)) ∧
  (∃ k : Fin 9, ∃ s : State, ∃ e : Erase, ((flEng s k).erase = some e) ∧ (e.phase = 4) ∧ (s.flash.move = none)) ∧
  (∃ k : Fin 9, ∃ s : State, ∃ e : Erase, ((flEng s k).erase = some e) ∧ (s.bitAt F.FLC_CFG_AUTOSUS k = true) ∧ (e.phase = 1) ∧ (1000 * s.get F.FLC_CFG_MINRUN ≤ s.time.toNat - e.since)) ∧
  (∃ k : Fin 9, ∃ s : State, ∃ e : Erase, ((flEng s k).erase = some e) ∧ (s.bitAt F.FLC_CFG_AUTOSUS k = true) ∧ (e.phase = 1) ∧ (s.time.toNat - e.since < 1000 * s.get F.FLC_CFG_MINRUN)) ∧
  (∃ k : Fin 9, ∃ s : State, ∃ e : Erase, ((flEng s k).erase = some e) ∧ (e.phase = 1) ∧ (e.held ≠ 0)) ∧
  (∃ k : Fin 9, ∃ s : State, ∃ e : Erase, ((flEng s k).erase = some e) ∧ (e.phase = 2)) ∧
  (∃ k : Fin 9, ∃ s : State, ∃ e : Erase, ((flEng s k).erase = some e) ∧ (e.auto = true) ∧ (e.phase = 3) ∧ ((flEng s k).prog = none)) ∧
  (∃ k : Fin 9, ∃ s : State, (s.bitAt F.FLC_CFG_AUTOSUS k = false)) ∧
  (∃ k : Fin 9, ∃ s : State, ((flEng s k).erase = none) ∧ ∃ ok, ∃ c, (c ∈ [Instr.eraseMarkerDone k, .eraseEnd k ok, .eraseMarkerCleared k, .autoSuspend k, .minrunElapsed k, .suspendDone k, .autoSuspendEnd k])) ∧
  (∃ s : State, ∃ page, (s.flash.move = some page)) ∧
  (∃ s : State, ∃ level, (s.pads.wpN ≠ level)) ∧
  (∃ s : State, ∃ level, (s.pads.wpN = level)) :=
  ⟨⟨7, (setFlEng base 7 { erase := none, prog := some ⟨0x1FFFFE0, [5, 6]⟩ }), ⟨0x1FFFFE0, [5, 6]⟩, by decide +kernel⟩,
   ⟨7, (setFlEng (st []) 7 { erase := some ⟨119, 0, 0, 0, 0, false, false, false⟩, prog := none }), ⟨119, 0, 0, 0, 0, false, false, false⟩, by decide +kernel⟩,
   ⟨7, ({ (setFlEng (st []) 7 { erase := some ⟨119, 0, 0, 0, 0, false, false, false⟩, prog := none }) with mem := (List.range 128).map (fun i => (0x8006000 + 16 * i, 0)) }), ⟨119, 0, 0, 0, 0, false, false, false⟩, by decide +kernel, by decide +kernel, by decide +kernel, logFull_of (n := 12) (by decide +kernel) (by decide +kernel)⟩,
   ⟨7, (setFlEng (st []) 7 { erase := some ⟨119, 4, 0, 0, 0, false, false, false⟩, prog := none }), ⟨119, 4, 0, 0, 0, false, false, false⟩, by decide +kernel⟩,
   ⟨7, ({ (setFlEng (st [(⟨A.FLC_CFG, 8, 0⟩, 511)]) 7 { erase := some ⟨119, 1, 0, 0, 0, false, false, false⟩, prog := none }) with time := 65535000 }), ⟨119, 1, 0, 0, 0, false, false, false⟩, by decide +kernel⟩,
   ⟨7, (setFlEng (st [(⟨A.FLC_CFG, 8, 0⟩, 511), (F.FLC_CFG_MINRUN, 1)]) 7 { erase := some ⟨119, 1, 0, 0, 0, false, false, false⟩, prog := none }), ⟨119, 1, 0, 0, 0, false, false, false⟩, by decide +kernel⟩,
   ⟨7, (setFlEng (st []) 7 { erase := some ⟨119, 1, 0, 0, 1, false, false, false⟩, prog := none }), ⟨119, 1, 0, 0, 1, false, false, false⟩, by decide +kernel⟩,
   ⟨7, (setFlEng (st []) 7 { erase := some ⟨119, 2, 0, 0, 0, false, false, false⟩, prog := none }), ⟨119, 2, 0, 0, 0, false, false, false⟩, by decide +kernel⟩,
   ⟨7, (setFlEng (st []) 7 { erase := some ⟨119, 3, 0, 0, 0, true, false, false⟩, prog := none }), ⟨119, 3, 0, 0, 0, true, false, false⟩, by decide +kernel⟩,
   ⟨7, (setFlEng base 7 { erase := none, prog := some ⟨0x1FFFFE0, [5, 6]⟩ }), by decide +kernel⟩,
   ⟨7, base, by decide +kernel, true, _, List.mem_cons_self ..⟩,
   ⟨(let s := st [(F.FLC_STAT_LOG_BUSY, 1)]; { s with flash := { s.flash with move := some 13 } }), 13, by decide +kernel⟩,
   ⟨base, true, by decide +kernel⟩,
   ⟨base, false, by decide +kernel⟩⟩

theorem witness_OctalFramesBegin :
  (∃ x : Fin 2, ∃ s : State, ∃ p, p = (s.xport x) ∧ ∃ r, ∃ rest, (p.req = none) ∧ (p.queue = r :: rest) ∧ (mayStart s x = true) ∧ (r.init ≠ xiManual) ∧ (r.write = false)) ∧
  (∃ x : Fin 2, ∃ s : State, ∃ p, p = (s.xport x) ∧ ∃ r, ∃ rest, (p.req = none) ∧ (p.queue = r :: rest) ∧ (mayStart s x = true) ∧ (r.init ≠ xiManual) ∧ (r.write = true) ∧ (csType s x r.cs = 0)) ∧
  (∃ x : Fin 2, ∃ s : State, ∃ p, p = (s.xport x) ∧ ∃ r, ∃ rest, (p.req = none) ∧ (p.queue = r :: rest) ∧ (mayStart s x = true) ∧ (r.init ≠ xiManual) ∧ (r.write = true) ∧ (csType s x r.cs = 1)) ∧
  (∃ x : Fin 2, ∃ s : State, ∃ p, p = (s.xport x) ∧ ∃ r, (p.req = some r) ∧ (mayStart s x = true) ∧ (p.step = 1)) ∧
  (∃ x : Fin 2, ∃ s : State, ∃ p, p = (s.xport x) ∧ ∃ r, (p.req = some r) ∧ (mayStart s x = true) ∧ ∃ a, ∃ d, ∃ rest, (p.step = 2) ∧ (p.pieces = (a, d) :: rest)) ∧
  (∃ x : Fin 2, ∃ s : State, (mayStart s x = false) ∧ ∃ c, (c ∈ [Instr.xspReadFrame x, .xspMemoryWrite x, .flashWriteTranslate x])) ∧
  (∃ x : Fin 2, ∃ s : State, ∃ p, p = (s.xport x) ∧ ∃ fmt, fmt = ((fun (a : Nat) => ((s.reg a).setWidth 32 : BitVec 32))) ∧ ∃ v : BitVec 31, ∃ cs, cs = (v.toNat / 2 ^ 26 % 4) ∧ ∃ len, len = (v.toNat % 128) ∧ ∃ busy, busy = (s.flag (F.XSP_MAN_CTL_BUSY x)) ∧ ∃ on, on = (s.flag (F.XSP_CSCFG_EN x cs)) ∧ ∃ reserved, reserved = (fmtReserved (fmt (A.XSP_MAN_FMT x))) ∧ (len ≤ 64) ∧ (busy = false) ∧ (on = true) ∧ (reserved = false) ∧ (p.req = none) ∧ (p.queue = []) ∧ (mayStart s x = true)) ∧
  (∃ x : Fin 2, ∃ s : State, ∃ p, p = (s.xport x) ∧ ∃ fmt, fmt = ((fun (a : Nat) => ((s.reg a).setWidth 32 : BitVec 32))) ∧ ∃ v : BitVec 31, ∃ cs, cs = (v.toNat / 2 ^ 26 % 4) ∧ ∃ len, len = (v.toNat % 128) ∧ ∃ busy, busy = (s.flag (F.XSP_MAN_CTL_BUSY x)) ∧ ∃ on, on = (s.flag (F.XSP_CSCFG_EN x cs)) ∧ ∃ reserved, reserved = (fmtReserved (fmt (A.XSP_MAN_FMT x))) ∧ (len ≤ 64) ∧ (busy = false) ∧ (on = true) ∧ (reserved = false) ∧ (p.req ≠ none ∨ mayStart s x = false ∨ (∃ h, p.queue.head? = some h ∧ h.init ≠ xiManual))) ∧
  (∃ x : Fin 2, ∃ s : State, ∃ p, p = (s.xport x) ∧ ∃ v : BitVec 31, ∃ len, len = (v.toNat % 128) ∧ (p.req ≠ none ∨ mayStart s x = false ∨ (∀ h, p.queue.head? = some h → h.init ≠ xiManual)) ∧ (64 < len)) ∧
  (∃ x : Fin 2, ∃ s : State, ∃ p, p = (s.xport x) ∧ ∃ v : BitVec 31, ∃ cs, cs = (v.toNat / 2 ^ 26 % 4) ∧ ∃ len, len = (v.toNat % 128) ∧ ∃ busy, busy = (s.flag (F.XSP_MAN_CTL_BUSY x)) ∧ ∃ on, on = (s.flag (F.XSP_CSCFG_EN x cs)) ∧ (p.req ≠ none ∨ mayStart s x = false ∨ (∀ h, p.queue.head? = some h → h.init ≠ xiManual)) ∧ (len ≤ 64) ∧ (busy = true ∨ on = false)) ∧
  (∃ x : Fin 2, ∃ s : State, ∃ p, p = (s.xport x) ∧ ∃ fmt, fmt = ((fun (a : Nat) => ((s.reg a).setWidth 32 : BitVec 32))) ∧ ∃ v : BitVec 31, ∃ cs, cs = (v.toNat / 2 ^ 26 % 4) ∧ ∃ len, len = (v.toNat % 128) ∧ ∃ busy, busy = (s.flag (F.XSP_MAN_CTL_BUSY x)) ∧ ∃ on, on = (s.flag (F.XSP_CSCFG_EN x cs)) ∧ ∃ reserved, reserved = (fmtReserved (fmt (A.XSP_MAN_FMT x))) ∧ (p.req ≠ none ∨ mayStart s x = false ∨ (∀ h, p.queue.head? = some h → h.init ≠ xiManual)) ∧ (len ≤ 64) ∧ (busy = false) ∧ (on = true) ∧ (reserved = true)) ∧
  (∃ x : Fin 2, ∃ s : State, ∃ p, p = (s.xport x) ∧ ∃ h, ∃ rest, (p.req = none) ∧ (p.queue = h :: rest) ∧ (h.init = xiManual) ∧ (mayStart s x = true)) ∧
  (∃ x : Fin 2, ∃ s : State, ∃ c : Fin 4, ∃ v : BitVec 31, ∃ w, w = ((v.setWidth 64 ||| 0x80000000#64 : Word)) ∧ ∃ on, on = (s.flag (F.XSP_CSCFG_EN x c)) ∧ ∃ fits, fits = (bitsOf w 30 29 ≠ 3 ∧ bitsOf w 28 27 ≠ 3 ∧ bitsOf w 20 16 ≤ 16) ∧ (on = false) ∧ (fits) ∧ (csCheck s x c w = 0)) ∧
  (∃ x : Fin 2, ∃ s : State, ∃ c : Fin 4, ∃ v : BitVec 31, ∃ w, w = ((v.setWidth 64 ||| 0x80000000#64 : Word)) ∧ ∃ on, on = (s.flag (F.XSP_CSCFG_EN x c)) ∧ ∃ fits, fits = (bitsOf w 30 29 ≠ 3 ∧ bitsOf w 28 27 ≠ 3 ∧ bitsOf w 20 16 ≤ 16) ∧ (on = false) ∧ (fits) ∧ (csCheck s x c w ≠ 0)) ∧
  (∃ x : Fin 2, ∃ s : State, ∃ c : Fin 4, ∃ v : BitVec 31, ∃ w, w = ((v.setWidth 64 ||| 0x80000000#64 : Word)) ∧ ∃ on, on = (s.flag (F.XSP_CSCFG_EN x c)) ∧ ∃ fits, fits = (bitsOf w 30 29 ≠ 3 ∧ bitsOf w 28 27 ≠ 3 ∧ bitsOf w 20 16 ≤ 16) ∧ (on = false) ∧ (¬ fits)) ∧
  (∃ x : Fin 2, ∃ s : State, ∃ c : Fin 4, ∃ v : BitVec 31, ∃ w, w = ((v.setWidth 64 ||| 0x80000000#64 : Word)) ∧ ∃ on, on = (s.flag (F.XSP_CSCFG_EN x c)) ∧ (on = true) ∧ (bitsOf w 30 0 ≠ bitsOf (s.reg (A.XSP_CSCFG x c)) 30 0)) ∧
  (∃ x : Fin 2, ∃ s : State, ∃ c : Fin 4, ∃ v : BitVec 31, ∃ w, w = ((v.setWidth 64 ||| 0x80000000#64 : Word)) ∧ ∃ on, on = (s.flag (F.XSP_CSCFG_EN x c)) ∧ (on = true) ∧ (bitsOf w 30 0 = bitsOf (s.reg (A.XSP_CSCFG x c)) 30 0)) ∧
  (∃ x : Fin 2, ∃ s : State, ∃ p, p = (s.xport x) ∧ ∃ c : Fin 4, (p.csOff.contains c.val = true) ∧ (csBusy s x c = false)) ∧
  (∃ x : Fin 2, ∃ s : State, ∃ p, p = (s.xport x) ∧ ∃ c : Fin 4, (p.csOff.contains c.val = false ∨ csBusy s x c = true)) :=
  ⟨⟨1, (st [(F.XSP_CTL_EN 1, 1), (F.XSP_CSCFG_EN 1 3, 1)]).onXport 1 (fun p => { p with queue := [⟨2, 0, 0x200000000, 8, [], false, 3, true, 0, false⟩] }), _, rfl, (⟨2, 0, 0x200000000, 8, [], false, 3, true, 0, false⟩ : XReq), ([] : List XReq), by decide +kernel⟩,
   ⟨1, (st [(F.XSP_CTL_EN 1, 1), (F.XSP_CSCFG_EN 1 3, 1)]).onXport 1 (fun p => { p with queue := [⟨2, 0, 0x200000000, 8, [1, 2, 3, 4, 5, 6, 7, 8], true, 3, true, 0, false⟩] }), _, rfl, (⟨2, 0, 0x200000000, 8, [1, 2, 3, 4, 5, 6, 7, 8], true, 3, true, 0, false⟩ : XReq), ([] : List XReq), by decide +kernel⟩,
   ⟨1, (st [(F.XSP_CTL_EN 1, 1), (F.XSP_CSCFG_EN 1 3, 1), (F.XSP_CSCFG_TYPE 1 3, 1)]).onXport 1 (fun p => { p with queue := [⟨2, 0, 0x200000000, 8, [1, 2, 3, 4, 5, 6, 7, 8], true, 3, true, 0, false⟩] }), _, rfl, (⟨2, 0, 0x200000000, 8, [1, 2, 3, 4, 5, 6, 7, 8], true, 3, true, 0, false⟩ : XReq), ([] : List XReq), by decide +kernel⟩,
   ⟨1, (st [(F.XSP_CTL_EN 1, 1), (F.XSP_CSCFG_EN 1 3, 1)]).onXport 1 (fun p => { p with req := some ⟨2, 0, 0x200000000, 8, [1, 2, 3, 4, 5, 6, 7, 8], true, 3, true, 0, false⟩, step := 1, pieces := [(0, [1])] }), _, rfl, (⟨2, 0, 0x200000000, 8, [1, 2, 3, 4, 5, 6, 7, 8], true, 3, true, 0, false⟩ : XReq), by decide +kernel⟩,
   ⟨1, (st [(F.XSP_CTL_EN 1, 1), (F.XSP_CSCFG_EN 1 3, 1)]).onXport 1 (fun p => { p with req := some ⟨2, 0, 0x200000000, 8, [1, 2, 3, 4, 5, 6, 7, 8], true, 3, true, 0, false⟩, step := 2, pieces := [(0, [1])] }), _, rfl, (⟨2, 0, 0x200000000, 8, [1, 2, 3, 4, 5, 6, 7, 8], true, 3, true, 0, false⟩ : XReq), by decide +kernel, by decide +kernel, 0, [1], ([] : List (Nat × List Byte)), by decide +kernel⟩,
   ⟨1, (st [(⟨A.XSP_RD_FMT 1 3, 12, 12⟩, 1)]), by decide +kernel, _, List.mem_cons_self ..⟩,
   ⟨1, (st [(F.XSP_CTL_EN 1, 1), (F.XSP_CSCFG_EN 1 3, 1)]), _, rfl, _, rfl, 0xC000040, _, rfl, _, rfl, _, rfl, _, rfl, _, rfl, by decide +kernel⟩,
   ⟨1, (st [(F.XSP_CTL_EN 1, 1), (F.XSP_CSCFG_EN 1 3, 1)]).onXport 1 (fun p => { p with queue := [⟨2, 0, 0x200000000, 8, [], false, 3, true, 0, false⟩] }), _, rfl, _, rfl, 0xC000040, _, rfl, _, rfl, _, rfl, _, rfl, _, rfl, by decide +kernel⟩,
   ⟨1, (st [(F.XSP_CTL_EN 1, 1), (F.XSP_CSCFG_EN 1 3, 1)]).onXport 1 (fun p => { p with queue := [⟨2, 0, 0x200000000, 8, [], false, 3, true, 0, false⟩] }), _, rfl, 0xFFFF, _, rfl, by decide +kernel⟩,
   ⟨1, (st [(⟨A.XSP_RD_FMT 1 3, 12, 12⟩, 1)]), _, rfl, 0xC000040, _, rfl, _, rfl, _, rfl, _, rfl, by decide +kernel⟩,
   ⟨1, (st [(F.XSP_CTL_EN 1, 1), (F.XSP_CSCFG_EN 1 3, 1)]).setReg (A.XSP_MAN_FMT 1) 0xF00, _, rfl, _, rfl, 0xC000040, _, rfl, _, rfl, _, rfl, _, rfl, _, rfl, Or.inr (Or.inr (by intro h h1; cases h1)), by decide +kernel⟩,
   ⟨1, (st [(F.XSP_CTL_EN 1, 1), (F.XSP_CSCFG_EN 1 3, 1)]).onXport 1 (fun p => { p with queue := [⟨6, 0, 0, 8, [], false, 3, true, 0, false⟩] }), _, rfl, (⟨6, 0, 0, 8, [], false, 3, true, 0, false⟩ : XReq), ([] : List XReq), by decide +kernel⟩,
   ⟨1, (st [(⟨A.XSP_RD_FMT 1 3, 12, 12⟩, 1)]), 3, 0xC000040, _, rfl, _, rfl, _, rfl, by decide +kernel⟩,
   ⟨1, base, 3, 0x100001, _, rfl, _, rfl, _, rfl, by decide +kernel⟩,
   ⟨1, base, 3, 0x7FFFFFFF, _, rfl, _, rfl, _, rfl, by decide +kernel⟩,
   ⟨1, (st [(F.XSP_CTL_EN 1, 1), (F.XSP_CSCFG_EN 1 3, 1)]).onXport 1 (fun p => { p with queue := [⟨2, 0, 0x200000000, 8, [], false, 3, true, 0, false⟩] }), 3, 0xC000040, _, rfl, _, rfl, by decide +kernel⟩,
   ⟨1, (st []).setReg (A.XSP_CSCFG 1 3) 0x80000000, 3, 0, _, rfl, _, rfl, by decide +kernel⟩,
   ⟨1, (st [(F.XSP_CTL_EN 1, 1), (F.XSP_CSCFG_EN 1 3, 1)]).onXport 1 (fun p => { p with csOff := [3] }), _, rfl, 3, by decide +kernel⟩,
   ⟨1, (st [(F.XSP_CTL_EN 1, 1), (F.XSP_CSCFG_EN 1 3, 1)]).onXport 1 (fun p => { p with queue := [⟨2, 0, 0x200000000, 8, [], false, 3, true, 0, false⟩] }), _, rfl, 3, by decide +kernel⟩⟩

theorem witness_OctalFramesEnd :
  (∃ x : Fin 2, ∃ r : XReq, ∃ s : State, ((s.xport x).req = some r) ∧ ∃ p, p = (s.xport x) ∧ ∃ f : XFrame, (p.frame = some f) ∧ (p.step = 1)) ∧
  (∃ x : Fin 2, ∃ r : XReq, ∃ s : State, ((s.xport x).req = some r) ∧ ∃ p, p = (s.xport x) ∧ ∃ f : XFrame, (p.frame = some f) ∧ (p.step = 2)) ∧
  (∃ x : Fin 2, ∃ r : XReq, ∃ s : State, ((s.xport x).req = some r) ∧ ∃ p, p = (s.xport x) ∧ ∃ f : XFrame, (p.frame = some f) ∧ (p.step = 0) ∧ (r.init ≠ xiManual)) ∧
  (∃ x : Fin 2, ∃ r : XReq, ∃ s : State, ((s.xport x).req = some r) ∧ ∃ p, p = (s.xport x) ∧ ∃ f : XFrame, (p.frame = some f) ∧ (p.step = 0) ∧ (r.init = xiManual) ∧ (f.inLen ≤ 64) ∧ (r.poll = false)) ∧
  (∃ x : Fin 2, ∃ r : XReq, ∃ s : State, ((s.xport x).req = some r) ∧ ∃ p, p = (s.xport x) ∧ ∃ f : XFrame, (p.frame = some f) ∧ (p.step = 0) ∧ (r.init = xiManual) ∧ (f.inLen ≤ 64) ∧ (r.poll = true)) ∧
  (∃ x : Fin 2, ∃ r : XReq, ∃ s : State, ((s.xport x).req = some r) ∧ ∃ p, p = (s.xport x) ∧ (p.frame = none)) ∧
  (∃ x : Fin 2, ∃ r : XReq, ∃ s : State, ((s.xport x).req = some r) ∧ ∃ p, p = (s.xport x) ∧ ∃ status : Byte, ∃ busy, busy = (status.getLsbD (s.get (F.XSP_POLL_BUSY_BIT x r.cs)) = s.flag (F.XSP_POLL_BUSY_POL x r.cs)) ∧ ∃ reads, reads = (p.step = 3 ∧ (mayStart s x = true ∨ s.flag (F.XSP_STATUS_WAIT x) = true)) ∧ (reads) ∧ (busy)) ∧
  (∃ x : Fin 2, ∃ r : XReq, ∃ s : State, ((s.xport x).req = some r) ∧ ∃ p, p = (s.xport x) ∧ ∃ status : Byte, ∃ busy, busy = (status.getLsbD (s.get (F.XSP_POLL_BUSY_BIT x r.cs)) = s.flag (F.XSP_POLL_BUSY_POL x r.cs)) ∧ ∃ reads, reads = (p.step = 3 ∧ (mayStart s x = true ∨ s.flag (F.XSP_STATUS_WAIT x) = true)) ∧ (reads) ∧ (¬ busy)) ∧
  (∃ x : Fin 2, ∃ r : XReq, ∃ s : State, ((s.xport x).req = some r) ∧ ∃ p, p = (s.xport x) ∧ ∃ reads, reads = (p.step = 3 ∧ (mayStart s x = true ∨ s.flag (F.XSP_STATUS_WAIT x) = true)) ∧ (¬ reads)) ∧
  (∃ x : Fin 2, ∃ r : XReq, ∃ s : State, ((s.xport x).req = some r) ∧ ∃ p, p = (s.xport x) ∧ (p.step = 3)) ∧
  (∃ x : Fin 2, ∃ r : XReq, ∃ s : State, ((s.xport x).req = some r) ∧ ∃ p, p = (s.xport x) ∧ (p.step ≠ 3)) ∧
  (∃ x : Fin 2, ∃ r : XReq, ∃ s : State, ((s.xport x).req = some r) ∧ ∃ p, p = (s.xport x) ∧ ∃ stalls, stalls = (s.get (F.XSP_CSCFG_RDS x r.cs) = 2 ∧ (p.frame ≠ none ∨ (p.step = 3 ∧ mayStart s x = true))) ∧ (stalls)) ∧
  (∃ x : Fin 2, ∃ r : XReq, ∃ s : State, ((s.xport x).req = some r) ∧ ∃ p, p = (s.xport x) ∧ ∃ stalls, stalls = (s.get (F.XSP_CSCFG_RDS x r.cs) = 2 ∧ (p.frame ≠ none ∨ (p.step = 3 ∧ mayStart s x = true))) ∧ (¬ stalls)) ∧
  (∃ x : Fin 2, ∃ r : XReq, ∃ s : State, ((s.xport x).req = some r) ∧ (s.flag (F.XSP_STATUS_WAIT x) = true)) ∧
  (∃ x : Fin 2, ∃ r : XReq, ∃ s : State, ((s.xport x).req = some r) ∧ (s.flag (F.XSP_STATUS_WAIT x) = false)) :=
  ⟨⟨1, (⟨2, 0, 0x200000000, 8, [1, 2, 3, 4, 5, 6, 7, 8], true, 3, true, 0, false⟩ : XReq), (st [(F.XSP_CTL_EN 1, 1), (F.XSP_CSCFG_EN 1 3, 1)]).onXport 1 (fun p => { p with req := some ⟨2, 0, 0x200000000, 8, [1, 2, 3, 4, 5, 6, 7, 8], true, 3, true, 0, false⟩, frame := some ⟨3, 0, 0, [], 8⟩, step := 1 }), by decide +kernel, _, rfl, (⟨3, 0, 0, [], 8⟩ : XFrame), by decide +kernel⟩,
   ⟨1, (⟨2, 0, 0x200000000, 8, [1, 2, 3, 4, 5, 6, 7, 8], true, 3, true, 0, false⟩ : XReq), (st [(F.XSP_CTL_EN 1, 1), (F.XSP_CSCFG_EN 1 3, 1)]).onXport 1 (fun p => { p with req := some ⟨2, 0, 0x200000000, 8, [1, 2, 3, 4, 5, 6, 7, 8], true, 3, true, 0, false⟩, frame := some ⟨3, 0, 0, [], 8⟩, step := 2 }), by decide +kernel, _, rfl, (⟨3, 0, 0, [], 8⟩ : XFrame), by decide +kernel⟩,
   ⟨1, (⟨2, 0, 0x200000000, 8, [], false, 3, true, 0, false⟩ : XReq), (st [(F.XSP_CTL_EN 1, 1), (F.XSP_CSCFG_EN 1 3, 1)]).onXport 1 (fun p => { p with req := some ⟨2, 0, 0x200000000, 8, [], false, 3, true, 0, false⟩, frame := some ⟨3, 0, 0, [], 8⟩ }), by decide +kernel, _, rfl, (⟨3, 0, 0, [], 8⟩ : XFrame), by decide +kernel⟩,
   ⟨1, (⟨6, 0, 0, 8, [], false, 3, true, 0, false⟩ : XReq), (st [(F.XSP_CTL_EN 1, 1), (F.XSP_CSCFG_EN 1 3, 1)]).onXport 1 (fun p => { p with req := some ⟨6, 0, 0, 8, [], false, 3, true, 0, false⟩, frame := some ⟨3, 0, 0, [], 8⟩ }), by decide +kernel, _, rfl, (⟨3, 0, 0, [], 8⟩ : XFrame), by decide +kernel⟩,
   ⟨1, (⟨6, 0, 0, 8, [], false, 3, true, 0, true⟩ : XReq), (st [(F.XSP_CTL_EN 1, 1), (F.XSP_CSCFG_EN 1 3, 1)]).onXport 1 (fun p => { p with req := some ⟨6, 0, 0, 8, [], false, 3, true, 0, true⟩, frame := some ⟨3, 0, 0, [], 8⟩ }), by decide +kernel, _, rfl, (⟨3, 0, 0, [], 8⟩ : XFrame), by decide +kernel⟩,
   ⟨1, (⟨2, 0, 0x200000000, 8, [], false, 3, true, 0, false⟩ : XReq), (st [(F.XSP_CTL_EN 1, 1), (F.XSP_CSCFG_EN 1 3, 1), (F.XSP_STATUS_WAIT 1, 1)]).onXport 1 (fun p => { p with req := some ⟨2, 0, 0x200000000, 8, [], false, 3, true, 0, false⟩ }), by decide +kernel, _, rfl, by decide +kernel⟩,
   ⟨1, (⟨2, 0, 0x200000000, 8, [1, 2, 3, 4, 5, 6, 7, 8], true, 3, true, 0, false⟩ : XReq), (st [(F.XSP_CTL_EN 1, 1), (F.XSP_CSCFG_EN 1 3, 1)]).onXport 1 (fun p => { p with req := some ⟨2, 0, 0x200000000, 8, [1, 2, 3, 4, 5, 6, 7, 8], true, 3, true, 0, false⟩, step := 3 }), by decide +kernel, _, rfl, 1, _, rfl, _, rfl, by decide +kernel⟩,
   ⟨1, (⟨2, 0, 0x200000000, 8, [], true, 3, true, 0, false⟩ : XReq), (st [(F.XSP_CTL_EN 1, 1), (F.XSP_CSCFG_EN 1 3, 1)]).onXport 1 (fun p => { p with req := some ⟨2, 0, 0x200000000, 8, [], true, 3, true, 0, false⟩, step := 3 }), by decide +kernel, _, rfl, 0xFE, _, rfl, _, rfl, by decide +kernel⟩,
   ⟨1, (⟨2, 0, 0x200000000, 8, [], false, 3, true, 0, false⟩ : XReq), (st [(F.XSP_CTL_EN 1, 1), (F.XSP_CSCFG_EN 1 3, 1)]).onXport 1 (fun p => { p with req := some ⟨2, 0, 0x200000000, 8, [], false, 3, true, 0, false⟩, frame := some ⟨3, 0, 0, [], 8⟩ }), by decide +kernel, _, rfl, _, rfl, by decide +kernel⟩,
   ⟨1, (⟨2, 0, 0x200000000, 8, [], true, 3, true, 0, false⟩ : XReq), (st [(F.XSP_CTL_EN 1, 1), (F.XSP_CSCFG_EN 1 3, 1)]).onXport 1 (fun p => { p with req := some ⟨2, 0, 0x200000000, 8, [], true, 3, true, 0, false⟩, step := 3 }), by decide +kernel, _, rfl, by decide +kernel⟩,
   ⟨1, (⟨2, 0, 0x200000000, 8, [], false, 3, true, 0, false⟩ : XReq), (st [(F.XSP_CTL_EN 1, 1), (F.XSP_CSCFG_EN 1 3, 1)]).onXport 1 (fun p => { p with req := some ⟨2, 0, 0x200000000, 8, [], false, 3, true, 0, false⟩, frame := some ⟨3, 0, 0, [], 8⟩ }), by decide +kernel, _, rfl, by decide +kernel⟩,
   ⟨1, (⟨2, 0, 0x200000000, 8, [], false, 3, true, 0, false⟩ : XReq), (st [(F.XSP_CTL_EN 1, 1), (F.XSP_CSCFG_EN 1 3, 1), (F.XSP_CSCFG_RDS 1 3, 2)]).onXport 1 (fun p => { p with req := some ⟨2, 0, 0x200000000, 8, [], false, 3, true, 0, false⟩, frame := some ⟨3, 0, 0, [], 8⟩ }), by decide +kernel, _, rfl, _, rfl, by decide +kernel⟩,
   ⟨1, (⟨2, 0, 0x200000000, 8, [], false, 3, true, 0, false⟩ : XReq), (st [(F.XSP_CTL_EN 1, 1), (F.XSP_CSCFG_EN 1 3, 1)]).onXport 1 (fun p => { p with req := some ⟨2, 0, 0x200000000, 8, [], false, 3, true, 0, false⟩, frame := some ⟨3, 0, 0, [], 8⟩ }), by decide +kernel, _, rfl, _, rfl, by decide +kernel⟩,
   ⟨1, (⟨2, 0, 0x200000000, 8, [], false, 3, true, 0, false⟩ : XReq), (st [(F.XSP_CTL_EN 1, 1), (F.XSP_CSCFG_EN 1 3, 1), (F.XSP_STATUS_WAIT 1, 1)]).onXport 1 (fun p => { p with req := some ⟨2, 0, 0x200000000, 8, [], false, 3, true, 0, false⟩ }), by decide +kernel⟩,
   ⟨1, (⟨2, 0, 0x200000000, 8, [], false, 3, true, 0, false⟩ : XReq), (st [(F.XSP_CTL_EN 1, 1), (F.XSP_CSCFG_EN 1 3, 1)]).onXport 1 (fun p => { p with req := some ⟨2, 0, 0x200000000, 8, [], false, 3, true, 0, false⟩, frame := some ⟨3, 0, 0, [], 8⟩ }), by decide +kernel⟩⟩

theorem witness_HostCommandChecks :
  (∃ i : Instr, ∃ code : Nat, ∃ s : State, (hostCode i = some code) ∧ (hostUp s) ∧ (s.flag F.HW_CMD_BUSY = true) ∧ (code ≠ 0x0D) ∧ (code ≠ 0x0E)) ∧
  (∃ i : Instr, ∃ code : Nat, ∃ s : State, (hostCode i = some code) ∧ (hostUp s) ∧ ((s.flag F.HW_CMD_BUSY = false ∨ code = 0x0D ∨ code = 0x0E)) ∧ (cmdLegal s code = false)) ∧
  (∃ i : Instr, ∃ code : Nat, ∃ s : State, (hostCode i = some code) ∧ (hostUp s) ∧ ((s.flag F.HW_CMD_BUSY = false ∨ code = 0x0D ∨ code = 0x0E)) ∧ (cmdLegal s code = true) ∧ (cmdArgsOk s code = false)) :=
  ⟨⟨.auditTolls, 0x11, (st [(F.HW_STATE_STATE, dsRun), (F.HW_CMD_BUSY, 1)]), by decide +kernel⟩,
   ⟨.auditTolls, 0x11, (st [(F.HW_STATE_STATE, dsProvision)]), by decide +kernel⟩,
   ⟨.auditTolls, 0x11, (st [(F.HW_STATE_STATE, dsRun), (F.HW_CMD_ARG0_ARG, 4)]), by decide +kernel⟩⟩

theorem witness_HostCommandsComplete :
  (∃ s : State, (takes s 0x01)) ∧
  (∃ s : State, (takes s 0x02) ∧ (s.dev = dsProvision ∨ s.dev = dsService)) ∧
  (∃ s : State, (takes s 0x02) ∧ (s.dev = dsHold)) ∧
  (∃ s : State, (takes s 0x02) ∧ (s.dev = dsBoot) ∧ (s.boot.verified = true) ∧ (dcwSrc ((senseData s dcwAddr).getD 0) ≠ 2)) ∧
  (∃ s : State, (takes s 0x02) ∧ (s.dev = dsBoot) ∧ (s.boot.verified = false ∨ dcwSrc ((senseData s dcwAddr).getD 0) = 2)) ∧
  (∃ s : State, (takes s 0x03) ∧ ((∀ p, p < 4 → s.pstate p ≠ psScanning ∧ s.flag (F.WPT_PSTATE_HOLD_PENDING p) = false))) ∧
  (∃ s : State, (takes s 0x03) ∧ ∃ p, (p < 4) ∧ (s.pstate p = psScanning)) ∧
  (∃ s : State, (takes s 0x04)) ∧
  (∃ s : State, ∃ a, a = (cmdArg0 s) ∧ (takes s 0x05) ∧ ∃ p, p = (a % 4) ∧ (s.pstate p = psScanning) ∧ (a < 256)) ∧
  (∃ s : State, ∃ a, a = (cmdArg0 s) ∧ (takes s 0x05) ∧ ∃ p, p = (a % 4) ∧ (s.pstate p = psScanning) ∧ (256 ≤ a)) ∧
  (∃ s : State, ∃ a, a = (cmdArg0 s) ∧ (takes s 0x05) ∧ ∃ p, p = (a % 4) ∧ (s.pstate p ≠ psScanning)) ∧
  (∃ s : State, ∃ a, a = (cmdArg0 s) ∧ (takes s 0x06) ∧ (startLegal s a = true)) ∧
  (∃ s : State, ∃ a, a = (cmdArg0 s) ∧ (takes s 0x06) ∧ (startLegal s a = false)) ∧
  (∃ s : State, ∃ a, a = (cmdArg0 s) ∧ (takes s 0x07) ∧ ∃ n, n = ((s.reg (A.WPT_WNUM a)).toNat + 1) ∧ ∃ w, w = (n + (cmdArg1 s + 2 ^ 32 - n % 2 ^ 32) % 2 ^ 32) ∧ ∃ u, u = (if s.flag (F.WPT_PSTATE_CO_PENDING a) then s else s.setReg (A.WPT_CO_WNUM a) (BitVec.ofNat 64 w)) ∧ ∃ past, past = (inConvoy s && decide (w ≤ s.get (F.WPT_WNUM_WNUM a) + 1) && !(xchg s a false).isOpen) ∧ (coCheck u a w = 0) ∧ (past = false)) ∧
  (∃ s : State, ∃ a, a = (cmdArg0 s) ∧ (takes s 0x07) ∧ ∃ n, n = ((s.reg (A.WPT_WNUM a)).toNat + 1) ∧ ∃ w, w = (n + (cmdArg1 s + 2 ^ 32 - n % 2 ^ 32) % 2 ^ 32) ∧ ∃ u, u = (if s.flag (F.WPT_PSTATE_CO_PENDING a) then s else s.setReg (A.WPT_CO_WNUM a) (BitVec.ofNat 64 w)) ∧ ∃ past, past = (inConvoy s && decide (w ≤ s.get (F.WPT_WNUM_WNUM a) + 1) && !(xchg s a false).isOpen) ∧ (coCheck u a w = 0) ∧ (past = true)) ∧
  (∃ s : State, ∃ a, a = (cmdArg0 s) ∧ (takes s 0x07) ∧ ∃ n, n = ((s.reg (A.WPT_WNUM a)).toNat + 1) ∧ ∃ w, w = (n + (cmdArg1 s + 2 ^ 32 - n % 2 ^ 32) % 2 ^ 32) ∧ ∃ u, u = (if s.flag (F.WPT_PSTATE_CO_PENDING a) then s else s.setReg (A.WPT_CO_WNUM a) (BitVec.ofNat 64 w)) ∧ (coCheck u a w ≠ 0)) ∧
  (∃ s, takes s 0x08 ∧ ∀ x : BitVec 3, x = 7 →
    mergeCheck { s with free := s.free + 1 } (cmdArg0 s) (x.getLsbD 0) (x.getLsbD 1) (x.getLsbD 2) = 0) ∧
  (∃ s : State, ∃ a, a = (cmdArg0 s) ∧ (takes s 0x08) ∧ ∃ d, d = (s.draw 3) ∧ ∃ c, c = (mergeCheck d.2 a (d.1.getLsbD 0) (d.1.getLsbD 1) (d.1.getLsbD 2)) ∧ (c ≠ 0)) ∧
  (∃ s : State, (takes s 0x09) ∧ (isVoter s = true)) ∧
  (∃ s : State, (takes s 0x09) ∧ (isVoter s = false)) ∧
  (∃ s : State, (takes s 0x0A) ∧ (s.flag F.CAL_STATUS_BUSY = false) ∧ (s.flag F.CAL_STATUS_FACTORY_VALID = true)) ∧
  (∃ s : State, (takes s 0x0A) ∧ (s.flag F.CAL_STATUS_BUSY = false) ∧ (s.flag F.CAL_STATUS_FACTORY_VALID = false)) ∧
  (∃ s : State, (takes s 0x0A) ∧ (s.flag F.CAL_STATUS_BUSY = true)) ∧
  (∃ s : State, (takes s 0x0B) ∧ (s.flag F.CAL_STATUS_BUSY = false) ∧ (bankState s 8 ≠ fsIdle ∨ s.flash.pend.length < 16)) ∧
  (∃ s : State, (takes s 0x0B) ∧ (s.flag F.CAL_STATUS_BUSY = false) ∧ (bankState s 8 = fsIdle) ∧ (16 ≤ s.flash.pend.length)) ∧
  (∃ s : State, (takes s 0x0B) ∧ (s.flag F.CAL_STATUS_BUSY = true)) ∧
  (∃ s : State, (takes s 0x0C) ∧ (s.flag F.HW_LAYBY_STATUS_OFFERED = true)) ∧
  (∃ s : State, (takes s 0x0C) ∧ (s.flag F.HW_LAYBY_STATUS_OFFERED = false)) ∧
  (∃ s : State, (hostUp s) ∧ (s.dev = dsRoadblock) ∧ (1 ≤ s.get F.DBG_LEVEL_LEVEL) ∧ (cmdArgsOk s 0x0D = true)) ∧
  (∃ s : State, (hostUp s) ∧ (cmdLegal s 0x0E = true) ∧ (cmdArgsOk s 0x0E = true)) ∧
  (∃ s : State, (takes s 0x0F)) ∧
  (∃ s : State, (takes s 0x10) ∧ (s.dev = dsProvision ∨ s.dev = dsService)) ∧
  (∃ s : State, (takes s 0x10) ∧ (s.dev = dsBoot)) ∧
  (∃ s : State, ∃ a, a = (cmdArg0 s) ∧ (takes s 0x11) ∧ (quiescent s a = true) ∧ (s.flag F.LANE_AUDIT_STATUS_BUSY = false)) ∧
  (∃ s : State, ∃ a, a = (cmdArg0 s) ∧ (takes s 0x11) ∧ (quiescent s a = true) ∧ (s.flag F.LANE_AUDIT_STATUS_BUSY = true)) ∧
  (∃ s : State, ∃ a, a = (cmdArg0 s) ∧ (takes s 0x11) ∧ (quiescent s a = false)) :=
  ⟨⟨(let s := st [(F.HW_STATE_STATE, dsRun), (F.CAL_STATUS_BUSY, 0)]; { s with flash := { s.flash with pend := List.replicate 16 (0, 0) } }), by decide +kernel⟩,
   ⟨(st [(F.HW_STATE_STATE, dsProvision)]), by decide +kernel⟩,
   ⟨(st [(F.HW_STATE_STATE, dsHold), (F.WPT_PSTATE_STATE 3, psHeld)]), by decide +kernel⟩,
   ⟨(let s := flashWord (st [(F.HW_STATE_STATE, dsBoot), (F.HW_STATE_HOST_WAIT, 1)]) dcwAddr 0; { s with boot := { s.boot with verified := true } }), by decide +kernel⟩,
   ⟨(st [(F.HW_STATE_STATE, dsBoot), (F.HW_STATE_HOST_WAIT, 1)]), by decide +kernel⟩,
   ⟨(st [(F.HW_STATE_STATE, dsRun)]), by decide +kernel, by intro p h; interval_cases p <;> decide +kernel⟩,
   ⟨(st [(F.HW_STATE_STATE, dsRun), (F.WPT_PSTATE_STATE 3, psScanning)]), by decide +kernel, 3, by decide +kernel⟩,
   ⟨(let s := st [(F.HW_STATE_STATE, dsRun), (F.CAL_STATUS_BUSY, 0)]; { s with flash := { s.flash with pend := List.replicate 16 (0, 0) } }), by decide +kernel⟩,
   ⟨(st [(F.HW_STATE_STATE, dsRun), (F.WPT_PSTATE_STATE 3, psScanning), (F.HW_CMD_ARG0_ARG, 3)]), _, rfl, by decide +kernel, _, rfl, by decide +kernel⟩,
   ⟨(st [(F.HW_STATE_STATE, dsRun), (F.WPT_PSTATE_STATE 3, psScanning), (F.HW_CMD_ARG0_ARG, 259)]), _, rfl, by decide +kernel, _, rfl, by decide +kernel⟩,
   ⟨(let s := st [(F.HW_STATE_STATE, dsRun), (F.CAL_STATUS_BUSY, 0)]; { s with flash := { s.flash with pend := List.replicate 16 (0, 0) } }), _, rfl, by decide +kernel, _, rfl, by decide +kernel⟩,
   ⟨(st [(F.HW_STATE_STATE, dsRun), (F.WPT_PSTATE_STATE 3, psReady), (F.HW_CMD_ARG0_ARG, 3)]), _, rfl, by decide +kernel⟩,
   ⟨(let s := st [(F.HW_STATE_STATE, dsRun), (F.CAL_STATUS_BUSY, 0)]; { s with flash := { s.flash with pend := List.replicate 16 (0, 0) } }), _, rfl, by decide +kernel⟩,
   ⟨(st [(F.HW_STATE_STATE, dsRun), (F.WPT_PSTATE_STATE 3, psScanning), (F.HW_CMD_ARG0_ARG, 3)]), _, rfl, by decide +kernel, _, rfl, _, rfl, _, rfl, _, rfl, by decide +kernel⟩,
   ⟨(st [(F.HW_STATE_STATE, dsRun), (F.WPT_PSTATE_STATE 3, psScanning), (F.HW_CMD_ARG1_ARG, 1), (F.HW_CMD_ARG0_ARG, 3), (F.CVY_STATE_ROLE, roleVoter)]), _, rfl, by decide +kernel, _, rfl, _, rfl, _, rfl, _, rfl, by decide +kernel⟩,
   ⟨(let s := st [(F.HW_STATE_STATE, dsRun), (F.CAL_STATUS_BUSY, 0)]; { s with flash := { s.flash with pend := List.replicate 16 (0, 0) } }), _, rfl, by decide +kernel, _, rfl, _, rfl, _, rfl, by decide +kernel⟩,
   ⟨merging, by decide +kernel, by
    rintro _ rfl
    refine merge_taken (by decide +kernel) ((merging_digest _ (by simp)).trans ?_)
    unfold formDigest
    exact congrArg (fun l => sha256 (Config.formationBytes l)) (by decide +kernel)⟩,
   ⟨(st [(F.HW_STATE_STATE, dsRun), (F.WPT_PSTATE_STATE 3, psScanning), (F.HW_CMD_ARG0_ARG, 3)]), _, rfl, by decide +kernel, _, rfl, _, rfl, merge_refused (by decide +kernel)⟩,
   ⟨(st [(F.HW_STATE_STATE, dsHold), (F.CVY_STATE_ROLE, roleVoter)]), by decide +kernel⟩,
   ⟨(let s := st [(F.HW_STATE_STATE, dsRun), (F.CAL_STATUS_BUSY, 0)]; { s with flash := { s.flash with pend := List.replicate 16 (0, 0) } }), by decide +kernel⟩,
   ⟨(st [(F.HW_STATE_STATE, dsRun), (F.CAL_STATUS_BUSY, 0), (F.CAL_STATUS_FACTORY_VALID, 1)]), by decide +kernel⟩,
   ⟨(let s := st [(F.HW_STATE_STATE, dsRun), (F.CAL_STATUS_BUSY, 0)]; { s with flash := { s.flash with pend := List.replicate 16 (0, 0) } }), by decide +kernel⟩,
   ⟨(st [(F.HW_STATE_STATE, dsProvision)]), by decide +kernel⟩,
   ⟨(st [(F.HW_STATE_STATE, dsRun), (F.CAL_STATUS_BUSY, 0), (F.CAL_STATUS_FACTORY_VALID, 1)]), by decide +kernel⟩,
   ⟨(let s := st [(F.HW_STATE_STATE, dsRun), (F.CAL_STATUS_BUSY, 0)]; { s with flash := { s.flash with pend := List.replicate 16 (0, 0) } }), by decide +kernel⟩,
   ⟨(st [(F.HW_STATE_STATE, dsProvision)]), by decide +kernel⟩,
   ⟨(st [(F.HW_STATE_STATE, dsProvision), (F.HW_LAYBY_STATUS_OFFERED, 1)]), by decide +kernel⟩,
   ⟨(st [(F.HW_STATE_STATE, dsProvision)]), by decide +kernel⟩,
   ⟨(st [(F.HW_STATE_STATE, dsRoadblock), (F.DBG_LEVEL_LEVEL, 1)]), by decide +kernel⟩,
   ⟨(let s := st [(F.HW_STATE_STATE, dsRun), (F.CAL_STATUS_BUSY, 0)]; { s with flash := { s.flash with pend := List.replicate 16 (0, 0) } }), by decide +kernel⟩,
   ⟨(st [(F.HW_STATE_STATE, dsHold), (F.HW_CMD_ARG0_ARG, 3)]), by decide +kernel⟩,
   ⟨(st [(F.HW_STATE_STATE, dsProvision)]), by decide +kernel⟩,
   ⟨(st [(F.HW_STATE_STATE, dsBoot), (F.HW_STATE_HOST_WAIT, 1)]), by decide +kernel⟩,
   ⟨(let s := st [(F.HW_STATE_STATE, dsRun), (F.CAL_STATUS_BUSY, 0)]; { s with flash := { s.flash with pend := List.replicate 16 (0, 0) } }), _, rfl, by decide +kernel⟩,
   ⟨(st [(F.HW_STATE_STATE, dsRun), (F.HW_CMD_ARG0_ARG, 3), (F.LANE_AUDIT_STATUS_BUSY, 1)]), _, rfl, by decide +kernel⟩,
   ⟨(st [(F.HW_STATE_STATE, dsRun), (F.WPT_PSTATE_STATE 3, psScanning), (F.HW_CMD_ARG0_ARG, 3)]), _, rfl, by decide +kernel⟩⟩

theorem witness_HostAccessesComplete :
  (∃ s : State, (hostUp s) ∧ (s.pads.hmode = false) ∧ ∃ a : BitVec 6, (a.toNat < 0x30) ∧ (a.toNat ∉ [0x0E, 0x27, 0x12, 0x16, 0x1F]) ∧ ∃ d : RegD, ∃ x : Nat, ∃ y : Nat, (regAt (0x400D0000 + 4 * a.toNat) = some (d, x, y))) ∧
  (∃ s : State, (hostUp s) ∧ (s.pads.hmode = false) ∧ ∃ a : BitVec 6, (0x30 ≤ a.toNat)) ∧
  (∃ s : State, (hostUp s) ∧ (s.pads.hmode = false) ∧ ∃ v : BitVec 32, (v.toNat % 256 = 0 ∨ 0x11 < v.toNat % 256)) ∧
  (∃ s : State, (hostUp s) ∧ (s.pads.hmode = false) ∧ ∃ a : BitVec 6, ∃ v : BitVec 32, (a.toNat < 0x30) ∧ (a.toNat ∉ [4, 5, 6, 0xC, 0x12, 0x19, 0x1F, 0x20]) ∧ ((a.toNat ∈ [0x10, 0x11] → winBusy s = false)) ∧ ((a = 0x13 → v.getLsbD 31 = false)) ∧ ((a = 0x25 → v.toNat / 2 % 4 ≠ 3))) ∧
  (∃ s : State, (hostUp s) ∧ (s.pads.hmode = false) ∧ (winBusy s = true)) ∧
  (∃ s : State, (hostUp s) ∧ (s.pads.hmode = false) ∧ ∃ v : BitVec 32, (v.toNat / 2 % 4 = 3)) ∧
  (∃ s : State, (s.pads.hmode = false) ∧ ∃ v : BitVec 32, ∃ i, ∃ code, (hostCode i = some code) ∧ (v.toNat % 256 = code)) ∧
  (∃ s : State, (s.pads.hmode = false) ∧ ∃ v : BitVec 32, (v.getLsbD 31 = true)) ∧
  (∃ s : State, (hostUp s) ∧ (s.pads.hmode = true) ∧ ∃ en, en = (s.flag F.HW_BURST_CTL_EN) ∧ ∃ a : Byte, ∃ n : Nat, ∃ d : RegD, ∃ x : Nat, ∃ y : Nat, (1 ≤ n) ∧ (en = false ∨ n = 1) ∧ (a.toNat < 0x30) ∧ (a.toNat ∉ [0x0E, 0x27, 0x12, 0x16, 0x1F]) ∧ (regAt (0x400D0000 + 4 * a.toNat) = some (d, x, y))) ∧
  (∃ s : State, (hostUp s) ∧ (s.pads.hmode = true) ∧ ∃ en, en = (s.flag F.HW_BURST_CTL_EN) ∧ ∃ inc, inc = (s.flag F.HW_BURST_CTL_INC) ∧ ∃ n, (1 ≤ n) ∧ (n ≤ s.mbxOut.length) ∧ (en = false ∨ inc = false)) ∧
  (∃ s : State, (hostUp s) ∧ (s.pads.hmode = true) ∧ ∃ en, en = (s.flag F.HW_BURST_CTL_EN) ∧ ∃ inc, inc = (s.flag F.HW_BURST_CTL_INC) ∧ ∃ a : Byte, ∃ n : Nat, (en = true) ∧ (inc = true) ∧ (a.toNat < 0x30) ∧ (0x30 < a.toNat + n)) ∧
  (∃ s : State, (hostUp s) ∧ (s.pads.hmode = true) ∧ ∃ cmd : Byte, (cmd ≠ 3) ∧ (cmd ≠ 2)) ∧
  (∃ s : State, (hostUp s) ∧ (s.pads.hmode = true) ∧ ∃ en, en = (s.flag F.HW_BURST_CTL_EN) ∧ ∃ inc, inc = (s.flag F.HW_BURST_CTL_INC) ∧ ∃ vs : List (BitVec 32), (en = false ∨ inc = false ∨ vs = [])) ∧
  (∃ s : State, (hostUp s) ∧ (s.pads.hmode = true) ∧ ∃ en, en = (s.flag F.HW_BURST_CTL_EN) ∧ ∃ inc, inc = (s.flag F.HW_BURST_CTL_INC) ∧ ∃ vs : List (BitVec 32), (en = false ∨ inc = false) ∧ (s.mbxIn.length + vs.length ≤ 16)) ∧
  (∃ s : State, (hostUp s) ∧ (s.pads.hmode = true) ∧ (s.host.chipReset = true) ∧ (s.dev ≠ dsRoadblock)) ∧
  (∃ s : State, (hostUp s) ∧ (s.pads.hmode = true) ∧ (s.host.chipReset = false)) ∧
  (∃ s : State, (hostSilent s = true) ∧ (s.dev ≠ dsSleep) ∧ ∃ a : BitVec 6, ∃ b : Byte, ∃ v : BitVec 32, ∃ vs : List (BitVec 32), ∃ n : Nat, ∃ c, (c ∈ (if s.pads.hmode then [Instr.serialRead 3 b n, .serialWrite b vs] else [.parallelRead a false, .parallelWrite a v]))) ∧
  (∃ s : State, ∃ a : BitVec 6, ∃ b : Byte, ∃ v : BitVec 32, ∃ vs : List (BitVec 32), ∃ n : Nat, ∃ both : Bool, ∃ c, (c ∈ (if s.pads.hmode then [Instr.parallelRead a both, .parallelWrite a v] else [.serialRead b b n, .serialWrite b vs, .frameAbort]))) ∧
  (∃ s : State, (s.dev = dsSleep) ∧ (s.pwr.mode = slDoze) ∧ (s.boot.inReset = none) ∧ (s.pwr.hs = none) ∧ (s.pwr.waking = false) ∧ (s.pwr.before < 16)) ∧
  (∃ s : State, (s.dev ≠ dsSleep ∨ s.pwr.mode ≠ slDoze)) ∧
  (∃ s : State, (s.host.isOpen = true) ∧ (s.host.chipReset = false) ∧ (s.host.sleep = none)) ∧
  (∃ s : State, (s.host.isOpen = true) ∧ (s.host.chipReset = true) ∧ (s.boot.inReset = none) ∧ (s.dev ≠ dsOff) ∧ (s.dev ≠ dsRoadblock) ∧ (s.dev ≠ dsLayby)) ∧
  (∃ s : State, (s.host.isOpen = true) ∧ ∃ st, (s.host.chipReset = false) ∧ (s.host.sleep = some st) ∧ (s.dev = dsHold ∨ s.dev = dsService) ∧ (s.flag F.PWR_OPP_STAT_BUSY = false) ∧ (s.pwr.hs = none) ∧ ((st = slDoze ∨ s.get F.PWR_WAKE_EN_EN ≠ 0)) ∧ (wakeActive { s with host := { s.host with isOpen := false, reads := false, sleep := none } } = false)) ∧
  (∃ s : State, (s.host.isOpen = false)) :=
  ⟨⟨(st [(F.HW_STATE_STATE, dsRun)]), by decide +kernel, by decide +kernel, 0x2F, by decide +kernel, by decide +kernel, ((regAt 0x400D00BC).get (by decide +kernel)).1, ((regAt 0x400D00BC).get (by decide +kernel)).2.1, ((regAt 0x400D00BC).get (by decide +kernel)).2.2, by decide +kernel⟩,
   ⟨(st [(F.HW_STATE_STATE, dsRun)]), by decide +kernel, by decide +kernel, 0x30, by decide +kernel⟩,
   ⟨(st [(F.HW_STATE_STATE, dsRun)]), by decide +kernel, by decide +kernel, 0xFFFFFFFF, by decide +kernel⟩,
   ⟨(st [(F.HW_STATE_STATE, dsRun)]), by decide +kernel, by decide +kernel, 0x2F, 0xFFFFFFFF, by decide +kernel⟩,
   ⟨(let s := st [(F.HW_STATE_STATE, dsRun)]; { s with pads := { s.pads with hmode := false }, host := { s.host with reading := some 0 } }), by decide +kernel⟩,
   ⟨(st [(F.HW_STATE_STATE, dsRun)]), by decide +kernel, by decide +kernel, 0xFFFFFFFF, by decide +kernel⟩,
   ⟨(st [(F.HW_STATE_STATE, dsRun)]), by decide +kernel, 0x06, .partitionStart, _, rfl, by decide +kernel⟩,
   ⟨(st [(F.HW_STATE_STATE, dsRun)]), by decide +kernel, 0xFFFFFFFF, by decide +kernel⟩,
   ⟨(let s := st [(F.HW_STATE_STATE, dsRun)]; { s with pads := { s.pads with hmode := true } }), by decide +kernel, by decide +kernel, _, rfl, 0x2F, 63, ((regAt 0x400D00BC).get (by decide +kernel)).1, ((regAt 0x400D00BC).get (by decide +kernel)).2.1, ((regAt 0x400D00BC).get (by decide +kernel)).2.2, by decide +kernel⟩,
   ⟨(let s := st [(F.HW_STATE_STATE, dsRun)]; { s with pads := { s.pads with hmode := true }, mbxOut := [7, 8] }), by decide +kernel, by decide +kernel, _, rfl, _, rfl, 1, by decide +kernel⟩,
   ⟨(let s := st [(F.HW_STATE_STATE, dsRun), (F.HW_BURST_CTL_EN, 1), (F.HW_BURST_CTL_INC, 1)]; { s with pads := { s.pads with hmode := true } }), by decide +kernel, by decide +kernel, _, rfl, _, rfl, 0x2F, 63, by decide +kernel⟩,
   ⟨(let s := st [(F.HW_STATE_STATE, dsRun)]; { s with pads := { s.pads with hmode := true } }), by decide +kernel, by decide +kernel, 4, by decide +kernel⟩,
   ⟨(let s := st [(F.HW_STATE_STATE, dsRun)]; { s with pads := { s.pads with hmode := true } }), by decide +kernel, by decide +kernel, _, rfl, _, rfl, [], by decide +kernel⟩,
   ⟨(let s := st [(F.HW_STATE_STATE, dsRun)]; { s with pads := { s.pads with hmode := true } }), by decide +kernel, by decide +kernel, _, rfl, _, rfl, [], by decide +kernel⟩,
   ⟨(let s := st [(F.HW_STATE_STATE, dsRun)]; { s with pads := { s.pads with hmode := true }, host := { s.host with chipReset := true } }), by decide +kernel⟩,
   ⟨(let s := st [(F.HW_STATE_STATE, dsRun)]; { s with pads := { s.pads with hmode := true } }), by decide +kernel⟩,
   ⟨(let s := st [(F.HW_STATE_STATE, dsLayby)]; { s with pads := { s.pads with hmode := true } }), by decide +kernel, by decide +kernel, 0, 0, 0, [], 1, (.serialRead 3 0 1), List.mem_cons_self ..⟩,
   ⟨base, 0, 0, 0, [], 1, true, .frameAbort, by decide +kernel⟩,
   ⟨(let s := st [(F.HW_STATE_STATE, dsSleep)]; { s with pwr := { s.pwr with mode := slDoze, before := 15 } }), by decide +kernel⟩,
   ⟨(st [(F.HW_STATE_STATE, dsRun)]), by decide +kernel⟩,
   ⟨(let s := st [(F.HW_STATE_STATE, dsRun)]; { s with host := { s.host with isOpen := true } }), by decide +kernel⟩,
   ⟨(let s := st [(F.HW_STATE_STATE, dsRun)]; { s with host := { s.host with isOpen := true, chipReset := true } }), by decide +kernel⟩,
   ⟨(let s := st [(F.HW_STATE_STATE, dsHold)]; { s with host := { s.host with isOpen := true, sleep := some slDoze } }), by decide +kernel, slDoze, by decide +kernel⟩,
   ⟨(st [(F.HW_STATE_STATE, dsRun)]), by decide +kernel⟩⟩

theorem witness_AccessesPastTheWindow :
  (∃ s : State, (hostUp s) ∧ (s.pads.hmode = false) ∧ ∃ a : BitVec 6, (0x30 ≤ a.toNat)) ∧
  (∃ s : State, (hostUp s) ∧ (s.pads.hmode = true) ∧ ∃ a : Byte, (0x30 ≤ a.toNat) ∧ ∃ n, (1 ≤ n)) :=
  ⟨⟨(st [(F.HW_STATE_STATE, dsRun)]), by decide +kernel, by decide +kernel, 0x30, by decide +kernel⟩,
   ⟨(let s := st [(F.HW_STATE_STATE, dsRun)]; { s with pads := { s.pads with hmode := true } }), by decide +kernel, by decide +kernel, 0x30, by decide +kernel, 1, by decide +kernel⟩⟩

theorem witness_MailboxesAndLogComplete :
  (∃ s : State, (hostUp s) ∧ (s.mbxIn.length < 16)) ∧
  (∃ s : State, (hostUp s) ∧ (16 ≤ s.mbxIn.length)) ∧
  (∃ s : State, (hostUp s) ∧ ∃ w, ∃ rest, (s.mbxOut = w :: rest)) ∧
  (∃ s : State, (hostUp s) ∧ (s.mbxOut = [])) ∧
  (∃ s : State, (hostUp s) ∧ ∃ w, ∃ rest, (s.evlog = w :: rest)) ∧
  (∃ s : State, (hostUp s) ∧ (s.evlog = [])) ∧
  (∃ s : State, (hostUp s) ∧ (s.evlog.length < 128)) ∧
  (∃ s : State, ∃ w, ∃ rest, (s.mbxIn = w :: rest)) ∧
  (∃ s : State, (s.mbxIn = [])) ∧
  (∃ s : State, (s.mbxOut.length < 16)) ∧
  (∃ s : State, (16 ≤ s.mbxOut.length)) ∧
  (∃ s : State, (s.evlog.length < 64)) ∧
  (∃ s : State, (64 ≤ s.evlog.length)) ∧
  (∃ s : State, (s.flag F.HST_CMD_PENDING = true)) ∧
  (∃ s : State, (s.flag F.HST_CMD_PENDING = false)) :=
  ⟨⟨(st [(F.HW_STATE_STATE, dsRun)]), by decide +kernel⟩,
   ⟨(let s := st [(F.HW_STATE_STATE, dsRun)]; { s with mbxIn := (List.replicate 16 7) }), by decide +kernel⟩,
   ⟨(let s := st [(F.HW_STATE_STATE, dsRun)]; { s with mbxOut := [7, 8] }), by decide +kernel, (7 : BitVec 32), ([8] : List (BitVec 32)), by decide +kernel⟩,
   ⟨(st [(F.HW_STATE_STATE, dsRun)]), by decide +kernel⟩,
   ⟨(let s := st [(F.HW_STATE_STATE, dsRun)]; { s with evlog := [7, 8] }), by decide +kernel, (7 : BitVec 32), ([8] : List (BitVec 32)), by decide +kernel⟩,
   ⟨(st [(F.HW_STATE_STATE, dsRun)]), by decide +kernel⟩,
   ⟨(st [(F.HW_STATE_STATE, dsRun)]), by decide +kernel⟩,
   ⟨(let s := st [(F.HW_STATE_STATE, dsRun)]; { s with mbxIn := [7, 8] }), (7 : BitVec 32), ([8] : List (BitVec 32)), by decide +kernel⟩,
   ⟨(st [(F.HW_STATE_STATE, dsRun)]), by decide +kernel⟩,
   ⟨(st [(F.HW_STATE_STATE, dsRun)]), by decide +kernel⟩,
   ⟨(let s := st [(F.HW_STATE_STATE, dsRun)]; { s with mbxOut := (List.replicate 16 7) }), by decide +kernel⟩,
   ⟨(st [(F.HW_STATE_STATE, dsRun)]), by decide +kernel⟩,
   ⟨(let s := st [(F.HW_STATE_STATE, dsRun), (F.HW_EVENT_LOG_LEVEL_DROPPED, 65535)]; { s with evlog := (List.replicate 127 7) }), by decide +kernel⟩,
   ⟨(st [(F.HW_STATE_STATE, dsRun), (F.HST_CMD_PENDING, 1), (F.HW_CMD_BUSY, 1), (F.HW_CMD_FW, 1)]), by decide +kernel⟩,
   ⟨(st [(F.HW_STATE_STATE, dsRun)]), by decide +kernel⟩⟩

theorem witness_HostWindowCompletes :
  (∃ s : State, ∃ a, (s.host.reading = some a) ∧ ∃ wide, wide = (inPeri a && wideAt a) ∧ ∃ upper, upper = (inPeri a && wideAt (a - 4)) ∧ ∃ n, n = (if wide then 8 else 4) ∧ (hostAdmits s a = true) ∧ (upper = false) ∧ ∃ v, ∃ u, (busRead s .host a n = (.ok v, u))) ∧
  (∃ s : State, ∃ a, (s.host.reading = some a) ∧ ∃ wide, wide = (inPeri a && wideAt a) ∧ ∃ upper, upper = (inPeri a && wideAt (a - 4)) ∧ ∃ n, n = (if wide then 8 else 4) ∧ (hostAdmits s a = true) ∧ (upper = false) ∧ ∃ e, ∃ u, (busRead s .host a n = (.err e, u))) ∧
  (∃ s : State, ∃ a, (s.host.reading = some a) ∧ ∃ wide, wide = (inPeri a && wideAt a) ∧ ∃ upper, upper = (inPeri a && wideAt (a - 4)) ∧ ∃ n, n = (if wide then 8 else 4) ∧ (hostAdmits s a = true) ∧ (upper = false) ∧ ∃ u, (busRead s .host a n = (.wait, u))) ∧
  (∃ s : State, ∃ a, (s.host.reading = some a) ∧ ∃ upper, upper = (inPeri a && wideAt (a - 4)) ∧ (hostAdmits s a = true) ∧ (upper = true) ∧ ∃ w, (s.host.upper = some (a, w))) ∧
  (∃ s : State, ∃ a, (s.host.reading = some a) ∧ (hostAdmits s a = false)) ∧
  (∃ s : State, (hostUp s) ∧ (winBusy s = true) ∧ (s.pads.hmode = true)) ∧
  (∃ s : State, (hostUp s) ∧ (winBusy s = true) ∧ (s.pads.hmode = false)) ∧
  (∃ s : State, (hostUp s) ∧ ∃ a, a = (winAddr s) ∧ (winBusy s = false) ∧ (hostAdmits s a = true) ∧ (inDepot a = true) ∧ (zeroingAt s a = false) ∧ (writeLocked s a = false) ∧ (s.eccOf memDepot (a / 8) ≠ 2)) ∧
  (∃ s : State, (hostUp s) ∧ ∃ a, a = (winAddr s) ∧ (winBusy s = false) ∧ (hostAdmits s a = false ∨ (inPeri a = false ∧ writeLocked s a = true))) :=
  ⟨⟨(let s := st [(F.HW_STATE_STATE, dsRun), (F.DBG_LEVEL_LEVEL, 2)]; { s with host := { s.host with reading := some 0x100FFFFC } }), 0x100FFFFC, by decide +kernel, _, rfl, _, rfl, _, rfl, by decide +kernel, by decide +kernel, _, _, ok_read (by decide +kernel)⟩,
   ⟨(let s := st [(F.HW_STATE_STATE, dsRun), (F.DBG_LEVEL_LEVEL, 2)]; { s with host := { s.host with reading := some 0xE0000000 } }), 0xE0000000, by decide +kernel, _, rfl, _, rfl, _, rfl, by decide +kernel, by decide +kernel, _, _, err_read (by decide +kernel)⟩,
   ⟨(let s := st [(F.HW_STATE_STATE, dsRun), (F.DBG_LEVEL_LEVEL, 2)]; { s with host := { s.host with reading := some 0x100FFFFC }, boot := { s.boot with zeroing := (arrayOf 0x100FFFFC).toList } }), 0x100FFFFC, by decide +kernel, _, rfl, _, rfl, _, rfl, by decide +kernel, by decide +kernel, _, Prod.ext (by decide +kernel) rfl⟩,
   ⟨(let s := st [(F.HW_STATE_STATE, dsRun), (F.DBG_LEVEL_LEVEL, 2)]; { s with host := { s.host with reading := some 0x4002002C, upper := some (0x4002002C, 7) } }), 0x4002002C, by decide +kernel, _, rfl, by decide +kernel, by decide +kernel, 7, by decide +kernel⟩,
   ⟨(let s := st [(F.HW_STATE_STATE, dsRun)]; { s with host := { s.host with reading := some 0x100FFFFC } }), 0x100FFFFC, by decide +kernel⟩,
   ⟨(let s := st [(F.HW_STATE_STATE, dsRun)]; { s with pads := { s.pads with hmode := true }, host := { s.host with reading := some 0 } }), by decide +kernel⟩,
   ⟨(let s := st [(F.HW_STATE_STATE, dsRun)]; { s with host := { s.host with reading := some 0 } }), by decide +kernel⟩,
   ⟨(st [(F.HW_STATE_STATE, dsRun), (F.HW_WIN_ADDR_HI_ADDR, 0), (F.HW_WIN_ADDR_LO_ADDR, 0x04000001), (F.HW_WIN_CTL_INC, 1), (F.DBG_LEVEL_LEVEL, 2)]), by decide +kernel, _, rfl, by decide +kernel⟩,
   ⟨(st [(F.HW_STATE_STATE, dsRun)]), by decide +kernel, _, rfl, by decide +kernel⟩⟩

theorem witness_UnlockCompletes :
  (∃ s : State, ∃ v : BitVec 32, ∃ l, l = (v.toNat % 4) ∧ ∃ may, may = (l ≤ s.get F.DBG_LEVEL_MAX ∧ s.flag F.SEC_RNG_STAT_READY = true) ∧ (l = 1 ∨ l = 2) ∧ (may) ∧ ((∀ f, s.dbgp.unlock.failed = some f → f + 10000000 ≤ s.time.toNat)) ∧ (hostUp s)) ∧
  (∃ s : State, ∃ v : BitVec 32, ∃ l, l = (v.toNat % 4) ∧ ∃ may, may = (l ≤ s.get F.DBG_LEVEL_MAX ∧ s.flag F.SEC_RNG_STAT_READY = true) ∧ (l = 1 ∨ l = 2) ∧ (may) ∧ ((∀ f, s.dbgp.unlock.failed = some f → f + 10000000 ≤ s.time.toNat)) ∧ (dbgUp s = true)) ∧
  (∃ s : State, ∃ v : BitVec 32, ∃ l, l = (v.toNat % 4) ∧ ∃ may, may = (l ≤ s.get F.DBG_LEVEL_MAX ∧ s.flag F.SEC_RNG_STAT_READY = true) ∧ (l = 1 ∨ l = 2) ∧ (¬ may ∨ (∃ f, s.dbgp.unlock.failed = some f ∧ s.time.toNat < f + 10000000 ∧ s.pllClock = true)) ∧ (hostUp s)) ∧
  (∃ s : State, ∃ v : BitVec 32, ∃ l, l = (v.toNat % 4) ∧ ∃ may, may = (l ≤ s.get F.DBG_LEVEL_MAX ∧ s.flag F.SEC_RNG_STAT_READY = true) ∧ (l = 1 ∨ l = 2) ∧ (¬ may ∨ (∃ f, s.dbgp.unlock.failed = some f ∧ s.time.toNat < f + 10000000 ∧ s.pllClock = true)) ∧ (dbgUp s = true)) ∧
  (∃ s : State, ∃ v : BitVec 32, ∃ l, l = (v.toNat % 4) ∧ (l = 0 ∨ l = 3) ∧ (hostUp s)) ∧
  (∃ s : State, ∃ v : BitVec 32, ∃ l, l = (v.toNat % 4) ∧ (l = 0 ∨ l = 3) ∧ (dbgUp s = true)) ∧
  (∃ s : State, ∃ c, ∃ n, (s.dbgp.unlock.chal = some c) ∧ (s.dbgp.unlock.read = n) ∧ (n < 8) ∧ (s.dbgp.unlock.host = true) ∧ (hostUp s)) ∧
  (∃ s : State, ∃ c, ∃ n, (s.dbgp.unlock.chal = some c) ∧ (s.dbgp.unlock.read = n) ∧ (n < 8) ∧ (s.dbgp.unlock.host = false) ∧ (dbgUp s = true)) ∧
  (∃ s : State, (s.dbgp.unlock.chal.isSome = true) ∧ (s.dbgp.unlock.checking = false) ∧ (s.dbgp.unlock.host = true) ∧ (hostUp s)) ∧
  (∃ s : State, (s.dbgp.unlock.chal.isSome = true) ∧ (s.dbgp.unlock.checking = false) ∧ (s.dbgp.unlock.host = false) ∧ (dbgUp s = true)) ∧
  (∃ s : State, ∃ c, (s.dbgp.unlock.chal = some c) ∧ (s.dbgp.unlock.checking = true) ∧ (respNum s.dbgp.unlock.resp = (expected s c s.dbgp.unlock.level).toNat) ∧ (s.dbgp.unlock.level < 4)) ∧
  (∃ s : State, ∃ c, (s.dbgp.unlock.chal = some c) ∧ (s.dbgp.unlock.checking = true) ∧ (respNum s.dbgp.unlock.resp ≠ (expected s c s.dbgp.unlock.level).toNat)) ∧
  (∃ s : State, (s.dbgp.unlock.chal = none ∨ s.dbgp.unlock.checking = false)) :=
  ⟨⟨(st [(F.HW_STATE_STATE, dsRun), (F.DBG_LEVEL_MAX, 2), (F.SEC_RNG_STAT_READY, 1)]), 2, _, rfl, _, rfl, by decide +kernel⟩,
   ⟨(st [(F.HW_STATE_STATE, dsRun), (F.DBG_LEVEL_MAX, 2), (F.SEC_RNG_STAT_READY, 1)]), 2, _, rfl, _, rfl, by decide +kernel⟩,
   ⟨(st [(F.HW_STATE_STATE, dsRun), (F.DBG_LEVEL_MAX, 1)]), 2, _, rfl, _, rfl, by decide +kernel⟩,
   ⟨(st [(F.HW_STATE_STATE, dsRun), (F.DBG_LEVEL_MAX, 1)]), 2, _, rfl, _, rfl, by decide +kernel⟩,
   ⟨(st [(F.HW_STATE_STATE, dsRun), (F.DBG_LEVEL_MAX, 2), (F.SEC_RNG_STAT_READY, 1)]), 0xFFFFFFFF, _, rfl, by decide +kernel⟩,
   ⟨(st [(F.HW_STATE_STATE, dsRun), (F.DBG_LEVEL_MAX, 2), (F.SEC_RNG_STAT_READY, 1)]), 0xFFFFFFFF, _, rfl, by decide +kernel⟩,
   ⟨(let s := st [(F.HW_STATE_STATE, dsRun)]; { s with dbgp := { s.dbgp with unlock := { s.dbgp.unlock with chal := some (2 ^ 255 + 5), read := 7, host := true } } }), (2 ^ 255 + 5 : BitVec 256), 7, by decide +kernel⟩,
   ⟨(let s := st [(F.HW_STATE_STATE, dsRun)]; { s with dbgp := { s.dbgp with unlock := { s.dbgp.unlock with chal := some (2 ^ 255 + 5), read := 7, host := false } } }), (2 ^ 255 + 5 : BitVec 256), 7, by decide +kernel⟩,
   ⟨(let s := st [(F.HW_STATE_STATE, dsRun)]; { s with dbgp := { s.dbgp with unlock := { s.dbgp.unlock with chal := some (2 ^ 255 + 5), read := 7, host := true } } }), by decide +kernel⟩,
   ⟨(let s := st [(F.HW_STATE_STATE, dsRun)]; { s with dbgp := { s.dbgp with unlock := { s.dbgp.unlock with chal := some (2 ^ 255 + 5), read := 7, host := false } } }), by decide +kernel⟩,
   ⟨(answered right), (5 : BitVec 256), by decide +kernel, by decide +kernel, (respNum_wordsOf _).trans (congrArg BitVec.toNat (right_response right).symm), by decide +kernel⟩,
   ⟨(answered wrong), (5 : BitVec 256), by decide +kernel, by decide +kernel, wrong_response⟩,
   ⟨(st [(F.HW_STATE_STATE, dsRun), (F.DBG_LEVEL_MAX, 2), (F.SEC_RNG_STAT_READY, 1)]), by decide +kernel⟩⟩

theorem witness_ResetLeaves :
  (∃ a, (volatile a = true)) ∧
  (∃ k : CoreId, (256 ≤ k.val)) :=
  ⟨⟨0x203FFFFF, by decide +kernel⟩,
   ⟨259, by decide +kernel⟩⟩

/-- BOOT with an erased flash, and the tries of its two slots. -/
def bootable : State := st [(F.HW_STATE_STATE, dsBoot), (F.HW_BOOT_CFG_IMAGE, 1)]
def firstTry : (List Byte × Nat) × State :=
  tryImage (bootStep1 (romClock (startCore bootable 256 0xF0000000)) true (dcwMax (BitVec.allOnes 128))) (.flash false) (dcwMin (BitVec.allOnes 128))
def secondTry : (List Byte × Nat) × State := tryImage (bootErr firstTry.2 firstTry.1.2) (.flash true) (dcwMin (BitVec.allOnes 128))

theorem first_fails : firstTry.1.2 = 2 := by
  set_option maxRecDepth 100000 in
  decide +kernel

theorem second_fails : secondTry.1.2 = 2 := by
  set_option maxRecDepth 100000 in
  decide +kernel

theorem eta_pair {α β γ : Type} {x y : (α × β) × γ} (h : x = y) : x = ((y.1.1, y.1.2), y.2) := h

theorem witness_ResetAndBootComplete :
  (∃ s : State, (s.dev ≠ dsLayby ∨ s.lay.save = none)) ∧
  (∃ s : State, (s.dev = dsLayby) ∧ (s.lay.save ≠ none)) ∧
  (∃ s : State, (s.dev ≠ dsOff) ∧ (s.dev ≠ dsRoadblock) ∧ (s.boot.inReset = none) ∧ (s.dev ≠ dsLayby)) ∧
  (∃ s : State, (s.dev ≠ dsOff) ∧ (s.dev ≠ dsRoadblock) ∧ (s.boot.inReset = none) ∧ (s.dev = dsLayby)) ∧
  (∃ s : State, (s.dev ≠ dsOff) ∧ (s.dev ≠ dsRoadblock) ∧ ∃ c, (s.boot.inReset = some c)) ∧
  (∃ s : State, ((s.dev = dsOff ∨ s.dev = dsRoadblock))) ∧
  (∃ s : State, ∃ c, (s.boot.inReset = some c) ∧ (c < 7)) ∧
  (∃ s : State, (s.dev = dsBoot) ∧ (s.boot.inReset = none) ∧ (s.boot.scanned = false)) ∧
  (∃ s : State, (s.dev ≠ dsBoot ∨ s.boot.inReset ≠ none ∨ s.boot.scanned = true)) ∧
  (∃ s : State, (s.boot.inReset = none) ∧ (s.dev = dsBoot) ∧ (s.boot.scanned = true) ∧ (s.flag F.HW_STATE_HOST_WAIT = false) ∧ (senseData s dcwAddr = none)) ∧
  (∃ s : State, (s.boot.inReset = none) ∧ (s.dev = dsBoot) ∧ (s.boot.scanned = true) ∧ (s.flag F.HW_STATE_HOST_WAIT = false) ∧ (senseData s dcwAddr = some (BitVec.allOnes 128)) ∧ (s.get F.HW_BOOT_CFG_IMAGE ≠ 1) ∧ (s.get F.HW_BOOT_CFG_IMAGE ≠ 2)) ∧
  (∃ s : State, (s.boot.inReset = none) ∧ (s.dev = dsBoot) ∧ (s.boot.scanned = true) ∧ (s.flag F.HW_STATE_HOST_WAIT = false) ∧ ∃ d, (senseData s dcwAddr = some d) ∧ (dcwErased d = true ∨ dcwValid d = true) ∧ (s.get F.HW_BOOT_CFG_IMAGE = 1) ∧ ∃ r, r = (bootStep1 (romClock (startCore s 256 0xF0000000)) true (dcwMax d)) ∧ ∃ l, ∃ c, ∃ u, ∃ m, ∃ e, ∃ v, (tryImage r (.flash false) (dcwMin d) = ((l, c), u)) ∧ (c ≠ 0) ∧ (c < 256) ∧ (tryImage (bootErr u c) (.flash true) (dcwMin d) = ((m, e), v)) ∧ (e ≠ 0)) ∧
  (∃ s : State, ∃ k : Fin 4, (s.boot.inReset = none) ∧ (s.dev ≠ dsBoot) ∧ (s.flag F.SEC_STAT_BOOTED = true) ∧ ((s.core (256 + k.val)).run = .active) ∧ ((s.core (256 + k.val)).pc = 0xF0000000)) ∧
  (∃ s : State, ∃ k : Fin 4, (s.boot.inReset ≠ none ∨ (s.dev = dsBoot ∧ (k ≠ 0 ∨ s.boot.scanned = false ∨ s.flag F.HW_STATE_HOST_WAIT = true)) ∨ (s.dev ≠ dsBoot ∧ (s.flag F.SEC_STAT_BOOTED = false ∨ (s.core (256 + k.val)).run ≠ .active ∨ (s.core (256 + k.val)).pc ≠ 0xF0000000)))) ∧
  (∃ s : State, (s.flag F.SEC_RNG_STAT_FAIL = false)) ∧
  (∃ s : State, (s.flag F.SEC_RNG_STAT_FAIL = true)) ∧
  (∃ s : State, (s.flag F.SEC_RNG_STAT_READY = true) ∧ (s.boot.rng.length < 4)) ∧
  (∃ s : State, (s.flag F.SEC_RNG_STAT_READY = false ∨ 4 ≤ s.boot.rng.length)) ∧
  (∃ s : State, ∃ w, ∃ rest, (s.flag F.SEC_RNG_STAT_READY = true) ∧ (s.boot.rng = w :: rest)) ∧
  (∃ s : State, ((s.flag F.SEC_RNG_STAT_READY = false ∨ s.boot.rng = []))) :=
  ⟨⟨base, by decide +kernel⟩,
   ⟨(let s := st [(F.HW_STATE_STATE, dsLayby)]; { s with lay := { s.lay with save := some 0 } }), by decide +kernel⟩,
   ⟨base, by decide +kernel⟩,
   ⟨(st [(F.HW_STATE_STATE, dsLayby)]), by decide +kernel⟩,
   ⟨(let s := base; { s with boot := { s.boot with inReset := some 6 } }), by decide +kernel, by decide +kernel, 6, by decide +kernel⟩,
   ⟨(st [(F.HW_STATE_STATE, dsRoadblock)]), by decide +kernel⟩,
   ⟨(let s := base; { s with boot := { s.boot with inReset := some 6 } }), 6, by decide +kernel⟩,
   ⟨(let s := st [(F.HW_STATE_STATE, dsBoot)]; { s with boot := { s.boot with scanned := false } }), by decide +kernel⟩,
   ⟨base, by decide +kernel⟩,
   ⟨({ (st [(F.HW_STATE_STATE, dsBoot)]) with mem := [(0x8005000, 0xF0)] }), by decide +kernel⟩,
   ⟨base, by decide +kernel⟩,
   ⟨bootable, by decide +kernel, by decide +kernel, by decide +kernel, by decide +kernel, (BitVec.allOnes 128), by decide +kernel, by decide +kernel, by decide +kernel, _, rfl, firstTry.1.1, firstTry.1.2, firstTry.2, secondTry.1.1, secondTry.1.2, secondTry.2, eta_pair (y := firstTry) rfl, by rw [first_fails]; decide, by rw [first_fails]; decide, eta_pair (y := secondTry) rfl, by rw [second_fails]; decide⟩,
   ⟨(awake 259 0xF0000000 (st [(F.HW_STATE_STATE, dsProvision), (F.SEC_STAT_BOOTED, 1)])), 3, by decide +kernel⟩,
   ⟨base, 3, by decide +kernel⟩,
   ⟨base, by decide +kernel⟩,
   ⟨(st [(F.HW_STATE_STATE, dsBoot), (F.SEC_RNG_STAT_FAIL, 1)]), by decide +kernel⟩,
   ⟨(let s := st [(F.HW_STATE_STATE, dsBoot), (F.SEC_RNG_STAT_READY, 1)]; { s with boot := { s.boot with rng := [1, 2, 3] } }), by decide +kernel⟩,
   ⟨base, by decide +kernel⟩,
   ⟨(let s := st [(F.HW_STATE_STATE, dsBoot), (F.SEC_RNG_STAT_READY, 1)]; { s with boot := { s.boot with rng := [7, 8] } }), (7 : BitVec 32), ([8] : List (BitVec 32)), by decide +kernel⟩,
   ⟨base, by decide +kernel⟩⟩

theorem witness_RegisterAccessesComplete :
  (∃ a : Addr, (inPeri a.toNat = false)) ∧
  (∃ i : Agent, ∃ a : Addr, ∃ wide : Bool, ∃ s : State, ∃ n, n = (if wide then 8 else 4) ∧ ∃ priv, priv = (match i with
      | .sc k => s.isPriv (256 + k)
      | _ => false) ∧ ∃ bad, bad = (mayWrite s i a.toNat = false ∨ periOk a.toNat n = false ∨ mpuRefused i priv a.toNat = true) ∧ (inPeri a.toNat = true) ∧ (¬ bad)) ∧
  (∃ i : Agent, ∃ a : Addr, ∃ wide : Bool, ∃ s : State, ∃ n, n = (if wide then 8 else 4) ∧ ∃ priv, priv = (match i with
      | .sc k => s.isPriv (256 + k)
      | _ => false) ∧ ∃ bad, bad = (mayWrite s i a.toNat = false ∨ periOk a.toNat n = false ∨ mpuRefused i priv a.toNat = true) ∧ ∃ k : Fin 4, (i = .sc k) ∧ (inPeri a.toNat = true) ∧ (bad) ∧ (coreRuns s (256 + k) = true)) ∧
  (∃ i : Agent, ∃ a : Addr, ∃ wide : Bool, ∃ s : State, ∃ n, n = (if wide then 8 else 4) ∧ ∃ priv, priv = (match i with
      | .sc k => s.isPriv (256 + k)
      | _ => false) ∧ ∃ bad, bad = (mayWrite s i a.toNat = false ∨ periOk a.toNat n = false ∨ mpuRefused i priv a.toNat = true) ∧ ∃ k : Fin 4, (i = .sc k) ∧ (inPeri a.toNat = true) ∧ (bad) ∧ (coreRuns s (256 + k) = false)) ∧
  (∃ i : Agent, ∃ a : Addr, ∃ wide : Bool, ∃ s : State, ∃ n, n = (if wide then 8 else 4) ∧ ∃ priv, priv = (match i with
      | .sc k => s.isPriv (256 + k)
      | _ => false) ∧ ∃ bad, bad = (mayWrite s i a.toNat = false ∨ periOk a.toNat n = false ∨ mpuRefused i priv a.toNat = true) ∧ ∃ g : Fin 16, (i = .dma g) ∧ (inPeri a.toNat = true) ∧ (bad)) ∧
  (∃ i : Agent, ∃ a : Addr, ∃ wide : Bool, ∃ s : State, ∃ n, n = (if wide then 8 else 4) ∧ ∃ priv, priv = (match i with
      | .sc k => s.isPriv (256 + k)
      | _ => false) ∧ ∃ bad, bad = (mayWrite s i a.toNat = false ∨ periOk a.toNat n = false ∨ mpuRefused i priv a.toNat = true) ∧ (i = .host) ∧ (inPeri a.toNat = true) ∧ (bad)) ∧
  (∃ i : Agent, ∃ a : Addr, ∃ wide : Bool, ∃ s : State, ∃ n, n = (if wide then 8 else 4) ∧ ∃ priv, priv = (match i with
      | .sc k => s.isPriv (256 + k)
      | _ => false) ∧ ∃ bad, bad = (mayWrite s i a.toNat = false ∨ periOk a.toNat n = false ∨ mpuRefused i priv a.toNat = true) ∧ (i = .debug) ∧ (inPeri a.toNat = true) ∧ (bad)) ∧
  (∃ i : Instr, ∃ l : Loc, (l ∈ rcField i)) :=
  ⟨⟨(BitVec.allOnes 40), by decide +kernel⟩,
   ⟨.debug, 0x40000000, false, (st [(F.HW_STATE_STATE, dsRun), (F.DBG_LEVEL_LEVEL, 2)]), _, rfl, _, rfl, _, rfl, by decide +kernel⟩,
   ⟨(.sc 3), 0x40001000, true, (awake 259 0x40000000 (st [(F.HW_STATE_STATE, dsRun)])), _, rfl, _, rfl, _, rfl, 3, by decide +kernel⟩,
   ⟨(.sc 3), 0x40001000, true, (st [(F.HW_STATE_STATE, dsRun), (F.DBG_LEVEL_LEVEL, 2)]), _, rfl, _, rfl, _, rfl, 3, by decide +kernel⟩,
   ⟨(.dma 15), 0x40001000, true, (st [(F.HW_STATE_STATE, dsRun), (F.DBG_LEVEL_LEVEL, 2)]), _, rfl, _, rfl, _, rfl, 15, by decide +kernel⟩,
   ⟨.host, 0x40001000, true, (st [(F.HW_STATE_STATE, dsRun), (F.DBG_LEVEL_LEVEL, 2)]), _, rfl, _, rfl, _, rfl, by decide +kernel⟩,
   ⟨.debug, 0x40001000, true, (st [(F.HW_STATE_STATE, dsRun), (F.DBG_LEVEL_LEVEL, 2)]), _, rfl, _, rfl, _, rfl, by decide +kernel⟩,
   ⟨(.cvyInDisRead 3), ⟨A.CVY_IN_DIS 3, 31, 24⟩, by decide +kernel⟩⟩

theorem witness_InterruptCommandsComplete :
  (∃ s : State, ∃ k : Fin 4, ∃ u, u = (settle s) ∧ ∃ id, (latchOf u k = some id) ∧ (id < 512)) ∧
  (∃ s : State, ∃ k : Fin 4, ∃ u, u = (settle s) ∧ ∃ lost, lost = (u.withdrawn.read noB' k && claimSpurious u) ∧ ∃ id, (latchOf u k = none) ∧ (lost = false) ∧ (candidate u k = some id) ∧ (id < 512)) ∧
  (∃ s : State, ∃ k : Fin 4, ∃ u, u = (settle s) ∧ ∃ lost, lost = (u.withdrawn.read noB' k && claimSpurious u) ∧ (latchOf u k = none) ∧ (lost = false) ∧ (candidate u k = none)) ∧
  (∃ s : State, ∃ k : Fin 4, ∃ u, u = (settle s) ∧ ∃ lost, lost = (u.withdrawn.read noB' k && claimSpurious u) ∧ (latchOf u k = none) ∧ (lost = true)) ∧
  (∃ k : Fin 4, ∃ i : Agent, (i ≠ .sc k)) ∧
  (∃ s : State, ∃ k : Fin 4, ∃ u, u = (settle s) ∧ ∃ id : BitVec 10, (id ≠ 0) ∧ (id.toNat < 512) ∧ (inService u id.toNat = k.val + 1)) ∧
  (∃ s : State, ∃ k : Fin 4, ∃ u, u = (settle s) ∧ ∃ id : BitVec 10, (id ≠ 0) ∧ (id.toNat < 512) ∧ (inService u id.toNat ≠ k.val + 1) ∧ (u.flag F.ICU_ERR_VALID = false)) ∧
  (∃ k : Fin 4, ∃ id : BitVec 10, ∃ i : Agent, (i ≠ .sc k ∨ id = 0 ∨ 511 < id.toNat)) ∧
  (∃ v : BitVec 4, (v.toNat ≤ 8)) ∧
  (∃ s : State, ∃ v : BitVec 4, (8 < v.toNat) ∧ (s.flag F.ICU_ERR_VALID = false)) :=
  ⟨⟨(st [(F.HW_STATE_STATE, dsRun), (F.ICU_LATCH_VALID 3, 1), (F.ICU_LATCH_ID 3, 511), (F.ICU_EN_EN 3 15, 0x80000000), (F.ICU_PRIO_PRIO 511, 7), (F.ICU_PEND_PEND 15, 0x80000000)]), 3, _, rfl, 511, by decide +kernel⟩,
   ⟨(st [(F.HW_STATE_STATE, dsRun), (F.ICU_EN_EN 3 15, 0x80000000), (F.ICU_PRIO_PRIO 511, 7), (F.ICU_PEND_PEND 15, 0x80000000)]), 3, _, rfl, _, rfl, 511, by decide +kernel⟩,
   ⟨(st [(F.HW_STATE_STATE, dsRun)]), 3, _, rfl, _, rfl, by decide +kernel⟩,
   ⟨(let s := st [(F.HW_STATE_STATE, dsService)]; { s with withdrawn := [(3, true)] }), 3, _, rfl, _, rfl, by decide +kernel⟩,
   ⟨3, .debug, by decide +kernel⟩,
   ⟨(let s := st [(F.HW_STATE_STATE, dsRun)]; { s with service := [(511, 4)] }), 3, _, rfl, 511, by decide +kernel⟩,
   ⟨(st [(F.HW_STATE_STATE, dsRun), (F.ICU_LATCH_VALID 3, 1), (F.ICU_LATCH_ID 3, 511), (F.ICU_EN_EN 3 15, 0x80000000), (F.ICU_PRIO_PRIO 511, 7), (F.ICU_PEND_PEND 15, 0x80000000)]), 3, _, rfl, 511, by decide +kernel⟩,
   ⟨3, 511, .debug, by decide +kernel⟩,
   ⟨8, by decide +kernel⟩,
   ⟨(st [(F.HW_STATE_STATE, dsRun), (F.ICU_LATCH_VALID 3, 1), (F.ICU_LATCH_ID 3, 511), (F.ICU_EN_EN 3 15, 0x80000000), (F.ICU_PRIO_PRIO 511, 7), (F.ICU_PEND_PEND 15, 0x80000000)]), 9, by decide +kernel⟩⟩

theorem witness_ClockSourceCommandsComplete :
  (∃ s : State, ∃ lock, lock = (s.flag F.SYS_CLK_STAT_PLL_LOCK) ∧ ∃ src : Bool, ((src = false ∨ lock = true))) ∧
  (∃ s : State, ∃ lock, lock = (s.flag F.SYS_CLK_STAT_PLL_LOCK) ∧ (lock = false)) ∧
  (∃ s : State, ∃ lock, lock = (s.flag F.SYS_CLK_STAT_PLL_LOCK) ∧ ∃ src, src = (s.flag F.SYS_CLK_CTL_SRC) ∧ ∃ goes, goes = (s.flag F.SYS_CLK_STAT_SWITCHING && xspIdle s && !s.flag F.PWR_OPP_STAT_BUSY && (!src || lock)) ∧ (goes = true)) ∧
  (∃ s : State, ∃ lock, lock = (s.flag F.SYS_CLK_STAT_PLL_LOCK) ∧ ∃ src, src = (s.flag F.SYS_CLK_CTL_SRC) ∧ ∃ goes, goes = (s.flag F.SYS_CLK_STAT_SWITCHING && xspIdle s && !s.flag F.PWR_OPP_STAT_BUSY && (!src || lock)) ∧ (goes = false)) ∧
  (∃ s : State, ∃ runs, runs = (s.flag F.SYS_PLL_CTL_EN && s.boot.inReset.isNone && s.dev != dsOff && !(s.dev == dsSleep && s.pwr.mode != slDoze)) ∧ (runs = true)) ∧
  (∃ s : State, ∃ runs, runs = (s.flag F.SYS_PLL_CTL_EN && s.boot.inReset.isNone && s.dev != dsOff && !(s.dev == dsSleep && s.pwr.mode != slDoze)) ∧ (runs = false)) ∧
  (∃ s : State, ∃ lock, lock = (s.flag F.SYS_CLK_STAT_PLL_LOCK) ∧ ∃ pll, pll = (s.flag F.SYS_CLK_STAT_SRC) ∧ (lock = true) ∧ (pll = false)) ∧
  (∃ s : State, ∃ lock, lock = (s.flag F.SYS_CLK_STAT_PLL_LOCK) ∧ ∃ pll, pll = (s.flag F.SYS_CLK_STAT_SRC) ∧ (lock = true) ∧ (pll = true)) :=
  ⟨⟨(st [(F.SYS_CLK_STAT_PLL_LOCK, 1)]), _, rfl, true, by decide +kernel⟩,
   ⟨(st [(F.SYS_PLL_CTL_EN, 0)]), _, rfl, by decide +kernel⟩,
   ⟨(st [(F.SYS_CLK_STAT_PLL_LOCK, 1), (F.SYS_CLK_CTL_SRC, 1), (F.SYS_CLK_STAT_SWITCHING, 1)]), _, rfl, _, rfl, _, rfl, by decide +kernel⟩,
   ⟨(st [(F.SYS_PLL_CTL_EN, 0)]), _, rfl, _, rfl, _, rfl, by decide +kernel⟩,
   ⟨(st [(F.SYS_CLK_STAT_PLL_LOCK, 1)]), _, rfl, by decide +kernel⟩,
   ⟨(st [(F.SYS_PLL_CTL_EN, 0)]), _, rfl, by decide +kernel⟩,
   ⟨(st [(F.SYS_CLK_STAT_PLL_LOCK, 1)]), _, rfl, _, rfl, by decide +kernel⟩,
   ⟨(st [(F.HW_STATE_STATE, dsRun), (F.SYS_CLK_STAT_PLL_LOCK, 1), (F.SYS_CLK_STAT_SRC, 1), (F.WPT_PSTATE_STATE 3, psScanning)]), _, rfl, _, rfl, by decide +kernel⟩⟩

theorem witness_OperatingPointCommandsComplete :
  (∃ s : State, ∃ busy, busy = (s.flag F.PWR_OPP_STAT_BUSY) ∧ ∃ k : BitVec 2, (busy = false) ∧ (oppCur s ≤ k.toNat)) ∧
  (∃ s : State, ∃ busy, busy = (s.flag F.PWR_OPP_STAT_BUSY) ∧ ∃ k : BitVec 2, (busy = false) ∧ (k.toNat < oppCur s)) ∧
  (∃ s : State, ∃ busy, busy = (s.flag F.PWR_OPP_STAT_BUSY) ∧ ∃ pll, pll = (s.flag F.SYS_CLK_STAT_SRC) ∧ (busy = true) ∧ (s.get F.PWR_OPP_STAT_PHASE = 1) ∧ (oppCur s < oppTarget s) ∧ (pll = true)) ∧
  (∃ s : State, ∃ busy, busy = (s.flag F.PWR_OPP_STAT_BUSY) ∧ ∃ pll, pll = (s.flag F.SYS_CLK_STAT_SRC) ∧ (busy = true) ∧ (s.get F.PWR_OPP_STAT_PHASE = 1) ∧ (oppTarget s ≤ oppCur s ∨ pll = false)) ∧
  (∃ s : State, ∃ busy, busy = (s.flag F.PWR_OPP_STAT_BUSY) ∧ (busy = false ∨ s.get F.PWR_OPP_STAT_PHASE ≠ 1)) ∧
  (∃ s : State, (s.get F.PWR_OPP_STAT_PHASE = 2) ∧ (xspIdle s = true) ∧ (oppCur s < oppTarget s)) ∧
  (∃ s : State, (s.get F.PWR_OPP_STAT_PHASE = 2) ∧ (xspIdle s = true) ∧ (oppTarget s ≤ oppCur s)) ∧
  (∃ s : State, (s.get F.PWR_OPP_STAT_PHASE ≠ 2 ∨ xspIdle s = false)) ∧
  (∃ s : State, ∃ busy, busy = (s.flag F.PWR_OPP_STAT_BUSY) ∧ ∃ pll, pll = (s.flag F.SYS_CLK_STAT_SRC) ∧ ∃ v : BitVec 32, ∃ x, x = (v.toNat % 64) ∧ ∃ low, low = (x < vidMin (oppCur s) ∨ (pll = false ∧ x < s.get (F.PWR_VID_OPP_VID 0))) ∧ (¬ low) ∧ (x ≤ 40) ∧ (busy = false)) ∧
  (∃ s : State, ∃ pll, pll = (s.flag F.SYS_CLK_STAT_SRC) ∧ ∃ v : BitVec 32, ∃ x, x = (v.toNat % 64) ∧ ∃ low, low = (x < vidMin (oppCur s) ∨ (pll = false ∧ x < s.get (F.PWR_VID_OPP_VID 0))) ∧ (low)) ∧
  (∃ s : State, ∃ pll, pll = (s.flag F.SYS_CLK_STAT_SRC) ∧ ∃ v : BitVec 32, ∃ x, x = (v.toNat % 64) ∧ ∃ low, low = (x < vidMin (oppCur s) ∨ (pll = false ∧ x < s.get (F.PWR_VID_OPP_VID 0))) ∧ (¬ low) ∧ (40 < x)) ∧
  (∃ s : State, ∃ busy, busy = (s.flag F.PWR_OPP_STAT_BUSY) ∧ ∃ pll, pll = (s.flag F.SYS_CLK_STAT_SRC) ∧ ∃ v : BitVec 32, ∃ x, x = (v.toNat % 64) ∧ ∃ low, low = (x < vidMin (oppCur s) ∨ (pll = false ∧ x < s.get (F.PWR_VID_OPP_VID 0))) ∧ (¬ low) ∧ (x ≤ 40) ∧ (busy = true)) ∧
  (∃ s : State, ∃ off, off = (s.boot.inReset ≠ none ∨ s.dev = dsOff ∨ s.dev = dsLayby ∨ s.dev = dsSleep) ∧ (¬ off)) ∧
  (∃ s : State, ∃ off, off = (s.boot.inReset ≠ none ∨ s.dev = dsOff ∨ s.dev = dsLayby ∨ s.dev = dsSleep) ∧ (off)) :=
  ⟨⟨(st [(F.HW_STATE_STATE, dsLayby)]), _, rfl, 3, by decide +kernel⟩,
   ⟨(st [(F.PWR_OPP_STAT_CUR, 3), (F.SYS_CLK_STAT_SRC, 1)]), _, rfl, 0, by decide +kernel⟩,
   ⟨(st [(F.PWR_OPP_STAT_BUSY, 1), (F.PWR_OPP_STAT_PHASE, 1), (F.PWR_OPP_STAT_CUR, 0), (F.PWR_OPP_CTL_TARGET, 3), (F.SYS_CLK_STAT_SRC, 1)]), _, rfl, _, rfl, by decide +kernel⟩,
   ⟨(st [(F.PWR_OPP_STAT_BUSY, 1), (F.PWR_OPP_STAT_PHASE, 1), (F.PWR_OPP_STAT_CUR, 3), (F.PWR_OPP_CTL_TARGET, 3)]), _, rfl, _, rfl, by decide +kernel⟩,
   ⟨(st [(F.HW_STATE_STATE, dsLayby)]), _, rfl, by decide +kernel⟩,
   ⟨(st [(F.PWR_OPP_STAT_BUSY, 1), (F.PWR_OPP_STAT_PHASE, 2), (F.PWR_OPP_STAT_CUR, 0), (F.PWR_OPP_CTL_TARGET, 3)]), by decide +kernel⟩,
   ⟨(st [(F.PWR_OPP_STAT_BUSY, 1), (F.PWR_OPP_STAT_PHASE, 2), (F.PWR_OPP_STAT_CUR, 3), (F.PWR_OPP_CTL_TARGET, 0), (F.PWR_VID_OPP_VID 0, 15)]), by decide +kernel⟩,
   ⟨(st [(F.HW_STATE_STATE, dsLayby)]), by decide +kernel⟩,
   ⟨(st [(F.HW_STATE_STATE, dsLayby)]), _, rfl, _, rfl, 0xC0000028, _, rfl, _, rfl, by decide +kernel⟩,
   ⟨(st [(F.HW_STATE_STATE, dsLayby)]), _, rfl, 14, _, rfl, _, rfl, by decide +kernel⟩,
   ⟨(st [(F.HW_STATE_STATE, dsLayby)]), _, rfl, 63, _, rfl, _, rfl, by decide +kernel⟩,
   ⟨(st [(F.PWR_OPP_STAT_BUSY, 1)]), _, rfl, _, rfl, 0xC0000028, _, rfl, _, rfl, by decide +kernel⟩,
   ⟨base, _, rfl, by decide +kernel⟩,
   ⟨(st [(F.HW_STATE_STATE, dsLayby)]), _, rfl, by decide +kernel⟩⟩

theorem witness_SleepAndWakeComplete :
  (∃ s : State, ∃ v : BitVec 32, (domainsFree s v)) ∧
  (∃ s : State, ∃ v : BitVec 32, (¬ domainsFree s v)) ∧
  (∃ s : State, ∃ d : Fin 6, ∃ off, off = (if d.val < 4 then s.bitAt F.PWR_DOM_CTL_FAB_OFF d.val else if d.val = 4 then s.flag F.PWR_DOM_CTL_ANA_OFF else s.flag F.PWR_DOM_CTL_LINK_OFF) ∧ (off = false)) ∧
  (∃ s : State, ∃ d : Fin 6, ∃ off, off = (if d.val < 4 then s.bitAt F.PWR_DOM_CTL_FAB_OFF d.val else if d.val = 4 then s.flag F.PWR_DOM_CTL_ANA_OFF else s.flag F.PWR_DOM_CTL_LINK_OFF) ∧ (off = true)) ∧
  (∃ s : State, ∃ st : BitVec 2, ∃ state, state = (s.dev = dsHold ∨ s.dev = dsService) ∧ ∃ free, free = (s.flag F.PWR_OPP_STAT_BUSY = false ∧ s.pwr.hs = none) ∧ ∃ wakes, wakes = (st = 1 ∨ s.get F.PWR_WAKE_EN_EN ≠ 0) ∧ (st ≠ 0) ∧ (state) ∧ (free) ∧ (wakes) ∧ (wakeActive s = false)) ∧
  (∃ s : State, ∃ st : BitVec 2, ∃ state, state = (s.dev = dsHold ∨ s.dev = dsService) ∧ (st ≠ 0) ∧ (s.pwr.hs = none) ∧ (¬ state)) ∧
  (∃ s : State, ∃ st : BitVec 2, ∃ state, state = (s.dev = dsHold ∨ s.dev = dsService) ∧ ∃ free, free = (s.flag F.PWR_OPP_STAT_BUSY = false ∧ s.pwr.hs = none) ∧ (st ≠ 0) ∧ (s.pwr.hs = none) ∧ (state) ∧ (¬ free)) ∧
  (∃ s : State, ∃ st : BitVec 2, ∃ state, state = (s.dev = dsHold ∨ s.dev = dsService) ∧ ∃ free, free = (s.flag F.PWR_OPP_STAT_BUSY = false ∧ s.pwr.hs = none) ∧ ∃ wakes, wakes = (st = 1 ∨ s.get F.PWR_WAKE_EN_EN ≠ 0) ∧ (st ≠ 0) ∧ (s.pwr.hs = none) ∧ (state) ∧ (free) ∧ (¬ wakes)) ∧
  (∃ s : State, ∃ st : BitVec 2, ∃ state, state = (s.dev = dsHold ∨ s.dev = dsService) ∧ ∃ free, free = (s.flag F.PWR_OPP_STAT_BUSY = false ∧ s.pwr.hs = none) ∧ ∃ wakes, wakes = (st = 1 ∨ s.get F.PWR_WAKE_EN_EN ≠ 0) ∧ (st ≠ 0) ∧ (s.pwr.hs = none) ∧ (state) ∧ (free) ∧ (wakes) ∧ (wakeActive s = true)) ∧
  (∃ s : State, ∃ st : BitVec 2, ∃ state, state = (s.dev = dsHold ∨ s.dev = dsService) ∧ (st ≠ 0) ∧ (s.pwr.hs ≠ none) ∧ (state)) ∧
  (∃ st : BitVec 2, (st = 0)) ∧
  (∃ s : State, ∃ b : Fin 11, ∃ h : Handshake, (s.pwr.hs = some h) ∧ ∃ new, new = (h.acked.contains (b.val + 1) = false) ∧ ∃ c, (new) ∧ (hsAnswer s h.target (b.val + 1) = .refuse c) ∧ (c < 256)) ∧
  (∃ s : State, ∃ b : Fin 11, ∃ h : Handshake, (s.pwr.hs = some h) ∧ ∃ new, new = (h.acked.contains (b.val + 1) = false) ∧ (new) ∧ (hsAnswer s h.target (b.val + 1) = .delay)) ∧
  (∃ s : State, ∃ b : Fin 11, ∃ h : Handshake, (s.pwr.hs = some h) ∧ ∃ new, new = (h.acked.contains (b.val + 1) = false) ∧ (new) ∧ (hsAnswer s h.target (b.val + 1) = .ack) ∧ (h.acked.length ≠ 10)) ∧
  (∃ s : State, ∃ b : Fin 11, ∃ h : Handshake, (s.pwr.hs = some h) ∧ ∃ new, new = (h.acked.contains (b.val + 1) = false) ∧ (new) ∧ (hsAnswer s h.target (b.val + 1) = .ack) ∧ (h.acked.length = 10)) ∧
  (∃ s : State, ∃ b : Fin 11, ∃ h : Handshake, (s.pwr.hs = some h) ∧ ∃ new, new = (h.acked.contains (b.val + 1) = false) ∧ (¬ new)) ∧
  (∃ s : State, ∃ b : Fin 7, (s.dev = dsSleep) ∧ (wakeEnabled s b = true) ∧ (s.pwr.hs = none) ∧ (s.pwr.waking = false) ∧ (s.pwr.mode = slDoze) ∧ (s.pwr.before < 16)) ∧
  (∃ s : State, ∃ b : Fin 7, (s.dev = dsSleep) ∧ (wakeEnabled s b = true) ∧ (s.pwr.hs = none) ∧ (s.pwr.waking = false) ∧ (s.pwr.mode ≠ slDoze)) ∧
  (∃ s : State, ∃ b : Fin 7, ∃ h, (s.pwr.hs = some h) ∧ (wakeEnabled s b = true)) ∧
  (∃ s : State, ∃ b : Fin 7, (wakeEnabled s b = false ∨ (s.pwr.hs = none ∧ (s.dev ≠ dsSleep ∨ s.pwr.waking = true)))) ∧
  (∃ s : State, ∃ deep, deep = (s.dev = dsSleep ∧ s.pwr.mode ≠ slDoze) ∧ ∃ j : Fin 3, ∃ seen, seen = ((s.flag F.PWR_DOM_STAT_LINK = false ∨ deep) ∧ s.flag (F.CVY_PORT_CTL_WAKE_EN j) = true) ∧ (seen) ∧ (s.dev = dsSleep) ∧ (wakeEnabled s j = true) ∧ (s.pwr.hs = none) ∧ (s.pwr.waking = false)) ∧
  (∃ s : State, ∃ deep, deep = (s.dev = dsSleep ∧ s.pwr.mode ≠ slDoze) ∧ ∃ j : Fin 3, ∃ seen, seen = ((s.flag F.PWR_DOM_STAT_LINK = false ∨ deep) ∧ s.flag (F.CVY_PORT_CTL_WAKE_EN j) = true) ∧ (seen) ∧ (s.dev ≠ dsSleep)) ∧
  (∃ s : State, ∃ deep, deep = (s.dev = dsSleep ∧ s.pwr.mode ≠ slDoze) ∧ ∃ j : Fin 3, ∃ seen, seen = ((s.flag F.PWR_DOM_STAT_LINK = false ∨ deep) ∧ s.flag (F.CVY_PORT_CTL_WAKE_EN j) = true) ∧ (¬ seen)) ∧
  (∃ s : State, (s.dev = dsSleep) ∧ (s.pwr.waking = true)) ∧
  (∃ s : State, (s.dev ≠ dsSleep ∨ s.pwr.waking = false)) ∧
  (∃ s : State, (s.pwr.nvmOff = true)) ∧
  (∃ s : State, (s.pwr.nvmOff = false)) :=
  ⟨⟨(let s := st [(F.HW_STATE_STATE, dsHold), (F.PWR_WAKE_EN_EN, 127)]; { s with host := { s.host with isOpen := true } }), 0x40, by decide +kernel⟩,
   ⟨(let s := st [(F.HW_STATE_STATE, dsHold), (F.PWR_WAKE_EN_EN, 127)]; { s with host := { s.host with isOpen := true } }), 0xFFFFFFFF, by decide +kernel⟩,
   ⟨(let s := st [(F.HW_STATE_STATE, dsHold), (F.PWR_WAKE_EN_EN, 127)]; { s with host := { s.host with isOpen := true } }), 0, _, rfl, by decide +kernel⟩,
   ⟨(st [(F.PWR_DOM_CTL_FAB_OFF, 15)]), 0, _, rfl, by decide +kernel⟩,
   ⟨(st [(F.HW_STATE_STATE, dsHold), (F.PWR_WAKE_EN_EN, 0)]), 1, _, rfl, _, rfl, _, rfl, by decide +kernel⟩,
   ⟨(st [(F.PWR_DOM_STAT_LINK, 0), (F.CVY_PORT_CTL_WAKE_EN 2, 1)]), 1, _, rfl, by decide +kernel⟩,
   ⟨(st [(F.HW_STATE_STATE, dsHold), (F.PWR_OPP_STAT_BUSY, 1)]), 1, _, rfl, _, rfl, by decide +kernel⟩,
   ⟨(st [(F.HW_STATE_STATE, dsHold), (F.PWR_WAKE_EN_EN, 0)]), 3, _, rfl, _, rfl, _, rfl, by decide +kernel⟩,
   ⟨(let s := st [(F.HW_STATE_STATE, dsHold), (F.PWR_WAKE_EN_EN, 127)]; { s with host := { s.host with isOpen := true } }), 1, _, rfl, _, rfl, _, rfl, by decide +kernel⟩,
   ⟨(let s := st [(F.HW_STATE_STATE, dsHold), (F.PWR_WAKE_EN_EN, 127)]; { s with pwr := { s.pwr with hs := some ⟨3, [1], [], false⟩ } }), 1, _, rfl, by decide +kernel⟩,
   ⟨0, by decide +kernel⟩,
   ⟨(core' 255 (fun c => { c with halted := true }) (let s := st [(F.HW_STATE_STATE, dsHold)]; { s with pwr := { s.pwr with hs := some ⟨3, [1], [], false⟩ }  })), 9, (⟨3, [1], [], false⟩ : Handshake), by decide +kernel, _, rfl, prDebug, by decide +kernel⟩,
   ⟨(let s := st [(F.HW_STATE_STATE, dsHold)]; { s with pwr := { s.pwr with hs := some ⟨3, [1], [], false⟩ } , host := { s.host with isOpen := true } }), 10, (⟨3, [1], [], false⟩ : Handshake), by decide +kernel, _, rfl, by decide +kernel⟩,
   ⟨(let s := st [(F.HW_STATE_STATE, dsHold), (F.PWR_WAKE_EN_EN, 127)]; { s with pwr := { s.pwr with hs := some ⟨3, [1], [], false⟩ } }), 9, (⟨3, [1], [], false⟩ : Handshake), by decide +kernel, _, rfl, by decide +kernel⟩,
   ⟨(let s := st [(F.HW_STATE_STATE, dsHold)]; { s with pwr := { s.pwr with hs := some ⟨1, [10, 9, 8, 7, 6, 5, 4, 3, 2, 1], [], false⟩ }  }), 10, (⟨1, [10, 9, 8, 7, 6, 5, 4, 3, 2, 1], [], false⟩ : Handshake), by decide +kernel, _, rfl, by decide +kernel⟩,
   ⟨(let s := st [(F.HW_STATE_STATE, dsHold)]; { s with pwr := { s.pwr with hs := some ⟨1, [10, 9, 8, 7, 6, 5, 4, 3, 2, 1], [], false⟩ }  }), 9, (⟨1, [10, 9, 8, 7, 6, 5, 4, 3, 2, 1], [], false⟩ : Handshake), by decide +kernel, _, rfl, by decide +kernel⟩,
   ⟨(let s := st [(F.HW_STATE_STATE, dsSleep), (F.PWR_WAKE_EN_EN, 127)]; { s with pwr := { s.pwr with mode := slDoze, before := 15 } }), 9, by decide +kernel⟩,
   ⟨(let s := st [(F.HW_STATE_STATE, dsSleep), (F.PWR_WAKE_EN_EN, 127)]; { s with pwr := { s.pwr with mode := 3 } }), 9, by decide +kernel⟩,
   ⟨(let s := st [(F.HW_STATE_STATE, dsHold), (F.PWR_WAKE_EN_EN, 127)]; { s with pwr := { s.pwr with hs := some ⟨3, [1], [], false⟩ } }), 9, (⟨3, [1], [], false⟩ : Handshake), by decide +kernel⟩,
   ⟨(let s := st [(F.HW_STATE_STATE, dsHold), (F.PWR_WAKE_EN_EN, 127)]; { s with host := { s.host with isOpen := true } }), 9, by decide +kernel⟩,
   ⟨(let s := st [(F.HW_STATE_STATE, dsSleep), (F.PWR_WAKE_EN_EN, 127), (F.CVY_PORT_CTL_WAKE_EN 2, 1)]; { s with pwr := { s.pwr with mode := 3 } }), _, rfl, 2, _, rfl, by decide +kernel⟩,
   ⟨(st [(F.PWR_DOM_STAT_LINK, 0), (F.CVY_PORT_CTL_WAKE_EN 2, 1)]), _, rfl, 2, _, rfl, by decide +kernel⟩,
   ⟨(let s := st [(F.HW_STATE_STATE, dsHold), (F.PWR_WAKE_EN_EN, 127)]; { s with host := { s.host with isOpen := true } }), _, rfl, 2, _, rfl, by decide +kernel⟩,
   ⟨(let s := st [(F.HW_STATE_STATE, dsSleep), (F.PWR_WAKE_EN_EN, 127)]; { s with pwr := { s.pwr with mode := 3, waking := true } }), by decide +kernel⟩,
   ⟨(let s := st [(F.HW_STATE_STATE, dsHold), (F.PWR_WAKE_EN_EN, 127)]; { s with host := { s.host with isOpen := true } }), by decide +kernel⟩,
   ⟨(let s := base; { s with pwr := { s.pwr with nvmOff := true } }), by decide +kernel⟩,
   ⟨(let s := st [(F.HW_STATE_STATE, dsHold), (F.PWR_WAKE_EN_EN, 127)]; { s with host := { s.host with isOpen := true } }), by decide +kernel⟩⟩

theorem witness_LaybyCommandsComplete :
  (∃ s : State, (s.lay.scBusy = true)) ∧
  (∃ s : State, (s.lay.scBusy = false)) ∧
  (∃ s : State, ∃ runs, runs = (s.boot.inReset = none ∧ (s.dev = dsRun ∨ s.dev = dsHold ∨ s.dev = dsService ∨ s.dev = dsSleep)) ∧ (runs)) ∧
  (∃ s : State, ∃ runs, runs = (s.boot.inReset = none ∧ (s.dev = dsRun ∨ s.dev = dsHold ∨ s.dev = dsService ∨ s.dev = dsSleep)) ∧ (¬ runs)) ∧
  (∃ s : State, (s.dev = dsLayby)) ∧
  (∃ s : State, (s.dev ≠ dsLayby)) ∧
  (∃ s : State, ∃ j : BitVec 3, ∃ bars, bars = (s.flag F.LAY_PREP_BUSY = true ∨ s.bitAt F.LAY_STAT_FREE j.toNat = true ∨ (s.flag F.HW_LAYBY_STATUS_OFFERED = true ∧ s.get F.HW_LAYBY_STATUS_SLOT = j.toNat)) ∧ (bars)) ∧
  (∃ s : State, ∃ j : BitVec 3, ∃ bars, bars = (s.flag F.LAY_PREP_BUSY = true ∨ s.bitAt F.LAY_STAT_FREE j.toNat = true ∨ (s.flag F.HW_LAYBY_STATUS_OFFERED = true ∧ s.get F.HW_LAYBY_STATUS_SLOT = j.toNat)) ∧ (¬ bars)) ∧
  (∃ s : State, ∃ j, (s.lay.prepSlot = some j) ∧ ∃ runs, runs = ((fun (b : Nat) => ((flEng s b).erase.any (fun e => e.sector == 120 + j) : Bool))) ∧ ((∀ b, b < 8 → runs b = false))) ∧
  (∃ s : State, ∃ j, (s.lay.prepSlot = some j) ∧ ∃ runs, runs = ((fun (b : Nat) => ((flEng s b).erase.any (fun e => e.sector == 120 + j) : Bool))) ∧ ∃ b, (b < 8) ∧ (runs b = true)) ∧
  (∃ s : State, (s.lay.prepSlot = none)) ∧
  (∃ s : State, ∃ sc : Bool, ∃ parts : BitVec 4, ∃ c, c = (restoreCheck ((s.putFlag F.LAY_RESTORE_SC sc).put F.LAY_RESTORE_PARTS parts.toNat) parts.toNat sc) ∧ (c ≠ 0)) ∧
  (∃ s : State, ∃ sc : Bool, ∃ parts : BitVec 4, ∃ c, c = (restoreCheck ((s.putFlag F.LAY_RESTORE_SC sc).put F.LAY_RESTORE_PARTS parts.toNat) parts.toNat sc) ∧ (c = 0)) ∧
  (∃ s : State, ∃ parts, ∃ sc, (s.lay.restore = some (parts, sc))) ∧
  (∃ s : State, (s.lay.restore = none)) ∧
  (∃ s : State, (s.flag F.HW_LAYBY_STATUS_OFFERED = true)) ∧
  (∃ s : State, (s.flag F.HW_LAYBY_STATUS_OFFERED = false)) :=
  ⟨⟨(let s := base; { s with lay := { s.lay with scBusy := true, scWnum := 17 } }), by decide +kernel⟩,
   ⟨(st [(F.HW_STATE_STATE, dsSleep), (F.LAY_CTL_EN, 1), (F.LAY_STAT_SC_VALID, 1)]), by decide +kernel⟩,
   ⟨(st [(F.HW_STATE_STATE, dsSleep), (F.LAY_CTL_EN, 1), (F.LAY_STAT_SC_VALID, 1)]), _, rfl, by decide +kernel⟩,
   ⟨(let s := base; { s with lay := { s.lay with scBusy := true, scWnum := 17 } }), _, rfl, by decide +kernel⟩,
   ⟨(st [(F.HW_STATE_STATE, dsLayby)]), by decide +kernel⟩,
   ⟨(let s := base; { s with lay := { s.lay with scBusy := true, scWnum := 17 } }), by decide +kernel⟩,
   ⟨(st [(F.LAY_PREP_BUSY, 1)]), 7, _, rfl, by decide +kernel⟩,
   ⟨(let s := base; { s with lay := { s.lay with scBusy := true, scWnum := 17 } }), 7, _, rfl, by decide +kernel⟩,
   ⟨(let s := base; { s with lay := { s.lay with prepSlot := some 7 } }), 7, by decide +kernel, _, rfl, by intro b hb; interval_cases b <;> decide +kernel⟩,
   ⟨(let s := setFlEng (st []) 7 { erase := some ⟨127, 1, 0, 0, 0, false, false, false⟩, prog := none }; { s with lay := { s.lay with prepSlot := some 7 } }), 7, by decide +kernel, _, rfl, 7, by decide +kernel⟩,
   ⟨(let s := base; { s with lay := { s.lay with scBusy := true, scWnum := 17 } }), by decide +kernel⟩,
   ⟨(let s := base; { s with lay := { s.lay with scBusy := true, scWnum := 17 } }), true, 15, _, rfl, by decide +kernel⟩,
   ⟨offered, true, 15#4, _, rfl, restore_accepted⟩,
   ⟨(let s := st [(F.HW_STATE_STATE, dsProvision), (F.HW_LAYBY_STATUS_OFFERED, 1), (F.HW_LAYBY_STATUS_SLOT, 7)]; { s with lay := { s.lay with restore := some (15, true) } }), 15, true, by decide +kernel⟩,
   ⟨(let s := base; { s with lay := { s.lay with scBusy := true, scWnum := 17 } }), by decide +kernel⟩,
   ⟨offered, by decide +kernel⟩,
   ⟨(let s := base; { s with lay := { s.lay with scBusy := true, scWnum := 17 } }), by decide +kernel⟩⟩

theorem witness_WatchdogCommandsComplete :
  (∃ w : Fin 8, ∃ s : State, ∃ i : Agent, (wdgWriter i w = true) ∧ ∃ o, o = (s.get (F.WDG_OPEN_OPEN w)) ∧ ∃ c, c = (s.get (F.WDG_CLOSE_CLOSE w)) ∧ ∃ good, good = (1 ≤ o ∧ o ≤ c ∧ s.get (F.WDG_WARN_WARN w) ≤ c) ∧ (wdgOn s w = false) ∧ (good)) ∧
  (∃ w : Fin 8, ∃ s : State, ∃ i : Agent, (wdgWriter i w = true) ∧ ∃ o, o = (s.get (F.WDG_OPEN_OPEN w)) ∧ ∃ c, c = (s.get (F.WDG_CLOSE_CLOSE w)) ∧ ∃ good, good = (1 ≤ o ∧ o ≤ c ∧ s.get (F.WDG_WARN_WARN w) ≤ c) ∧ (wdgOn s w = false) ∧ (¬ good)) ∧
  (∃ w : Fin 8, ∃ s : State, ∃ i : Agent, (wdgWriter i w = true) ∧ (wdgOn s w = true)) ∧
  (∃ w : Fin 8, ∃ i : Agent, (wdgWriter i w = false)) ∧
  (∃ w : Fin 8, ∃ s : State, ∃ x, x = (s.wdog w) ∧ ∃ count, count = (s.get (F.WDG_COUNT_COUNT w)) ∧ (wdgRuns s w = true) ∧ (x.tokens = []) ∧ (wdgNext s w = .count) ∧ (count < 2 ^ 24 - 1)) ∧
  (∃ w : Fin 8, ∃ s : State, ∃ x, x = (s.wdog w) ∧ ∃ count, count = (s.get (F.WDG_COUNT_COUNT w)) ∧ (wdgRuns s w = true) ∧ (x.tokens = []) ∧ (wdgNext s w = .warn) ∧ (count < 2 ^ 24 - 1)) ∧
  (∃ w : Fin 8, ∃ s : State, ∃ x, x = (s.wdog w) ∧ ∃ count, count = (s.get (F.WDG_COUNT_COUNT w)) ∧ (wdgRuns s w = true) ∧ ∃ tok, (x.tokens = [tok]) ∧ ∃ meets, meets = (ledgerBad s w = none ∧ s.flag (F.WDG_STAT_UNLISTED w) = false) ∧ ∃ early, early = (count < s.get (F.WDG_OPEN_OPEN w)) ∧ ∃ accepted, accepted = (¬ early ∧ meets ∧ tok = wdgExpected s w) ∧ (accepted)) ∧
  (∃ w : Fin 8, ∃ s : State, ∃ x, x = (s.wdog w) ∧ ∃ count, count = (s.get (F.WDG_COUNT_COUNT w)) ∧ ∃ fresh, fresh = (s.flag (F.WDG_STAT_FAULTED w) = false) ∧ (wdgRuns s w = true) ∧ ∃ tok, (x.tokens = [tok]) ∧ ∃ meets, meets = (ledgerBad s w = none ∧ s.flag (F.WDG_STAT_UNLISTED w) = false) ∧ ∃ early, early = (count < s.get (F.WDG_OPEN_OPEN w)) ∧ ∃ accepted, accepted = (¬ early ∧ meets ∧ tok = wdgExpected s w) ∧ ∃ cause, (¬ accepted) ∧ ((early ∧ cause = wcEarly) ∨ (¬ early ∧ ¬ meets ∧ cause = wcLedger) ∨ (¬ early ∧ meets ∧ cause = wcToken)) ∧ (fresh)) ∧
  (∃ w : Fin 8, ∃ s : State, ∃ x, x = (s.wdog w) ∧ ∃ count, count = (s.get (F.WDG_COUNT_COUNT w)) ∧ ∃ fresh, fresh = (s.flag (F.WDG_STAT_FAULTED w) = false) ∧ (wdgRuns s w = true) ∧ ∃ tok, (x.tokens = [tok]) ∧ ∃ meets, meets = (ledgerBad s w = none ∧ s.flag (F.WDG_STAT_UNLISTED w) = false) ∧ ∃ early, early = (count < s.get (F.WDG_OPEN_OPEN w)) ∧ ∃ accepted, accepted = (¬ early ∧ meets ∧ tok = wdgExpected s w) ∧ ∃ cause, (¬ accepted) ∧ ((early ∧ cause = wcEarly) ∨ (¬ early ∧ ¬ meets ∧ cause = wcLedger) ∨ (¬ early ∧ meets ∧ cause = wcToken)) ∧ (¬ fresh)) ∧
  (∃ w : Fin 8, ∃ s : State, ∃ x, x = (s.wdog w) ∧ ∃ fresh, fresh = (s.flag (F.WDG_STAT_FAULTED w) = false) ∧ (wdgRuns s w = true) ∧ (x.tokens = []) ∧ (wdgNext s w = .expiry) ∧ (fresh)) ∧
  (∃ w : Fin 8, ∃ s : State, ∃ x, x = (s.wdog w) ∧ ∃ fresh, fresh = (s.flag (F.WDG_STAT_FAULTED w) = false) ∧ (wdgRuns s w = true) ∧ (x.tokens = []) ∧ (wdgNext s w = .expiry) ∧ (¬ fresh)) ∧
  (∃ w : Fin 8, ∃ s : State, ∃ fresh, fresh = (s.flag (F.WDG_STAT_FAULTED w) = false) ∧ (wdgRuns s w = true) ∧ (fresh) ∧ (s.flag (F.WDG_CTL_CLKSEL w) = true)) ∧
  (∃ w : Fin 8, ∃ s : State, ∃ fresh, fresh = (s.flag (F.WDG_STAT_FAULTED w) = false) ∧ (wdgRuns s w = true) ∧ (¬ fresh ∨ s.flag (F.WDG_CTL_CLKSEL w) = false)) ∧
  (∃ w : Fin 8, ∃ s : State, ∃ c, (s.boot.inReset = some c) ∧ (w.val ∈ s.boot.wdgDue) ∧ (s.dev ≠ dsOff) ∧ (s.dev ≠ dsRoadblock)) ∧
  (∃ w : Fin 8, ∃ s : State, (wdgRuns s w = false) ∧ (s.boot.inReset = none ∨ w.val ∉ s.boot.wdgDue)) ∧
  (∃ w : Fin 8, ∃ s : State, ∃ x, x = (s.wdog w) ∧ (x.tokens ≠ [] ∨ wdgNext s w ≠ .warn)) ∧
  (∃ w : Fin 8, ∃ s : State, ∃ x, x = (s.wdog w) ∧ (x.tokens ≠ [] ∨ wdgNext s w ≠ .expiry) ∧ (s.boot.inReset = none ∨ w.val ∉ s.boot.wdgDue)) :=
  ⟨⟨3, base, (.sc 3), by decide +kernel, _, rfl, _, rfl, _, rfl, by decide +kernel⟩,
   ⟨3, (st [(F.HW_STATE_STATE, dsRun), (F.WDG_OPEN_OPEN 3, (2 ^ 24 - 1)), (F.WDG_CLOSE_CLOSE 3, 1), (F.WDG_WARN_WARN 3, 0), (F.WDG_COUNT_COUNT 3, 0)]), (.sc 3), by decide +kernel, _, rfl, _, rfl, _, rfl, by decide +kernel⟩,
   ⟨3, (st [(F.HW_STATE_STATE, dsRun), (F.WDG_CTL_ON 3, 1)]).setWdog 3 ⟨0xFFFF, false, [], []⟩, (.sc 3), by decide +kernel⟩,
   ⟨3, (.sc 0), by decide +kernel⟩,
   ⟨3, (st [(F.HW_STATE_STATE, dsRun), (F.WDG_CTL_ON 3, 1)]).setWdog 3 ⟨0xFFFF, false, [], []⟩, _, rfl, _, rfl, by decide +kernel⟩,
   ⟨3, (st [(F.HW_STATE_STATE, dsRun), (F.WDG_CTL_ON 3, 1), (F.WDG_OPEN_OPEN 3, 1), (F.WDG_CLOSE_CLOSE 3, (2 ^ 24 - 1)), (F.WDG_WARN_WARN 3, (2 ^ 24 - 2)), (F.WDG_COUNT_COUNT 3, (2 ^ 24 - 3))]).setWdog 3 ⟨0xFFFF, false, [], []⟩, _, rfl, _, rfl, by decide +kernel⟩,
   ⟨3, (st [(F.HW_STATE_STATE, dsRun), (F.WDG_CTL_ON 3, 1), (F.WDG_OPEN_OPEN 3, 5), (F.WDG_CLOSE_CLOSE 3, (2 ^ 24 - 1)), (F.WDG_WARN_WARN 3, 0), (F.WDG_COUNT_COUNT 3, 5)]).setWdog 3 ⟨0xFFFF, false, [0xFFFF], []⟩, _, rfl, _, rfl, by decide +kernel, (0xFFFF : BitVec 16), by decide +kernel, _, rfl, _, rfl, _, rfl, by decide +kernel⟩,
   ⟨3, (st [(F.HW_STATE_STATE, dsRun), (F.WDG_CTL_ON 3, 1), (F.WDG_OPEN_OPEN 3, 5), (F.WDG_CLOSE_CLOSE 3, (2 ^ 24 - 1)), (F.WDG_WARN_WARN 3, 0), (F.WDG_COUNT_COUNT 3, 4)]).setWdog 3 ⟨0xFFFF, false, [0xFFFF], []⟩, _, rfl, _, rfl, _, rfl, by decide +kernel, (0xFFFF : BitVec 16), by decide +kernel, _, rfl, _, rfl, _, rfl, 2, by decide +kernel⟩,
   ⟨3, (st [(F.HW_STATE_STATE, dsRun), (F.WDG_CTL_ON 3, 1), (F.WDG_OPEN_OPEN 3, 5), (F.WDG_CLOSE_CLOSE 3, (2 ^ 24 - 1)), (F.WDG_WARN_WARN 3, 0), (F.WDG_COUNT_COUNT 3, 4), (F.WDG_STAT_FAULTED 3, 1), (F.WDG_LADDER_LIMIT, 7), (F.WDG_LADDER_COUNT, 6)]).setWdog 3 ⟨0xFFFF, false, [0xFFFF], []⟩, _, rfl, _, rfl, _, rfl, by decide +kernel, (0xFFFF : BitVec 16), by decide +kernel, _, rfl, _, rfl, _, rfl, 2, by decide +kernel⟩,
   ⟨3, (st [(F.HW_STATE_STATE, dsRun), (F.WDG_CTL_ON 3, 1), (F.WDG_OPEN_OPEN 3, 1), (F.WDG_CLOSE_CLOSE 3, 5), (F.WDG_WARN_WARN 3, 0), (F.WDG_COUNT_COUNT 3, 5)]).setWdog 3 ⟨0xFFFF, false, [], []⟩, _, rfl, _, rfl, by decide +kernel⟩,
   ⟨3, (st [(F.HW_STATE_STATE, dsRun), (F.WDG_CTL_ON 3, 1), (F.WDG_OPEN_OPEN 3, 1), (F.WDG_CLOSE_CLOSE 3, 5), (F.WDG_WARN_WARN 3, 0), (F.WDG_COUNT_COUNT 3, 5), (F.WDG_STAT_FAULTED 3, 1), (F.WDG_LADDER_LIMIT, 7), (F.WDG_LADDER_COUNT, 6)]).setWdog 3 ⟨0xFFFF, false, [], []⟩, _, rfl, _, rfl, by decide +kernel⟩,
   ⟨3, (st [(F.HW_STATE_STATE, dsRun), (F.WDG_CTL_ON 3, 1), (F.WDG_CTL_CLKSEL 3, 1)]).setWdog 3 ⟨0xFFFF, false, [], []⟩, _, rfl, by decide +kernel⟩,
   ⟨3, (st [(F.HW_STATE_STATE, dsRun), (F.WDG_CTL_ON 3, 1)]).setWdog 3 ⟨0xFFFF, false, [], []⟩, _, rfl, by decide +kernel⟩,
   ⟨3, (let s := base; { s with boot := { s.boot with inReset := some 6, wdgDue := [3, 7] } }), _, rfl, by decide +kernel⟩,
   ⟨3, base, by decide +kernel⟩,
   ⟨3, base, _, rfl, by decide +kernel⟩,
   ⟨3, base, _, rfl, by decide +kernel⟩⟩

theorem witness_TestPortCommandsComplete :
  (∃ s : State, (dbgUp s = true) ∧ (s.pads.fiveWire = true) ∧ (scanActs s = true)) ∧
  (∃ s : State, (dbgUp s = true) ∧ (s.pads.fiveWire = true) ∧ (scanActs s = false)) ∧
  (∃ s : State, (dbgUp s = false ∨ s.pads.fiveWire = false) ∧ ∃ out : BitVec 320, ∃ oe : BitVec 320, ∃ op : BitVec 2, ∃ off : BitVec 16, ∃ d : BitVec 32, ∃ c, (c ∈ [Instr.tapReset, .bypass, .idcode, .highz, .samplePreload out oe, .extest out oe, .dbgacc op off d])) :=
  ⟨⟨(let s := st [(F.HW_STATE_STATE, dsService), (F.DBG_LEVEL_LEVEL, 2)]; { s with pads := { s.pads with fiveWire := true } }), by decide +kernel⟩,
   ⟨(let s := st [(F.HW_STATE_STATE, dsRun)]; { s with pads := { s.pads with fiveWire := true } }), by decide +kernel⟩,
   ⟨(st [(F.HW_STATE_STATE, dsOff)]), by decide +kernel, 0, 0, 1, 0xFFFC, 0xFFFFFFFF, _, List.mem_cons_self ..⟩⟩

theorem witness_RunControlCompletes :
  (∃ c : Instr, ∃ r : Nat × Option (BitVec 32), (portRow c = some r) ∧ ∃ d, (r.2 = some d)) ∧
  (∃ c : Instr, ∃ r : Nat × Option (BitVec 32), (portRow c = some r) ∧ (r.2 = none)) ∧
  (∃ s : State, ∃ crc : Bool, ∃ off : BitVec 16, ∃ d : BitVec 32, ∃ c, (c ∈ [Instr.debugNop crc, .debugRead crc off, .debugWrite crc off d]) ∧ (dbgUp s = false)) ∧
  (∃ s : State, ∃ crc : Bool, ∃ off : BitVec 16, ∃ d : BitVec 32, ∃ c, (c ∈ [Instr.debugNop crc, .debugRead crc off, .debugWrite crc off d]) ∧ (dbgUp s = true) ∧ (crc = false) ∧ (s.pads.fiveWire = false)) ∧
  (∃ s : State, ∃ crc : Bool, (heard s crc) ∧ ∃ off : BitVec 16, ∃ o, o = (off.toNat) ∧ ∃ k, k = (dbgSel s) ∧ ∃ shut, shut = ((s.get F.DBG_LEVEL_LEVEL = 0 ∧ dbgOpen o = false) ∨ (perCore o = true ∧ dbgPermits s k = false)) ∧ ∃ cstat, cstat = (o = 0x204 ∧ s.get F.DBG_LEVEL_LEVEL ≠ 0) ∧ (shut) ∧ (¬ cstat)) ∧
  (∃ s : State, ∃ crc : Bool, (heard s crc) ∧ ∃ off : BitVec 16, ∃ o, o = (off.toNat) ∧ ∃ k, k = (dbgSel s) ∧ ∃ shut, shut = ((s.get F.DBG_LEVEL_LEVEL = 0 ∧ dbgOpen o = false) ∨ (perCore o = true ∧ dbgPermits s k = false)) ∧ (¬ shut) ∧ (o % 4 ≠ 0)) ∧
  (∃ s : State, ∃ crc : Bool, (heard s crc) ∧ ∃ off : BitVec 16, ∃ o, o = (off.toNat) ∧ ∃ k, k = (dbgSel s) ∧ ∃ shut, shut = ((s.get F.DBG_LEVEL_LEVEL = 0 ∧ dbgOpen o = false) ∨ (perCore o = true ∧ dbgPermits s k = false)) ∧ ∃ cstat, cstat = (o = 0x204 ∧ s.get F.DBG_LEVEL_LEVEL ≠ 0) ∧ (¬ shut ∨ cstat) ∧ (o % 4 = 0) ∧ (o ≠ 0x10) ∧ (o ≠ 0x220) ∧ (o ≠ 0x224) ∧ (s.dbgp.mem = none ∨ o < 0x400 ∨ 0x410 ≤ o)) ∧
  (∃ s : State, ∃ crc : Bool, (heard s crc) ∧ ∃ off : BitVec 16, ∃ o, o = (off.toNat) ∧ ∃ k, k = (dbgSel s) ∧ ∃ shut, shut = ((s.get F.DBG_LEVEL_LEVEL = 0 ∧ dbgOpen o = false) ∨ (perCore o = true ∧ dbgPermits s k = false)) ∧ (¬ shut) ∧ (o = 0x218)) ∧
  (∃ s : State, ∃ crc : Bool, (heard s crc) ∧ ∃ off : BitVec 16, ∃ o, o = (off.toNat) ∧ ∃ k, k = (dbgSel s) ∧ ∃ shut, shut = ((s.get F.DBG_LEVEL_LEVEL = 0 ∧ dbgOpen o = false) ∨ (perCore o = true ∧ dbgPermits s k = false)) ∧ (¬ shut) ∧ (o = 0x208) ∧ (dbgHalted s k = true)) ∧
  (∃ s : State, ∃ crc : Bool, (heard s crc) ∧ ∃ off : BitVec 16, ∃ o, o = (off.toNat) ∧ ∃ k, k = (dbgSel s) ∧ ∃ shut, shut = ((s.get F.DBG_LEVEL_LEVEL = 0 ∧ dbgOpen o = false) ∨ (perCore o = true ∧ dbgPermits s k = false)) ∧ (¬ shut) ∧ (o = 0x208 ∨ o = 0x210) ∧ (dbgHalted s k = false)) ∧
  (∃ s : State, ∃ crc : Bool, (heard s crc) ∧ ∃ off : BitVec 16, ∃ d : BitVec 32, ∃ o, o = (off.toNat) ∧ ∃ k, k = (dbgSel s) ∧ ∃ shut, shut = ((s.get F.DBG_LEVEL_LEVEL = 0 ∧ dbgOpen o = false) ∨ (perCore o = true ∧ dbgPermits s k = false)) ∧ (¬ shut) ∧ ∃ i, (i < 4) ∧ (o = 0x250 + 0x20 * i) ∧ (bitsOf (d.setWidth 64) 30 29 = 3)) ∧
  (∃ s : State, ∃ crc : Bool, (heard s crc) ∧ ∃ off : BitVec 16, ∃ d : BitVec 32, ∃ o, o = (off.toNat) ∧ ∃ k, k = (dbgSel s) ∧ ∃ shut, shut = ((s.get F.DBG_LEVEL_LEVEL = 0 ∧ dbgOpen o = false) ∨ (perCore o = true ∧ dbgPermits s k = false)) ∧ (¬ shut) ∧ ∃ i, (i < 4) ∧ (o = 0x250 + 0x20 * i) ∧ (bitsOf (d.setWidth 64) 30 29 ≠ 3)) ∧
  (∃ s : State, ∃ crc : Bool, (heard s crc) ∧ ∃ off : BitVec 16, ∃ d : BitVec 32, ∃ o, o = (off.toNat) ∧ (o = 0x0C) ∧ (d.getLsbD 31 = true)) ∧
  (∃ s : State, ∃ crc : Bool, (heard s crc) ∧ ∃ off : BitVec 16, ∃ d : BitVec 32, ∃ o, o = (off.toNat) ∧ ∃ k, k = (dbgSel s) ∧ ∃ shut, shut = ((s.get F.DBG_LEVEL_LEVEL = 0 ∧ dbgOpen o = false) ∨ (perCore o = true ∧ dbgPermits s k = false)) ∧ (¬ shut) ∧ (o = 0x200) ∧ (d.toNat % 512 < 260)) ∧
  (∃ s : State, ∃ crc : Bool, (heard s crc) ∧ ∃ off : BitVec 16, ∃ d : BitVec 32, ∃ o, o = (off.toNat) ∧ ∃ k, k = (dbgSel s) ∧ ∃ shut, shut = ((s.get F.DBG_LEVEL_LEVEL = 0 ∧ dbgOpen o = false) ∨ (perCore o = true ∧ dbgPermits s k = false)) ∧ (¬ shut) ∧ (o = 0x200) ∧ (260 ≤ d.toNat % 512)) ∧
  (∃ s : State, (dbgServes s) ∧ ∃ w : Fin 9, ∃ v : BitVec 32, ((∀ b, b < 32 → v.getLsbD b = true → 32 * w.val + b < 260 → dbgPermits s (32 * w.val + b) = true)) ∧ (isVoter s = false ∨ s.flag F.DBG_CTL_SHOULDER_OK = true)) ∧
  (∃ s : State, (dbgServes s) ∧ ∃ w : Fin 9, ∃ v : BitVec 32, ((∀ b, b < 32 → v.getLsbD b = true → 32 * w.val + b < 260 → dbgPermits s (32 * w.val + b) = true)) ∧ ∃ named, named = ((fun (k : Nat) => (decide (32 * w.val ≤ k ∧ k < 32 * w.val + 32 ∧ k < 260) && v.getLsbD (k - 32 * w.val) : Bool))) ∧ (isVoter s = true) ∧ (s.flag F.DBG_CTL_SHOULDER_OK = false) ∧ ((∃ k, named k = true))) ∧
  (∃ s : State, (dbgServes s) ∧ ∃ w : Fin 9, ∃ v : BitVec 32, ∃ b : Nat, (b < 32) ∧ (v.getLsbD b = true) ∧ (32 * w.val + b < 260) ∧ (dbgPermits s (32 * w.val + b) = false)) ∧
  (∃ s : State, (dbgServes s) ∧ ∃ k, (k = dbgSel s) ∧ (dbgPermits s k = false)) ∧
  (∃ s : State, (dbgServes s) ∧ ∃ k, (k = dbgSel s) ∧ (dbgPermits s k = true) ∧ (dbgHalted s k = false)) ∧
  (∃ s : State, (dbgServes s) ∧ ∃ k, (k = dbgSel s) ∧ ∃ scans, scans = (match s.tilePart k with
          | some p => s.pstate p == psScanning
          | none => false) ∧ (dbgPermits s k = true) ∧ ((s.core k).halted = true) ∧ (isSc k = true ∨ scans = true ∨ (s.core k).run = .reset) ∧ ((s.core k).run ≠ .stopped)) ∧
  (∃ s : State, (dbgServes s) ∧ ∃ k, (k = dbgSel s) ∧ ∃ scans, scans = (match s.tilePart k with
          | some p => s.pstate p == psScanning
          | none => false) ∧ (dbgPermits s k = true) ∧ ((s.core k).halted = true) ∧ (isSc k = false) ∧ (scans = false) ∧ ((s.core k).run ≠ .reset)) ∧
  (∃ s : State, (dbgServes s) ∧ ∃ k, (k = dbgSel s) ∧ (dbgPermits s k = true) ∧ ((s.core k).run = .stopped)) ∧
  (∃ s : State, (dbgServes s) ∧ (s.dev ≠ dsRoadblock)) ∧
  (∃ s : State, (dbgServes s) ∧ (s.dev = dsRoadblock)) ∧
  (∃ s : State, (dbgServes s) ∧ ∃ i : Fin 6, ∃ v : BitVec 32, ∃ wdg, wdg = (i.val = 5 ∧ v.toNat / 2 ^ 8 % 2 ^ 8 ≠ s.get F.DBG_FRZ_UNIT_WDG ∧ s.get F.DBG_LEVEL_LEVEL < 2) ∧ (wdg)) ∧
  (∃ s : State, (dbgServes s) ∧ ∃ i : Fin 6, ∃ v : BitVec 32, ∃ wdg, wdg = (i.val = 5 ∧ v.toNat / 2 ^ 8 % 2 ^ 8 ≠ s.get F.DBG_FRZ_UNIT_WDG ∧ s.get F.DBG_LEVEL_LEVEL < 2) ∧ (¬ wdg)) :=
  ⟨⟨(.dbgHalt 0 5), _, rfl, 5, rfl⟩,
   ⟨(.regDataRead true), _, rfl, rfl⟩,
   ⟨(st [(F.HW_STATE_STATE, dsOff)]), true, 0xC, 7, _, List.mem_cons_self .., by decide +kernel⟩,
   ⟨(let s := st [(F.HW_STATE_STATE, dsRun)]; { s with pads := { s.pads with fiveWire := false } }), false, 0xC, 7, _, List.mem_cons_self .., by decide +kernel⟩,
   ⟨(st [(F.HW_STATE_STATE, dsRun)]), true, by decide +kernel, 0x208, _, rfl, _, rfl, _, rfl, _, rfl, by decide +kernel⟩,
   ⟨(st [(F.HW_STATE_STATE, dsRun), (F.DBG_LEVEL_LEVEL, 1), (F.DBG_SEL_CORE, 259)]), true, by decide +kernel, 0x202, _, rfl, _, rfl, _, rfl, by decide +kernel⟩,
   ⟨(st [(F.HW_STATE_STATE, dsRun), (F.DBG_LEVEL_LEVEL, 1)]), true, by decide +kernel, 0x208, _, rfl, _, rfl, _, rfl, _, rfl, by decide +kernel⟩,
   ⟨(st [(F.HW_STATE_STATE, dsRun), (F.DBG_LEVEL_LEVEL, 1), (F.DBG_SEL_CORE, 259)]), true, by decide +kernel, 0x218, _, rfl, _, rfl, _, rfl, by decide +kernel⟩,
   ⟨(core' 259 (fun c => { c with halted := true, run := .active, pc := 0x40000000, npc := 0x40000004 }) (st [(F.HW_STATE_STATE, dsRun), (F.DBG_LEVEL_LEVEL, 1), (F.DBG_SEL_CORE, 259)])), true, by decide +kernel, 0x208, _, rfl, _, rfl, _, rfl, by decide +kernel⟩,
   ⟨(st [(F.HW_STATE_STATE, dsRun), (F.DBG_LEVEL_LEVEL, 1)]), true, by decide +kernel, 0x208, _, rfl, _, rfl, _, rfl, by decide +kernel⟩,
   ⟨(st [(F.HW_STATE_STATE, dsRun), (F.DBG_LEVEL_LEVEL, 1), (F.DBG_SEL_CORE, 259)]), true, by decide +kernel, 0x2B0, 0x60000000, _, rfl, _, rfl, _, rfl, by decide +kernel, 3, by decide +kernel⟩,
   ⟨(st [(F.HW_STATE_STATE, dsRun), (F.DBG_LEVEL_LEVEL, 1), (F.DBG_SEL_CORE, 259)]), true, by decide +kernel, 0x2B0, 0, _, rfl, _, rfl, _, rfl, by decide +kernel, 3, by decide +kernel⟩,
   ⟨(st [(F.HW_STATE_STATE, dsRun), (F.DBG_LEVEL_LEVEL, 1), (F.DBG_SEL_CORE, 259)]), true, by decide +kernel, 0xC, 0x80000000, _, rfl, by decide +kernel⟩,
   ⟨(st [(F.HW_STATE_STATE, dsRun), (F.DBG_LEVEL_LEVEL, 1), (F.DBG_SEL_CORE, 259)]), true, by decide +kernel, 0x200, 259, _, rfl, _, rfl, _, rfl, by decide +kernel⟩,
   ⟨(st [(F.HW_STATE_STATE, dsRun), (F.DBG_LEVEL_LEVEL, 1), (F.DBG_SEL_CORE, 259)]), true, by decide +kernel, 0x200, 260, _, rfl, _, rfl, _, rfl, by decide +kernel⟩,
   ⟨(st [(F.HW_STATE_STATE, dsRun), (F.DBG_LEVEL_LEVEL, 1), (F.DBG_SEL_CORE, 259)]), by decide +kernel, 8, 8, by intro b h; interval_cases b <;> decide +kernel, by decide +kernel⟩,
   ⟨(st [(F.HW_STATE_STATE, dsRun), (F.DBG_LEVEL_LEVEL, 1), (F.DBG_SEL_CORE, 259), (F.CVY_STATE_ROLE, roleVoter)]), by decide +kernel, 8, 8, by intro b h; interval_cases b <;> decide +kernel, _, rfl, by decide +kernel, by decide +kernel, ⟨259, by decide +kernel⟩⟩,
   ⟨(core' 259 (fun c => c.setSr 259 srStatus 6) (st [(F.HW_STATE_STATE, dsRun), (F.DBG_LEVEL_LEVEL, 1)])), by decide +kernel, 8, 15, 3, by decide +kernel⟩,
   ⟨(core' 259 (fun c => c.setSr 259 srStatus 6) (st [(F.HW_STATE_STATE, dsRun), (F.DBG_LEVEL_LEVEL, 1), (F.DBG_SEL_CORE, 259)])), by decide +kernel, 259, by decide +kernel⟩,
   ⟨(st [(F.HW_STATE_STATE, dsRun), (F.DBG_LEVEL_LEVEL, 1), (F.DBG_SEL_CORE, 259)]), by decide +kernel, 259, by decide +kernel⟩,
   ⟨(core' 259 (fun c => { c with halted := true, run := .active, pc := 0x40000000, npc := 0x40000004 }) (st [(F.HW_STATE_STATE, dsRun), (F.DBG_LEVEL_LEVEL, 1), (F.DBG_SEL_CORE, 259)])), by decide +kernel, 259, by decide +kernel, _, rfl, by decide +kernel⟩,
   ⟨(core' 255 (fun c => { c with halted := true, run := .active }) (st [(F.HW_STATE_STATE, dsRun), (F.DBG_LEVEL_LEVEL, 1), (F.DBG_SEL_CORE, 255)])), by decide +kernel, 255, by decide +kernel, _, rfl, by decide +kernel⟩,
   ⟨(core' 255 (fun c => { c with run := .stopped }) (st [(F.HW_STATE_STATE, dsRun), (F.DBG_LEVEL_LEVEL, 1), (F.DBG_SEL_CORE, 255)])), by decide +kernel, 255, by decide +kernel⟩,
   ⟨(st [(F.HW_STATE_STATE, dsRun), (F.DBG_LEVEL_LEVEL, 1)]), by decide +kernel⟩,
   ⟨(st [(F.HW_STATE_STATE, dsRoadblock), (F.DBG_LEVEL_LEVEL, 1)]), by decide +kernel⟩,
   ⟨(st [(F.HW_STATE_STATE, dsRun), (F.DBG_LEVEL_LEVEL, 1), (F.DBG_SEL_CORE, 259)]), by decide +kernel, 5, 0xFF00, _, rfl, by decide +kernel⟩,
   ⟨(st [(F.HW_STATE_STATE, dsRun), (F.DBG_LEVEL_LEVEL, 1)]), by decide +kernel, 3, 15, _, rfl, by decide +kernel⟩⟩

theorem witness_DebugAccessesComplete :
  (∃ s : State, ∃ k : Nat, (dbgServes s) ∧ (k = dbgSel s) ∧ (k < 260) ∧ ∃ c, c = (selClass s k) ∧ ∃ n, n = (selNum s k) ∧ ∃ closed, closed = (dbgPermits s k = false) ∧ ∃ open7, open7 = (dbgPermits s k = true ∧ dbgHalted s k = true) ∧ ∃ range, range = ((c = 3 ∧ (isSc k = false ∨ 63 < n)) ∨ (c = 2 ∧ srListed n = false) ∨ (c < 2 ∧ 31 < n)) ∧ ∃ level, level = (c = 3 ∧ ¬ range ∧ s.get F.DBG_LEVEL_LEVEL < 2) ∧ ∃ cause : Nat, ((closed ∧ cause = 1) ∨ (¬ closed ∧ dbgHalted s k = false ∧ cause = 7) ∨ (open7 ∧ range ∧ cause = 8) ∨ (open7 ∧ level ∧ cause = 1))) ∧
  (∃ s : State, ∃ k : Nat, (dbgServes s) ∧ (k = dbgSel s) ∧ (k < 260) ∧ ∃ c, c = (selClass s k) ∧ ∃ n, n = (selNum s k) ∧ ∃ open7, open7 = (dbgPermits s k = true ∧ dbgHalted s k = true) ∧ ∃ range, range = ((c = 3 ∧ (isSc k = false ∨ 63 < n)) ∨ (c = 2 ∧ srListed n = false) ∨ (c < 2 ∧ 31 < n)) ∧ ∃ level, level = (c = 3 ∧ ¬ range ∧ s.get F.DBG_LEVEL_LEVEL < 2) ∧ (open7) ∧ (¬ range) ∧ (¬ level) ∧ (c = 0) ∧ (n ≠ 0)) ∧
  (∃ s : State, ∃ k : Nat, (dbgServes s) ∧ (k = dbgSel s) ∧ (k < 260) ∧ ∃ c, c = (selClass s k) ∧ ∃ n, n = (selNum s k) ∧ ∃ open7, open7 = (dbgPermits s k = true ∧ dbgHalted s k = true) ∧ ∃ range, range = ((c = 3 ∧ (isSc k = false ∨ 63 < n)) ∨ (c = 2 ∧ srListed n = false) ∨ (c < 2 ∧ 31 < n)) ∧ ∃ level, level = (c = 3 ∧ ¬ range ∧ s.get F.DBG_LEVEL_LEVEL < 2) ∧ (open7) ∧ (¬ range) ∧ (¬ level) ∧ (c = 1)) ∧
  (∃ s : State, ∃ k : Nat, (dbgServes s) ∧ (k = dbgSel s) ∧ (k < 260) ∧ ∃ c, c = (selClass s k) ∧ ∃ n, n = (selNum s k) ∧ ∃ open7, open7 = (dbgPermits s k = true ∧ dbgHalted s k = true) ∧ ∃ range, range = ((c = 3 ∧ (isSc k = false ∨ 63 < n)) ∨ (c = 2 ∧ srListed n = false) ∨ (c < 2 ∧ 31 < n)) ∧ ∃ level, level = (c = 3 ∧ ¬ range ∧ s.get F.DBG_LEVEL_LEVEL < 2) ∧ (open7) ∧ (¬ range) ∧ (¬ level) ∧ (c = 2) ∧ (isSc k = true ∨ (n ≠ srCtxid ∧ n ≠ srFpmode))) ∧
  (∃ s : State, ∃ k : Nat, (dbgServes s) ∧ (k = dbgSel s) ∧ (k < 260) ∧ ∃ c, c = (selClass s k) ∧ ∃ n, n = (selNum s k) ∧ ∃ open7, open7 = (dbgPermits s k = true ∧ dbgHalted s k = true) ∧ ∃ range, range = ((c = 3 ∧ (isSc k = false ∨ 63 < n)) ∨ (c = 2 ∧ srListed n = false) ∨ (c < 2 ∧ 31 < n)) ∧ ∃ level, level = (c = 3 ∧ ¬ range ∧ s.get F.DBG_LEVEL_LEVEL < 2) ∧ (open7) ∧ (¬ range) ∧ (¬ level) ∧ (c = 3 ∨ (c = 0 ∧ n = 0) ∨ (c = 2 ∧ isSc k = false ∧ (n = srCtxid ∨ n = srFpmode)))) ∧
  (∃ s : State, ∃ k : Nat, (dbgServes s) ∧ (k = dbgSel s) ∧ (k < 260) ∧ ∃ closed, closed = (dbgPermits s k = false) ∧ ∃ open7, open7 = (dbgPermits s k = true ∧ dbgHalted s k = true) ∧ ∃ busy, busy = (bitsOf ((s.core k).dreg 0x22C) 31 31 = 1 ∨ s.dbgp.word.isSome = true) ∧ ∃ w : BitVec 32, ∃ i?, i? = (decodeWord (Fin.ofNat 260 k) w) ∧ ∃ barred, barred = (i?.isSome = true ∧ feedBarred w = true) ∧ ∃ cause, ((closed ∧ cause = 1) ∨ (¬ closed ∧ dbgHalted s k = false ∧ cause = 7) ∨ (open7 ∧ busy ∧ cause = 3) ∨ (open7 ∧ ¬ busy ∧ barred ∧ cause = 4))) ∧
  (∃ s : State, ∃ k : Nat, (dbgServes s) ∧ (k = dbgSel s) ∧ (k < 260) ∧ ∃ open7, open7 = (dbgPermits s k = true ∧ dbgHalted s k = true) ∧ ∃ busy, busy = (bitsOf ((s.core k).dreg 0x22C) 31 31 = 1 ∨ s.dbgp.word.isSome = true) ∧ ∃ w : BitVec 32, ∃ i?, i? = (decodeWord (Fin.ofNat 260 k) w) ∧ ∃ barred, barred = (i?.isSome = true ∧ feedBarred w = true) ∧ (open7) ∧ (¬ busy) ∧ (¬ barred) ∧ ((s.core k).sb = []) ∧ (i? = none)) ∧
  (∃ s : State, ∃ k : Nat, (dbgServes s) ∧ (k = dbgSel s) ∧ (k < 260) ∧ ∃ open7, open7 = (dbgPermits s k = true ∧ dbgHalted s k = true) ∧ ∃ busy, busy = (bitsOf ((s.core k).dreg 0x22C) 31 31 = 1 ∨ s.dbgp.word.isSome = true) ∧ ∃ w : BitVec 32, ∃ i?, i? = (decodeWord (Fin.ofNat 260 k) w) ∧ ∃ barred, barred = (i?.isSome = true ∧ feedBarred w = true) ∧ (open7) ∧ (¬ busy) ∧ (¬ barred) ∧ ((s.core k).sb = []) ∧ ∃ i, ∃ u, (i? = some i) ∧ (fedExec i { s with dbgp := { s.dbgp with word := none, feed := some none } } = .next u) ∧ (u.dbgp.feed = none)) ∧
  (∃ s : State, ∃ k : Nat, (dbgServes s) ∧ (k = dbgSel s) ∧ (k < 260) ∧ ∃ open7, open7 = (dbgPermits s k = true ∧ dbgHalted s k = true) ∧ ∃ busy, busy = (bitsOf ((s.core k).dreg 0x22C) 31 31 = 1 ∨ s.dbgp.word.isSome = true) ∧ ∃ w : BitVec 32, ∃ i?, i? = (decodeWord (Fin.ofNat 260 k) w) ∧ ∃ barred, barred = (i?.isSome = true ∧ feedBarred w = true) ∧ (open7) ∧ (¬ busy) ∧ (¬ barred) ∧ ((s.core k).sb = []) ∧ ∃ i, ∃ u, (i? = some i) ∧ (fedExec i { s with dbgp := { s.dbgp with word := none, feed := some none } } = .next u) ∧ ∃ e, (u.dbgp.feed = some (some e)) ∧ (e < 256) ∧ ((u.core k).sb = [])) ∧
  (∃ s : State, ∃ k : Nat, (dbgServes s) ∧ (k = dbgSel s) ∧ (k < 260) ∧ ∃ open7, open7 = (dbgPermits s k = true ∧ dbgHalted s k = true) ∧ ∃ busy, busy = (bitsOf ((s.core k).dreg 0x22C) 31 31 = 1 ∨ s.dbgp.word.isSome = true) ∧ ∃ w : BitVec 32, ∃ i?, i? = (decodeWord (Fin.ofNat 260 k) w) ∧ ∃ barred, barred = (i?.isSome = true ∧ feedBarred w = true) ∧ (open7) ∧ (¬ busy) ∧ (¬ barred) ∧ ((s.core k).sb = []) ∧ ∃ i, ∃ u, (i? = some i) ∧ (fedExec i { s with dbgp := { s.dbgp with word := none, feed := some none } } = .next u) ∧ (u.dbgp.feed = some none) ∧ ((u.core k).sb = [])) ∧
  (∃ s : State, ∃ k : Nat, (dbgServes s) ∧ (k = dbgSel s) ∧ (k < 260) ∧ ∃ open7, open7 = (dbgPermits s k = true ∧ dbgHalted s k = true) ∧ ∃ busy, busy = (bitsOf ((s.core k).dreg 0x22C) 31 31 = 1 ∨ s.dbgp.word.isSome = true) ∧ ∃ w : BitVec 32, ∃ i?, i? = (decodeWord (Fin.ofNat 260 k) w) ∧ ∃ barred, barred = (i?.isSome = true ∧ feedBarred w = true) ∧ (open7) ∧ (¬ busy) ∧ (¬ barred) ∧ ((s.core k).sb = []) ∧ ∃ i, ∃ d, ∃ v, (i? = some i) ∧ (intResult (fun r => (s.core k).greg r.toNat) i = some (Fin.ofNat 260 k, d, v))) ∧
  (∃ s : State, ∃ k : Nat, (dbgServes s) ∧ (k = dbgSel s) ∧ (k < 260) ∧ ∃ v : BitVec 31, ∃ hi : Bool, ∃ d : BitVec 32, (s.dbgp.mem.isSome = true) ∧ ∃ e, (e ∈ [Instr.memRead v, .memWrite hi d])) ∧
  (∃ s : State, ∃ k : Nat, (dbgServes s) ∧ (k = dbgSel s) ∧ (k < 260) ∧ ∃ a, a = (dmemAddr s) ∧ ∃ v : BitVec 31, (s.dbgp.mem = none) ∧ (a % (if v.getLsbD 26 then 8 else 4) = 0)) ∧
  (∃ s : State, ∃ k : Nat, (dbgServes s) ∧ (k = dbgSel s) ∧ (k < 260) ∧ ∃ a, a = (dmemAddr s) ∧ ∃ v : BitVec 31, (s.dbgp.mem = none) ∧ (a % (if v.getLsbD 26 then 8 else 4) ≠ 0)) ∧
  (∃ s : State, ∃ k : Nat, (dbgServes s) ∧ (k = dbgSel s) ∧ (k < 260) ∧ ∃ hi : Bool, (s.dbgp.mem = none) ∧ (hi ≠ s.flag F.DBG_MEM_CTL_SIZE)) ∧
  (∃ s : State, ∃ k : Nat, (dbgServes s) ∧ (k = dbgSel s) ∧ (k < 260) ∧ ∃ a, a = (dmemAddr s) ∧ ∃ z, z = (dmemSize s) ∧ ∃ g, g = (guardOf s a) ∧ ∃ allowed, allowed = (isGuarded g = false ∨ (s.flag F.DBG_MEM_CTL_OVERRIDE = true ∧ s.get F.DBG_LEVEL_LEVEL = 2)) ∧ ∃ hi : Bool, (s.dbgp.mem = none) ∧ (hi = s.flag F.DBG_MEM_CTL_SIZE) ∧ (a % z = 0) ∧ (allowed)) ∧
  (∃ s : State, ∃ k : Nat, (dbgServes s) ∧ (k = dbgSel s) ∧ (k < 260) ∧ ∃ a, a = (dmemAddr s) ∧ ∃ z, z = (dmemSize s) ∧ ∃ g, g = (guardOf s a) ∧ ∃ allowed, allowed = (isGuarded g = false ∨ (s.flag F.DBG_MEM_CTL_OVERRIDE = true ∧ s.get F.DBG_LEVEL_LEVEL = 2)) ∧ ∃ hi : Bool, (s.dbgp.mem = none) ∧ (hi = s.flag F.DBG_MEM_CTL_SIZE) ∧ (a % z = 0) ∧ (¬ allowed)) ∧
  (∃ s : State, ∃ k : Nat, (dbgServes s) ∧ (k = dbgSel s) ∧ (k < 260) ∧ ∃ a, a = (dmemAddr s) ∧ ∃ z, z = (dmemSize s) ∧ ∃ hi : Bool, (s.dbgp.mem = none) ∧ (hi = s.flag F.DBG_MEM_CTL_SIZE) ∧ (a % z ≠ 0)) ∧
  (∃ s : State, ∃ k : Nat, (dbgServes s) ∧ (k = dbgSel s) ∧ (k < 260) ∧ (s.dbgp.held = none) ∧ (s.dbgp.mem = none)) ∧
  (∃ s : State, ∃ k : Nat, (dbgServes s) ∧ (k = dbgSel s) ∧ (k < 260) ∧ ∃ z, z = (dmemSize s) ∧ (s.dbgp.held = none) ∧ ∃ b, (s.dbgp.mem = some (b, none)) ∧ ∃ v, ∃ u, (busRead s .debug b z = (.ok v, u))) ∧
  (∃ s : State, ∃ k : Nat, (dbgServes s) ∧ (k = dbgSel s) ∧ (k < 260) ∧ ∃ z, z = (dmemSize s) ∧ (s.dbgp.held = none) ∧ ∃ b, (s.dbgp.mem = some (b, none)) ∧ ∃ e, ∃ u, (busRead s .debug b z = (.err e, u))) ∧
  (∃ s : State, ∃ k : Nat, (dbgServes s) ∧ (k = dbgSel s) ∧ (k < 260) ∧ ∃ z, z = (dmemSize s) ∧ (s.dbgp.held = none) ∧ ∃ b, (s.dbgp.mem = some (b, none)) ∧ ∃ u, (busRead s .debug b z = (.wait, u))) ∧
  (∃ s : State, ∃ k : Nat, (dbgServes s) ∧ (k = dbgSel s) ∧ (k < 260) ∧ ∃ z, z = (dmemSize s) ∧ (s.dbgp.held = none) ∧ ∃ b, ∃ x, (s.dbgp.mem = some (b, some x)) ∧ (inDepot b = true) ∧ (b % z = 0) ∧ (zeroingAt s b = false) ∧ (isGuarded (guardOf s b) = false) ∧ (z = 8 ∨ s.eccOf memDepot (b / 8) ≠ 2)) ∧
  (∃ s : State, ∃ k : Nat, (dbgServes s) ∧ (k = dbgSel s) ∧ (k < 260) ∧ ∃ z, z = (dmemSize s) ∧ (s.dbgp.held = none) ∧ ∃ b, ∃ x, (s.dbgp.mem = some (b, some x)) ∧ ∃ u, (isGuarded (guardOf s b) = true) ∧ (memWrite s .debug b z (x.toNat % 2 ^ (8 * z)) = (.ok, u))) ∧
  (∃ s : State, ∃ k : Nat, (dbgServes s) ∧ (k = dbgSel s) ∧ (k < 260) ∧ (s.dbgp.held = none) ∧ ∃ b, ∃ x, (s.dbgp.mem = some (b, some x)) ∧ (inFlash b = true)) ∧
  (∃ s : State, ∃ k : Nat, (dbgServes s) ∧ (k = dbgSel s) ∧ (k < 260) ∧ ∃ z, z = (dmemSize s) ∧ ∃ b, ∃ v, ∃ u, ∃ x, (s.dbgp.mem = some (b, none)) ∧ (s.dbgp.held = some (false, 0x408, x)) ∧ (inPeri b = false) ∧ (busRead s .debug b z = (.ok v, u))) :=
  ⟨⟨(st [(F.HW_STATE_STATE, dsRun), (F.DBG_LEVEL_LEVEL, 1), (F.DBG_SEL_CORE, 259)]), 259, by decide +kernel, by decide +kernel, by decide +kernel, _, rfl, _, rfl, _, rfl, _, rfl, _, rfl, _, rfl, 7, by decide +kernel⟩,
   ⟨(core' 259 (fun c => (c.setD 0x218 31).setG 31 0x1122334455667788) (core' 259 (fun c => { c with halted := true, run := .active, pc := 0x40000000, npc := 0x40000004 }) (st [(F.HW_STATE_STATE, dsRun), (F.DBG_LEVEL_LEVEL, 1), (F.DBG_SEL_CORE, 259)]))), 259, by decide +kernel, by decide +kernel, by decide +kernel, _, rfl, _, rfl, _, rfl, _, rfl, _, rfl, by decide +kernel⟩,
   ⟨(core' 259 (fun c => (c.setD 0x218 0x1001F).setG 31 0x1122334455667788) (core' 259 (fun c => { c with halted := true, run := .active, pc := 0x40000000, npc := 0x40000004 }) (st [(F.HW_STATE_STATE, dsRun), (F.DBG_LEVEL_LEVEL, 1), (F.DBG_SEL_CORE, 259)]))), 259, by decide +kernel, by decide +kernel, by decide +kernel, _, rfl, _, rfl, _, rfl, _, rfl, _, rfl, by decide +kernel⟩,
   ⟨(core' 259 (fun c => (c.setD 0x218 0x20000).setG 31 0x1122334455667788) (core' 259 (fun c => { c with halted := true, run := .active, pc := 0x40000000, npc := 0x40000004 }) (st [(F.HW_STATE_STATE, dsRun), (F.DBG_LEVEL_LEVEL, 1), (F.DBG_SEL_CORE, 259)]))), 259, by decide +kernel, by decide +kernel, by decide +kernel, _, rfl, _, rfl, _, rfl, _, rfl, _, rfl, by decide +kernel⟩,
   ⟨(core' 259 (fun c => { c with halted := true, run := .active, pc := 0x40000000, npc := 0x40000004 }) (st [(F.HW_STATE_STATE, dsRun), (F.DBG_LEVEL_LEVEL, 1), (F.DBG_SEL_CORE, 259)])), 259, by decide +kernel, by decide +kernel, by decide +kernel, _, rfl, _, rfl, _, rfl, _, rfl, _, rfl, by decide +kernel⟩,
   ⟨(st [(F.HW_STATE_STATE, dsRun), (F.DBG_LEVEL_LEVEL, 1), (F.DBG_SEL_CORE, 259)]), 259, by decide +kernel, by decide +kernel, by decide +kernel, _, rfl, _, rfl, _, rfl, (BitVec.allOnes 32), _, rfl, _, rfl, 7, by decide +kernel⟩,
   ⟨(core' 259 (fun c => { c with halted := true, run := .active, pc := 0x40000000, npc := 0x40000004 }) (st [(F.HW_STATE_STATE, dsRun), (F.DBG_LEVEL_LEVEL, 1), (F.DBG_SEL_CORE, 259)])), 259, by decide +kernel, by decide +kernel, by decide +kernel, _, rfl, _, rfl, (0xFFFFFFFF : BitVec 32), _, rfl, _, rfl, by decide +kernel⟩,
   ⟨(let s := gregs 259 [(1, 0x10000000)] (core' 259 (fun c => { c with halted := true, run := .active, pc := 0x40000000, npc := 0x40000004 }) (st [(F.HW_STATE_STATE, dsRun), (F.DBG_LEVEL_LEVEL, 1), (F.DBG_SEL_CORE, 259)])); { s with boot := { s.boot with zeroing := (arrayOf 0x10000000).toList } }), 259, by decide +kernel, by decide +kernel, by decide +kernel, _, rfl, _, rfl, (0x53E10000 : BitVec 32), _, rfl, _, rfl, by decide +kernel, by decide +kernel, by decide +kernel, by decide +kernel, (.ldw 259 31 1 0), _, by decide +kernel, next_answer (by decide +kernel), by decide +kernel⟩,
   ⟨(gregs 259 [(1, 0x10000000)] (core' 259 (fun c => { c with halted := true, run := .active, pc := 0x40000000, npc := 0x40000004 }) (st [(F.HW_STATE_STATE, dsRun), (F.DBG_LEVEL_LEVEL, 1), (F.DBG_SEL_CORE, 259)]))), 259, by decide +kernel, by decide +kernel, by decide +kernel, _, rfl, _, rfl, (0x53E10001 : BitVec 32), _, rfl, _, rfl, by decide +kernel, by decide +kernel, by decide +kernel, by decide +kernel, (.ldw 259 31 1 1), _, by decide +kernel, next_answer (by decide +kernel), 5, by decide +kernel⟩,
   ⟨(core' 259 (fun c => { c with halted := true, run := .active, pc := 0x40000000, npc := 0x40000004 }) (st [(F.HW_STATE_STATE, dsRun), (F.DBG_LEVEL_LEVEL, 1), (F.DBG_SEL_CORE, 259)])), 259, by decide +kernel, by decide +kernel, by decide +kernel, _, rfl, _, rfl, (0x20A50001 : BitVec 32), _, rfl, _, rfl, by decide +kernel, by decide +kernel, by decide +kernel, by decide +kernel, (.addi 259 5 5 1), _, by decide +kernel, next_answer (by decide +kernel), by decide +kernel⟩,
   ⟨(core' 259 (fun c => { c with halted := true, run := .active, pc := 0x40000000, npc := 0x40000004 }) (st [(F.HW_STATE_STATE, dsRun), (F.DBG_LEVEL_LEVEL, 1), (F.DBG_SEL_CORE, 259)])), 259, by decide +kernel, by decide +kernel, by decide +kernel, _, rfl, _, rfl, (0x23FFFFFF : BitVec 32), _, rfl, _, rfl, by decide +kernel, by decide +kernel, by decide +kernel, by decide +kernel, (.addi 259 31 31 0xFFFF), 31, (-1 : Word), by decide +kernel⟩,
   ⟨(let s := st [(F.HW_STATE_STATE, dsRun), (F.DBG_LEVEL_LEVEL, 1), (F.DBG_SEL_CORE, 259)]; { s with dbgp := { s.dbgp with mem := some (0x1000, none) } }), 259, by decide +kernel, by decide +kernel, by decide +kernel, 0, true, 0, by decide +kernel, _, List.mem_cons_self ..⟩,
   ⟨(core' 259 (fun c => { c with halted := true, run := .active, pc := 0x40000000, npc := 0x40000004 }) (st [(F.HW_STATE_STATE, dsRun), (F.DBG_LEVEL_LEVEL, 1), (F.DBG_SEL_CORE, 259)])), 259, by decide +kernel, by decide +kernel, by decide +kernel, _, rfl, (BitVec.allOnes 31), by decide +kernel⟩,
   ⟨(st [(F.HW_STATE_STATE, dsRun), (F.DBG_LEVEL_LEVEL, 1), (F.DBG_SEL_CORE, 259)]).setReg A.DBG_MEM_ADDR 0x203FFFFC, 259, by decide +kernel, by decide +kernel, by decide +kernel, _, rfl, (2 ^ 26), by decide +kernel⟩,
   ⟨(st [(F.HW_STATE_STATE, dsRun), (F.DBG_LEVEL_LEVEL, 1), (F.DBG_SEL_CORE, 259)]).setReg A.DBG_MEM_ADDR 0x203FFFF8, 259, by decide +kernel, by decide +kernel, by decide +kernel, true, by decide +kernel⟩,
   ⟨(st [(F.HW_STATE_STATE, dsRun), (F.DBG_LEVEL_LEVEL, 1), (F.DBG_SEL_CORE, 259)]).setReg A.DBG_MEM_ADDR 0x203FFFF8, 259, by decide +kernel, by decide +kernel, by decide +kernel, _, rfl, _, rfl, _, rfl, _, rfl, false, by decide +kernel⟩,
   ⟨(let s := puts [(F.WPT_PART_MAP_EN, 8), (⟨A.WPT_PART_MAP, 7, 6⟩, 3), (F.WPT_PSTATE_STATE 3, psScanning), (F.SEC_MANIFEST_SEALED, 8)] ((st [(F.HW_STATE_STATE, dsRun), (F.DBG_LEVEL_LEVEL, 1), (F.DBG_SEL_CORE, 259)]).setReg A.DBG_MEM_ADDR 0x20FFFFFC); { s with boot := { s.boot with tiles := [(255, true)] } }), 259, by decide +kernel, by decide +kernel, by decide +kernel, _, rfl, _, rfl, _, rfl, _, rfl, false, by decide +kernel⟩,
   ⟨(st [(F.HW_STATE_STATE, dsRun), (F.DBG_LEVEL_LEVEL, 1), (F.DBG_SEL_CORE, 259)]).setReg A.DBG_MEM_ADDR 0x203FFFFE, 259, by decide +kernel, by decide +kernel, by decide +kernel, _, rfl, _, rfl, false, by decide +kernel⟩,
   ⟨(core' 259 (fun c => { c with halted := true, run := .active, pc := 0x40000000, npc := 0x40000004 }) (st [(F.HW_STATE_STATE, dsRun), (F.DBG_LEVEL_LEVEL, 1), (F.DBG_SEL_CORE, 259)])), 259, by decide +kernel⟩,
   ⟨(let s := st [(F.HW_STATE_STATE, dsRun), (F.DBG_LEVEL_LEVEL, 1), (F.DBG_SEL_CORE, 259)]; { s with dbgp := { s.dbgp with mem := some (0x203FFFF8, none) } }), 259, by decide +kernel, by decide +kernel, by decide +kernel, _, rfl, by decide +kernel, (0x203FFFF8 : Nat), by decide +kernel, _, _, ok_read (by decide +kernel)⟩,
   ⟨(let s := st [(F.HW_STATE_STATE, dsRun), (F.DBG_LEVEL_LEVEL, 1), (F.DBG_SEL_CORE, 259)]; { s with dbgp := { s.dbgp with mem := some (0xE0000000, none) } }), 259, by decide +kernel, by decide +kernel, by decide +kernel, _, rfl, by decide +kernel, (0xE0000000 : Nat), by decide +kernel, _, _, err_read (by decide +kernel)⟩,
   ⟨(let s := st [(F.HW_STATE_STATE, dsRun), (F.DBG_LEVEL_LEVEL, 1), (F.DBG_SEL_CORE, 259)]; { s with dbgp := { s.dbgp with mem := some (0x10000000, none) }, boot := { s.boot with zeroing := (arrayOf 0x10000000).toList } }), 259, by decide +kernel, by decide +kernel, by decide +kernel, _, rfl, by decide +kernel, (0x10000000 : Nat), by decide +kernel, _, Prod.ext (by decide +kernel) rfl⟩,
   ⟨(let s := st [(F.HW_STATE_STATE, dsRun), (F.DBG_LEVEL_LEVEL, 1), (F.DBG_SEL_CORE, 259), (F.DBG_MEM_CTL_SIZE, 1)]; { s with dbgp := { s.dbgp with mem := some (0x10000008, some 0x1122334455667788) } }), 259, by decide +kernel, by decide +kernel, by decide +kernel, _, rfl, by decide +kernel, (0x10000008 : Nat), (0x1122334455667788 : Word), by decide +kernel⟩,
   ⟨(let s := puts [(F.WPT_PART_MAP_EN, 8), (⟨A.WPT_PART_MAP, 7, 6⟩, 3), (F.WPT_PSTATE_STATE 3, psScanning), (F.SEC_MANIFEST_SEALED, 8)] ((let s := st [(F.HW_STATE_STATE, dsRun), (F.DBG_LEVEL_LEVEL, 1), (F.DBG_SEL_CORE, 259)]; { s with dbgp := { s.dbgp with mem := some (0x20FFFFFC, some 0x1122334455667788) } })); { s with boot := { s.boot with tiles := [(255, true)] } }), 259, by decide +kernel, by decide +kernel, by decide +kernel, _, rfl, by decide +kernel, (0x20FFFFFC : Nat), (0x1122334455667788 : Word), by decide +kernel, _, by decide +kernel, Prod.ext (by decide +kernel) rfl⟩,
   ⟨(let s := st [(F.HW_STATE_STATE, dsRun), (F.DBG_LEVEL_LEVEL, 1), (F.DBG_SEL_CORE, 259)]; { s with dbgp := { s.dbgp with mem := some (0x1000, some 0x1122334455667788) } }), 259, by decide +kernel, by decide +kernel, by decide +kernel, by decide +kernel, (0x1000 : Nat), (0x1122334455667788 : Word), by decide +kernel⟩,
   ⟨(let s := st [(F.HW_STATE_STATE, dsRun), (F.DBG_LEVEL_LEVEL, 1), (F.DBG_SEL_CORE, 259)]; { s with dbgp := { s.dbgp with mem := some (0x203FFFF8, none), held := some (false, 0x408, 7) } }), 259, by decide +kernel, by decide +kernel, by decide +kernel, _, rfl, (0x203FFFF8 : Nat), _, _, (7 : BitVec 32), by decide +kernel, by decide +kernel, by decide +kernel, ok_read (by decide +kernel)⟩⟩

theorem witness_MemoryStaysCanonical :
  (∃ s : State, ∃ t : State, (Memory.wf s.mem = true) ∧ (step s = .next t)) :=
  ⟨({ base with pending := [.nop] }), _, by decide +kernel, next_answer (by decide +kernel)⟩

end Sys2Proof.Tests
end

section
/-! SUPPORT. Loads complete (R90, R114–R116, R152–R160): what a load's command runs, what the tile's view and a service core's
checks answer, and the obligation on loads. -/

namespace Sys2Proof.Machine

/-- The signed form of a load's value: two's complement at the width of its bytes (R114). -/
theorem extendLoad_signed {n w v : Nat} (hw : w = 8 * n) (h0 : 0 < w) (h1 : w ≤ 64) (h : v < 2 ^ w) :
    extendLoad true n v = BitVec.ofInt 64 (BitVec.ofNat w v).toInt := by
  subst hw
  have hp : 2 ^ (8 * n) = 2 * 2 ^ (8 * n - 1) := by rw [← pow_succ']; congr 1; omega
  have hle : 2 ^ (8 * n) ≤ 2 ^ 64 := Nat.pow_le_pow_right (by omega) h1
  rw [BitVec.toInt_eq_toNat_cond, BitVec.toNat_ofNat, Nat.mod_eq_of_lt h]
  unfold extendLoad
  by_cases hs : 2 ^ (8 * n - 1) ≤ v
  · rw [if_pos ⟨rfl, hs⟩, if_neg (by omega), ← BitVec.ofInt_natCast]
    apply BitVec.eq_of_toInt_eq
    rw [BitVec.toInt_ofInt, BitVec.toInt_ofInt,
      show ((2 ^ 64 - 2 ^ (8 * n) + v : Nat) : Int) = ((v : Int) - (2 ^ (8 * n) : Nat)) + (2 ^ 64 : Nat) by omega,
      Int.add_bmod_right]
  · rw [if_neg (fun q => hs q.2), if_pos (by omega), BitVec.ofInt_natCast]

theorem extendLoad_unsigned (n v : Nat) : extendLoad false n v = BitVec.ofNat 64 v := by simp [extendLoad]

/-- A load's command runs `loadInstr`, with a register write that the statement's form says (R114, R116). -/
theorem exec_of_loadForm {i : Instr} {k : CoreId} {a : BitVec 5} {imm : BitVec 16} {n : Nat} {wr : Nat → Core → Core}
    (h : loadForm i = some (k, a, imm, n, wr)) (s : State) :
    ∃ wb : Nat → Core → Core, exec i s = .next (loadInstr k (wordOf i) a imm n wb s) ∧
      ∀ v c, v < 2 ^ (8 * n) → (wb v c).step = wr v c := by
  unfold loadForm at h
  split at h <;> simp only [Option.some.injEq, Prod.mk.injEq, reduceCtorEq] at h <;> obtain ⟨rfl, rfl, rfl, rfl, rfl⟩ := h
  case h_1 | h_3 | h_5 => exact ⟨_, rfl, fun v c hv => by rw [toG, extendLoad_signed rfl (by omega) (by omega) hv]; rfl⟩
  case h_2 | h_4 | h_6 | h_7 => exact ⟨_, rfl, fun v c _ => by rw [toG, extendLoad_unsigned]; rfl⟩
  case h_8 | h_9 => exact ⟨_, rfl, fun v c _ => rfl⟩

/-- The effective address of the statements is that of the model (R114). -/
theorem effAddr_eq (s : State) (k : CoreId) (a : BitVec 5) (imm : BitVec 16) : effAddr s k a imm = eaOf (gr s k) a imm := rfl

/-- At the level CLOSED no comparator acts (R511, R521). -/
theorem compare_closed {s : State} (h : closed s) (k : Nat) (x : Acc3) (a n : Nat) (d : Option Word) :
    compare s k x a n d = (s, false) := by
  have hp : dbgPermits s k = false := by
    simp only [dbgPermits, dbgLevel, dbgNeed, show s.get F.DBG_LEVEL_LEVEL = 0 from h, decide_eq_false_iff_not]
    split <;> omega
  simp only [compare, hp, Bool.false_eq_true, if_false]

theorem compareData_closed {s : State} (h : closed s) (k : Nat) (x : Acc3) (a n v : Nat) : compareData s k x a n v = s := by
  rw [compareData, compare_closed h, ite_self]

/-- An instruction that waits, with no halt request pending, keeps what it has placed (R87, R194). -/
theorem runInstr_pend {s u v : State} {k w : Nat} {body : State → Att} {ev : Nat} (h : Fetches s k u)
    (hq : (s.core k).haltReq = 0) (hb : body u = .pend v ev) : runInstr s k w body = v.waitFor k ev := by
  obtain ⟨h1, h2, -, x, h4, h5⟩ := h
  simp only [runInstr, h1, h2, h4, h5, hb, hq, bne_self_eq_false, Bool.false_and, Option.isSome_none, Bool.false_eq_true,
    if_false, Bool.not_true]

section
variable {i : Instr} {k : CoreId} {a : BitVec 5} {imm : BitVec 16} {n : Nat} {wr : Nat → Core → Core} {s u w : State}

/-- A load that gets its bytes commits them to its register (R114). -/
theorem load_completes (hf : Fetches s k u) (hi : loadForm i = some (k, a, imm, n, wr)) {v : Nat}
    (hv : v < 2 ^ (8 * n)) (hc : closed w) (hl : coreLoad u k (eaOf (gr u k) a imm) n = .val v w) :
    Gives i s (fun t => Retires w t k (wr v (w.core k))) := by
  obtain ⟨wb, he, hwb⟩ := exec_of_loadForm hi s
  refine ⟨_, he, ?_⟩
  rw [loadInstr, runInstr_done (v := w.onCore k (fun c => (wb v c).step)) hf]
  · obtain ⟨h1, h2, h3⟩ := commit_retires (w.onCore k (fun c => (wb v c).step)) k
    rw [State.core_onCore_same, hwb v _ hv] at h3
    exact ⟨by rw [h1]; rfl, fun j hj => (h2 j hj).trans (State.core_onCore_ne w _ hj), h3⟩
  · simp only [effAddr_eq, hl]
    rw [compareData_closed (by exact hc)]

/-- A load that meets a trap condition takes the trap with its address (R145). -/
theorem load_traps (hf : Fetches s k u) (hi : loadForm i = some (k, a, imm, n, wr)) {c : Nat}
    (hl : coreLoad u k (eaOf (gr u k) a imm) n = .trap w c) :
    exec i s = .next (takeTrap w k c 0 (eaOf (gr u k) a imm) (wordOf i)) := by
  obtain ⟨wb, he, -⟩ := exec_of_loadForm hi s
  rw [he, loadInstr, runInstr_trap hf]
  simp only [effAddr_eq, hl]

/-- A load that has to wait changes only what its core waits for (R194). -/
theorem load_waits (hf : Fetches s k u) (hi : loadForm i = some (k, a, imm, n, wr)) {ev : Nat}
    (hq : (s.core k).haltReq = 0) (hl : coreLoad u k (eaOf (gr u k) a imm) n = .wait w ev) :
    exec i s = .next (w.waitFor k ev) := by
  obtain ⟨wb, he, -⟩ := exec_of_loadForm hi s
  rw [he, loadInstr, runInstr_pend hf hq]
  simp only [effAddr_eq, hl]

end

/-! ### Cores that differ in their counters alone stay so -/

theorem SameCore.setG_congr {k : Nat} {c d : Core} (h : SameCore k c d) (n : Nat) (v : Word) :
    SameCore k (c.setG n v) (d.setG n v) := by
  unfold Core.setG
  split
  · exact h
  · exact ⟨h.run, h.pc, h.npc, h.slot, h.slotPc, by rw [h.g], h.f, h.sb, h.save, h.caches, h.sreg, h.debug⟩

theorem SameCore.setF_congr {k : Nat} {c d : Core} (h : SameCore k c d) (n : Nat) (v : Word) :
    SameCore k (c.setF n v) (d.setF n v) :=
  ⟨h.run, h.pc, h.npc, h.slot, h.slotPc, h.g, by unfold Core.setF; rw [h.f], h.sb, h.save, h.caches, h.sreg, h.debug⟩

theorem SameCore.step_congr {k : Nat} {c d : Core} (h : SameCore k c d) : SameCore k c.step d.step :=
  ⟨h.run, h.npc, by unfold Core.step; rw [h.npc], rfl, h.slotPc, h.g, h.f, h.sb, h.save, h.caches, h.sreg, h.debug⟩

theorem Core.step_stepping (c : Core) : c.step.stepping = c.stepping := rfl
theorem Core.setF_stepping (c : Core) (n : Nat) (v : Word) : (c.setF n v).stepping = c.stepping := rfl

/-- A load writes one general register or one floating-point register, and moves on. -/
theorem loadForm_writes {i : Instr} {k : CoreId} {a : BitVec 5} {imm : BitVec 16} {n : Nat} {wr : Nat → Core → Core}
    (h : loadForm i = some (k, a, imm, n, wr)) (v : Nat) :
    ∃ d x, wr v = (fun c => (c.setG d x).step) ∨ wr v = (fun c => (c.setF d x).step) := by
  unfold loadForm at h
  split at h <;> simp only [Option.some.injEq, Prod.mk.injEq, reduceCtorEq] at h <;> obtain ⟨rfl, rfl, rfl, rfl, rfl⟩ := h
  case h_8 | h_9 => exact ⟨_, _, .inr rfl⟩
  all_goals exact ⟨_, _, .inl rfl⟩

/-- What a load writes does not look at the counters, nor end a debug step. -/
theorem loadForm_congr {i : Instr} {k : CoreId} {a : BitVec 5} {imm : BitVec 16} {n : Nat} {wr : Nat → Core → Core}
    (h : loadForm i = some (k, a, imm, n, wr)) (v : Nat) {c d : Core} (hs : SameCore k c d) (hg : d.stepping = c.stepping) :
    SameCore k (wr v c) (wr v d) ∧ (wr v d).stepping = (wr v c).stepping := by
  obtain ⟨r, x, e | e⟩ := loadForm_writes h v <;> rw [e]
  · exact ⟨(hs.setG_congr r x).step_congr, by simpa [Core.step_stepping] using hg⟩
  · exact ⟨(hs.setF_congr r x).step_congr, by simpa [Core.step_stepping, Core.setF_stepping] using hg⟩

/-- Counting an event before an instruction commits is no other change than a counter's. -/
theorem Retires.of_pmc {u t : State} {k ev m : Nat} {c d : Core} (h : Retires (u.pmc k ev m) t k d)
    (hs : SameCore k c d) (hg : d.stepping = c.stepping) : Retires u t k c := by
  obtain ⟨h1, h2, h3⟩ := h
  obtain ⟨g1, g2, -, -⟩ := State.pmc_same u k ev m
  exact ⟨by rw [h1, g1], fun j hj => (h2 j hj).trans (g2 j hj), hs.trans h3 (fun q => hg.trans q)⟩

/-! ### The tile's view (R152–R154) -/

theorem coreLoad_tile {k : Nat} (h : k < 256) (s : State) (a n : Nat) : coreLoad s k a n = tileLoad s k a n := by
  rw [coreLoad, isSc, decide_eq_false (by omega), if_neg (by simp)]

theorem coreLoad_sc {k : Nat} (h : 256 ≤ k) (s : State) (a n : Nat) : coreLoad s k a n = scLoad s k a n := by
  rw [coreLoad, isSc, decide_eq_true h, if_pos rfl]

/-- Where a tile's aligned load meets no condition of R145: its code bank and data area, the snapshot, the release storage, and
the mapped part of the constant view. -/
def loadSpot (s : State) (t a n : Nat) : Prop :=
  spotOf a = .code ∨ spotOf a = .data ∨ spotOf a = .snap ∨ spotOf a = .rel ∨ (spotOf a = .const ∧ inView s t a n = true)

theorem tileCheck_load {s : State} {t a n : Nat} (hn : a % n = 0) (h : loadSpot s t a n) : tileCheck s t false a n = none := by
  obtain h | h | h | h | ⟨h, hv⟩ := h
  all_goals simp [tileCheck, h, hn]
  simp [hv]

/-- A word without an error mark is read as it is (R168). -/
theorem eccLoad_good {s : State} {arr word : Nat} (h : s.eccOf arr word = 0) (k addr : Nat) :
    eccLoad s k arr word addr = (s, false) := by simp only [eccLoad, h, if_true]

theorem State.bytes_lt (s : State) (n : Nat) : ∀ a, s.bytes a n < 2 ^ (8 * n) := by
  induction n with
  | zero => intro a; simp [State.bytes]
  | succ n ih =>
    intro a
    have hb := (s.byte a).isLt
    have hr := ih (a + 1)
    rw [State.bytes, show 8 * (n + 1) = 8 + 8 * n by omega, Nat.pow_add]
    omega

theorem spotOf_own {a : Nat} (h : ownData a) : spotOf a = .code ∨ spotOf a = .data := by
  unfold spotOf
  obtain h | ⟨h1, h2⟩ := h
  · exact .inl (if_pos h)
  · right
    rw [if_neg (by omega), if_neg (by omega), if_pos h2]

theorem spotOf_snap {a : Nat} (h1 : 0x10000 ≤ a) (h2 : a < 0x18000) : spotOf a = .snap := by
  unfold spotOf
  rw [if_neg (by omega), if_neg (by omega), if_neg (by omega), if_pos h2]

theorem spotOf_rel {a : Nat} (h1 : 0x20000 ≤ a) (h2 : a < 0x28000) : spotOf a = .rel := by
  unfold spotOf
  rw [if_neg (by omega), if_neg (by omega), if_neg (by omega), if_neg (by omega), if_neg (by omega), if_pos h2]

theorem spotOf_const {a : Nat} (h1 : 0x100000 ≤ a) (h2 : a < 0x1100000) : spotOf a = .const := by
  unfold spotOf
  rw [if_neg (by omega), if_neg (by omega), if_neg (by omega), if_neg (by omega), if_neg (by omega), if_neg (by omega),
    if_pos ⟨h1, h2⟩]

section
variable {s : State} {t a n : Nat}

theorem tileLoad_own (hn : a % n = 0) (ha : ownData a) (hy : youngest (s.core t) a n = none)
    (he : s.eccOf memTile (tilePhys s t a / 8) = 0) : tileLoad s t a n = .val (s.bytes (tilePhys s t a) n) s := by
  have hsp := spotOf_own ha
  have hck : tileCheck s t false a n = none := tileCheck_load hn (by unfold loadSpot; tauto)
  obtain h | h := hsp <;> simp [tileLoad, hck, h, hy, ownLoad, eccLoad_good he]

theorem tileLoad_snap {p : Nat} (hn : a % n = 0) (h1 : 0x10000 ≤ a) (h2 : a < 0x18000) (hp : s.tilePart t = some p)
    (hy : youngest (s.core t) a n = none) : tileLoad s t a n = snapLoad s t p a n := by
  have hsp := spotOf_snap h1 h2
  have hck : tileCheck s t false a n = none := tileCheck_load hn (by unfold loadSpot; tauto)
  simp [tileLoad, hck, hsp, hy, hp]

theorem tileLoad_const {p : Nat} (hn : a % n = 0) (h1 : 0x100000 ≤ a) (h2 : a < 0x1100000) (hp : s.tilePart t = some p)
    (hv : inView s t a n = true) (hy : youngest (s.core t) a n = none) : tileLoad s t a n = constLoad s t p a n := by
  have hsp := spotOf_const h1 h2
  have hck : tileCheck s t false a n = none := tileCheck_load hn (by unfold loadSpot; tauto)
  simp [tileLoad, hck, hsp, hy, hp]

theorem tileLoad_rel (hn : a % n = 0) (h1 : 0x20000 ≤ a) (h2 : a < 0x28000) : tileLoad s t a n = .val 0 s := by
  have hsp := spotOf_rel h1 h2
  have hck : tileCheck s t false a n = none := tileCheck_load hn (by unfold loadSpot; tauto)
  simp [tileLoad, hck, hsp]

/-- An older store to bytes of a load from the data area forwards its data, or is awaited (R90). -/
theorem tileLoad_older {e : SbEntry} (hn : a % n = 0) (h1 : 0x8000 ≤ a) (h2 : a < 0x10000)
    (hy : youngest (s.core t) a n = some e) :
    tileLoad s t a n =
      if e.addr = a ∧ e.size = n then .val e.data.toNat (s.pmc t evForwarded 1) else .wait s evOverlap := by
  have hsp : spotOf a = .data := by
    unfold spotOf
    rw [if_neg (by omega), if_neg (by omega), if_pos h2]
  have hck : tileCheck s t false a n = none := tileCheck_load hn (by unfold loadSpot; tauto)
  simp [tileLoad, hck, hsp, hy]

theorem tileLoad_refused {c : Nat} (h : tileCheck s t false a n = some c) : tileLoad s t a n = .trap s c := by
  simp only [tileLoad, h]

theorem snapLoad_beyond {p : Nat} (h : snapLen s p ≤ (a - 0x10000) / 8) : snapLoad s t p a n = .val 0 s := by
  simp only [snapLoad, if_pos h]

theorem snapLoad_filled {p : Nat} (h1 : (a - 0x10000) / 8 < snapLen s p)
    (h2 : (a - 0x10000) / 8 < (s.part p).fill.read nat0 (seenSnap s p).1)
    (h3 : s.eccOf memSnap ((seenSnap s p).2 + (a - 0x10000) / 8) = 0) :
    snapLoad s t p a n = .val (partOf (s.wpt.snap.read zero64 ((seenSnap s p).2 + (a - 0x10000) / 8)).toNat a n) s := by
  simp only [snapLoad, if_neg (Nat.not_le.mpr h1), if_neg (Nat.not_le.mpr h2), eccLoad_good h3]

theorem constLoad_good {p r d : Nat} (h1 : crRegion s p a = some (r, d)) (h2 : zeroingAt s d = false)
    (h3 : s.eccOf memDepot (d / 8) = 0) : constLoad s t p a n = .val (s.bytes d n) s := by
  simp only [constLoad, h1, h2, Bool.false_eq_true, if_false, eccLoad_good h3]

/-- A service core's load that its checks refuse, and one that reads the cache or the interconnect (R145, R160). -/
theorem scLoad_refused {c : Nat} (h : scAccess s t .load a n = .inl c) : scLoad s t a n = .trap s c := by
  simp only [scLoad, h]

theorem scLoad_reads {attr : AccAttr} {v : Nat} {w : State} (h : scAccess s t .load a n = .inr attr)
    (ho : attr.ordered = true → (s.core t).sb = []) (hy : youngest (s.core t) a n = none)
    (hr : (if attr.cached then dLoad s t a n else busRead s (scAgent t) a n) = (.ok v, w)) : scLoad s t a n = .val v w := by
  have hw : (attr.ordered && !(s.core t).sb.isEmpty) = false := by
    cases hb : attr.ordered
    · rfl
    · rw [ho hb]; rfl
  simp only [scLoad, h, hw, hy, hr, scResult, Bool.false_eq_true, if_false]

end

/-! ### Loads complete -/

section
variable {i : Instr} {k : CoreId} {a : BitVec 5} {imm : BitVec 16} {n : Nat} {wr : Nat → Core → Core} {s u : State}

/-- A tile's load that its local view answers, with the state as it was. -/
theorem tile_load_completes (hf : Fetches s k u) (hi : loadForm i = some (k, a, imm, n, wr)) (hc : closed u) (hk : k.val < 256)
    {v : Nat} (hv : v < 2 ^ (8 * n)) (hl : tileLoad u k (eaOf (gr u k) a imm) n = .val v u) :
    Gives i s (fun t => Retires u t k (wr v (u.core k))) :=
  load_completes hf hi hv hc ((coreLoad_tile hk u _ n).trans hl)

/-- A load that the youngest older store of its address and size precedes takes that store's data (R90). -/
theorem forwarded_load_completes {e : SbEntry} (hf : Fetches s k u) (hi : loadForm i = some (k, a, imm, n, wr)) (hc : closed u)
    (hv : e.data.toNat < 2 ^ (8 * n))
    (hl : coreLoad u k (eaOf (gr u k) a imm) n = .val e.data.toNat (u.pmc k evForwarded 1)) :
    Gives i s (fun t => Retires u t k (wr e.data.toNat (u.core k))) := by
  obtain ⟨h1, -, h3, h4⟩ := State.pmc_same u k evForwarded 1
  have hc' : closed (u.pmc k evForwarded 1) := by rw [h1]; exact hc
  obtain ⟨t, he, ht⟩ := load_completes hf hi hv hc' hl
  obtain ⟨g1, g2⟩ := loadForm_congr hi e.data.toNat h3 h4
  exact ⟨t, he, ht.of_pmc g1 g2⟩

end

/-- Settles O14. Every load is `load_completes`, `load_traps` or `load_waits` of what its view answers: the tile's own SRAM, the
snapshot, the constant view and the release storage, an older store (R90), or a service core's cache and interconnect. -/
theorem loadsComplete : Obligations.LoadsComplete := by
  unfold Obligations.LoadsComplete
  refine ⟨?tile, ?older, ?any⟩
  case tile =>
    intro i k a imm n wr s u hf hc hk hi ea hn hy
    have gives {v : Nat} (hv : v < 2 ^ (8 * n)) (hl : tileLoad u k ea n = .val v u) :=
      tile_load_completes hf hi hc hk hv hl
    refine ⟨?own, ?snap, ?const, ?rel⟩
    case own => exact fun ha he => gives (State.bytes_lt u n _) (tileLoad_own hn ha hy he)
    case snap =>
      intro p h1 h2 hp x
      have hl := tileLoad_snap hn h1 h2 hp hy
      exact ⟨fun hx => gives (by positivity) (hl.trans (snapLoad_beyond hx)),
        fun hx hx' he => gives (Nat.mod_lt _ (by positivity)) (hl.trans (snapLoad_filled hx hx' he))⟩
    case const =>
      intro p r d h1 h2 hp hv hr hz he
      exact gives (State.bytes_lt u n d) ((tileLoad_const hn h1 h2 hp hv hy).trans (constLoad_good hr hz he))
    case rel => exact fun h1 h2 => gives (by positivity) (tileLoad_rel hn h1 h2)
  case older =>
    intro i k a imm n wr s u e hf hc hk hi ea h1 h2 hn hy
    have hl := (coreLoad_tile hk u ea n).trans (tileLoad_older hn h1 h2 hy)
    refine ⟨fun ha hs hv => ?_, fun hne hq => ?_⟩
    · exact forwarded_load_completes hf hi hc hv (hl.trans (if_pos ⟨ha, hs⟩))
    · exact load_waits hf hi hq (hl.trans (if_neg (by tauto)))
  case any =>
    intro i k a imm n wr s u w attr v c hf hc hi ea
    refine ⟨?sc, ?scRefused, ?tileRefused, ?val⟩
    case sc =>
      intro hk hacc ho hy hv
      have gives (hr : (if attr.cached then dLoad u k ea n else busRead u (scAgent k) ea n) = (.ok v, w)) :=
        load_completes hf hi hv hc ((coreLoad_sc hk u ea n).trans (scLoad_reads hacc ho hy hr))
      exact ⟨fun h hr => gives (by rw [h]; exact hr), fun h hr => gives (by rw [h]; exact hr)⟩
    case scRefused => exact fun hk h => ⟨_, load_traps hf hi ((coreLoad_sc hk u ea n).trans (scLoad_refused h))⟩
    case tileRefused => exact fun hk h => ⟨_, load_traps hf hi ((coreLoad_tile hk u ea n).trans (tileLoad_refused h))⟩
    case val => exact fun hl hv => load_completes hf hi hv hc hl

end Sys2Proof.Machine
end

section
/-! SUPPORT. Register accesses (R12–R15, R22, R42): what a write by its initiator runs, what one that is not performed leaves, and
what a read of a read-clear register returns and clears; and the obligation on register accesses. -/

namespace Sys2Proof.Machine

/-! ### Reading a field of the register file -/

/-- A register is read from the register file alone. -/
theorem State.reg_congr {s t : State} (h : t.regs = s.regs) (a : Nat) : t.reg a = s.reg a := by
  unfold State.reg; rw [h]

theorem State.get_congr {s t : State} (h : t.regs = s.regs) (l : Loc) : t.get l = s.get l := by
  unfold State.get; rw [State.reg_congr h]

theorem State.flag_congr {s t : State} (h : t.regs = s.regs) (l : Loc) : t.flag l = s.flag l := by
  unfold State.flag; rw [State.get_congr h]

theorem State.flag_of_reg {s t : State} {l : Loc} (h : t.reg l.addr = s.reg l.addr) : t.flag l = s.flag l := by
  unfold State.flag State.get; rw [h]

theorem State.get_setReg_ne (s : State) {a : Nat} {l : Loc} (v : Word) (h : l.addr ≠ a) : (s.setReg a v).get l = s.get l := by
  unfold State.get; rw [State.reg_setReg_ne s v h]

/-- Two fields that share no bit of a register: one stands above the other. -/
abbrev apart (l m : Loc) : Prop := l.lo ≤ l.hi ∧ l.hi < 64 ∧ m.lo ≤ m.hi ∧ (m.hi < l.lo ∨ l.hi < m.lo)

theorem State.get_put_apart (s : State) {l m : Loc} {x : Nat} (h : apart l m) : (s.put l x).get m = s.get m := by
  obtain ⟨h1, h2, h3, h4⟩ := h
  exact State.get_put_disjoint s l m x h1 h2 h3 h4

theorem State.flag_put_apart (s : State) {l m : Loc} {x : Nat} (h : apart l m) : (s.put l x).flag m = s.flag m := by
  unfold State.flag; rw [State.get_put_apart s h]

/-- A one-bit field put reads what was put. -/
theorem State.flag_put_bit (s : State) {l : Loc} (h : l.lo = l.hi) (hh : l.hi < 64) (x : Nat) :
    (s.put l x).flag l = (x % 2 == 1) := by
  rw [State.flag_put_same _ _ _ h.le hh, h, Nat.add_sub_cancel_left, pow_one]

/-! ### The latches are the only registers that settling touches (R350) -/

theorem settleOne_frame (s : State) (k : Nat) : (settleOne s k).mem = s.mem ∧ (settleOne s k).cores = s.cores := by
  unfold settleOne
  split
  · exact ⟨rfl, rfl⟩
  · dsimp only
    split
    · exact ⟨by rw [State.put_mem, State.put_mem], by rw [State.put_cores, State.put_cores]⟩
    · exact ⟨rfl, rfl⟩

/-- Settling a latch leaves the registers, or empties the latch. -/
theorem settleOne_regs (s : State) (k : Nat) : (settleOne s k).regs = s.regs ∨
    (settleOne s k).regs = ((s.put (F.ICU_LATCH_VALID k) 0).put (F.ICU_LATCH_ID k) 0).regs := by
  unfold settleOne
  split
  · exact .inl rfl
  · dsimp only
    split
    · exact .inr rfl
    · exact .inl rfl

theorem settleOne_reg (s : State) (k : Nat) {a : Nat} (h : a ≠ A.ICU_LATCH k) : (settleOne s k).reg a = s.reg a := by
  obtain e | e := settleOne_regs s k
  · exact State.reg_congr e a
  · rw [State.reg_congr e, State.reg_put_ne _ (F.ICU_LATCH_ID k) 0 a h, State.reg_put_ne _ (F.ICU_LATCH_VALID k) 0 a h]

/-- A register of an ICU latch. -/
def isLatch (a : Nat) : Prop := ∃ k < 4, a = A.ICU_LATCH k

theorem foldl_settleOne_frame (ks : List Nat) (hk : ∀ k ∈ ks, k < 4) : ∀ s : State,
    (ks.foldl settleOne s).mem = s.mem ∧ (ks.foldl settleOne s).cores = s.cores ∧
    ∀ a, ¬ isLatch a → (ks.foldl settleOne s).reg a = s.reg a := by
  induction ks with
  | nil => exact fun s => ⟨rfl, rfl, fun _ _ => rfl⟩
  | cons k ks ih =>
    intro s
    obtain ⟨h1, h2⟩ := settleOne_frame s k
    obtain ⟨g1, g2, g3⟩ := ih (fun j hj => hk j (List.mem_cons_of_mem _ hj)) (settleOne s k)
    exact ⟨g1.trans h1, g2.trans h2, fun a ha =>
      (g3 a ha).trans (settleOne_reg s k (fun e => ha ⟨k, hk k (List.mem_cons_self ..), e⟩))⟩

@[simp] theorem settle_mem (s : State) : (settle s).mem = s.mem :=
  (foldl_settleOne_frame (List.range 4) (fun _ => List.mem_range.mp) s).1

@[simp] theorem settle_cores (s : State) : (settle s).cores = s.cores :=
  (foldl_settleOne_frame (List.range 4) (fun _ => List.mem_range.mp) s).2.1

/-- Outside the interrupt controller a register reads as before its latches settle. -/
theorem settle_reg (s : State) {a : Nat} (h : inBlock 0x40040000 a = false) : (settle s).reg a = s.reg a := by
  refine (foldl_settleOne_frame (List.range 4) (fun _ => List.mem_range.mp) s).2.2 a ?_
  rintro ⟨k, hk, rfl⟩
  unfold inBlock A.ICU_LATCH at h
  have := of_decide_eq_false h
  omega

theorem settle_get (s : State) {l : Loc} (h : inBlock 0x40040000 l.addr = false) : (settle s).get l = s.get l := by
  unfold State.get; rw [settle_reg s h]

theorem settle_flag (s : State) {l : Loc} (h : inBlock 0x40040000 l.addr = false) : (settle s).flag l = s.flag l := by
  unfold State.flag; rw [settle_get s h]

/-! ### A register write by its initiator (R12, R13, R22) -/

/-- Whether the access of REGISTER_WRITE is privileged. -/
def agentPriv (s : State) : Agent → Bool
  | .sc k => s.isPriv (256 + k)
  | _ => false

/-- The word that a write of n bytes carries. -/
def cutWord (v : Word) (n : Nat) : Word := BitVec.ofNat 64 (v.toNat % 2 ^ (8 * n))

section
variable {i : Agent} {a : Addr} {wide : Bool} {v : Word} {s : State}

theorem exec_registerWrite_eq : exec (.registerWrite i a wide v) s =
    if !inPeri a.toNat then .next s
    else if !mayWrite s i a.toNat then .next (accessFails s i a.toNat)
    else
      match busWriteFree s i (agentPriv s i) a.toNat (if wide then 8 else 4) (v.toNat % 2 ^ (8 * if wide then 8 else 4)) with
      | (.ok, s) => .next s
      | (_, s) => .next (accessFails s i a.toNat) := by
  cases i <;> rfl

theorem exec_registerWrite_outside (h : inPeri a.toNat = false) : exec (.registerWrite i a wide v) s = .next s := by
  rw [exec_registerWrite_eq, h]; rfl

/-- An access that the map and R12 allow is the write of its block. -/
theorem exec_registerWrite_allowed (hp : inPeri a.toNat = true) (hm : mayWrite s i a.toNat = true)
    (hk : periOk a.toNat (if wide then 8 else 4) = true) (hr : mpuRefused i (agentPriv s i) a.toNat = false) :
    exec (.registerWrite i a wide v) s =
      .next (settle (regWrite s i (agentPriv s i) a.toNat (cutWord v (if wide then 8 else 4)))) := by
  rw [exec_registerWrite_eq, hp, hm]
  simp only [busWriteFree, hp, hk, hr, cutWord, Bool.not_true, Bool.or_self, Bool.false_eq_true, if_false, if_true]

/-- An access that is not performed fails for its initiator, and does nothing else. -/
theorem exec_registerWrite_fails (hp : inPeri a.toNat = true)
    (hb : mayWrite s i a.toNat = false ∨ periOk a.toNat (if wide then 8 else 4) = false ∨
      mpuRefused i (agentPriv s i) a.toNat = true) :
    exec (.registerWrite i a wide v) s = .next (accessFails s i a.toNat) := by
  rw [exec_registerWrite_eq, hp]
  cases hm : mayWrite s i a.toNat
  · rfl
  · have hx : (!periOk a.toNat (if wide then 8 else 4) || mpuRefused i (agentPriv s i) a.toNat) = true := by
      obtain h | h | h := hb
      · rw [hm] at h; cases h
      · rw [h]; rfl
      · rw [h, Bool.or_true]
    simp only [busWriteFree, hp, hx, Bool.not_true, Bool.false_eq_true, if_false, if_true]

end

/-! ### The refusal records (R13) -/

section
variable (fs : List (Loc × Nat)) (s : State)

theorem foldl_put_mem : (fs.foldl (fun s f => s.put f.1 f.2) s).mem = s.mem := by
  induction fs generalizing s with
  | nil => rfl
  | cons f fs ih => exact (ih (s.put f.1 f.2)).trans (State.put_mem s f.1 f.2)

theorem foldl_put_reg {a : Nat} (h : ∀ f ∈ fs, a ≠ f.1.addr) : (fs.foldl (fun s f => s.put f.1 f.2) s).reg a = s.reg a := by
  induction fs generalizing s with
  | nil => rfl
  | cons f fs ih =>
    exact (ih (s.put f.1 f.2) (fun g hg => h g (List.mem_cons_of_mem _ hg))).trans
      (State.reg_put_ne s f.1 f.2 a (h f (List.mem_cons_self ..)))

theorem foldl_put_flag {l : Loc} (h : ∀ f ∈ fs, apart f.1 l) : (fs.foldl (fun s f => s.put f.1 f.2) s).flag l = s.flag l := by
  induction fs generalizing s with
  | nil => rfl
  | cons f fs ih =>
    exact (ih (s.put f.1 f.2) (fun g hg => h g (List.mem_cons_of_mem _ hg))).trans
      (State.flag_put_apart s (h f (List.mem_cons_self ..)))

end

/-- A record holds its VALID bit once an error has been recorded, or one before it. -/
theorem recordErr_valid {valid : Loc} (h1 : valid.lo = valid.hi) (h2 : valid.hi < 64) (s : State) (fs : List (Loc × Nat))
    (h : ∀ f ∈ fs, apart f.1 valid) : (recordErr s valid fs).flag valid = true := by
  unfold recordErr
  split
  · assumption
  · rw [foldl_put_flag fs _ h, State.flag_put_bit _ h1 h2]; rfl

theorem recordErr_mem (s : State) (valid : Loc) (fs : List (Loc × Nat)) : (recordErr s valid fs).mem = s.mem := by
  unfold recordErr
  split
  · rfl
  · rw [foldl_put_mem, State.put_mem, State.setReg_mem]

/-- Recording an error leaves every register but the record's own. -/
theorem recordErr_reg (s : State) (valid : Loc) (fs : List (Loc × Nat)) {a : Nat} (hv : a ≠ valid.addr)
    (h : ∀ f ∈ fs, a ≠ f.1.addr) : (recordErr s valid fs).reg a = s.reg a := by
  unfold recordErr
  split
  · rfl
  · rw [foldl_put_reg fs _ h, State.reg_put_ne _ _ _ _ hv, State.reg_setReg_ne _ _ hv]

theorem dbgRecord_valid (s : State) (cause off : Nat) : (dbgRecord s cause off).flag F.DBG_ERR_VALID = true :=
  recordErr_valid rfl (by decide) s _
    (by simp [apart, F.DBG_ERR_VALID, F.DBG_ERR_CAUSE, F.DBG_ERR_PATH, F.DBG_ERR_OFFSET])

theorem dbgRecord_reg (s : State) (cause off : Nat) {a : Nat} (h : a ≠ A.DBG_ERR) : (dbgRecord s cause off).reg a = s.reg a :=
  recordErr_reg s _ _ h (by
    simp only [List.mem_cons, List.not_mem_nil, or_false]
    rintro f (rfl | rfl | rfl) <;> exact h)

/-! ### What a failed access leaves at its initiator (R12, R24, R27, R418, R524) -/

/-- The record of a DMA write that fails: its address, unless a record is held, and BUS (R27). -/
def dmaFailRecord (s : State) (g a : Nat) : State :=
  dmaErr (if s.flag F.DMA_ERR_VALID then s else s.setReg A.DMA_ERR_ADDR (BitVec.ofNat 64 (a % 2 ^ 40))) 4 g 0

theorem dmaFailRecord_mem (s : State) (g a : Nat) : (dmaFailRecord s g a).mem = s.mem := by
  rw [dmaFailRecord, dmaErr, recordErr_mem]; split <;> rfl

theorem dmaFail_regs (s : State) (g a : Nat) :
    (dmaFail s g a).regs = (((dmaFailRecord s g a).put (F.DMA_CTL_EN g) 0).put (F.DMA_STAT_ERR g) 1).regs := by
  unfold dmaFail dmaFailRecord; dsimp only

theorem dmaFail_mem (s : State) (g a : Nat) : (dmaFail s g a).mem = s.mem := by
  rw [← dmaFailRecord_mem s g a]
  unfold dmaFail dmaFailRecord; dsimp only
  rw [State.put_mem, State.put_mem]

theorem dmaFail_unit (s : State) (g a : Nat) : (dmaFail s g a).dma.unit.read noUnit g = none := by
  unfold dmaFail; dsimp only
  rw [Tab.read_write, if_pos rfl]

/-- The channel of a DMA write that fails stops, with ERR set (R27). -/
theorem dmaFail_stops (s : State) (g a : Nat) :
    (dmaFail s g a).flag (F.DMA_CTL_EN g) = false ∧ (dmaFail s g a).flag (F.DMA_STAT_ERR g) = true := by
  rw [State.flag_congr (dmaFail_regs s g a), State.flag_congr (dmaFail_regs s g a)]
  constructor
  · rw [State.flag_put_ne, State.flag_put_bit _ rfl (by decide : 31 < 64)]
    · rfl
    · unfold F.DMA_CTL_EN F.DMA_STAT_ERR A.DMA_CTL A.DMA_STAT; dsimp only; omega
  · rw [State.flag_put_bit _ rfl (by decide : 1 < 64)]
    rfl

/-- HW_ERR as `hostErr` writes it holds the cause. -/
theorem hostErr_cause (s : State) {cause : Nat} (h : cause < 16) (cmd sub : Nat) :
    (hostErr s cause cmd sub).get F.HW_ERR_CAUSE = cause := by
  unfold hostErr State.get F.HW_ERR_CAUSE
  rw [State.reg_setReg_same]
  simp only [bitsOf, BitVec.toNat_ofNat]
  omega

theorem hostErr_mem (s : State) (cause cmd sub : Nat) : (hostErr s cause cmd sub).mem = s.mem := by
  rw [hostErr, State.setReg_mem]

theorem winFail_regs (s : State) (r a : Nat) : (winFail s r a).regs =
    (((hostErr s 7 r (a / 2 ^ 32 % 256)).setReg A.HW_ERR_ADDR (BitVec.ofNat 64 (a % 2 ^ 32))).put F.HW_WIN_CTL_ERR 1).regs := by
  unfold winFail; dsimp only

theorem winFail_mem (s : State) (r a : Nat) : (winFail s r a).mem = s.mem := by
  unfold winFail; dsimp only
  rw [State.put_mem, State.setReg_mem, hostErr_mem]

theorem winFail_winFailed (s : State) (r a : Nat) : (winFail s r a).host.winFailed = true := by
  unfold winFail; dsimp only

/-- A failed window access records ADDR and sets ERR (R418). -/
theorem winFail_records (s : State) (r a : Nat) :
    (winFail s r a).get F.HW_ERR_CAUSE = 7 ∧ (winFail s r a).flag F.HW_WIN_CTL_ERR = true := by
  rw [State.get_congr (winFail_regs s r a), State.flag_congr (winFail_regs s r a)]
  constructor
  · rw [State.get_put_ne _ _ _ _ (by decide), State.get_setReg_ne _ _ (by decide), hostErr_cause _ (by decide)]
  · rw [State.flag_put_bit _ rfl (by decide)]
    rfl

/-- A memory access of the debug port that fails sets ERR and records ACCESS (R524). -/
theorem dmemFail_records (s : State) :
    (dmemFail s).flag F.DBG_MEM_CTL_ERR = true ∧ (dmemFail s).flag F.DBG_ERR_VALID = true ∧ (dmemFail s).mem = s.mem := by
  unfold dmemFail
  refine ⟨?err, dbgRecord_valid _ _ _, ?mem⟩
  case err =>
    rw [State.flag_of_reg (dbgRecord_reg _ 5 0x410 (by decide)), State.flag_congr (s := s.put F.DBG_MEM_CTL_ERR 1) (by dsimp only),
      State.flag_put_bit _ rfl (by decide)]
    rfl
  case mem => rw [dbgRecord, recordErr_mem, State.put_mem]

/-- A refusal of the debug port answers ERR and is recorded (R526). -/
theorem dbgErr_records (s : State) (cause off : Nat) :
    (dbgErr s cause off).dbgp.status = 2 ∧ (dbgErr s cause off).flag F.DBG_ERR_VALID = true ∧ (dbgErr s cause off).mem = s.mem :=
  ⟨rfl, dbgRecord_valid s cause off, recordErr_mem s _ _⟩

/-! ### Registers of the map that a service core may write (R13) -/

/-- The row of the map at an address: its register and its fields. -/
def RowAt (a : Nat) (r : Reg) (fs : List FieldD) : Prop := ∃ d x y, regAt a = some (d, x, y) ∧ d.reg = r ∧ d.fields = fs

theorem RowAt.of_map {a : Nat} {r : Reg} {fs : List FieldD}
    (h : (regAt a).map (fun e => (e.1.reg, e.1.fields)) = some (r, fs)) : RowAt a r fs := by
  obtain ⟨⟨d, x, y⟩, he, hd⟩ := Option.map_eq_some_iff.mp h
  obtain ⟨rfl, rfl⟩ := Prod.mk.inj hd
  exact ⟨d, x, y, he, rfl, rfl⟩

theorem RowAt.genericWrite_eq {a : Nat} {r : Reg} {fs : List FieldD} (h : RowAt a r fs) (s : State) (v : Word) :
    genericWrite s a v = writeFields s a v fs := by
  obtain ⟨d, x, y, he, -, rfl⟩ := h
  simp only [genericWrite, he]

/-- A write in the HST block, by the register's own rule (R415, R427). -/
theorem RowAt.regWrite_hst {a : Nat} {r : Reg} {fs : List FieldD} (h : RowAt a r fs) (hb : a / 65536 = 0x400D) (s : State)
    (i : Agent) (priv : Bool) (v : Word) : regWrite s i priv a v = hstRegWrite s r a v := by
  obtain ⟨d, x, y, he, rfl, -⟩ := h
  simp only [regWrite, he, regWriteAt, hb]

/-- A write in the LAY block, by the register's own rule. -/
theorem RowAt.regWrite_lay {a : Nat} {r : Reg} {fs : List FieldD} (h : RowAt a r fs) (hb : a / 65536 = 0x400F) (s : State)
    (i : Agent) (priv : Bool) (v : Word) : regWrite s i priv a v = layRegWrite s a v := by
  obtain ⟨d, x, y, he, -, -⟩ := h
  simp only [regWrite, he, regWriteAt, hb]

theorem rowAt_scratch (n : Fin 4) : RowAt (A.HW_SCRATCH n) .HW_SCRATCH [⟨31, 0, .rw, 0x0⟩] :=
  .of_map (by revert n; decide +kernel)

theorem rowAt_hwId : RowAt A.HW_ID .HW_ID [⟨31, 16, .ro, 0x4256⟩, ⟨15, 0, .ro, 0x2564⟩] := .of_map (by decide +kernel)

theorem rowAt_layCtl : RowAt A.LAY_CTL .LAY_CTL [⟨31, 31, .rw, 0x0⟩, ⟨8, 8, .rw, 0x0⟩, ⟨1, 0, .rw, 0x0⟩] :=
  .of_map (by decide +kernel)

section
variable (s : State) (i : Agent) (priv : Bool) (v : Word)

theorem regWrite_scratch (n : Fin 4) :
    regWrite s i priv (A.HW_SCRATCH n) v = s.put ⟨A.HW_SCRATCH n, 31, 0⟩ (bitsOf v 31 0) := by
  rw [(rowAt_scratch n).regWrite_hst (by unfold A.HW_SCRATCH; omega)]
  simp only [hstRegWrite, (rowAt_scratch n).genericWrite_eq, writeFields, writeField]

/-- HW_ID is read-only: a write is ignored. -/
theorem regWrite_hwId : regWrite s i priv A.HW_ID v = s := by
  rw [rowAt_hwId.regWrite_hst (by decide)]
  simp only [hstRegWrite, show isMirror A.HW_ID = true by decide, if_true]

theorem regWrite_layCtl : regWrite s i priv A.LAY_CTL v =
    ((s.put ⟨A.LAY_CTL, 31, 31⟩ (bitsOf v 31 31)).put ⟨A.LAY_CTL, 8, 8⟩ (bitsOf v 8 8)).put ⟨A.LAY_CTL, 1, 0⟩ (bitsOf v 1 0) := by
  rw [rowAt_layCtl.regWrite_lay (by decide)]
  simp only [layRegWrite, rowAt_layCtl.genericWrite_eq, show A.LAY_CTL ≠ A.LAY_PREP by decide,
    show A.LAY_CTL ≠ A.LAY_RESTORE by decide, if_false, writeFields, writeField]

end

/-! ### A service core's 4-byte writes -/

theorem mpuRefused_outside {a : Nat} (h : ¬(0x40001000 ≤ a ∧ a < 0x40001400)) (i : Agent) (priv : Bool) :
    mpuRefused i priv a = false := by
  rw [mpuRefused, decide_eq_false h, Bool.false_and]

/-- A service core's 4-byte write to a register outside the memory protection unit is performed (R12, R22). -/
theorem exec_scWrite {a : Nat} (hp : inPeri a = true) (hk : periOk a 4 = true) (hm : ¬(0x40001000 ≤ a ∧ a < 0x40001400))
    (k : Fin 4) (v : Word) (s : State) : exec (.registerWrite (.sc k) (BitVec.ofNat 40 a) false v) s =
      .next (settle (regWrite s (.sc k) (agentPriv s (.sc k)) a (cutWord v 4))) := by
  have ha : (BitVec.ofNat 40 a).toNat = a := by
    have := of_decide_eq_true hp
    rw [BitVec.toNat_ofNat, Nat.mod_eq_of_lt (by omega)]
  have hx := exec_registerWrite_allowed (i := .sc k) (a := BitVec.ofNat 40 a) (wide := false) (v := v) (s := s)
    (by rw [ha]; exact hp) rfl (by rw [ha]; exact hk) (by rw [ha]; exact mpuRefused_outside hm _ _)
  rw [ha] at hx
  exact hx

theorem bitsOf_cutWord (v : Word) {hi lo : Nat} (hl : lo ≤ hi) (h : hi < 32) : bitsOf (cutWord v 4) hi lo = bitsOf v hi lo := by
  have e : (cutWord v 4).toNat = v.toNat % (2 ^ lo * 2 ^ (32 - lo)) := by
    rw [← pow_add, Nat.add_sub_cancel' (by omega), cutWord, BitVec.toNat_ofNat]; omega
  rw [bitsOf, bitsOf, e, Nat.mod_mul_right_div_self, Nat.mod_mod_of_dvd _ (Nat.pow_dvd_pow 2 (by omega))]

theorem bitsOf_bit (v : Word) (b : Nat) : (bitsOf v b b % 2 == 1) = v.getLsbD b := by
  rw [bitsOf, Nat.add_sub_cancel_left, pow_one, Nat.mod_mod, BitVec.getLsbD, Nat.testBit_eq_decide_div_mod_eq]
  rfl

/-- A scratch register takes the word written, and nothing else of the memory or the cores changes. -/
theorem scratch_written (k n : Fin 4) (v : Word) (s : State) :
    Gives (.registerWrite (.sc k) (BitVec.ofNat 40 (A.HW_SCRATCH n)) false v) s (fun t =>
      bitsOf (t.reg (A.HW_SCRATCH n)) 31 0 = v.toNat % 2 ^ 32 ∧ t.mem = s.mem ∧ t.cores = s.cores) := by
  have ha : 0x400d0084 ≤ A.HW_SCRATCH n ∧ A.HW_SCRATCH n < 0x400d0094 := by unfold A.HW_SCRATCH; omega
  refine ⟨_, exec_scWrite (decide_eq_true (by omega)) (by revert n; decide +kernel) (by omega) k v s, ?_⟩
  rw [regWrite_scratch, bitsOf_cutWord v (by decide) (by decide)]
  refine ⟨?_, by rw [settle_mem, State.put_mem], by rw [settle_cores, State.put_cores]⟩
  rw [settle_reg _ (decide_eq_false (by omega))]
  refine (State.get_put_same s ⟨A.HW_SCRATCH n, 31, 0⟩ (bitsOf v 31 0) (Nat.zero_le _) (by omega : 31 < 64)).trans ?_
  simp only [bitsOf]
  omega

/-- HW_ID keeps its value. -/
theorem hwId_readOnly (k : Fin 4) (v : Word) (s : State) :
    Gives (.registerWrite (.sc k) (BitVec.ofNat 40 A.HW_ID) false v) s (fun t => t.reg A.HW_ID = s.reg A.HW_ID ∧ t.mem = s.mem) := by
  refine ⟨_, exec_scWrite (by decide) (by decide +kernel) (by decide) k v s, ?_⟩
  rw [regWrite_hwId]
  exact ⟨settle_reg s (by decide), settle_mem s⟩

/-- LAY_CTL takes each of its fields. -/
theorem layCtl_written (k : Fin 4) (v : Word) (s : State) :
    Gives (.registerWrite (.sc k) (BitVec.ofNat 40 A.LAY_CTL) false v) s (fun t =>
      t.flag F.LAY_CTL_EN = v.getLsbD 31 ∧ t.flag F.LAY_CTL_SC_EN = v.getLsbD 8 ∧ t.get F.LAY_CTL_SC_PART = v.toNat % 4) := by
  refine ⟨_, exec_scWrite (by decide) (by decide +kernel) (by decide) k v s, ?_⟩
  rw [regWrite_layCtl, bitsOf_cutWord v (by decide) (by decide), bitsOf_cutWord v (by decide) (by decide),
    bitsOf_cutWord v (by decide) (by decide)]
  refine ⟨?en, ?scEn, ?scPart⟩
  case en =>
    rw [settle_flag _ (by decide), State.flag_put_apart _ (by decide), State.flag_put_apart _ (by decide), ← bitsOf_bit]
    exact State.flag_put_bit s rfl (by decide) _
  case scEn =>
    rw [settle_flag _ (by decide), State.flag_put_apart _ (by decide), ← bitsOf_bit]
    exact State.flag_put_bit _ rfl (by decide) _
  case scPart =>
    rw [settle_get _ (by decide)]
    refine (State.get_put_same _ ⟨A.LAY_CTL, 1, 0⟩ _ (by decide) (by decide)).trans ?_
    simp only [bitsOf]
    omega

/-! ### Read-clear registers (R13) -/

/-- The registers of the map whose fields a read clears. -/
def rcRegs : List Reg :=
  [.SYS_ECC_CORR, .LANE_FAULT_COUNT, .LANE_ECC, .WPT_LATE_COUNT, .WPT_SKIPPED, .CVY_SHOULDER_COUNT, .CVY_PORT_ERR, .CVY_PORT_DOWNS,
   .CVY_IN_DIS, .CVY_NOMAJ, .ADC_RDROP, .PIN_NOWN_COUNT, .FLC_CORR]

/-- A read of a read-clear register returns what it stores and clears its fields. -/
theorem regReadAt_rc (s : State) {a x : Nat} {d : RegD} (hr : d.reg ∈ rcRegs) (hm : isMirror a = false)
    (hi : inBlock 0x40040000 a = false) (hd : inBlock 0x400E0000 a = false) :
    regReadAt s (.sc 0) a d x = (s.reg a, clearRc s a d.fields) := by
  simp only [rcRegs, List.mem_cons, List.not_mem_nil, or_false] at hr
  unfold regReadAt
  rw [hm, hi, hd]
  rcases hr with h | h | h | h | h | h | h | h | h | h | h | h | h <;> rw [h] <;> rfl

/-- Clearing the read-clear fields of a register leaves every other register. -/
theorem clearRc_onlyRegs (a : Nat) (fs : List FieldD) : ∀ s : State, OnlyRegs s (clearRc s a fs) (· = a) := by
  induction fs with
  | nil => exact fun s => ⟨rfl, fun _ _ => rfl⟩
  | cons f fs ih =>
    intro s
    unfold clearRc
    split
    · obtain ⟨h1, h2⟩ := ih (s.put ⟨a, f.hi, f.lo⟩ 0)
      refine ⟨?_, fun b hb => (h2 b hb).trans (State.reg_put_ne s ⟨a, f.hi, f.lo⟩ 0 b hb)⟩
      rw [h1]; rfl
    · exact ih s

/-- Whether the fields of a register stand clear of one field. -/
def fieldsApart (a : Nat) (l : Loc) (fs : List FieldD) : Prop := ∀ f ∈ fs, apart ⟨a, f.hi, f.lo⟩ l

theorem clearRc_get_apart {a : Nat} {l : Loc} (fs : List FieldD) : ∀ s : State, fieldsApart a l fs →
    (clearRc s a fs).get l = s.get l := by
  induction fs with
  | nil => exact fun _ _ => rfl
  | cons f fs ih =>
    intro s h
    have ht : fieldsApart a l fs := fun g hg => h g (List.mem_cons_of_mem _ hg)
    unfold clearRc
    split
    · rw [ih _ ht, State.get_put_apart s (h f (List.mem_cons_self ..))]
    · exact ih s ht

/-- A read-clear field reads 0 once its register has been read. -/
theorem clearRc_get {a hi lo : Nat} (hl : lo ≤ hi) (hh : hi < 64) (fs : List FieldD) : ∀ s : State,
    (∃ f ∈ fs, f.acc = .rc ∧ f.hi = hi ∧ f.lo = lo) → fs.Pairwise (fun f g => apart ⟨a, g.hi, g.lo⟩ ⟨a, f.hi, f.lo⟩) →
    (clearRc s a fs).get ⟨a, hi, lo⟩ = 0 := by
  induction fs with
  | nil => rintro s ⟨f, hf, -⟩; cases hf
  | cons g fs ih =>
    rintro s ⟨f, hf, hacc, rfl, rfl⟩ hp
    obtain ⟨hg, hp'⟩ := List.pairwise_cons.mp hp
    unfold clearRc
    obtain rfl | hf := List.mem_cons.mp hf
    · rw [if_pos hacc, clearRc_get_apart fs _ hg, State.get_put_same _ _ _ hl hh, Nat.zero_mod]
    · exact ih _ ⟨f, hf, hacc, rfl, rfl⟩ hp'

/-- A field of a read-clear register, with what the map says of its row. -/
def rcRow (l : Loc) : Bool :=
  match regAt l.addr with
  | some (d, _, _) =>
    d.reg ∈ rcRegs && !isMirror l.addr && !inBlock 0x40040000 l.addr && !inBlock 0x400E0000 l.addr &&
    decide (l.lo ≤ l.hi ∧ l.hi < 64) && d.fields.any (fun f => f.acc == .rc && f.hi == l.hi && f.lo == l.lo) &&
    decide (d.fields.Pairwise (fun f g => apart ⟨l.addr, g.hi, g.lo⟩ ⟨l.addr, f.hi, f.lo⟩))
  | none => false

/-- A read of a read-clear register returns the field and clears it, and no other register changes (R13). -/
theorem readReg_rc {l : Loc} (h : rcRow l = true) (s : State) :
    bitsOf (readReg s l.addr).rdata l.hi l.lo = s.get l ∧ (readReg s l.addr).get l = 0 ∧
    OnlyRegs s { readReg s l.addr with rdata := s.rdata } (· = l.addr) := by
  unfold rcRow at h
  split at h
  case h_2 => cases h
  case h_1 d x y he =>
    simp only [Bool.and_eq_true, Bool.not_eq_true', decide_eq_true_eq, List.any_eq_true, beq_iff_eq] at h
    obtain ⟨⟨⟨⟨⟨⟨hr, hm⟩, hi⟩, hd⟩, hl, hh⟩, f, hf, ⟨hacc, hfh⟩, hfl⟩, hp⟩ := h
    have hv : regRead s (.sc 0) l.addr = (s.reg l.addr, clearRc s l.addr d.fields) := by
      simp only [regRead, he, regReadAt_rc s hr hm hi hd]
    have ho := clearRc_onlyRegs l.addr d.fields s
    have hz : (clearRc s l.addr d.fields).get l = 0 := clearRc_get hl hh d.fields s ⟨f, hf, hacc, hfh, hfl⟩ hp
    unfold readReg
    rw [hv]
    exact ⟨rfl, hz, by obtain ⟨h1, h2⟩ := ho; exact ⟨by rw [h1], h2⟩⟩

/-- A command that reads a register whose fields are all read-clear. -/
theorem exec_rcRead {i : Instr} {s : State} {a : Nat} {ls : List Loc} {l : Loc} (he : exec i s = .next (readReg s a))
    (hr : ∀ m ∈ ls, m.addr = a ∧ rcRow m = true) (h : l ∈ ls) : exec i s = .next (readReg s l.addr) ∧ rcRow l = true := by
  obtain ⟨rfl, hrow⟩ := hr l h
  exact ⟨he, hrow⟩

/-- The command of a read-clear row reads the register that the row's fields stand in. -/
theorem exec_rcField {i : Instr} {l : Loc} (h : l ∈ rcField i) (s : State) :
    exec i s = .next (readReg s l.addr) ∧ rcRow l = true := by
  unfold rcField at h
  split at h
  case h_1 | h_2 | h_3 | h_6 | h_12 | h_13 => exact exec_rcRead rfl (by decide +kernel) h
  case h_4 p | h_5 p | h_7 p | h_8 p | h_9 p | h_10 p | h_11 p => exact exec_rcRead rfl (by clear h; revert p; decide +kernel) h
  case h_14 => exact absurd h List.not_mem_nil

/-! ### Register accesses -/

/-- A failed access of a service core that runs takes the bus error trap, with a free word in TRAP_INSTR (log 1). -/
theorem accessFails_sc (s : State) (k : Fin 4) (a : Nat) :
    (coreRuns s (256 + k) = true → ∃ w, accessFails s (.sc k) a =
      takeTrap { s with free := s.free + 1 } (256 + k) tcBusError 0 a w) ∧
    (coreRuns s (256 + k) = false → accessFails s (.sc k) a = s) := by
  constructor
  · exact fun h => ⟨_, if_pos h⟩
  · exact fun h => if_neg (by simp [h])

/-- Settles O53. A write that is performed is its block's (`exec_registerWrite_allowed`), one that is not fails for its
initiator (`exec_registerWrite_fails`), and a read-clear row is `readReg_rc`. -/
theorem registerAccessesComplete : Obligations.RegisterAccessesComplete := by
  unfold Obligations.RegisterAccessesComplete
  refine ⟨?writes, ?access, ?rc⟩
  case writes => exact fun k v s => ⟨fun n => scratch_written k n v s, hwId_readOnly k v s, layCtl_written k v s⟩
  case access =>
    intro i a wide v s n priv bad
    have hpriv : priv = agentPriv s i := by cases i <;> rfl
    refine ⟨exec_registerWrite_outside, ?allowed, ?scFails, ?dmaFails, ?hostFails, ?debugFails⟩
    case allowed =>
      intro hp hb
      simp only [bad, not_or, Bool.not_eq_false, Bool.not_eq_true, hpriv] at hb
      obtain ⟨hm, hk, hr⟩ := hb
      rw [hpriv]
      exact exec_registerWrite_allowed hp hm hk hr
    all_goals simp only [bad, hpriv]
    case scFails =>
      rintro k rfl hp hb
      rw [exec_registerWrite_fails hp hb]
      obtain ⟨h1, h2⟩ := accessFails_sc s k a.toNat
      exact ⟨fun h => (h1 h).imp fun w e => by rw [e], fun h => by rw [h2 h]⟩
    case dmaFails =>
      rintro g rfl hp hb
      obtain ⟨h1, h2⟩ := dmaFail_stops s g a.toNat
      exact ⟨_, exec_registerWrite_fails hp hb, h1, h2, dmaFail_unit s g a.toNat, dmaFail_mem s g a.toNat⟩
    case hostFails =>
      rintro rfl hp hb
      obtain ⟨h1, h2⟩ := winFail_records (winForget s) 0x12 a.toNat
      exact ⟨_, exec_registerWrite_fails hp hb, h1, winFail_winFailed _ _ _, h2, winFail_mem _ _ _⟩
    case debugFails =>
      rintro rfl hp hb
      refine ⟨_, exec_registerWrite_fails hp hb, ?_⟩
      by_cases hl : s.get F.DBG_LEVEL_LEVEL = 0
      · have e : accessFails s .debug a.toNat = dbgErr s 1 0x408 := if_pos hl
        obtain ⟨h1, h2, h3⟩ := dbgErr_records s 1 0x408
        rw [e]
        exact ⟨fun _ => h1, fun h => absurd hl h, h2, h3⟩
      · have e : accessFails s .debug a.toNat = dmemFail s := if_neg hl
        obtain ⟨h1, h2, h3⟩ := dmemFail_records s
        rw [e]
        exact ⟨fun h => absurd h hl, fun _ => h1, h2, h3⟩
  case rc =>
    intro i l s h
    obtain ⟨he, hr⟩ := exec_rcField h s
    exact ⟨_, he, readReg_rc hr s⟩

end Sys2Proof.Machine
end

section
/-! SUPPORT. Taking a trap (R59, R138, R139, R141, R144): what a report, a pulse and a partition fault leave alone, the core that a
handler's entry makes, and a tile that its trap stops; and the obligation on trap entry. -/

namespace Sys2Proof.Machine

/-! ### Changes beside the memory, the cores and the registers that matter -/

/-- From s to t the memory, the cores and the image's tiles stay, and so does every register that `kept` names. -/
structure Spares (kept : Nat → Prop) (s t : State) : Prop where
  mem : t.mem = s.mem
  cores : t.cores = s.cores
  boot : t.boot = s.boot
  reg : ∀ a, kept a → t.reg a = s.reg a

/-- No register at all. -/
def noReg (_ : Nat) : Prop := False

/-- The registers that say which partition a tile has and what state it is in: WPT_PART_MAP and WPT_PSTATE. -/
def partReg (a : Nat) : Prop := a = A.WPT_PART_MAP ∨ ∃ p < 4, a = A.WPT_PSTATE p

namespace Spares
variable {kept less : Nat → Prop} {s t u : State}

theorem refl (kept : Nat → Prop) (s : State) : Spares kept s s := ⟨rfl, rfl, rfl, fun _ _ => rfl⟩

theorem trans (h : Spares kept s t) (g : Spares kept t u) : Spares kept s u :=
  ⟨g.mem.trans h.mem, g.cores.trans h.cores, g.boot.trans h.boot, fun a ha => (g.reg a ha).trans (h.reg a ha)⟩

theorem mono (h : Spares kept s t) (hl : ∀ a, less a → kept a) : Spares less s t :=
  ⟨h.mem, h.cores, h.boot, fun a ha => h.reg a (hl a ha)⟩

theorem toNoReg (h : Spares kept s t) : Spares noReg s t := h.mono fun _ => False.elim

theorem ite {c : Prop} [Decidable c] (h : Spares kept s t) (g : Spares kept s u) : Spares kept s (if c then t else u) := by
  split
  · exact h
  · exact g

theorem setReg {a : Nat} (h : ¬ kept a) (s : State) (v : Word) : Spares kept s (s.setReg a v) :=
  ⟨rfl, rfl, rfl, fun _ hb => State.reg_setReg_ne s v fun e => h (e ▸ hb)⟩

theorem put {l : Loc} (h : ¬ kept l.addr) (s : State) (x : Nat) : Spares kept s (s.put l x) := setReg h s _

theorem addSat {l : Loc} (h : ¬ kept l.addr) (s : State) (n : Nat) : Spares kept s (s.addSat l n) := setReg h s _

theorem onPart (kept : Nat → Prop) (s : State) (p : Nat) (f : Part → Part) : Spares kept s (s.onPart p f) :=
  ⟨rfl, rfl, rfl, fun _ _ => rfl⟩

theorem setLink (kept : Nat → Prop) (s : State) (j : Nat) (l : Link) : Spares kept s (s.setLink j l) :=
  ⟨rfl, rfl, rfl, fun _ _ => rfl⟩

theorem setXchg (kept : Nat → Prop) (s : State) (p : Nat) (out : Bool) (x : Xchg) : Spares kept s (setXchg s p out x) :=
  ⟨rfl, rfl, rfl, fun _ _ => rfl⟩

theorem foldl {α : Type} {f : State → α → State} (h : ∀ s x, Spares kept s (f s x)) (l : List α) (s : State) :
    Spares kept s (l.foldl f s) := by
  induction l generalizing s with
  | nil => exact refl kept s
  | cons x l ih => exact (h s x).trans (ih (f s x))

theorem core (h : Spares kept s t) (k : Nat) : t.core k = s.core k := by unfold State.core; rw [h.cores]

end Spares

theorem not_partReg_of_hw {a : Nat} (h : 0x40030000 ≤ a) : ¬ partReg a := by
  rintro (rfl | ⟨p, hp, rfl⟩)
  · unfold A.WPT_PART_MAP at h; omega
  · unfold A.WPT_PSTATE at h; omega

theorem not_partReg_scSeal {k : Nat} (h : k < 4) : ¬ partReg (A.SYS_SC_SEAL k) := by
  rintro (e | ⟨p, hp, e⟩)
  · unfold A.SYS_SC_SEAL A.WPT_PART_MAP at e; omega
  · unfold A.SYS_SC_SEAL A.WPT_PSTATE at e; omega

theorem not_partReg_next (p : Nat) : ¬ partReg (A.WPT_NEXT p) := by
  rintro (e | ⟨q, hq, e⟩)
  · unfold A.WPT_NEXT A.WPT_PART_MAP at e; omega
  · unfold A.WPT_NEXT A.WPT_PSTATE at e; omega

/-! ### Reports and pulses (R65, R66, R345, R410, R416) -/

theorem pulse_spares (s : State) (id : Nat) : Spares partReg s (pulse s id) :=
  Spares.put (not_partReg_of_hw (by simp only [F.ICU_PEND_PEND, A.ICU_PEND]; omega)) s _

theorem attention_spares (s : State) (c : Nat) : Spares partReg s (attention s c) :=
  Spares.put (not_partReg_of_hw (show 0x40030000 ≤ A.HW_STATUS by decide)) s _

theorem logEvent_spares (s : State) (cls code part : Nat) : Spares partReg s (logEvent s cls code part) :=
  Spares.ite (Spares.addSat (not_partReg_of_hw (by decide)) s 1) ⟨rfl, rfl, rfl, fun _ _ => rfl⟩

/-- The report of a voiding event reaches HW_SEAL_STATUS, HW_STATUS, the event log, and SYS_SC_SEAL of a service core's. -/
theorem voidReport_spares (s : State) (code : Nat) (scope : VoidScope) (hk : ∀ k, scope = .sc k → k < 4) :
    Spares partReg s (voidReport s code scope) := by
  have status : ∀ {l : Loc} (t : State) (x : Nat), l.addr = A.HW_SEAL_STATUS → Spares partReg t (t.put l x) :=
    fun t x e => Spares.put (not_partReg_of_hw (by rw [e]; decide)) t x
  unfold voidReport
  extract_lets part first counted bits value timing agree layby logged raised
  have h1 : Spares partReg s first := Spares.ite ((status s _ rfl).trans (status _ _ rfl)) (Spares.refl ..)
  have h2 : Spares partReg first counted := status first _ rfl
  have h3 : Spares partReg counted value := Spares.ite (status counted _ rfl) (Spares.refl ..)
  have h4 : Spares partReg value timing := Spares.ite (status value _ rfl) (Spares.refl ..)
  have h5 : Spares partReg timing agree := Spares.ite (status timing _ rfl) (Spares.refl ..)
  have h6 : Spares partReg agree layby := Spares.ite (status agree _ rfl) (Spares.refl ..)
  have h7 : Spares partReg layby raised := (logEvent_spares layby 1 code part).trans (attention_spares logged _)
  have h := (((((h1.trans h2).trans h3).trans h4).trans h5).trans h6).trans h7
  cases scope with
  | sc k =>
    have hs := not_partReg_scSeal (hk k rfl)
    exact h.trans ((Spares.put (l := F.SYS_SC_SEAL_VOID k) hs raised 1).trans
      (Spares.ite (Spares.put (l := F.SYS_SC_SEAL_CAUSE k) hs _ code) (Spares.refl ..)))
  | part p => exact h
  | device => exact h
  | convoy => exact h

theorem voidIfSealed_spares (s : State) (code p : Nat) : Spares partReg s (voidIfSealed s code p) :=
  Spares.ite (voidReport_spares s code (.part p) (fun _ e => by cases e)) (Spares.refl ..)

/-! ### Frames and verdicts change the convoy alone (R241, R249) -/

theorem portSend_spares (kept : Nat → Prop) (s : State) (j : Nat) : Spares kept s (portSend s j) :=
  Spares.ite (Spares.setLink ..) (Spares.refl ..)

theorem sendAll_spares (kept : Nat → Prop) (s : State) (ty part wnum index flags : Nat) (ws : List Word) :
    Spares kept s (sendAll s ty part wnum index flags ws) :=
  Spares.foldl (fun t j => Spares.ite ((Spares.setLink kept t j _).trans (portSend_spares kept _ j)) (Spares.refl ..)) _ s

theorem tryReceipt_spares (kept : Nat → Prop) (s : State) (p : Nat) (out : Bool) : Spares kept s (tryReceipt s p out) :=
  Spares.ite ((Spares.setXchg ..).trans (sendAll_spares ..)) (Spares.refl ..)

theorem faultVerdict_spares (kept : Nat → Prop) (s : State) (p : Nat) : Spares kept s (faultVerdict s p) :=
  Spares.ite
    (Spares.ite (((Spares.setXchg ..).trans (sendAll_spares ..)).trans (tryReceipt_spares ..)) (Spares.refl ..))
    (Spares.refl ..)

/-! ### Partition faults (R222, R223, R227) -/

theorem cmdDone_spares (s : State) (result : Nat) : Spares partReg s (cmdDone s result) := by
  have cmd : ∀ {l : Loc} (t : State) (x : Nat), 0x40030000 ≤ l.addr → Spares partReg t (t.put l x) :=
    fun t x h => Spares.put (not_partReg_of_hw h) t x
  exact (((cmd s 0 (by decide)).trans (cmd _ 0 (by decide))).trans (cmd _ result (by decide))).trans (attention_spares _ _)

/-- The end of a changeover changes registers, and what the timer and the host keep of it. -/
theorem coCancel_spares (s : State) (p : Nat) : Spares noReg s (coCancel s p) := by
  have put : ∀ (l : Loc) (t : State) (x : Nat), Spares noReg t (t.put l x) := fun l t x => Spares.put id t x
  unfold coCancel
  refine Spares.ite ?_ (Spares.refl ..)
  unfold coEnd
  extract_lets status pending host changed pulsed
  have h1 : Spares noReg s status := ((put _ s _).trans (put _ _ _)).trans (put _ _ _)
  have h2 : Spares noReg status changed := (put _ status _).trans (Spares.onPart ..)
  have h3 : Spares noReg changed pulsed := (pulse_spares changed _).toNoReg
  exact ((h1.trans h2).trans h3).trans (Spares.ite (cmdDone_spares pulsed _).toNoReg (Spares.refl ..))

theorem recordFault_spares (s : State) (p cause : Nat) (ft : Option FaultTile) : Spares noReg s (recordFault s p cause ft) := by
  have put : ∀ (l : Loc) (t : State) (x : Nat), Spares noReg t (t.put l x) := fun l t x => Spares.put id t x
  have reg : ∀ (a : Nat) (t : State) (v : Word), Spares noReg t (t.setReg a v) := fun a t v => Spares.setReg id t v
  unfold recordFault
  refine Spares.ite (Spares.refl ..) ?_
  extract_lets cleared named scan
  have h1 : Spares noReg s cleared := ((reg _ s _).trans (reg _ _ _)).trans (reg _ _ _)
  have h2 : Spares noReg cleared scan := ((put _ cleared _).trans (put _ _ _)).trans (put _ _ _)
  refine (h1.trans h2).trans ?_
  cases ft with
  | none => exact Spares.refl ..
  | some t =>
    refine (((put _ scan _).trans (put _ _ _)).trans (put _ _ _)).trans (Spares.ite ?_ (Spares.refl ..))
    exact ((put _ _ _).trans (put _ _ _)).trans (put _ _ _)

theorem timerResume_spares (s : State) (p : Nat) : Spares partReg s (timerResume s p) :=
  Spares.ite (Spares.refl ..) ((Spares.setReg (not_partReg_next p) s _).trans (Spares.onPart ..))

/-- A core as R85 stops it. -/
def Core.stop (c : Core) : Core := { c with run := .stopped, halted := false, haltReq := 0, stepping := false }

theorem stopTile_eq (s : State) (t : Nat) : stopTile s t = s.onCore t Core.stop := rfl

/-- A core that is stopped stays as it is when a tile stops. -/
theorem stopTile_core_of_stopped {s : State} {k : Nat} (h : (s.core k).stop = s.core k) (t : Nat) :
    (stopTile s t).core k = s.core k := by
  rw [stopTile_eq]
  by_cases e : k = t
  · subst e; rw [State.core_onCore_same, h]
  · exact State.core_onCore_ne s _ e

theorem foldl_stopTile_core_of_stopped {k : Nat} (ts : List Nat) {s : State} (h : (s.core k).stop = s.core k) :
    (ts.foldl stopTile s).core k = s.core k := by
  induction ts generalizing s with
  | nil => rfl
  | cons t ts ih =>
    have e := stopTile_core_of_stopped h t
    exact (ih (s := stopTile s t) (by rw [e, h])).trans e

theorem foldl_stopTile_mem (ts : List Nat) (s : State) : (ts.foldl stopTile s).mem = s.mem := by
  induction ts generalizing s with
  | nil => rfl
  | cons t ts ih => exact ih (stopTile s t)

/-- A bit of WPT_PSTATE above STATE shares no bit with it. -/
theorem pstateBit_apart (p : Nat) {b : Nat} (h : 2 < b) (hb : b < 64) :
    apart ⟨A.WPT_PSTATE p, b, b⟩ (F.WPT_PSTATE_STATE p) := ⟨le_refl b, hb, Nat.zero_le 2, .inl h⟩

/-- What becomes of a partition that scans when it faults: it is FAULTED, the memory stays, and a tile stopped before it stays. -/
theorem partitionFault_scanning {s : State} {p : Nat} (hp : p < 4) (h : s.pstate p = psScanning) (ft : Option FaultTile) :
    (partitionFault s p pfTrap ft).pstate p = psFaulted ∧ (partitionFault s p pfTrap ft).mem = s.mem ∧
    ∀ k, (s.core k).stop = s.core k → (partitionFault s p pfTrap ft).core k = s.core k := by
  unfold partitionFault
  extract_lets st cancelled recorded stopped faulted idle resumed
  rw [if_neg (by rw [show st = psScanning from h]; decide), if_neg (by decide)]
  have h1 : Spares noReg s recorded := (coCancel_spares s p).trans (recordFault_spares cancelled p pfTrap ft)
  have put : ∀ (l : Loc) (t : State) (x : Nat), Spares noReg t (t.put l x) := fun l t x => Spares.put id t x
  have h2 : Spares noReg stopped faulted := (((put _ stopped _).trans (put _ _ _)).trans (put _ _ _)).trans (put _ _ _)
  have h3 : Spares partReg faulted (faultVerdict resumed p) :=
    (((Spares.onPart partReg faulted p _).trans ((pulse_spares idle _).trans (logEvent_spares _ 4 pfTrap p))).trans
      (timerResume_spares _ p)).trans (faultVerdict_spares partReg resumed p)
  refine ⟨?state, ?mem, fun k hk => ?core⟩
  case state =>
    have hs : faulted.pstate p = psFaulted := by
      have stays : ∀ (b : Nat) (t : State), 2 < b → b < 64 → (t.put ⟨A.WPT_PSTATE p, b, b⟩ 0).pstate p = t.pstate p :=
        fun b t h hb => State.get_put_apart t (pstateBit_apart p h hb)
      calc faulted.pstate p
          _ = _ := stays 12 _ (by decide) (by decide)
          _ = _ := stays 10 _ (by decide) (by decide)
          _ = _ := stays 9 _ (by decide) (by decide)
          _ = psFaulted := State.get_put_same stopped (F.WPT_PSTATE_STATE p) psFaulted (Nat.zero_le 2) (show 2 < 64 by decide)
    rw [← hs]
    exact congrArg (bitsOf · 2 0) (h3.reg _ (.inr ⟨p, hp, rfl⟩))
  case mem =>
    rw [h3.mem, h2.mem, show stopped.mem = recorded.mem from foldl_stopTile_mem _ recorded, h1.mem]
  case core =>
    rw [← h1.core k] at hk ⊢
    rw [h3.core, h2.core]
    exact foldl_stopTile_core_of_stopped _ hk

/-! ### The trap registers and the sealed save (R138, R139, R141) -/

section
variable (c : Core) (k n : Nat) (v : Word)

@[simp] theorem Core.setSr_g : (c.setSr k n v).g = c.g := rfl
@[simp] theorem Core.setSr_f : (c.setSr k n v).f = c.f := rfl
@[simp] theorem Core.setSr_pc : (c.setSr k n v).pc = c.pc := rfl

/-- General and floating-point registers are read from their files alone. -/
theorem Core.greg_congr {d : Core} (h : d.g = c.g) (r : Nat) : d.greg r = c.greg r := by unfold Core.greg; rw [h]
theorem Core.freg_congr {d : Core} (h : d.f = c.f) (r : Nat) : d.freg r = c.freg r := by unfold Core.freg; rw [h]

end

section
variable (c : Core) (k : Nat) (st : Word) (cause code addr : Nat) (int : Bool) (w : Nat)

theorem trapRegs_sreg (n : Nat) : (trapRegs c k st cause code addr int w).sreg k n =
    if n = srTrapInstr then BitVec.ofNat 64 (w % 2 ^ 32)
    else if n = srTrapAddr then BitVec.ofNat 64 (addr % 2 ^ 40)
    else if n = srTrapCause then BitVec.ofNat 64
      (code % 1024 * 2 ^ 16 + (if c.slot then 2 ^ 9 else 0) + (if int then 2 ^ 8 else 0) + cause % 256)
    else if n = srTrapNpc then c.npc.setWidth 64
    else if n = srTrapPc then c.pc.setWidth 64
    else if n = srTstatus then withBits (withBits st 63 3 0) 3 3 (bitsOf st 2 2)
    else c.sreg k n := by
  simp only [← Core.sreg_setSr]
  rfl

/-- TRAP_CAUSE of a trap holds its code, the slot bit and its cause. -/
theorem trapCause_toNat {cause code : Nat} (slot : Bool) (h : cause < 256) (hc : code < 1024) : (BitVec.ofNat 64
    (code % 1024 * 2 ^ 16 + (if slot then 2 ^ 9 else 0) + (if false then 2 ^ 8 else 0) + cause % 256)).toNat =
    code * 65536 + (if slot then 512 else 0) + cause := by
  cases slot <;> simp <;> omega

theorem trapCause_cause {cause : Nat} (code : Nat) (slot int : Bool) (h : cause < 256) : bitsOf (BitVec.ofNat 64
    (code % 1024 * 2 ^ 16 + (if slot then 2 ^ 9 else 0) + (if int then 2 ^ 8 else 0) + cause % 256)) 7 0 = cause := by
  cases slot <;> cases int <;> simp [bitsOf] <;> omega

/-- TSTATUS keeps the low three bits of STATUS, and has the seal as SAVED. -/
theorem tstatus_status (v : Word) : bitsOf (withBits (withBits v 63 3 0) 3 3 (bitsOf v 2 2)) 2 0 = bitsOf v 2 0 := by
  rw [bitsOf_withBits_below _ 3 3 _ 2 0 (by decide) (by decide) (by decide) (by decide),
    bitsOf_withBits_below _ 63 3 _ 2 0 (by decide) (by decide) (by decide) (by decide)]

theorem tstatus_saved (v : Word) : bitsOf (withBits (withBits v 63 3 0) 3 3 (bitsOf v 2 2)) 3 3 = bitsOf v 2 2 := by
  rw [bitsOf_withBits_same _ 3 3 _ (by decide) (by decide)]
  exact Nat.mod_mod ..

theorem toNat_ofNat_cut {n b : Nat} (h : n < b) (hb : b ≤ 2 ^ 64) : (BitVec.ofNat 64 (n % b)).toNat = n := by
  rw [Nat.mod_eq_of_lt h, BitVec.toNat_ofNat, Nat.mod_eq_of_lt (h.trans_le hb)]

theorem trapRegs_g : (trapRegs c k st cause code addr int w).g = c.g := by simp only [trapRegs, Core.setSr_g]
theorem trapRegs_f : (trapRegs c k st cause code addr int w).f = c.f := by simp only [trapRegs, Core.setSr_f]
theorem trapRegs_pc : (trapRegs c k st cause code addr int w).pc = c.pc := by simp only [trapRegs, Core.setSr_pc]

theorem foldl_write_read (f : Nat → Word) (t : Tab Word) (n j : Nat) :
    ((List.range n).foldl (fun t i => t.write zero64 i (f i)) t).read zero64 j = if j < n then f j else t.read zero64 j := by
  induction n with
  | zero => rfl
  | succ n ih =>
    rw [List.range_succ, List.foldl_append, List.foldl_cons, List.foldl_nil, Tab.read_write, ih]
    by_cases h : j = n
    · rw [if_pos h, if_pos (by omega), h]
    · by_cases h2 : j < n
      · rw [if_neg h, if_pos h2, if_pos (by omega)]
      · rw [if_neg h, if_neg h2, if_neg (by omega)]

theorem sealedSave_save {i : Nat} (h : i < 64) : (sealedSave c k).save.read zero64 i = saveWord c k i :=
  (foldl_write_read (saveWord c k) c.save 64 i).trans (if_pos h)

theorem sealedSave_sreg (n : Nat) : (sealedSave c k).sreg k n = if n = srFpsr then 0 else c.sreg k n :=
  Core.sreg_setSr _ k srFpsr n 0

theorem sealedSave_greg (r : Nat) : (sealedSave c k).greg r = 0 := ite_self _
theorem sealedSave_freg (r : Nat) : (sealedSave c k).freg r = 0 := rfl

end

/-! ### The core that enters its handler (R138, R139) -/

/-- The core with its pc pair at the handler: at TVEC, or TVEC + 0x100 for an interrupt. -/
def Core.toHandler (d : Core) (k : Nat) (int : Bool) : Core :=
  let base := bitsOf (d.sreg k srTvec) 39 8 * 256 + (if int then 0x100 else 0)
  { d with pc := BitVec.ofNat 40 base, npc := BitVec.ofNat 40 (base + 4), slot := false }

section
variable (d : Core) (k : Nat) (int : Bool)

@[simp] theorem Core.toHandler_greg (r : Nat) : (d.toHandler k int).greg r = d.greg r := rfl
@[simp] theorem Core.toHandler_freg (r : Nat) : (d.toHandler k int).freg r = d.freg r := rfl
@[simp] theorem Core.toHandler_sreg (n : Nat) : (d.toHandler k int).sreg k n = d.sreg k n := rfl
@[simp] theorem Core.toHandler_save : (d.toHandler k int).save = d.save := rfl
@[simp] theorem Core.toHandler_slot : (d.toHandler k int).slot = false := rfl

theorem Core.toHandler_npc : (d.toHandler k int).npc = (d.toHandler k int).pc + 4 := BitVec.ofNat_add ..

theorem Core.toHandler_pc : (d.toHandler k false).pc.toNat = bitsOf (d.sreg k srTvec) 39 8 * 256 := by
  have hb : bitsOf (d.sreg k srTvec) 39 8 < 2 ^ 32 := Nat.mod_lt _ (by decide)
  simp only [Core.toHandler, Bool.false_eq_true, if_false, Nat.add_zero, BitVec.toNat_ofNat]
  exact Nat.mod_eq_of_lt (by omega)

end

section
variable (c : Core) (k : Nat) (st : Word) (cause code addr : Nat) (int : Bool) (w : Nat)

/-- The core with its trap noted, of which a sealed context is saved: the TRAP_ registers and STATUS are written. -/
def notedCore : Core := (trapRegs c k st cause code addr int w).setSr k srStatus 2

/-- The core as a handler's entry leaves it, but for its counters. -/
def handlerCore : Core :=
  (if bitsOf st 2 2 = 1 then sealedSave (notedCore c k st cause code addr int w) k
   else notedCore c k st cause code addr int w).toHandler k int

theorem notedCore_greg (r : Nat) : (notedCore c k st cause code addr int w).greg r = c.greg r :=
  Core.greg_congr c (trapRegs_g c k st cause code addr int w) r

theorem notedCore_freg (r : Nat) : (notedCore c k st cause code addr int w).freg r = c.freg r :=
  Core.freg_congr c (trapRegs_f c k st cause code addr int w) r

theorem handlerCore_unsealed (h : bitsOf st 2 2 ≠ 1) : handlerCore c k st cause code addr int w =
    (notedCore c k st cause code addr int w).toHandler k int := by rw [handlerCore, if_neg h]

theorem handlerCore_sealed (h : bitsOf st 2 2 = 1) : handlerCore c k st cause code addr int w =
    (sealedSave (notedCore c k st cause code addr int w) k).toHandler k int := by rw [handlerCore, if_pos h]

theorem handlerCore_sreg {n : Nat} (h : n ≠ srFpsr) : (handlerCore c k st cause code addr int w).sreg k n =
    if n = srStatus then 2 else (trapRegs c k st cause code addr int w).sreg k n := by
  rw [← Core.sreg_setSr]
  by_cases hs : bitsOf st 2 2 = 1
  · rw [handlerCore_sealed c k st cause code addr int w hs, Core.toHandler_sreg, sealedSave_sreg, if_neg h]
    rfl
  · rw [handlerCore_unsealed c k st cause code addr int w hs, Core.toHandler_sreg]
    rfl

/-- The entry of a trap's handler goes to TVEC. -/
theorem handlerCore_pc : (handlerCore c k st cause code addr false w).pc.toNat = bitsOf (c.sreg k srTvec) 39 8 * 256 := by
  have e := handlerCore_sreg c k st cause code addr false w (n := srTvec) (by decide)
  rw [if_neg (by decide), trapRegs_sreg] at e
  rw [← show (handlerCore c k st cause code addr false w).sreg k srTvec = c.sreg k srTvec from e]
  exact Core.toHandler_pc _ k

/-- The words of a sealed context's save area are its registers before the trap (R139, R166). -/
theorem handlerCore_save (h : bitsOf st 2 2 = 1) :
    (∀ r, r < 31 → (handlerCore c k st cause code addr int w).save.read zero64 r = c.greg (r + 1)) ∧
    (∀ r, r < 32 → (handlerCore c k st cause code addr int w).save.read zero64 (31 + r) = c.freg r) ∧
    (handlerCore c k st cause code addr int w).save.read zero64 63 = c.sreg k srFpsr := by
  rw [handlerCore_sealed c k st cause code addr int w h, Core.toHandler_save]
  refine ⟨fun r hr => ?_, fun r hr => ?_, ?_⟩ <;> rw [sealedSave_save _ k (by omega), saveWord]
  · rw [if_pos hr, notedCore_greg]
  · rw [if_neg (by omega), if_pos (by omega), Nat.add_sub_cancel_left, notedCore_freg]
  · rw [if_neg (by omega), if_neg (by omega), notedCore, Core.sreg_setSr, trapRegs_sreg]
    rfl

/-- A sealed context's registers are cleared (R139). -/
theorem handlerCore_cleared (h : bitsOf st 2 2 = 1) :
    (∀ r, (handlerCore c k st cause code addr int w).greg r = 0) ∧
    (∀ r, (handlerCore c k st cause code addr int w).freg r = 0) ∧
    (handlerCore c k st cause code addr int w).sreg k srFpsr = 0 := by
  rw [handlerCore_sealed c k st cause code addr int w h]
  simp only [Core.toHandler_greg, Core.toHandler_freg, Core.toHandler_sreg, sealedSave_greg, sealedSave_freg, sealedSave_sreg,
    if_true, implies_true, and_self]

end

/-! ### A trap of a service core -/

section
variable (s : State) (k cause code addr w : Nat)

/-- Entering a handler changes one core, and drops the marks of the save area that it writes. -/
theorem enterHandler_changes (int : Bool) :
    SameCore k (handlerCore (s.core k) k (s.statusOf k) cause code addr int w) ((enterHandler s k cause code addr int w).core k) ∧
    (∀ j, j ≠ k → (enterHandler s k cause code addr int w).core j = s.core j) ∧
    (enterHandler s k cause code addr int w).mem = s.mem ∧ (enterHandler s k cause code addr int w).regs = s.regs := by
  unfold enterHandler
  extract_lets st entered fresh
  obtain ⟨h1, h2, h3, -⟩ := State.pmc_same fresh k evTraps 1
  have hc : ∀ j, fresh.core j = entered.core j := fun j => by unfold fresh; split <;> rfl
  have hm : fresh.mem = entered.mem ∧ fresh.regs = entered.regs := by unfold fresh; split <;> exact ⟨rfl, rfl⟩
  rw [hc k, show entered.core k = handlerCore (s.core k) k st cause code addr int w from State.core_onCore_same s k _] at h3
  refine ⟨h3, fun j hj => ?_, ?_, ?_⟩
  · rw [h2 j hj, hc j]; exact State.core_onCore_ne s _ hj
  · rw [h1]; exact hm.1
  · rw [h1]; exact hm.2

variable {s k}

theorem statusOf_sc (h : 256 ≤ k) : s.statusOf k = (s.core k).sreg k srStatus := by
  unfold State.statusOf isSc
  rw [decide_eq_true h]
  rfl

/-- A service core that traps enters its handler; a seal violation of a sealed context is reported before (R59). -/
theorem takeTrap_sc (h : 256 ≤ k) (hk : k < 260) :
    ∃ u, Spares partReg s u ∧ (s.isSealed k = false → u = s) ∧
      takeTrap s k cause code addr w = enterHandler u k cause code addr false w := by
  unfold takeTrap isSc
  rw [decide_eq_true h, if_pos rfl]
  refine ⟨_, Spares.ite (voidReport_spares s 0x01 (.sc (k - 256)) ?_) (Spares.refl ..), fun hs => ?_, rfl⟩
  · rintro j e
    rw [← VoidScope.sc.inj e]
    omega
  · rw [hs, Bool.and_false]; rfl

/-- What a trap of a service core changes: its own core, as its handler's entry makes it. -/
theorem takeTrap_sc_changes (h : 256 ≤ k) (hk : k < 260) :
    SameCore k (handlerCore (s.core k) k ((s.core k).sreg k srStatus) cause code addr false w)
      ((takeTrap s k cause code addr w).core k) ∧
    (∀ j, j ≠ k → (takeTrap s k cause code addr w).core j = s.core j) ∧
    (takeTrap s k cause code addr w).mem = s.mem ∧
    (s.isSealed k = false → ∀ a, (takeTrap s k cause code addr w).reg a = s.reg a) := by
  obtain ⟨u, hu, hs, e⟩ := takeTrap_sc (s := s) cause code addr w h hk
  obtain ⟨h1, h2, h3, h4⟩ := enterHandler_changes u k cause code addr w false
  rw [statusOf_sc h, hu.core k] at h1
  rw [e]
  exact ⟨h1, fun j hj => (h2 j hj).trans (hu.core j), h3.trans hu.mem, fun q => State.reg_congr (by rw [h4, hs q])⟩

/-- The seal of a service core's context is a bit of its STATUS. -/
theorem isSealed_sc (h : 256 ≤ k) : s.isSealed k = true ↔ bitsOf ((s.core k).sreg k srStatus) 2 2 = 1 := by
  unfold State.isSealed
  rw [statusOf_sc h, beq_iff_eq]

end

/-! ### A trap of a tile -/

/-- The tile has its trap registers written and is stopped, and its cluster's source has pulsed: what its partition's fault
finds. -/
def trappedTile (s : State) (t cause code addr w : Nat) : State :=
  pulse (stopTile ((s.onCore t (fun c => trapRegs c t (s.statusOf t) cause code addr false w)).pmc t evTraps 1) t) (385 + t / 4)

theorem SameCore.greg {k : Nat} {c d : Core} (h : SameCore k c d) (r : Nat) : d.greg r = c.greg r := Core.greg_congr c h.g r
theorem SameCore.freg {k : Nat} {c d : Core} (h : SameCore k c d) (r : Nat) : d.freg r = c.freg r := Core.freg_congr c h.f r

theorem tilePart_congr {s t : State} (hb : t.boot = s.boot) (hr : t.reg A.WPT_PART_MAP = s.reg A.WPT_PART_MAP) (k : Nat) :
    t.tilePart k = s.tilePart k := by
  have hen : ∀ q, t.bitAt F.WPT_PART_MAP_EN q = s.bitAt F.WPT_PART_MAP_EN q := fun q => by
    unfold State.bitAt State.get
    rw [show t.reg F.WPT_PART_MAP_EN.addr = s.reg F.WPT_PART_MAP_EN.addr from hr]
  simp only [State.tilePart, State.quadPart, hb, hr, hen]

theorem tilePart_lt {s : State} {k p : Nat} (h : s.tilePart k = some p) : p < 4 := by
  unfold State.tilePart State.quadPart at h
  split at h
  · split at h
    · obtain rfl := Option.some.inj h
      refine (Nat.mod_lt _ (by positivity)).trans_eq ?_
      rw [show 2 * (k / 64) + 1 + 1 - 2 * (k / 64) = 2 by omega]
      rfl
    · cases h
  · cases h

section
variable (s : State) (t cause code addr w : Nat)

theorem trappedTile_regs : ∃ u : State, u.regs = s.regs ∧ u.mem = s.mem ∧ u.boot = s.boot ∧
    Spares partReg u (trappedTile s t cause code addr w) := by
  refine ⟨_, ?_, ?_, ?_, pulse_spares _ _⟩
  all_goals
    rw [stopTile_eq, (State.pmc_same _ t evTraps 1).1]
    rfl

theorem trappedTile_mem : (trappedTile s t cause code addr w).mem = s.mem := by
  obtain ⟨u, -, h, -, hu⟩ := trappedTile_regs s t cause code addr w
  exact hu.mem.trans h

theorem trappedTile_reg {a : Nat} (h : partReg a) : (trappedTile s t cause code addr w).reg a = s.reg a := by
  obtain ⟨u, hr, -, -, hu⟩ := trappedTile_regs s t cause code addr w
  exact (hu.reg a h).trans (State.reg_congr hr a)

theorem trappedTile_tilePart (k : Nat) : (trappedTile s t cause code addr w).tilePart k = s.tilePart k := by
  obtain ⟨u, -, -, hb, hu⟩ := trappedTile_regs s t cause code addr w
  exact tilePart_congr (hu.boot.trans hb) (trappedTile_reg s t cause code addr w (.inl rfl)) k

theorem trappedTile_core : ∃ c, SameCore t (trapRegs (s.core t) t (s.statusOf t) cause code addr false w) c ∧
    (trappedTile s t cause code addr w).core t = c.stop := by
  refine ⟨_, ?_, ((pulse_spares _ _).core t).trans (State.core_onCore_same _ t Core.stop)⟩
  have h := (State.pmc_same (s.onCore t (fun c => trapRegs c t (s.statusOf t) cause code addr false w)) t evTraps 1).2.2.1
  rwa [State.core_onCore_same] at h

variable {s t}

theorem takeTrap_tile (h : t < 256) : takeTrap s t cause code addr w = tileTrap s t cause code addr w := by
  unfold takeTrap isSc
  rw [decide_eq_false (by omega)]
  rfl

/-- A tile of no partition is stopped, and nothing more. -/
theorem takeTrap_parked (h : t < 256) (hp : s.tilePart t = none) :
    takeTrap s t cause code addr w = trappedTile s t cause code addr w := by
  have e := (trappedTile_tilePart s t cause code addr w t).trans hp
  unfold trappedTile at e
  rw [takeTrap_tile cause code addr w h, tileTrap]
  dsimp only
  rw [e]
  rfl

/-- The trap of a partition's tile is the partition's fault, after what it voids is reported (R59, R222). -/
theorem takeTrap_owned (h : t < 256) {p : Nat} (hp : s.tilePart t = some p) :
    ∃ u ft, Spares partReg (trappedTile s t cause code addr w) u ∧
      takeTrap s t cause code addr w = partitionFault u p pfTrap ft := by
  have e := (trappedTile_tilePart s t cause code addr w t).trans hp
  unfold trappedTile at e
  rw [takeTrap_tile cause code addr w h, tileTrap]
  dsimp only
  rw [e]
  exact ⟨_, _, Spares.ite (voidIfSealed_spares _ 0x01 p) (Spares.ite (voidIfSealed_spares _ 0x08 p) (Spares.refl ..)), rfl⟩

/-- What a tile's trap leaves of the tile and the memory, whichever partition has it. -/
theorem takeTrap_tile_changes (h : t < 256) (hs : ∀ p, s.tilePart t = some p → s.pstate p = psScanning) :
    (takeTrap s t cause code addr w).core t = (trappedTile s t cause code addr w).core t ∧
    (takeTrap s t cause code addr w).mem = s.mem ∧
    ∀ p, s.tilePart t = some p → (takeTrap s t cause code addr w).pstate p = psFaulted := by
  cases hp : s.tilePart t with
  | none =>
    rw [takeTrap_parked cause code addr w h hp]
    exact ⟨rfl, trappedTile_mem .., fun p q => by cases q⟩
  | some p =>
    obtain ⟨u, ft, hu, e⟩ := takeTrap_owned cause code addr w h hp
    obtain ⟨c, -, hc⟩ := trappedTile_core s t cause code addr w
    have hlt := tilePart_lt hp
    have hst : u.pstate p = psScanning := by
      rw [← hs p hp]
      refine congrArg (bitsOf · 2 0) ((hu.reg _ ?_).trans (trappedTile_reg s t cause code addr w ?_)) <;>
        exact .inr ⟨p, hlt, rfl⟩
    obtain ⟨h1, h2, h3⟩ := partitionFault_scanning hlt hst ft
    have hstop : (u.core t).stop = u.core t := by rw [hu.core t, hc]; rfl
    rw [e]
    refine ⟨(h3 t hstop).trans (hu.core t), (h2.trans hu.mem).trans (trappedTile_mem ..), fun q hq => ?_⟩
    rw [← Option.some.inj hq]
    exact h1

/-- A trapped tile is stopped at the instruction that trapped, with its trap registers written and its registers kept. -/
theorem trappedTile_tile (hcause : cause < 256) :
    ((trappedTile s t cause code addr w).core t).run = .stopped ∧
    ((trappedTile s t cause code addr w).core t).sreg t srTrapPc = (s.core t).pc.setWidth 64 ∧
    ((trappedTile s t cause code addr w).core t).sreg t srTrapNpc = (s.core t).npc.setWidth 64 ∧
    bitsOf (((trappedTile s t cause code addr w).core t).sreg t srTrapCause) 7 0 = cause ∧
    ((trappedTile s t cause code addr w).core t).pc = (s.core t).pc ∧
    ∀ r, ((trappedTile s t cause code addr w).core t).greg r = (s.core t).greg r := by
  obtain ⟨c, h, e⟩ := trappedTile_core s t cause code addr w
  have hr : ∀ n, pmcNumber n = false → c.stop.sreg t n = _ := fun n hn => (h.sreg n hn).trans (trapRegs_sreg ..)
  rw [e]
  refine ⟨rfl, hr srTrapPc rfl, hr srTrapNpc rfl, ?_, h.pc.trans (trapRegs_pc ..), fun r => ?_⟩
  · rw [hr srTrapCause rfl]
    exact trapCause_cause code _ false hcause
  · exact (h.greg r).trans (Core.greg_congr _ (trapRegs_g ..) r)

end

/-- Settles O17. A service core's trap makes its core `handlerCore`, but for its counters, and changes no other core and no memory;
a tile's makes it `trappedTile`, which the fault of its partition leaves as it is. -/
theorem trapEntryCompletes : Obligations.TrapEntryCompletes := by
  unfold Obligations.TrapEntryCompletes
  refine ⟨fun k cause code addr w s hk hcause hcode haddr hw => ?service, fun k cause code addr w s hk hcause => ?tile⟩
  case service =>
    intro c t d
    obtain ⟨hd, hother, hmem, hreg⟩ := takeTrap_sc_changes (s := s) cause code addr w hk k.isLt
    have hr : ∀ n, n ≠ srFpsr → pmcNumber n = false → d.sreg k n =
        if n = srStatus then 2 else (trapRegs c k (c.sreg k srStatus) cause code addr false w).sreg k n :=
      fun n hn hp => (hd.sreg n hp).trans (handlerCore_sreg _ _ _ _ _ _ _ _ hn)
    simp only [trapRegs_sreg] at hr
    refine ⟨⟨hr srTrapPc (by decide) rfl, hr srTrapNpc (by decide) rfl, ?cause, ?addr, ?instr,
      hr srStatus (by decide) rfl, ?tstatus, ?saved, ?pc, ?npc, hd.slot.trans (Core.toHandler_slot ..), hother, hmem⟩, fun hs => ?unsealed, fun hs => ?sealed⟩
    case cause =>
      rw [hr srTrapCause (by decide) rfl]
      exact trapCause_toNat _ hcause hcode
    case addr =>
      rw [hr srTrapAddr (by decide) rfl]
      exact toNat_ofNat_cut haddr (by decide)
    case instr =>
      rw [hr srTrapInstr (by decide) rfl]
      exact toNat_ofNat_cut hw (by decide)
    case tstatus =>
      rw [hr srTstatus (by decide) rfl]
      exact tstatus_status _
    case saved =>
      rw [hr srTstatus (by decide) rfl]
      exact tstatus_saved _
    case pc =>
      rw [hd.pc]
      exact handlerCore_pc ..
    case npc =>
      rw [hd.npc, hd.pc]
      exact Core.toHandler_npc ..
    case unsealed =>
      have hu : bitsOf (c.sreg k srStatus) 2 2 ≠ 1 := fun q => by rw [(isSealed_sc hk).mpr q] at hs; cases hs
      have e := handlerCore_unsealed c k _ cause code addr false w hu
      refine ⟨fun r => ?_, fun r => ?_, hreg hs⟩
      · rw [hd.greg, e, Core.toHandler_greg, notedCore_greg]
      · rw [hd.freg, e, Core.toHandler_freg, notedCore_freg]
    case sealed =>
      have hu := (isSealed_sc hk).mp hs
      obtain ⟨g1, g2, g3⟩ := handlerCore_save c k _ cause code addr false w hu
      obtain ⟨z1, z2, z3⟩ := handlerCore_cleared c k _ cause code addr false w hu
      rw [show d.save = _ from hd.save]
      exact ⟨g1, g2, g3, fun r => (hd.greg r).trans (z1 r), fun r => (hd.freg r).trans (z2 r), (hd.sreg srFpsr rfl).trans z3⟩
  case tile =>
    intro c t d
    obtain ⟨h1, h2, h3, h4, h5, h6⟩ := trappedTile_tile (s := s) (t := k) cause code addr w hcause
    refine ⟨fun hp => ?parked, fun p hp hs _ => ?scanning⟩
    case parked =>
      obtain ⟨e, hm, -⟩ := takeTrap_tile_changes cause code addr w hk fun p q => by rw [hp] at q; cases q
      rw [← e] at h1 h2 h3 h4 h5 h6
      exact ⟨h1, h2, h3, h4, h5, h6, hm⟩
    case scanning =>
      obtain ⟨e, hm, hf⟩ := takeTrap_tile_changes cause code addr w hk
        fun q hq => by rw [← Option.some.inj (hp.symm.trans hq), hs]
      rw [← e] at h1 h2 h6
      exact ⟨h1, h2, h6, hf p hp, hm⟩

end Sys2Proof.Machine
end

section
/-! SUPPORT. Instructions that commit (R72, R87): an effect on the state with the core moved on, and what a commit leaves. -/

namespace Sys2Proof.Machine

theorem isSc_of_le {k : Nat} (h : 256 ≤ k) : isSc k = true := decide_eq_true h
theorem isSc_of_lt {k : Nat} (h : k < 256) : isSc k = false := decide_eq_false (Nat.not_le.mpr h)

/-- A store buffer that is empty holds no instruction back (R86). -/
theorem Core.no_stores {c : Core} (h : c.sb = []) : (!c.sb.isEmpty) = false := by rw [h]; rfl

section
variable {s u v t : State} {k w : Nat} {body : State → Att} {c : Core}

/-- An instruction whose body changes the state and then its own core commits both. -/
theorem runInstr_commits (f : Core → Core) (h : Fetches s k u) (hb : body u = .done (v.onCore k f)) :
    Retires v (runInstr s k w body) k (f (v.core k)) := by
  rw [runInstr_done h hb]
  obtain ⟨h1, h2, h3⟩ := commit_retires (v.onCore k f) k
  rw [State.core_onCore_same] at h3
  exact ⟨by rw [h1]; rfl, fun j hj => (h2 j hj).trans (State.core_onCore_ne v f hj), h3⟩

section
variable {i : Instr} (he : exec i s = .next (runInstr s k w body)) (hf : Fetches s k u)
include he hf

/-- A command that runs an instruction commits, traps or waits as the instruction does. -/
theorem gives_done (hb : body u = .done v) : Gives i s (fun t => Retires v t k (v.core k)) :=
  ⟨_, he, by rw [runInstr_done hf hb]; exact commit_retires v k⟩

theorem gives_commits (f : Core → Core) (hb : body u = .done (v.onCore k f)) :
    Gives i s (fun t => Retires v t k (f (v.core k))) := ⟨_, he, runInstr_commits f hf hb⟩

theorem exec_traps {cause code a : Nat} (hb : body u = .trap v cause code a) :
    exec i s = .next (takeTrap v k cause code a w) := he.trans (congrArg _ (runInstr_trap hf hb))

theorem exec_waits {ev : Nat} (ho : outstanding s k = false) (hb : body u = .wait ev) :
    exec i s = .next (s.waitFor k ev) := he.trans (congrArg _ (runInstr_wait hf ho hb))

end

/-- A change of the committing core before its commit is part of the core that it leaves. -/
theorem Retires.of_onCore {f : Core → Core} (h : Retires (u.onCore k f) t k c) : Retires u t k c := by
  obtain ⟨h1, h2, h3⟩ := h
  exact ⟨by rw [h1]; rfl, fun j hj => (h2 j hj).trans (State.core_onCore_ne u f hj), h3⟩

theorem Retires.mem (h : Retires u t k c) : t.mem = u.mem := by rw [h.1]
theorem Retires.mesh (h : Retires u t k c) : t.mesh = u.mesh := by rw [h.1]
theorem Retires.same (h : Retires u t k c) : SameCore k c (t.core k) := h.2.2

end

end Sys2Proof.Machine
end

section
/-! SUPPORT. Conditional branches complete (R77, R78, R117): the command of each form, the target and the annulled slot; and the
obligation on conditional branches. -/

namespace Sys2Proof.Machine

/-- The distance of a displacement in bytes is the displacement shifted by two places (R117). -/
theorem words_eq_shift {n : Nat} (disp : BitVec n) : words disp = disp.signExtend 40 <<< 2 := by
  rw [words, BitVec.shiftLeft_eq_mul_twoPow, BitVec.ofInt_mul, BitVec.mul_comm]
  rfl

/-- The core after a transfer is the one the model's branch leaves (R77). -/
theorem wentTo_eq_branch : wentTo = Core.branch := rfl

/-- A transfer commits the core that it makes; counting an annulled slot changes a counter alone (R78). -/
theorem runInstr_transfers {s u : State} {k w : Nat} {body : State → Att} (f : Core → Core) {runs : Bool} (h : Fetches s k u)
    (hb : body u = .done (countAnnul (u.onCore k f) k runs)) : Retires u (runInstr s k w body) k (f (u.core k)) := by
  cases runs with
  | true => exact runInstr_onCore f h hb
  | false =>
    obtain ⟨-, -, h3, h4⟩ := State.pmc_same (u.onCore k f) k evAnnulled 1
    rw [runInstr_done h hb]
    have hc := (commit_retires ((u.onCore k f).pmc k evAnnulled 1) k).of_pmc h3 h4
    rw [State.core_onCore_same] at hc
    exact hc.of_onCore

/-- The command of a conditional branch runs `branchIf` with the condition that the statement's form says (R117). -/
theorem exec_of_branchOf {g : BitVec 5 → Word} {i : Instr} {k : CoreId} {annul taken : Bool} {disp : BitVec 15}
    (h : branchOf g i = some (k, annul, disp, taken)) :
    ∃ a b f, (∀ s, exec i s = .next (branchIf k (wordOf i) a b annul disp f s)) ∧ f (g a) (g b) = taken := by
  unfold branchOf at h
  split at h <;> simp only [Option.some.injEq, Prod.mk.injEq, reduceCtorEq] at h <;> obtain ⟨rfl, rfl, rfl, rfl⟩ := h
  case h_1 a b _ _ => exact ⟨a, b, _, fun _ => rfl, beq_eq_decide (g a) (g b)⟩
  case h_2 a b _ _ => exact ⟨a, b, _, fun _ => rfl, by simp only [bne, beq_eq_decide, ne_eq, decide_not]⟩
  case h_3 a b _ _ => exact ⟨a, b, _, fun _ => rfl, rfl⟩
  case h_4 a b _ _ => exact ⟨a, b, _, fun _ => rfl, by simp only [BitVec.slt, ← decide_not, Int.not_lt]⟩
  case h_5 a b _ _ => exact ⟨a, b, _, fun _ => rfl, rfl⟩
  case h_6 a b _ _ => exact ⟨a, b, _, fun _ => rfl, by simp only [BitVec.ult, ← decide_not, Nat.not_lt]⟩

/-- A conditional branch outside a delay slot goes where its condition says. -/
theorem branchIf_retires {s u : State} {k : CoreId} (w : Nat) {a b : BitVec 5} {annul : Bool} {disp : BitVec 15}
    {f : Word → Word → Bool} {taken : Bool} (hf : Fetches s k u) (hs : (u.core k).slot = false)
    (ht : f (gr u k a) (gr u k b) = taken) :
    Retires u (branchIf k w a b annul disp f s) k
      (wentTo (u.core k) (if taken then (u.core k).pc + words disp else (u.core k).pc + 8) (!annul || taken)) := by
  have ht' : f (greg u k a) (greg u k b) = taken := ht
  have hd : decodeTrap u k false true false false = none := by simp [decodeTrap, hs]
  exact runInstr_transfers (fun c => wentTo c _ (!annul || taken)) (runs := !annul || taken) hf
    (by simp only [hd, ht', words_eq_shift, wentTo_eq_branch])

/-- Settles O10. Every form runs `branchIf` with its condition. -/
theorem conditionalBranchesComplete : Obligations.ConditionalBranchesComplete := by
  unfold Obligations.ConditionalBranchesComplete
  intro i k annul taken disp s u hf hs hi
  obtain ⟨a, b, f, he, ht⟩ := exec_of_branchOf hi
  exact ⟨_, he s, branchIf_retires _ hf hs ht⟩

end Sys2Proof.Machine
end

section
/-! SUPPORT. Stores (R89, R90, R114, R116, R154, R168): what a store's command runs, its entry into the store buffer, and the drain
of the oldest entry; and the obligation on stores. -/

namespace Sys2Proof.Machine

/-! ### A store's commit -/

/-- A store's command runs `storeInstr` with the data register of its form (R114, R116). -/
theorem exec_of_storeForm {u : State} {i : Instr} {k : CoreId} {a : BitVec 5} {imm : BitVec 16} {n : Nat} {x : Word}
    (h : storeForm (gr u k) (fr u k) i = some (k, a, imm, n, x)) :
    ∃ rd : State → Word, (∀ s, exec i s = .next (storeInstr k (wordOf i) a imm n rd s)) ∧ rd u = x := by
  unfold storeForm at h
  split at h <;> simp only [Option.some.injEq, Prod.mk.injEq, reduceCtorEq] at h <;> obtain ⟨rfl, rfl, rfl, rfl, rfl⟩ := h
  all_goals exact ⟨_, fun _ => rfl, rfl⟩

/-- A store that meets no condition and need not wait commits what it has done, and moves on. -/
theorem store_completes {i : Instr} {k : CoreId} {a : BitVec 5} {imm : BitVec 16} {n : Nat} {x : Word} {s u w : State}
    (hf : Fetches s k u) (hi : storeForm (gr u k) (fr u k) i = some (k, a, imm, n, x)) (hc : closed w)
    (hw : coreStore u k (eaOf (gr u k) a imm) n x = .done w) : Gives i s (fun t => Retires w t k (w.core k).step) := by
  obtain ⟨rd, he, hrd⟩ := exec_of_storeForm hi
  refine ⟨_, he s, runInstr_commits (v := w) Core.step hf ?_⟩
  simp only [effAddr_eq, hrd, hw]
  rw [compareData_closed (show closed (adv w k) from hc), adv]

/-- A store that enters the store buffer is its youngest entry once it has committed (R89). -/
theorem store_enters {i : Instr} {k : CoreId} {a : BitVec 5} {imm : BitVec 16} {n : Nat} {x : Word} {cached : Bool} {s u : State}
    (hf : Fetches s k u) (hi : storeForm (gr u k) (fr u k) i = some (k, a, imm, n, x)) (hc : closed u)
    (hw : coreStore u k (eaOf (gr u k) a imm) n x = .done (sbPush u k (eaOf (gr u k) a imm) n x cached)) :
    Gives i s (fun t => Retires u t k (stored u k (eaOf (gr u k) a imm) n x cached)) := by
  obtain ⟨t, he, ht⟩ := store_completes hf hi (w := sbPush u k _ n x cached) hc hw
  refine ⟨t, he, ?_⟩
  rw [sbPush, State.core_onCore_same] at ht
  exact ht.of_onCore

section
variable {s : State} {k a n : Nat}

theorem spotOf_data (h1 : 0x8000 ≤ a) (h2 : a < 0x10000) : spotOf a = .data := by
  unfold spotOf
  rw [if_neg (by omega), if_neg (by omega), if_pos h2]

/-- A tile's aligned store to its data area meets no condition of R145. -/
theorem tileCheck_store_data (hn : a % n = 0) (h1 : 0x8000 ≤ a) (h2 : a < 0x10000) : tileCheck s k true a n = none := by
  simp [tileCheck, spotOf_data h1 h2, hn]

theorem coreStore_tile (hk : k < 256) (hs : (s.core k).sb.length < 8) (hc : tileCheck s k true a n = none) (x : Word) :
    coreStore s k a n x = .done (sbPush s k a n x false) := by
  simp [coreStore, isSc_of_lt hk, hc, Nat.not_le.mpr hs]

/-- A service core's store that its checks admit and that need not wait: the boot ROM ignores it, the memory protection unit takes
it at once, and every other enters the store buffer (R43, R164). -/
theorem coreStore_sc {attr : AccAttr} (hk : 256 ≤ k) (hs : (s.core k).sb.length < 8) (hc : scAccess s k .store a n = .inr attr)
    (hb : scStoreBad s k a n = false) (ho : attr.ordered = true → (s.core k).sb = []) (x : Word) :
    coreStore s k a n x = .done (
      if inRom a then s
      else if isMpuReg a then (busWriteFree s (scAgent k) (s.isPriv k) a n (x.toNat % 2 ^ (8 * n))).2
      else sbPush s k a n x attr.cached) := by
  have hw : (attr.ordered && !(s.core k).sb.isEmpty) = false := by
    cases h : attr.ordered with
    | false => rfl
    | true => rw [ho h]; rfl
  simp only [coreStore, isSc_of_le hk, hc, hb, hw, decide_eq_false (Nat.not_le.mpr hs), if_true, Bool.false_eq_true, if_false,
    ← apply_ite Att.done]

/-- The boot ROM and the registers of the memory protection unit lie apart. -/
theorem not_inRom_of_isMpuReg (h : isMpuReg a = true) : inRom a = false := by
  have := of_decide_eq_true h
  exact decide_eq_false (by omega)

end

/-! ### Writing bytes of tile SRAM (R168, R225) -/

theorem State.byte_congr {s t : State} (h : t.mem = s.mem) (a : Nat) : t.byte a = s.byte a := by unfold State.byte; rw [h]
theorem State.core_congr {s t : State} (h : t.cores = s.cores) (k : Nat) : t.core k = s.core k := by unfold State.core; rw [h]

theorem setBytes_cores (n : Nat) : ∀ (s : State) (a v : Nat), (s.setBytes a n v).cores = s.cores := by
  induction n with
  | zero => exact fun _ _ _ => rfl
  | succ n ih => exact fun s a v => (ih _ _ _).trans (State.setByte_cores s a _)

/-- No staging copy reads the source word at a (R225). -/
def unstaged (s : State) (a : Nat) : Prop :=
  s.flag F.WPT_STAGE_CTL_BUSY = true → ¬(s.wpt.stage.2 ≤ a ∧ a < s.wpt.stage.2 + 0x4000)

section
variable {s : State} {a n : Nat}

theorem stageRace_unstaged (h : unstaged s a) : stageRace s a = s := by
  unfold stageRace
  refine if_neg fun hb => ?_
  obtain ⟨h1, h2⟩ := Bool.and_eq_true_iff.mp hb
  exact h h1 (of_decide_eq_true h2)

/-- A store that no staging copy meets, and no narrow one over an uncorrectable word, writes its bytes alone. -/
theorem storeBytes_writes (hu : unstaged s a) (he : n < 8 → s.eccOf (arrayCode a) (a / 8) ≠ 2) (init who v : Nat) :
    (storeBytes s init who a n v).mem = (s.setBytes a n v).mem ∧ (storeBytes s init who a n v).cores = s.cores := by
  have hc := setBytes_cores n s a v
  rw [storeBytes, stageRace_unstaged hu]
  by_cases hn : n < 8
  · rw [if_pos hn, storeNarrow, if_neg (he hn)]
    split
    · exact ⟨rfl, hc⟩
    · exact ⟨rfl, hc⟩
  · rw [if_neg hn]
    exact ⟨rfl, hc⟩

end

/-! ### The drain (R89, R154) -/

/-- The core with its store buffer replaced. -/
def Core.withSb (c : Core) (l : List SbEntry) : Core := { c with sb := l }

section
variable {s : State} {k : Nat} {e : SbEntry} {rest : List SbEntry}

theorem Core.setD_sb (c : Core) (n : Nat) (v : Word) : (c.setD n v).sb = c.sb := rfl

/-- The end of a feed changes a debug register of its core alone. -/
theorem feedDrained_frame (s : State) (k : Nat) : feedDrained s k = { s with cores := (feedDrained s k).cores } ∧
    ((feedDrained s k).core k).sb = (s.core k).sb := by
  unfold feedDrained
  split
  · exact ⟨rfl, by rw [State.core_onCore_same, Core.setD_sb]⟩
  · exact ⟨rfl, rfl⟩

theorem drainOne_tile (hk : k < 256) (hs : (s.core k).sb = e :: rest) :
    (drainOne s k).2 = tileDrain (s.onCore k (·.withSb rest)) k e := by
  simp only [drainOne, hs, isSc_of_lt hk, Bool.false_eq_true, if_false]
  rfl

/-- A service core's uncached store that the interconnect takes leaves the buffer. -/
theorem drainOne_uncached {w : State} (hk : 256 ≤ k) (hs : (s.core k).sb = e :: rest) (hc : e.cached = false)
    (hw : busWriteFree s (scAgent k) e.priv e.addr e.size e.data.toNat = (.ok, w)) :
    (drainOne s k).2 = w.onCore k (·.withSb rest) := by
  simp only [drainOne, hs, isSc_of_le hk, hc, hw, Bool.false_eq_true, if_false, if_true]
  rfl

/-- A tile's data area lies in the tile SRAM windows, at its own offset (R152). -/
theorem tilePhys_data (s : State) {t a : Nat} (h : 0x8000 ≤ a) : tilePhys s t a = 0x20000000 + t * 0x10000 + a := by
  rw [tilePhys, if_neg (by omega)]

theorem arrayCode_data {t a : Nat} (ht : t < 256) (h : a < 0x10000) : arrayCode (0x20000000 + t * 0x10000 + a) = memTile := by
  rw [arrayCode, inTiles, if_pos (decide_eq_true (by omega))]

/-- A tile's store to its data area drains as `storeBytes`. -/
theorem tileDrain_data (h1 : 0x8000 ≤ e.addr) (h2 : e.addr < 0x10000)
    (he : e.size < 8 → s.eccOf memTile (tilePhys s k e.addr / 8) ≠ 2) :
    tileDrain s k e = storeBytes s 0 k (tilePhys s k e.addr) e.size e.data.toNat := by
  simp only [tileDrain, spotOf_data h1 h2, reduceCtorEq, if_false]
  exact if_neg fun q => he q.1 q.2

theorem tileDrain_rel {p : Nat} (h1 : 0x20000 ≤ e.addr) (h2 : e.addr < 0x28000) (hp : s.tilePart k = some p) :
    tileDrain s k e = relDrain s p e := by
  simp only [tileDrain, spotOf_rel h1 h2, hp, if_true]

/-- A drain into the release storage changes one word of it, and neither memory nor cores (R154). -/
theorem relDrain_frame (s : State) (p : Nat) (e : SbEntry) :
    (relDrain s p e).mem = s.mem ∧ (relDrain s p e).cores = s.cores ∧
    ∀ j, (relDrain s p e).wpt.rel.read zero64 j =
      if j = 4096 * p + (e.addr - 0x20000) / 8 then
        mergeWord (s.wpt.rel.read zero64 (4096 * p + (e.addr - 0x20000) / 8)) e.addr e.size e.data.toNat
      else s.wpt.rel.read zero64 j := by
  unfold relDrain
  dsimp only
  split
  · exact ⟨rfl, rfl, fun j => Tab.read_write zero64 s.wpt.rel _ _ j⟩
  · exact ⟨rfl, rfl, fun j => Tab.read_write zero64 s.wpt.rel _ _ j⟩

end

/-- STORE_DRAIN of clocked cores leaves what the drain does, with the entry gone, but for the end of a feed that waited for it. -/
theorem storeDrain_gives {s w : State} {k : CoreId} {rest : List SbEntry} (hc : coresClocked s = true)
    (hd : (drainOne s k).2 = w) (hw : (w.core k).sb = rest) :
    Gives (.storeDrain k) s (fun t => (t.core k).sb = rest ∧ t.mem = w.mem ∧ t.regs = w.regs ∧ t.wpt = w.wpt) := by
  subst hd
  obtain ⟨f1, f2⟩ := feedDrained_frame (drainOne s k).2 k
  exact ⟨_, if_pos hc, f2.trans hw, by rw [f1], by rw [f1], by rw [f1]⟩

/-- Settles O15. A store enters the buffer as `coreStore` says (`store_enters`), and a drain is `storeBytes`, `relDrain` or what the
interconnect does, with the entry gone. That one to the memory protection unit acts at its commit is log 53. -/
theorem storesEnterTheBufferAndDrain : Obligations.StoresEnterTheBufferAndDrain := by
  unfold Obligations.StoresEnterTheBufferAndDrain
  refine ⟨?enter, ?drain⟩
  case enter =>
    intro i k a imm n x attr s u hf hc hi hs ea
    have tile (hk : k.val < 256) (hck : tileCheck u k true ea n = none) :
        Gives i s (fun t => Retires u t k (stored u k ea n x false)) :=
      store_enters hf hi hc (coreStore_tile hk hs hck x)
    refine ⟨fun hk h1 h2 hn => tile hk (tileCheck_store_data hn h1 h2), tile, fun hk hacc hb ho => ?service⟩
    have hw := coreStore_sc hk hs hacc hb ho x
    refine ⟨fun hr hm => ?buffered, fun hr => ?rom, fun hm => ?mpu⟩
    case buffered => exact store_enters hf hi hc (by rw [hw, hr, hm]; rfl)
    case rom => exact store_completes hf hi hc (by rw [hw, hr]; rfl)
    case mpu =>
      intro w hcw
      exact store_completes hf hi hcw (by rw [hw, not_inRom_of_isMpuReg hm, hm]; rfl)
  case drain =>
    intro k e rest s hc hs _ _ a
    let s' := s.onCore k (·.withSb rest)
    have gone {w : State} (h : w.cores = s'.cores) : (w.core k).sb = rest := by
      rw [State.core_congr h, State.core_onCore_same]; rfl
    refine ⟨fun hk h1 h2 he hu => ?data, fun p hk h1 h2 hp => ?release, fun w hk hu hw => ?uncached⟩
    case data =>
      have hm : arrayCode a = memTile := (congrArg arrayCode (tilePhys_data s h1)).trans (arrayCode_data hk h2)
      obtain ⟨g1, g2⟩ := storeBytes_writes (s := s') hu (by rw [hm]; exact he) 0 k e.data.toNat
      obtain ⟨t, ht, hsb, h, -⟩ := storeDrain_gives hc ((drainOne_tile hk hs).trans (tileDrain_data h1 h2 he)) (gone g2)
      have hb (b : Nat) : t.byte b = (s'.setBytes a e.size e.data.toNat).byte b := State.byte_congr (h.trans g1) b
      refine ⟨t, ht, hsb, ?_, fun b hout => (hb b).trans (State.byte_setBytes_other e.size s' a _ b hout)⟩
      rw [State.bytes_congr e.size a (fun i _ => hb (a + i)), State.bytes_setBytes, pow_mul]
      rfl
    case release =>
      intro key
      obtain ⟨g1, g2, g3⟩ := relDrain_frame s' p e
      obtain ⟨t, ht, hsb, h1, -, h2⟩ := storeDrain_gives hc ((drainOne_tile hk hs).trans (tileDrain_rel h1 h2 hp)) (gone g2)
      rw [← h2] at g3
      exact ⟨t, ht, hsb, h1.trans g1, (g3 key).trans (if_pos rfl), fun j hj => (g3 j).trans (if_neg hj)⟩
    case uncached =>
      obtain ⟨t, ht, hsb, h1, h2, -⟩ := storeDrain_gives hc (drainOne_uncached hk hs hu hw) (by rw [State.core_onCore_same])
      exact ⟨t, ht, hsb, h1, h2⟩

end Sys2Proof.Machine
end

section
/-! SUPPORT. System instructions and CACHE operations (R97, R131, R133–R135, R137, R145, R160, R168): the conditions that decode
finds, and each instruction's effect; and the obligation on system instructions. -/

namespace Sys2Proof.Machine

/-! ### Conditions that decode finds (R145) -/

section
variable {u : State} {k : CoreId} {noSlot sealTrap privTrap : Bool}

theorem decodeTrap_illegal (u : State) (k : Nat) (noSlot sealTrap privTrap : Bool) :
    decodeTrap u k true noSlot sealTrap privTrap = some tcIllegal := rfl

/-- A privileged, unsealed service core outside a forbidden delay slot meets no condition. -/
theorem decodeTrap_privileged (h : privileged u k) (hs : noSlot = true → (u.core k).slot = false) :
    decodeTrap u k (!isSc k) noSlot sealTrap privTrap = none := by
  obtain ⟨h1, h2, h3⟩ := h
  have hn : (noSlot && (u.core k).slot) = false := by cases noSlot <;> simp_all
  simp [decodeTrap, isSc_of_le h1, hn, h2, h3]

theorem decodeTrap_sealed (hk : 256 ≤ k.val) (hs : (u.core k).slot = false) (h : u.isSealed k = true) :
    decodeTrap u k (!isSc k) noSlot true privTrap = some tcSeal := by
  simp [decodeTrap, isSc_of_le hk, hs, h]

theorem decodeTrap_user (hk : 256 ≤ k.val) (hs : (u.core k).slot = false) (h : u.isSealed k = false) (hp : u.isPriv k = false) :
    decodeTrap u k (!isSc k) noSlot sealTrap true = some tcPrivilege := by
  simp [decodeTrap, isSc_of_le hk, hs, h, hp]

theorem decodeTrap_tile (hk : k.val < 256) : decodeTrap u k (!isSc k) noSlot sealTrap privTrap = some tcIllegal := by
  rw [isSc_of_lt hk]; rfl

end

/-! ### SYNC, SEAL and WFI (R133, R135, R137) -/

section
variable {s u : State} {k : CoreId}

theorem sync_completes (hf : Fetches s k u) (hb : (u.core k).sb = []) (hw : 256 ≤ k.val → storesWaiting u k = false) :
    Gives (.sync k) s (fun t => Retires u t k (u.core k).step) := by
  have h : (!(u.core k).sb.isEmpty || (isSc k && storesWaiting u k)) = false := by
    rw [Core.no_stores hb, Bool.false_or]
    cases hk : isSc k with
    | false => rfl
    | true => rw [hw (of_decide_eq_true hk)]; rfl
  exact gives_commits rfl hf Core.step (by simp only [h, Bool.false_eq_true, if_false, adv])

theorem seal_traps {c : Nat} (hf : Fetches s k u) (h : decodeTrap u k (!isSc k) true true true = some c) :
    ∃ w, exec (.seal k) s = .next (takeTrap u k c 0 0 w) :=
  ⟨_, exec_traps rfl hf (by simp only [h])⟩

/-- WFI without a halt request is `wfiAt` (R135). -/
theorem exec_wfi_eq (h : (s.core k).haltReq = 0 ∨ k.val < 256) : exec (.wfi k) s = .next (wfiAt s k false) := by
  refine congrArg Host.Outcome.next (if_neg ?_)
  rcases h with h | h
  · simp [h]
  · simp [isSc_of_lt h]

theorem wfi_traps {c : Nat} (hf : Fetches s k u) (hq : (s.core k).haltReq = 0 ∨ k.val < 256)
    (h : decodeTrap u k (!isSc k) true true true = some c) : ∃ w, exec (.wfi k) s = .next (takeTrap u k c 0 0 w) :=
  ⟨_, exec_traps (exec_wfi_eq hq) hf (by simp only [h])⟩

/-- The core whose context is sealed (R137). -/
def Core.seal (c : Core) (k : Nat) : Core := c.setSr k srStatus (withBits (c.sreg k srStatus) 2 2 1)

/-- Sealing a context sets SEALED of STATUS; beside that it writes its record alone (R65, R137). -/
theorem sealContext_spares (u : State) (k : Nat) : Spares noReg (u.onCore k (·.seal k)) (sealContext u k) := by
  have put (l : Loc) (t : State) (x : Nat) : Spares noReg t (t.put l x) := Spares.put id t x
  exact (put (F.SYS_SC_SEAL_CTXID (k - 256)) _ _).trans (Spares.ite ((put _ _ _).trans (put _ _ _)) (Spares.refl ..))

theorem seal_completes (hf : Fetches s k u) (hp : privileged u k) (hs : (u.core k).slot = false) :
    Gives (.seal k) s (fun t => bitsOf ((t.core k).sreg k srStatus) 2 2 = 1 ∧ (t.core k).pc = (u.core k).npc ∧
      (∀ r, (t.core k).greg r = (u.core k).greg r) ∧ t.mem = u.mem) := by
  have hd : decodeTrap u k (!isSc k) true true true = none := decodeTrap_privileged hp fun _ => hs
  obtain ⟨t, ht, h⟩ := gives_commits (i := .seal k) (v := sealContext u k) rfl hf Core.step (by simp only [hd, adv])
  have hc := sealContext_spares u k
  rw [hc.core, State.core_onCore_same] at h
  refine ⟨t, ht, ?_, h.same.pc, h.same.greg, h.mem.trans hc.mem⟩
  refine (congrArg (bitsOf · 2 2) ((h.same.sreg srStatus rfl).trans (Core.sreg_setSr _ _ _ _ _))).trans ?_
  exact bitsOf_withBits_same _ 2 2 1 (by decide) (by decide)

theorem wfi_completes (hf : Fetches s k u) (hp : privileged u k) (hs : (u.core k).slot = false)
    (hc : (candidate u (k.val - 256)).isSome = true) (hq : (s.core k).haltReq = 0) :
    Gives (.wfi k) s (fun t => Retires u t k (u.core k).step) := by
  have hd : decodeTrap u k (!isSc k) true true true = none := decodeTrap_privileged hp fun _ => hs
  exact gives_commits (exec_wfi_eq (.inl hq)) hf Core.step (by simp only [hd, hc, Bool.or_true, if_true, adv])

theorem wfi_waits (hf : Fetches s k u) (hp : privileged u k) (hs : (u.core k).slot = false)
    (hc : (candidate u (k.val - 256)).isSome = false) (hq : (s.core k).haltReq = 0) (ho : outstanding s k = false) :
    exec (.wfi k) s = .next (s.waitFor k 0) := by
  have hd : decodeTrap u k (!isSc k) true true true = none := decodeTrap_privileged hp fun _ => hs
  exact exec_waits (exec_wfi_eq (.inl hq)) hf ho (by simp only [hd, hc, Bool.or_false, Bool.false_eq_true, if_false])

end

/-! ### WAYPT (R97, R131, R248, R453) -/

theorem memError_spares (s : State) (arr init core addr : Nat) : Spares noReg s (memError s arr init core addr) := by
  have put (l : Loc) (t : State) (x : Nat) : Spares noReg t (t.put l x) := Spares.put id t x
  have record := Spares.ite (c := s.flag F.SYS_MEM_ERR_VALID = true) (Spares.refl noReg s)
    (((((put F.SYS_MEM_ERR_VALID s 1).trans (put F.SYS_MEM_ERR_MEM _ arr)).trans (put F.SYS_MEM_ERR_INIT _ init)).trans
      (put F.SYS_MEM_ERR_CORE _ core)).trans (put F.SYS_MEM_ERR_ADDR_ADDR _ (addr / 8)))
  exact record.trans ((logEvent_spares _ 2 arr 0).trans (attention_spares _ _)).toNoReg

theorem layPut_spares (s : State) (t i : Nat) (w : Word) (bad : Bool) : Spares noReg s (layPut s t i w bad) := by
  have lay (s : State) (l : Lay) : Spares noReg s { s with lay := l } := ⟨rfl, rfl, rfl, fun _ _ => rfl⟩
  refine (lay s _).trans (Spares.ite (Spares.refl ..) (Spares.ite (lay _ _) ?_))
  exact (Spares.put id _ _).trans (lay _ _)

theorem layTake_spares (s : State) (t i arr a : Nat) : Spares noReg s (layTake s t i arr a) := by
  have ecc (s : State) (w m : Nat) : Spares noReg s (s.setEcc arr w m) := ⟨rfl, rfl, rfl, fun _ _ => rfl⟩
  exact (Spares.ite (memError_spares ..) (Spares.ite ((ecc s _ 3).trans (Spares.addSat id _ 1)) (Spares.refl ..))).trans
    (layPut_spares ..)

/-- The copy of a keep region changes the layby buffer, the error marks and their records. -/
theorem layCopy_spares (s : State) (t : Nat) : Spares noReg s (layCopy s t) := by
  have lay (s : State) (l : Lay) : Spares noReg s { s with lay := l } := ⟨rfl, rfl, rfl, fun _ _ => rfl⟩
  have fresh : Spares noReg s (layFresh s t) := (lay s _).trans (Spares.ite (Spares.put id _ 0) (Spares.refl ..))
  exact fresh.trans (Spares.foldl (fun _ _ => Spares.ite (layTake_spares ..) (layPut_spares ..)) _ _)

/-- Sending the output vector changes the convoy alone. -/
theorem sendOut_spares (s : State) (p : Nat) : Spares noReg s (sendOut s p) := by
  have sent (s : State) (f : CvyPart → CvyPart) : Spares noReg s (s.onCpart p f) := ⟨rfl, rfl, rfl, fun _ _ => rfl⟩
  refine Spares.ite ((Spares.setXchg ..).trans (Spares.ite ?_ (Spares.refl ..))) (Spares.refl ..)
  exact ((sent _ _).trans (Spares.foldl (fun _ _ => sendAll_spares ..) _ _)).trans (tryReceipt_spares ..)

/-- The core of a tile that has committed WAYPT. -/
def Core.toWaypt (c : Core) : Core := { c.step with run := .waypt }

/-- WAYPT's commit stops its tile at the waypoint, and changes no byte of memory (R97). -/
theorem arrive_leaves (s : State) (k : Nat) : (arrive s k).core k = (s.core k).toWaypt ∧ (arrive s k).mem = s.mem := by
  have hc := layCopy_spares s k
  have ha : Spares noReg ((adv (layCopy s k) k).onCore k (fun c => { c with run := .waypt })) (arrive s k) := by
    unfold arrive
    dsimp only
    split
    · exact Spares.refl ..
    · exact Spares.ite (sendOut_spares ..) (Spares.refl ..)
  constructor
  · rw [ha.core, State.core_onCore_same, adv, State.core_onCore_same, hc.core]
    rfl
  · rw [ha.mem, State.onCore_mem, adv, State.onCore_mem, hc.mem]

theorem waypt_completes {s u : State} {k : CoreId} (hf : Fetches s k u) (hk : k.val < 256) (hs : (u.core k).slot = false)
    (hb : (u.core k).sb = []) : Gives (.waypt k) s (fun t => (t.core k).run = .waypt ∧ (t.core k).pc = (u.core k).npc ∧
      (∀ r, (t.core k).greg r = (u.core k).greg r) ∧ t.mem = u.mem) := by
  have hd : decodeTrap u k (isSc k) true false false = none := by simp [decodeTrap, isSc_of_lt hk, hs]
  have he := Core.no_stores hb
  obtain ⟨t, ht, h⟩ := gives_done (i := .waypt k) (v := arrive u k) rfl hf
    (by simp only [hd, he, Bool.false_eq_true, if_false])
  obtain ⟨h1, h2⟩ := arrive_leaves u k
  rw [h1] at h
  exact ⟨t, ht, h.same.run, h.same.pc, h.same.greg, h.mem.trans h2⟩

theorem waypt_traps_sc {s u : State} {k : CoreId} (hf : Fetches s k u) (hk : 256 ≤ k.val) :
    ∃ w, exec (.waypt k) s = .next (takeTrap u k tcIllegal 0 0 w) :=
  ⟨_, exec_traps rfl hf (by simp only [isSc_of_le hk, decodeTrap_illegal])⟩

/-! ### CACHE (R134, R160, R168) -/

section
variable {s u : State} {k : CoreId} {i : Instr} {op : State → State}

/-- A cache operation of a privileged, unsealed service core with an empty store buffer acts, and moves on. -/
theorem cacheInstr_completes (he : exec i s = .next (cacheInstr k (wordOf i) op s)) (hf : Fetches s k u) (hp : privileged u k)
    (hb : (u.core k).sb = []) : Gives i s (fun t => Retires (op u) t k ((op u).core k).step) := by
  have hd : decodeTrap u k (!isSc k) false true true = none := decodeTrap_privileged hp nofun
  have hs := Core.no_stores hb
  exact gives_commits he hf Core.step (by simp only [hd, hs, Bool.false_eq_true, if_false, adv])

theorem cacheInstr_traps_tile (he : exec i s = .next (cacheInstr k (wordOf i) op s)) (hf : Fetches s k u) (hk : k.val < 256) :
    ∃ w, exec i s = .next (takeTrap u k tcIllegal 0 0 w) :=
  ⟨_, exec_traps he hf (by simp only [decodeTrap_tile hk])⟩

end

section
variable (s : State) (k line x : Nat) (f : State → Nat → State)

theorem iInvalLine_absent (h : iWay (s.core k) line = none) : iInvalLine s k line = s := by simp only [iInvalLine, h]

/-- The core with a tag of its instruction cache invalidated. -/
def Core.dropTag (c : Core) (key : Nat) : Core := { c with itag := c.itag.write noTag key none }

theorem Core.dropTag_read (c : Core) (key : Nat) : (c.dropTag key).itag.read noTag key = none :=
  (Tab.read_write noTag c.itag key none key).trans (if_pos rfl)

theorem iInvalLine_present (h : iWay (s.core k) line = some x) :
    iInvalLine s k line = s.onCore k (·.dropTag (iset line * 4 + x)) := by
  simp only [iInvalLine, h]
  rfl

theorem onLine_absent (h : dFind (s.core k) line = none) : onLine s k line f = s := by simp only [onLine, h]
theorem onLine_present (h : dFind (s.core k) line = some x) : onLine s k line f = f s x := by simp only [onLine, h]

/-- The core with a slot of its data cache invalidated. -/
def Core.dropLine (c : Core) (slot : Nat) : Core := { c with dline := c.dline.write noLine slot none }

theorem Core.dropLine_read (c : Core) (slot : Nat) : (c.dropLine slot).dline.read noLine slot = none :=
  (Tab.read_write noLine c.dline slot none slot).trans (if_pos rfl)

theorem dDrop_core : (dDrop s k x).core k = (s.core k).dropLine x := State.core_onCore_same s k (·.dropLine x)

end

/-- An instruction that ends by dropping a slot of its core's data cache leaves the slot empty. -/
theorem gives_dropped {i : Instr} {s v : State} {k : CoreId} {x : Nat}
    (h : Gives i s (fun t => Retires (dDrop v k x) t k ((dDrop v k x).core k).step)) :
    Gives i s (fun t => (t.core k).dline.read noLine x = none ∧ t.mem = v.mem) := by
  obtain ⟨t, ht, hr⟩ := h
  rw [dDrop_core] at hr
  obtain ⟨-, -, hd, -⟩ := hr.same.caches
  exact ⟨t, ht, by rw [hd]; exact Core.dropLine_read _ x, hr.mem⟩

/-- Settles O21. Each instruction is `gives_commits`, `exec_traps` or `exec_waits` of what its body comes to, and a CACHE operation
is `cacheInstr_completes` of its effect. A WFI that waits has placed no access, so `runInstr_wait` says how it is left. -/
theorem systemInstructionsComplete : Obligations.SystemInstructionsComplete := by
  unfold Obligations.SystemInstructionsComplete
  refine ⟨fun k s u hf => ?system, fun k a s u hf => ?cache⟩
  case system =>
    intro c
    refine ⟨sync_completes hf, fun hs => ?outsideSlot, fun hk => ?onTile, waypt_traps_sc hf⟩
    case outsideSlot =>
      refine ⟨fun hp => seal_completes hf hp hs, fun hp hc hq => wfi_completes hf hp hs hc hq,
        fun hp hc hq ho => wfi_waits hf hp hs hc hq ho, fun hk hb => waypt_completes hf hk hs hb,
        fun hk hd hq => ?_, fun hk hd hp hq => ?_⟩
      · exact ⟨seal_traps hf (decodeTrap_sealed hk hs hd), wfi_traps hf (.inl hq) (decodeTrap_sealed hk hs hd)⟩
      · exact ⟨seal_traps hf (decodeTrap_user hk hs hd hp), wfi_traps hf (.inl hq) (decodeTrap_user hk hs hd hp)⟩
    case onTile => exact ⟨seal_traps hf (decodeTrap_tile hk), wfi_traps hf (.inr hk) (decodeTrap_tile hk)⟩
  case cache =>
    intro c line
    refine ⟨fun hp hb => ?acts, fun i hk hi => ?onTile⟩
    case acts =>
      have acts {i : Instr} {op : State → State} (he : exec i s = .next (cacheInstr k (wordOf i) op s)) :=
        cacheInstr_completes he hf hp hb
      refine ⟨fun h => ?tagAbsent, fun x h => ?tagPresent, fun h => ?lineAbsent, fun x h => ?linePresent, ?wholeI, ?wholeD⟩
      case tagAbsent =>
        have ha := acts (i := .cacheInvalIline k a) rfl
        rwa [iInvalLine_absent u k (lineOf u k a) h] at ha
      case tagPresent =>
        obtain ⟨t, ht, hr⟩ := acts (i := .cacheInvalIline k a) rfl
        rw [iInvalLine_present u k (lineOf u k a) x h, State.core_onCore_same] at hr
        obtain ⟨hi, -⟩ := hr.same.caches
        exact ⟨t, ht, by rw [hi]; exact Core.dropTag_read c _, hr.same.pc, hr.mem⟩
      case lineAbsent =>
        have h1 := acts (i := .cacheWbDline k a) rfl
        have h2 := acts (i := .cacheInvalDline k a) rfl
        have h3 := acts (i := .cacheWbInvalDline k a) rfl
        rw [onLine_absent u k (lineOf u k a) _ h] at h1 h2 h3
        exact ⟨h1, h2, h3⟩
      case linePresent =>
        have h1 := acts (i := .cacheWbDline k a) rfl
        have h2 := acts (i := .cacheInvalDline k a) rfl
        have h3 := acts (i := .cacheWbInvalDline k a) rfl
        rw [onLine_present u k (lineOf u k a) x _ h] at h1 h2 h3
        exact ⟨⟨h1, gives_dropped h3⟩, gives_dropped h2⟩
      case wholeI =>
        obtain ⟨t, ht, hr⟩ := acts (i := .cacheInvalIcache k a) rfl
        rw [State.core_onCore_same] at hr
        obtain ⟨hi, -⟩ := hr.same.caches
        exact ⟨t, ht, hi, hr.mem⟩
      case wholeD => exact acts (i := .cacheWbInvalDcache k a) rfl
    case onTile =>
      rcases hi with rfl | rfl | rfl | rfl | rfl | rfl
      all_goals exact cacheInstr_traps_tile rfl hf hk

end Sys2Proof.Machine
end

section
/-! SUPPORT. Lane instructions (R95, R96, R128–R130, R179, R180, R198): the commit of a send and of a receive, the traps and waits
of their ports, and LPROBE; and the obligation on lane instructions. -/

namespace Sys2Proof.Machine

/-- A port that exists and has a lane meets no condition of its port (R128, R129). -/
theorem lanePortTrap_lane {port : BitVec 5} (h : port.toNat < 16) (l : Nat) : lanePortTrap port.toNat (some l) = none := by
  simp [lanePortTrap, Nat.not_le.mpr h]

theorem lanePortTrap_reserved {port : BitVec 5} (h : 16 ≤ port.toNat) (lane : Option Nat) :
    lanePortTrap port.toNat lane = some (tcIllegal, 0) := if_pos h

/-! ### LSEND and LSENDF (R96) -/

theorem withMesh_spares (kept : Nat → Prop) (s : State) (m : Mesh) : Spares kept s { s with mesh := m } :=
  ⟨rfl, rfl, rfl, fun _ _ => rfl⟩

/-- The commit of a send puts its word into the launch register and takes a toll from the port; the books are registers, and no
core and no byte of memory changes (R96, R179). -/
theorem sendWord_leaves (s : State) (l : Nat) (v : Word) :
    (sendWord s l v).mesh.launch.read noFlit l = some ⟨l, v, 0, 0⟩ ∧ portTolls (sendWord s l v) l = portTolls s l - 1 ∧
    Spares noReg s (sendWord s l v) := by
  unfold sendWord
  extract_lets spent booked
  have hm : booked.mesh = s.mesh := (State.put_mesh spent _ _).trans (State.put_mesh s _ _)
  have ht : portTolls booked l = portTolls s l := congrArg (fun m : Mesh => m.tolls.read zeroN l) hm
  have h1 : Spares noReg s spent := Spares.put id s _
  have h2 : Spares noReg spent booked := Spares.put id spent _
  have hb := h1.trans h2
  clear_value booked
  refine ⟨?_, ?_, hb.trans (withMesh_spares noReg booked _)⟩
  · rw [Tab.read_write, if_pos rfl]
  · rw [← ht, portTolls, Tab.read_write, if_pos rfl]

section
variable {s u : State} {k : CoreId} {i : Instr} {port : BitVec 5} {rd : State → Word} {l : Nat}
variable (he : exec i s = .next (laneSend k (wordOf i) port rd s)) (hf : Fetches s k u)
include he hf

/-- A send that may commit leaves its word in the launch register, and one toll less at the port. -/
theorem laneSend_completes (hp : port.toNat < 16) (hl : outLane u k port.toNat = some l) (hc : canSend u k l = true) :
    Gives i s (fun t => t.mesh.launch.read noFlit l = some ⟨l, rd u, 0, 0⟩ ∧ portTolls t l = portTolls u l - 1 ∧
      (t.core k).pc = (u.core k).npc ∧ t.mem = u.mem) := by
  obtain ⟨t, ht, h⟩ := gives_commits (v := sendWord u l (rd u)) he hf Core.step
    (by simp only [hl, lanePortTrap_lane hp, hc, if_true, adv])
  obtain ⟨h1, h2, hs⟩ := sendWord_leaves u l (rd u)
  rw [hs.core] at h
  exact ⟨t, ht, by rw [h.mesh, h1], by rw [portTolls, h.mesh, ← portTolls, h2], h.same.pc, h.mem.trans hs.mem⟩

theorem laneSend_waits (hp : port.toNat < 16) (hl : outLane u k port.toNat = some l) (hc : canSend u k l = false)
    (ho : outstanding s k = false) : exec i s = .next (s.waitFor k evSendWait) :=
  exec_waits he hf ho (by simp only [hl, lanePortTrap_lane hp, hc, Bool.false_eq_true, if_false])

theorem laneSend_traps_reserved (hp : 16 ≤ port.toNat) : ∃ w, exec i s = .next (takeTrap u k tcIllegal 0 0 w) :=
  ⟨_, exec_traps he hf (by simp only [lanePortTrap_reserved hp])⟩

end

/-! ### LRECV and LRECVF (R95, R198) -/

/-- A word with no uncorrectable error is read: what its correction changes is an error mark, the count of corrected words and a
counter of the core (R168). -/
theorem eccLoad_readable {s : State} {k arr word : Nat} (h : s.eccOf arr word ≠ 2) (addr : Nat) :
    ∃ v, eccLoad s k arr word addr = (v, false) ∧ v.mesh = s.mesh ∧ v.mem = s.mem ∧ SameCore k (s.core k) (v.core k) := by
  by_cases h0 : s.eccOf arr word = 0
  · exact ⟨s, eccLoad_good h0 k addr, rfl, rfl, SameCore.refl k _⟩
  · obtain ⟨h1, -, h3, -⟩ := State.pmc_same (countCorrected (s.setEcc arr word 3)) k evEccCorrected 1
    exact ⟨_, by simp only [eccLoad, h0, h, if_false], by rw [h1]; rfl, by rw [h1]; rfl, h3⟩

theorem eccLoad_uncorrectable {s : State} {k arr word : Nat} (h : s.eccOf arr word = 2) (addr : Nat) :
    ∃ v, eccLoad s k arr word addr = (v, true) := ⟨_, by simp only [eccLoad, h, if_true]; rfl⟩

/-- What a receive on lane l leaves beside the word's destination: one word less at the port, the toll in the return queue, and
the next instruction in line. -/
def Received (u t : State) (k : CoreId) (port l : Nat) : Prop :=
  portHeld t k port = portHeld u k port - 1 ∧
  t.mesh.retq.read noFlits k = u.mesh.retq.read noFlits k ++ [⟨l, 0, 0, 0⟩] ∧ (t.core k).pc = (u.core k).npc ∧ t.mem = u.mem

/-- The commit of a receive takes one word from the port and puts its toll into the return queue; no core and no byte of memory
changes (R95, R180, R542). -/
theorem recvWord_leaves (s : State) (k port l : Nat) :
    portHeld (recvWord s k port l) k port = portHeld s k port - 1 ∧
    (recvWord s k port l).mesh.retq.read noFlits k = s.mesh.retq.read noFlits k ++ [⟨l, 0, 0, 0⟩] ∧
    Spares noReg s (recvWord s k port l) := by
  unfold recvWord
  extract_lets key off next freed booked
  have hm : booked.mesh = s.mesh := (State.put_mesh freed _ _).trans (State.put_mesh s _ _)
  have hh : portHeld booked k port = portHeld s k port := congrArg (fun m : Mesh => m.occ.read zeroN key) hm
  have h1 : Spares noReg s freed := Spares.put id s _
  have h2 : Spares noReg freed booked := Spares.put id freed _
  have hb := h1.trans h2
  clear_value booked
  refine ⟨?_, ?_, hb.trans (withMesh_spares noReg booked _)⟩
  · rw [← hh, portHeld, Tab.read_write, if_pos rfl]
  · rw [Tab.read_write, if_pos rfl, hm]

section
variable {s u : State} {k : CoreId} {i : Instr} {port : BitVec 5} {wr : Word → Core → Core} {l : Nat}
variable (he : exec i s = .next (laneRecv k (wordOf i) port wr s)) (hf : Fetches s k u)
variable (hp : port.toNat < 16) (hl : inLane u k port.toNat = some l)
include he hf hp hl

/-- A receive commits the word at the read pointer to its destination. -/
theorem laneRecv_completes (hw : ∀ v c, (wr v c).npc = c.npc) (ha : auditHolds u k l = false) (hh : portHeld u k port.toNat ≠ 0)
    (hc : u.eccOf memStore (ringRead u k port.toNat) ≠ 2) :
    Gives i s (fun t => (∃ c, SameCore k (wr (u.mesh.store.read zero64 (ringRead u k port.toNat)) c).step (t.core k)) ∧
      Received u t k port.toNat l) := by
  obtain ⟨v, hv, hm, hmem, hcore⟩ := eccLoad_readable (k := k) hc (8 * ringRead u k port.toNat)
  obtain ⟨t, ht, h⟩ := gives_commits (v := recvWord v k port.toNat l) he hf
    (fun c => (wr (v.mesh.store.read zero64 (ringRead u k port.toNat)) c).step)
    (by simp only [hl, lanePortTrap_lane hp, ha, hh, hv, decide_false, Bool.or_self, Bool.false_eq_true, if_false])
  obtain ⟨h1, h2, hs⟩ := recvWord_leaves v k port.toNat l
  rw [hs.core] at h
  refine ⟨t, ht, ⟨v.core k, hm ▸ h.same⟩, ?held, ?queue, h.same.pc.trans ((hw _ _).trans hcore.npc),
    h.mem.trans (hs.mem.trans hmem)⟩
  case held => rw [portHeld, h.mesh, ← portHeld, h1, portHeld, hm, ← portHeld]
  case queue => rw [h.mesh, h2, hm]

theorem laneRecv_traps_ecc (ha : auditHolds u k l = false) (hh : portHeld u k port.toNat ≠ 0)
    (hc : u.eccOf memStore (ringRead u k port.toNat) = 2) : ∃ v w, exec i s = .next (takeTrap v k tcEcc 0 0 w) := by
  obtain ⟨v, hv⟩ := eccLoad_uncorrectable (k := k) hc (8 * ringRead u k port.toNat)
  exact ⟨_, _, exec_traps he hf
    (by simp only [hl, lanePortTrap_lane hp, ha, hh, hv, decide_false, Bool.or_self, Bool.false_eq_true, if_false]; rfl)⟩

theorem laneRecv_waits (hw : portHeld u k port.toNat = 0 ∨ auditHolds u k l = true) (ho : outstanding s k = false) :
    exec i s = .next (s.waitFor k evRecvWait) := by
  have h : (decide (portHeld u k port.toNat = 0) || auditHolds u k l) = true := by simpa using hw
  exact exec_waits he hf ho (by simp only [hl, lanePortTrap_lane hp, h, if_true])

end

/-! ### LPROBE (R130) -/

section
variable {s u : State} {k : CoreId} {d port : BitVec 5} {out : Bool}

/-- LPROBE of an unsealed context with an empty store buffer counts what its port holds. -/
theorem lprobe_completes {l : Nat} (hf : Fetches s k u) (hp : port.toNat < 16)
    (hl : (if out then outLane u k port.toNat else inLane u k port.toNat) = some l)
    (hs : u.isSealed k = false) (hb : (u.core k).sb = []) :
    Gives (.lprobe k d port out) s (fun t => Retires u t k
      (wroteG (u.core k) d (BitVec.ofNat 64 (if out then portTolls u l else portHeld u k port.toNat)))) := by
  have hd : decodeTrap u k (decide (16 ≤ port.toNat)) false true false = none := by
    simp [decodeTrap, hs, Nat.not_le.mpr hp]
  have he := Core.no_stores hb
  exact gives_commits rfl hf (fun c => wroteG c d _) (by simp only [hd, hl, he, Bool.false_eq_true, if_false, writeG, wroteG])

theorem lprobe_traps_sealed (hf : Fetches s k u) (hp : port.toNat < 16) (hs : u.isSealed k = true) :
    ∃ w, exec (.lprobe k d port out) s = .next (takeTrap u k tcSeal 0 0 w) := by
  have hd : decodeTrap u k (decide (16 ≤ port.toNat)) false true false = some tcSeal := by
    simp [decodeTrap, hs, Nat.not_le.mpr hp]
  exact ⟨_, exec_traps rfl hf (by simp only [hd])⟩

end

/-- Settles O22. A send is `laneSend` and a receive `laneRecv`, with the register file that its form reads or writes. One that
waits has placed no access, so `runInstr_wait` says how it is left. -/
theorem laneInstructionsComplete : Obligations.LaneInstructionsComplete := by
  unfold Obligations.LaneInstructionsComplete
  refine ⟨fun k port a s u hf => ?output, fun k d port l s u hf hp hl => ?input⟩
  case output =>
    refine ⟨fun l hp hl => ⟨fun hc => ?sends, fun hc ho => ?waits, fun hs hb d => ?probe⟩, fun hp hs d out => ?sealed,
      fun hp => ?reserved⟩
    case sends => exact ⟨laneSend_completes (rd := (gr · k a)) rfl hf hp hl hc,
        laneSend_completes (rd := (fr · k a)) rfl hf hp hl hc⟩
    case waits => exact ⟨laneSend_waits rfl hf hp hl hc ho, laneSend_waits rfl hf hp hl hc ho⟩
    case probe => exact lprobe_completes (out := true) hf hp hl hs hb
    case sealed => exact lprobe_traps_sealed hf hp hs
    case reserved => exact ⟨laneSend_traps_reserved rfl hf hp, laneSend_traps_reserved rfl hf hp⟩
  case input =>
    intro x
    refine ⟨fun ha hh => ⟨fun hc => ⟨?general, ?floating⟩, fun hc => ?ecc⟩, fun hw ho => ?waits, fun hs hb => ?probe⟩
    case general =>
      obtain ⟨t, ht, ⟨c, h⟩, hr⟩ := laneRecv_completes (i := .lrecv k d port) rfl hf hp hl
        (fun v c => Core.setG_npc c d.toNat v) ha hh hc
      refine ⟨t, ht, fun hd => ?_, hr⟩
      have hd' : d.toNat ≠ 0 := fun q => hd (BitVec.eq_of_toNat_eq q)
      rw [gr, h.greg]
      exact (Core.greg_setG c _ _ _).trans ((if_neg hd').trans (if_pos rfl))
    case floating =>
      obtain ⟨t, ht, ⟨c, h⟩, hr⟩ := laneRecv_completes (i := .lrecvf k d port) rfl hf hp hl (fun _ _ => rfl) ha hh hc
      refine ⟨t, ht, ?_, hr⟩
      rw [fr, h.freg]
      exact (Core.freg_setF c _ _ _).trans (if_pos rfl)
    case ecc => exact ⟨laneRecv_traps_ecc rfl hf hp hl ha hh hc, laneRecv_traps_ecc rfl hf hp hl ha hh hc⟩
    case waits => exact ⟨laneRecv_waits rfl hf hp hl hw ho, laneRecv_waits rfl hf hp hl hw ho⟩
    case probe => exact lprobe_completes (out := false) hf hp hl hs hb

end Sys2Proof.Machine
end
